-- ==== Sys2Proof/Word.lean ====
section
/-! DEFINITION. The words the spec's wires and coordinates are made of: bytes (R177), 40-bit coordinates (R1, R2),
sets of lanes (R203), and a value held once for each zone or station. -/

namespace Sys2Proof

/-- One byte on a port (R177). -/
abbrev Byte := BitVec 8

/-- A flat or belt coordinate: the running total of an encoder modulo 2^40 (R1, R2). -/
abbrev Coord := BitVec 40

/-- A set of the lanes 1–16: the bit of value 2^(n − 1) stands for lane n (R203). -/
abbrev LaneSet := BitVec 16

/-- A running timer holds the limit, in ms, it was started for; `none` is a stopped timer. When it runs out is said
by the expiry command (log entry 1). -/
abbrev Timer := Option Nat

end Sys2Proof
end

