-- ==== Sys2Proof/Syntax.lean ====
section
/-! DEFINITION. The commands the block takes: one constructor of `Instr` for each row of spec/opcode_table.json. -/

namespace Sys2Proof

/-- The two record ports (R177). -/
inductive Port where
  | sup
  | pen
deriving DecidableEq, Repr

/-- The direction of one valid quadrature step (R1, R2). -/
inductive Travel where
  | forward
  | reverse
deriving DecidableEq, Repr

/-- The unwind stations (R52). -/
inductive Station where
  | a
  | b
deriving DecidableEq, Repr

/-- The four steam zones (R5). -/
inductive ZoneId where
  | z1
  | z2
  | z3
  | z4
deriving DecidableEq, Repr

/-- The discrete inputs of section 1.8. A level `true` is the asserted level; for KEY it is LOCAL. -/
inductive Input where
  | staSeated
  | stbSeated
  | staCoreNear
  | stbCoreNear
  | extended
  | retracted
  | knifeDone
  | home
  | cutHome
  | eStop
  | key
deriving DecidableEq, Repr

/-- The kinds of reading on SENSE (R12); `unnamed` is a reading that names no kind of the table. -/
inductive SenseKind where
  | zone (z : ZoneId)
  | pressure
  | dancer
  | unnamed
deriving DecidableEq, Repr

/-- Why a receiver abandons a frame, the inter-byte gap apart (R177, R178). -/
inductive AbandonCause where
  | badLength
  | framingError
  | failedCrc
deriving DecidableEq, Repr

/-- The commands (arrivals) of opcode_table.json, in the table's order. A request row carries the port it came in on
and the operand bytes that follow its command code (R201, R202). -/
inductive Instr where
  | resetPin
  | feedCount (dir : Travel)
  | beltCount (dir : Travel)
  /-- Carries the net counts of STA_SURF and STB_SURF in the 10 ms that end (log entry 6). -/
  | speedRefresh (surfA surfB : Int)
  | debounceSettle (i : Input)
  | senseReading (kind : SenseKind) (value : Int) (faulted : Bool)
  | dancerTimeout
  | tensionLockCount
  | tensionWatchCount
  | matchCount
  | matchLimitExpiry
  | headLimitExpiry
  | knifeLimitExpiry
  | retractLimitExpiry
  | webBreakExpiry
  | bladeLimitExpiry
  | cutterLimitExpiry
  | doseIntervalExpiry
  | zoneSettleExpiry (z : ZoneId)
  | readingStale (z : ZoneId)
  | heatPermitExpiry
  | rampIntervalExpiry
  | standstillExpiry
  | interByteGapExpiry (p : Port)
  | frameAbandoned (p : Port) (cause : AbandonCause)
  | responseSent (p : Port)
  | inactivityExpiry (p : Port)
  | unknownCommand (p : Port) (code : Byte) (operands : List Byte)
  | create (p : Port) (operands : List Byte)
  | openRecord (p : Port) (operands : List Byte)
  | getField (p : Port) (operands : List Byte)
  | putField (p : Port) (operands : List Byte)
  | closeRecord (p : Port) (operands : List Byte)
  | nextRecord (p : Port) (operands : List Byte)
  | discard (p : Port) (operands : List Byte)
  | retire (p : Port) (operands : List Byte)
  | find (p : Port) (operands : List Byte)
  | start (p : Port) (operands : List Byte)
  | stop (p : Port) (operands : List Byte)
  | hold (p : Port) (operands : List Byte)
  | resume (p : Port) (operands : List Byte)
  | stepLine (p : Port) (operands : List Byte)
  | splice (p : Port) (operands : List Byte)
  | permit (p : Port) (operands : List Byte)
  | clear (p : Port) (operands : List Byte)
  | tripReset (p : Port) (operands : List Byte)
  | lineReset (p : Port) (operands : List Byte)
  | status (p : Port) (operands : List Byte)
  | ident (p : Port) (operands : List Byte)
  | byteReceived (p : Port) (b : Byte) (framingError : Bool)
  | rawInputChange (i : Input) (level : Bool)
deriving DecidableEq, Repr

end Sys2Proof
end

