-- ==== Sys2Proof/Decode.lean ====
section
/-! DEFINITION. Reading a command from a word: no row of spec/opcode_table.json gives bits ("fields" is empty and
"fixed" absent in each), so no word spells a command. Request frames are read from bytes in Machine/Operands.lean. -/

namespace Sys2Proof

/-- The command that a word spells by the table's bits: none, since no row gives bits (log entry 34). -/
def decodeTableWord (_nbits _w : Nat) : Option Instr := none

end Sys2Proof
end

