-- ==== Sys2Proof/Config.lean ====
section
/-! DEFINITION. What is fixed in the part (the places of R5 and the table sizes of R197) and the free values: the
choices the spec leaves open, which have no body, so that nothing can be proved of the value they take. -/

namespace Sys2Proof.Config

/-- Which of the tails due on one belt count is taken first (R141); log entry 9. -/
opaque tailChoice : Nat → Nat

/-- Whether FSU takes its part of a feed count before LTR, where the order shows (R1, R6); log entry 10. -/
opaque feedSpliceFirst : Nat → Bool

/-- Whether the auto-splice test of a START is made before the entry decision, where the order shows (R162); log
entry 11. -/
opaque startSpliceFirst : Nat → Bool

/-- Whether HSU takes the E_STOP assertion before the entry into TRIPPED (R132); log entry 12. -/
opaque eStopHeatFirst : Nat → Bool

/-- The setpoint read for a zone from a class number that names no record with a setpoint (R118); log entry 13. -/
opaque missingSetpoint : Nat → Nat → ZoneId → Nat

/-- The splice point to the blade bank, in flat counts (R5). -/
def bladePlace : Int := 20000

/-- The blade bank to the cutter, in belt counts (R5). -/
def cutterPlace : Int := 95000

/-- The first belt count of each zone (R5). -/
def zoneStart : ZoneId → Int
  | .z1 => 10000
  | .z2 => 25000
  | .z3 => 40000
  | .z4 => 55000

/-- The length of each zone (R5). -/
def zoneLength : Int := 15000

/-- The cooling bed [70,000, 90,000) (R5). -/
def coolingStart : Int := 70000

/-- The end of the cooling bed (R5). -/
def coolingEnd : Int := 90000

/-- Pattern records (R14). -/
def patternCount : Nat := 40

/-- Blocks of the step pool (section 2.6). -/
def blockCount : Nat := 128

/-- Step slots of one block (section 2.6). -/
def blockSlots : Nat := 8

/-- Class records (R33). -/
def classCount : Nat := 16

/-- Roll records (R45). -/
def rollCount : Nat := 12

/-- Lot records (R76). -/
def lotCount : Nat := 32

/-- Panel records in use at once (R139). -/
def panelsInUse : Nat := 39

/-- The store of panel records (R135). -/
def panelStore : Nat := 48

end Sys2Proof.Config
end

