-- ==== Sys2Proof/Machine/State.lean ====
section
/-! DEFINITION. The state of the part, unit by unit, as plain data; its faults and refusals; and the state right after
power-on (`State.reset`). -/

namespace Sys2Proof.Machine

/-- A value for each of the four zones. -/
structure Four (α : Type) where
  z1 : α
  z2 : α
  z3 : α
  z4 : α
deriving DecidableEq, Repr

/-! ### Discrete inputs (R11) -/

/-- One discrete input: its raw level, its debounced level (none before the first), and its 10 ms settle. -/
structure Pin where
  raw : Bool
  level : Option Bool
  settle : Timer
deriving DecidableEq, Repr

/-- The eleven discrete inputs of section 1.8. -/
structure Inputs where
  staSeated : Pin
  stbSeated : Pin
  staCoreNear : Pin
  stbCoreNear : Pin
  extended : Pin
  retracted : Pin
  knifeDone : Pin
  home : Pin
  cutHome : Pin
  eStop : Pin
  key : Pin
deriving DecidableEq, Repr

/-- The sliding 100 ms window of one encoder (R10): the 10 ms being counted, the finished ones newest first (at most
ten), and the speed read at the last refresh, in mm/s. -/
structure SpeedWindow where
  cur : Int
  past : List Int
  speed : Int
deriving DecidableEq, Repr

/-! ### Patterns (Chapter 2) -/

/-- The direction of a fold (R15). -/
inductive Direction where
  | left
  | right
deriving DecidableEq, Repr

/-- One pleat (R7, R15): advance and depth in counts. -/
structure Step where
  advance : Nat
  depth : Nat
  dir : Direction
deriving DecidableEq, Repr

/-- R15. -/
inductive Style where
  | knife
  | box
  | accordion
deriving DecidableEq, Repr

/-- R15. -/
inductive TrimRange where
  | fine
  | normal
  | coarse
deriving DecidableEq, Repr

/-- The states of a pattern record that exists (R14); a number with no record in the table is FREE. -/
inductive PatternState where
  | edit
  | ready
  | retiring
deriving DecidableEq, Repr

/-- A pattern record (R15, R17). Its steps stand in the step pool, through the block map (R23). -/
structure Pattern where
  number : Nat
  state : PatternState
  name : List Byte
  style : Style
  trailer : Nat
  trimRange : TrimRange
  laneMask : Option LaneSet
  stepCount : Nat
  refCount : Nat
  revision : BitVec 16
  flatLen : Nat
  pleatedLen : Nat
  minStep : Nat
  blockMap : List Nat
deriving DecidableEq, Repr

/-! ### Fabric classes (Chapter 3) -/

/-- The states of a class record that exists (R33); a number with no record in the table is FREE. -/
inductive ClassState where
  | new
  | defined
deriving DecidableEq, Repr

/-- A class record (R34, R35); a host field is `none` while unset. -/
structure FabricClass where
  number : Nat
  state : ClassState
  name : List Byte
  setpoints : Four (Option Nat)
  maxBelt : Option Nat
  doseMin : Option Nat
  doseMax : Option Nat
  refCount : Nat
  revision : BitVec 16
deriving DecidableEq, Repr

/-! ### Rolls and stations (Chapter 4) -/

/-- R45. -/
inductive RollState where
  | new
  | declared
  | mounted
  | prepared
  | active
  | spent
deriving DecidableEq, Repr

/-- A roll record (R46, R47). -/
structure Roll where
  tag : Nat
  state : RollState
  cls : Option Nat
  initLen : Option Nat
  intended : Option Station
  leaderReady : Bool
  station : Option Station
  remaining : Nat
  expiring : Bool
  attemptSpent : Bool
deriving DecidableEq, Repr

/-- R52. -/
inductive StationState where
  | empty
  | seated
  | prepared
  | matching
  | matched
  | feeding
  | joined
  | rundown
deriving DecidableEq, Repr

/-- Section 4.6. -/
inductive SplicePhase where
  | idle
  | matching
  | press
  | cut
  | retract
deriving DecidableEq, Repr

/-- Section 4.6. -/
inductive SpliceOutcome where
  | none
  | completed
  | refused
  | matchTimeout
  | headTimeout
  | retractTimeout
  | abandoned
deriving DecidableEq, Repr

/-- The state of the Feed and Splice Unit (R1, R10, R52, R62–R74). -/
structure Fsu where
  w : Coord
  web : SpeedWindow
  surfA : SpeedWindow
  surfB : SpeedWindow
  staA : StationState
  staB : StationState
  phase : SplicePhase
  outcome : SpliceOutcome
  incoming : Option Station
  outgoing : Option Station
  limit : Timer
  /-- Forward counts in band in MATCHING; `none` while out of band (R63). -/
  matchCount : Option Nat
  extend : Bool
  knife : Bool
  locked : Bool
  /-- Forward counts since the first reading in band; `none` while the last reading was not in band (R72). -/
  lockCount : Option Nat
  /-- Forward counts in RUN since the lock was lost; `none` with no loss watch (R73). -/
  lossWatch : Option Nat
  dancer : Option Nat
  dancerWindow : Timer
  /-- The web-break window; stopped while the monitor is disarmed (R74). -/
  webBreak : Timer
deriving DecidableEq, Repr

/-! ### Lots (Chapter 5) -/

/-- R76. -/
inductive LotState where
  | new
  | queued
  | feeding
  | fed
  | done
deriving DecidableEq, Repr

/-- The six reasons of R147, in priority order. -/
inductive RejectReason where
  | cut
  | operator
  | joint
  | strike
  | overDose
  | shortDose
deriving DecidableEq, Repr

/-- A lot's rejected counts, one for each reason (R78). -/
structure Rejects where
  cut : Nat
  operator : Nat
  joint : Nat
  strike : Nat
  overDose : Nat
  shortDose : Nat
deriving DecidableEq, Repr

/-- A lot record (R77, R78). -/
structure Lot where
  number : Nat
  state : LotState
  pattern : Option Nat
  cls : Option Nat
  ordered : Option Nat
  makeupAllowance : Option Nat
  restriction : Option Nat
  held : Bool
  head : Option Coord
  tail : Option Coord
  joints : List Coord
  makeupUsed : Nat
  cancelled : Nat
  planned : Nat
  started : Nat
  good : Nat
  rejected : Rejects
  lost : Nat
deriving DecidableEq, Repr

/-- LTR's current segment (R83). -/
inductive Segment where
  | none
  | lot (number : Nat)
  | waste (start stop : Coord)
deriving DecidableEq, Repr

/-- The state of the Lot Tracker (R83). -/
structure Ltr where
  segment : Segment
  pendingJoint : Option Coord
  classChange : Bool
  starved : Bool
deriving DecidableEq, Repr

/-! ### Panels (Chapters 6 and 8) -/

/-- R136. -/
inductive PanelKind where
  | product
  | waste
deriving DecidableEq, Repr

/-- A panel's key: lot number and panel index, or lot 0 and waste index (R135). -/
structure PanelKey where
  lot : Nat
  index : Nat
deriving DecidableEq, Repr

/-- A panel record (R136). Its lot field is its key's lot number, absent for a WASTE panel, and its panel index its
key's index. `serial` is the model's creation number (log entry 19). -/
structure Panel where
  serial : Nat
  key : PanelKey
  kind : PanelKind
  pattern : Option Nat
  cls : Nat
  doseMin : Nat
  doseMax : Nat
  head : Coord
  pleatedLen : Nat
  forming : Bool
  missed : Nat
  joint : Bool
  doses : Four Nat
  totalDose : Nat
  cutFault : Bool
  reject : Bool
deriving DecidableEq, Repr

/-- The states of the strike cycle (R105) and of the cutter cycle (R142). -/
inductive Cycle where
  | idle
  | stroke
  | back
  | away
deriving DecidableEq, Repr

/-- PFM's forming context (R97). -/
structure FormContext where
  key : PanelKey
  kind : PanelKind
  start : Coord
  flatLen : Nat
  pleatedLen : Nat
  pattern : Option Nat
  cls : Nat
  doseMin : Nat
  doseMax : Nat
  laneMask : LaneSet
  trims : List Nat
  trimRange : Option TrimRange
  steps : List Step
  minStep : Nat
  /-- The index, from 1, of the next step whose strike point is to arrive. -/
  nextStep : Nat
deriving DecidableEq, Repr

/-- A depth output that is not 0: magnitude in 0.01 mm and fold direction (R106). -/
structure DepthCommand where
  magnitude : Nat
  dir : Direction
deriving DecidableEq, Repr

/-- The state of the Pleat Former (R97). A depth output of magnitude 0 is `none` (log entry 20). -/
structure Pfm where
  forming : Option FormContext
  nextStart : Option Coord
  nextStrike : Option (Coord × Nat)
  cycle : Cycle
  bladeLimit : Timer
  /-- The panel the strike in progress was made for (R108). -/
  strikeFor : Option PanelKey
  nextWaste : Nat
  strikeCeiling : Option Nat
  stepTarget : Option (Coord × Bool)
  strike : Bool
  depths : List (Option DepthCommand)
deriving DecidableEq, Repr

/-! ### Heat (Chapter 7) -/

/-- R116. -/
inductive ZoneMode where
  | off
  | standby
  | warming
  | settled
deriving DecidableEq, Repr

/-- One zone of HSU (R116), with the latest reading of its kind (R12). `window` is the 500 ms freshness window. -/
structure Zone where
  mode : ZoneMode
  target : Option Nat
  targetClass : Option Nat
  settle : Timer
  fresh : Bool
  window : Timer
  reading : Option Nat
deriving DecidableEq, Repr

/-- R125. -/
inductive PressureState where
  | unknown
  | normal
  | low
deriving DecidableEq, Repr

/-- The state of the Heat-Set Unit (R116). -/
structure Hsu where
  zones : Four Zone
  pressure : PressureState
  pressureReading : Option Nat
  permit : Timer
deriving DecidableEq, Repr

/-! ### Exit (Chapter 8) -/

/-- The verdicts of R147. -/
inductive Verdict where
  | good
  | rejected (r : RejectReason)
deriving DecidableEq, Repr

/-- The last disposition (R140). -/
structure Disposition where
  key : PanelKey
  kind : PanelKind
  verdict : Verdict
  toReject : Bool
deriving DecidableEq, Repr

/-- The state of the Exit Unit (R2, R140). -/
structure Exu where
  b : Coord
  belt : SpeedWindow
  cycle : Cycle
  limit : Timer
  /-- The serial of the record whose tail began the cut in progress (R144, R151). -/
  cutSerial : Option Nat
  pendingFault : Bool
  last : Option Disposition
  cut : Bool
  divert : Bool
deriving DecidableEq, Repr

/-! ### The governor and the Line record (Chapter 9) -/

/-- R153. -/
inductive Governor where
  | stopped
  | stepping
  | creep
  | run
  | halting
  | tripped
deriving DecidableEq, Repr

/-- The state of the Speed Governor (R153). The three sets are the words STATUS shows (section 11.5); references are in
0.01 mm/s. -/
structure Sgv where
  gov : Governor
  intent : Bool
  holds : BitVec 6
  stops : BitVec 5
  trips : BitVec 3
  stopPending : Bool
  flatRef : Nat
  beltRef : Nat
  ceiling : Nat
  standstill : Bool
  standWindow : Timer
  /-- The set of classes HSU last handed over (R119, R167). -/
  classSet : List Nat
deriving DecidableEq, Repr

/-- The Line record (R170–R172), its status fields apart. -/
structure LineRecord where
  strikePeriod : Option Nat
  creep : Option Nat
  spliceSpeed : Option Nat
  accel : Option Nat
  permitPeriod : Option Nat
  spliceReserve : Option Nat
  tensionBand : Option Nat
  standby : Option Nat
  wasteLen : Option Nat
  setSpeed : Nat
  requested : Option Station
  autoSplice : Bool
  heat : Bool
  laneMask : LaneSet
  trims : List Nat
  configured : Bool
  windowOpen : Bool
deriving DecidableEq, Repr

/-! ### The ports (Chapter 10) -/

/-- The tables a record command names (R201). -/
inductive Table where
  | pattern
  | cls
  | roll
  | lot
  | panel
  | line
deriving DecidableEq, Repr

/-- The staged fields of a pattern (R15); steps by index, ascending. -/
structure PatternStage where
  name : Option (List Byte) := none
  style : Option Style := none
  trailer : Option Nat := none
  trimRange : Option TrimRange := none
  laneMask : Option (Option LaneSet) := none
  stepCount : Option Nat := none
  steps : List (Nat × Step) := []
deriving DecidableEq, Repr

/-- The staged fields of a class (R34). -/
structure ClassStage where
  name : Option (List Byte) := none
  setpoints : Four (Option Nat) := ⟨none, none, none, none⟩
  maxBelt : Option Nat := none
  doseMin : Option Nat := none
  doseMax : Option Nat := none
deriving DecidableEq, Repr

/-- The staged fields of a roll (R46). -/
structure RollStage where
  cls : Option Nat := none
  initLen : Option Nat := none
  intended : Option (Option Station) := none
  leaderReady : Option Bool := none
deriving DecidableEq, Repr

/-- The staged fields of a lot (R77). -/
structure LotStage where
  pattern : Option Nat := none
  cls : Option Nat := none
  ordered : Option Nat := none
  makeupAllowance : Option (Option Nat) := none
  restriction : Option (Option Nat) := none
  held : Option Bool := none
  place : Option Nat := none
deriving DecidableEq, Repr

/-- The staged field of a panel (R137). -/
structure PanelStage where
  reject : Option Bool := none
deriving DecidableEq, Repr

/-- The staged fields of the Line record (R171, R172); trims by lane, ascending. -/
structure LineStage where
  strikePeriod : Option Nat := none
  creep : Option Nat := none
  spliceSpeed : Option Nat := none
  accel : Option Nat := none
  permitPeriod : Option Nat := none
  spliceReserve : Option Nat := none
  tensionBand : Option Nat := none
  standby : Option Nat := none
  wasteLen : Option Nat := none
  setSpeed : Option Nat := none
  requested : Option (Option Station) := none
  autoSplice : Option Bool := none
  heat : Option Bool := none
  laneMask : Option LaneSet := none
  trims : List (Nat × Nat) := []
deriving DecidableEq, Repr

/-- A staging copy (R183), by the table of the open record. -/
inductive Staging where
  | pattern (st : PatternStage)
  | cls (st : ClassStage)
  | roll (st : RollStage)
  | lot (st : LotStage)
  | panel (st : PanelStage)
  | line (st : LineStage)
deriving DecidableEq, Repr

/-- A port's open slot (R183). A key is the 32-bit key of R201 as a number. -/
inductive Slot where
  | empty
  | read (t : Table) (key : Nat)
  | write (key : Nat) (st : Staging)
  | lost (t : Table) (key : Nat)
deriving DecidableEq, Repr

/-- A port's receiver (R177). `waiting` discards every byte until every input has its first level (R11); `receiving`
holds the bytes taken after the start byte; `answering` holds the response body being sent (R179). -/
inductive Receiver where
  | waiting
  | hunting
  | receiving (got : List Byte)
  | answering (body : List Byte)
deriving DecidableEq, Repr

/-- What LNK keeps for one port (R177, R183, R184). -/
structure PortState where
  receiver : Receiver
  slot : Slot
  inactivity : Timer
deriving DecidableEq, Repr

/-- The state of the Link Controller; alert code n stands at bit n − 1 of the alert set (R199). -/
structure Lnk where
  sup : PortState
  pen : PortState
  alerts : BitVec 17
deriving DecidableEq, Repr

/-- The Record Store's tables (R14, R33, R45, R76, R81, R135, R170). Records stand in the listing order of their table,
the lots by number; the pool lists the slots that hold a step, by slot number (R23). -/
structure Store where
  patterns : List Pattern
  pool : List (Nat × Step)
  classes : List FabricClass
  rolls : List Roll
  lots : List Lot
  order : List Nat
  panels : List Panel
  /-- The creation number of the next panel record; the model's own (log entry 19). -/
  panelSerial : Nat
  line : LineRecord
deriving DecidableEq, Repr

/-- The state of the part. -/
structure State where
  /-- The commands waiting, first in first out. -/
  pending : List Instr
  /-- The model's own: how many free values have been taken (log entry 9). -/
  freeIdx : Nat
  inputs : Inputs
  rst : Store
  lnk : Lnk
  fsu : Fsu
  ltr : Ltr
  pfm : Pfm
  hsu : Hsu
  exu : Exu
  sgv : Sgv
deriving DecidableEq, Repr

/-- Why the machine stops with a fault. The spec describes no arrival at which the part stops, so no command raises one. -/
inductive Fault where
  /-- Raised by no command: the spec gives every arrival an effect. It is there because the type may not be empty; safe,
  since it excludes nothing the part does. -/
  | noArrival
deriving DecidableEq, Repr

/-- Why a command is refused by the model. -/
inductive Refusal where
  /-- Raised by an arm of `exec` whose command has no meaning yet; safe: nothing can be proved of a run through it. -/
  | notModelled (mnemonic : String)
deriving DecidableEq, Repr

/-! ### Power-on (R1, R2, R10–R14, R33, R45, R75, R76, R83, R97, R116, R135, R140, R153, R170–R172, R177, R183, R199) -/

/-- An input at power-on: no first level yet, its settle running (R11). -/
def Pin.reset (raw : Bool) : Pin := { raw := raw, level := none, settle := some 10 }

/-- The inputs at power-on; the raw levels are the model's choice (log entry 7). -/
def Inputs.reset : Inputs :=
  { staSeated := Pin.reset false, stbSeated := Pin.reset false, staCoreNear := Pin.reset false,
    stbCoreNear := Pin.reset false, extended := Pin.reset false, retracted := Pin.reset false,
    knifeDone := Pin.reset false, home := Pin.reset false, cutHome := Pin.reset false, eStop := Pin.reset false,
    key := Pin.reset false }

/-- R10: every window empty. -/
def SpeedWindow.reset : SpeedWindow := { cur := 0, past := [], speed := 0 }

/-- R75, R13; the station states are the model's choice until the first level (log entry 8). -/
def Fsu.reset : Fsu :=
  { w := 0, web := SpeedWindow.reset, surfA := SpeedWindow.reset, surfB := SpeedWindow.reset,
    staA := .empty, staB := .empty, phase := .idle, outcome := .none, incoming := none, outgoing := none,
    limit := none, matchCount := none, extend := false, knife := false, locked := false, lockCount := none,
    lossWatch := none, dancer := none, dancerWindow := none, webBreak := none }

/-- R83. -/
def Ltr.reset : Ltr := { segment := .none, pendingJoint := none, classChange := false, starved := false }

/-- R97, R13; the cycle is the model's choice until HOME's first level (log entry 8). -/
def Pfm.reset : Pfm :=
  { forming := none, nextStart := none, nextStrike := none, cycle := .away, bladeLimit := none, strikeFor := none,
    nextWaste := 1, strikeCeiling := none, stepTarget := none, strike := false, depths := List.replicate 16 none }

/-- R116. -/
def Zone.reset : Zone :=
  { mode := .off, target := none, targetClass := none, settle := none, fresh := false, window := none, reading := none }

/-- R116. -/
def Hsu.reset : Hsu :=
  { zones := ⟨Zone.reset, Zone.reset, Zone.reset, Zone.reset⟩, pressure := .unknown, pressureReading := none,
    permit := none }

/-- R140, R13; the cycle is the model's choice until CUT_HOME's first level (log entry 8). -/
def Exu.reset : Exu :=
  { b := 0, belt := SpeedWindow.reset, cycle := .away, limit := none, cutSerial := none, pendingFault := false,
    last := none, cut := false, divert := true }

/-- R153: STEAM_LOW (bit 5) is held from the start (R126). -/
def Sgv.reset : Sgv :=
  { gov := .stopped, intent := false, holds := 0b100000#6, stops := 0#5, trips := 0#3, stopPending := false,
    flatRef := 0, beltRef := 0, ceiling := 600, standstill := false, standWindow := some 200, classSet := [] }

/-- R170–R172. -/
def LineRecord.reset : LineRecord :=
  { strikePeriod := none, creep := none, spliceSpeed := none, accel := none, permitPeriod := none,
    spliceReserve := none, tensionBand := none, standby := none, wasteLen := none, setSpeed := 0, requested := none,
    autoSplice := false, heat := false, laneMask := 0xFFFF#16, trims := List.replicate 16 0, configured := false,
    windowOpen := true }

/-- R177, R183, R184. -/
def PortState.reset : PortState := { receiver := .waiting, slot := .empty, inactivity := none }

/-- R199. -/
def Lnk.reset : Lnk := { sup := PortState.reset, pen := PortState.reset, alerts := 0#17 }

/-- R14, R33, R45, R76, R135. -/
def Store.reset : Store :=
  { patterns := [], pool := [], classes := [], rolls := [], lots := [], order := [], panels := [], panelSerial := 0,
    line := LineRecord.reset }

/-- The part right after power-on. -/
def State.reset : State :=
  { pending := [], freeIdx := 0, inputs := Inputs.reset, rst := Store.reset, lnk := Lnk.reset, fsu := Fsu.reset,
    ltr := Ltr.reset, pfm := Pfm.reset, hsu := Hsu.reset, exu := Exu.reset, sgv := Sgv.reset }

end Sys2Proof.Machine
end

