-- ==== Sys2Proof/Machine/Flags.lean ====
section
/-! DEFINITION. The sets a host reads as words: alerts (R199), hold reasons (R156), stop causes (R157), trip causes
(R159), each with its bit of sections 11.5 and 11.2; and ATTN. -/

namespace Sys2Proof.Machine

/-- The seventeen alert kinds (R199). -/
inductive Alert where
  | eStop
  | webBreak
  | rollUnseated
  | rollUnknown
  | rollLow
  | rollOut
  | spliceFailed
  | spliceSensor
  | tensionLost
  | steamLow
  | zoneSensor
  | permitExpired
  | bladeJam
  | strikeSaturated
  | cutterJam
  | cutOverrun
  | lotStarved
deriving DecidableEq, Repr

/-- The alert codes of section 11.5. -/
def Alert.code : Alert → Nat
  | .eStop => 0x01
  | .webBreak => 0x02
  | .rollUnseated => 0x03
  | .rollUnknown => 0x04
  | .rollLow => 0x05
  | .rollOut => 0x06
  | .spliceFailed => 0x07
  | .spliceSensor => 0x08
  | .tensionLost => 0x09
  | .steamLow => 0x0A
  | .zoneSensor => 0x0B
  | .permitExpired => 0x0C
  | .bladeJam => 0x0D
  | .strikeSaturated => 0x0E
  | .cutterJam => 0x0F
  | .cutOverrun => 0x10
  | .lotStarved => 0x11

/-- The kind an alert code names (section 11.5). -/
def Alert.ofCode : Nat → Option Alert
  | 0x01 => some .eStop
  | 0x02 => some .webBreak
  | 0x03 => some .rollUnseated
  | 0x04 => some .rollUnknown
  | 0x05 => some .rollLow
  | 0x06 => some .rollOut
  | 0x07 => some .spliceFailed
  | 0x08 => some .spliceSensor
  | 0x09 => some .tensionLost
  | 0x0A => some .steamLow
  | 0x0B => some .zoneSensor
  | 0x0C => some .permitExpired
  | 0x0D => some .bladeJam
  | 0x0E => some .strikeSaturated
  | 0x0F => some .cutterJam
  | 0x10 => some .cutOverrun
  | 0x11 => some .lotStarved
  | _ => none

/-- The hold reasons (R153, R156). -/
inductive HoldReason where
  | host
  | tension
  | lotStarved
  | strikeSaturated
  | zoneUnsettled
  | steamLow
deriving DecidableEq, Repr

/-- The bit of a hold reason (section 11.5, row 3). -/
def HoldReason.bit : HoldReason → Nat
  | .host => 0
  | .tension => 1
  | .lotStarved => 2
  | .strikeSaturated => 3
  | .zoneUnsettled => 4
  | .steamLow => 5

/-- The stop causes (R157). -/
inductive StopCause where
  | rollOut
  | spliceSensor
  | bladeJam
  | cutterJam
  | permitExpired
deriving DecidableEq, Repr

/-- The bit of a stop cause (section 11.5, row 4). -/
def StopCause.bit : StopCause → Nat
  | .rollOut => 0
  | .spliceSensor => 1
  | .bladeJam => 2
  | .cutterJam => 3
  | .permitExpired => 4

/-- The alert of the same name (R157). -/
def StopCause.alert : StopCause → Alert
  | .rollOut => .rollOut
  | .spliceSensor => .spliceSensor
  | .bladeJam => .bladeJam
  | .cutterJam => .cutterJam
  | .permitExpired => .permitExpired

/-- The trip causes (R159). -/
inductive TripCause where
  | eStop
  | webBreak
  | rollUnseated
deriving DecidableEq, Repr

/-- The bit of a trip cause (section 11.5, row 5). -/
def TripCause.bit : TripCause → Nat
  | .eStop => 0
  | .webBreak => 1
  | .rollUnseated => 2

/-- The alert raised with a trip cause (R159). -/
def TripCause.alert : TripCause → Alert
  | .eStop => .eStop
  | .webBreak => .webBreak
  | .rollUnseated => .rollUnseated

/-- A set of kinds held as a word: whether the kind at bit `k` is in it. -/
def hasBit {n : Nat} (s : BitVec n) (k : Nat) : Bool := s.getLsbD k

/-- The set with the kind at bit `k` put in. -/
def setBit {n : Nat} (s : BitVec n) (k : Nat) : BitVec n := s ||| BitVec.twoPow n k

/-- The set with the kind at bit `k` taken out. -/
def clearBit {n : Nat} (s : BitVec n) (k : Nat) : BitVec n := s &&& ~~~ BitVec.twoPow n k

/-- The alert's bit of the alert set: bit n − 1 for code n (section 11.5, row 28). -/
def Alert.bit (a : Alert) : Nat := a.code - 1

/-- Whether the alert set holds a kind. -/
def State.hasAlert (s : State) (a : Alert) : Bool := hasBit s.lnk.alerts a.bit

/-- A unit raises an alert: a kind already in the set leaves the set as it is (R199). -/
def State.raiseAlert (s : State) (a : Alert) : State :=
  { s with lnk := { s.lnk with alerts := setBit s.lnk.alerts a.bit } }

/-- A kind leaves the alert set (R198, R85). -/
def State.dropAlert (s : State) (a : Alert) : State :=
  { s with lnk := { s.lnk with alerts := clearBit s.lnk.alerts a.bit } }

/-- ATTN is asserted while the alert set holds any kind (R199). -/
def State.attn (s : State) : Bool := s.lnk.alerts != 0#17

/-- Whether a hold reason is in the set (R156). -/
def State.hasHold (s : State) (h : HoldReason) : Bool := hasBit s.sgv.holds h.bit

/-- A hold reason's owner sets it (R156). What a governor in RUN does then is in `State.endAct`. -/
def State.setHold (s : State) (h : HoldReason) : State :=
  { s with sgv := { s.sgv with holds := setBit s.sgv.holds h.bit } }

/-- A hold reason's owner withdraws it (R156). -/
def State.dropHold (s : State) (h : HoldReason) : State :=
  { s with sgv := { s.sgv with holds := clearBit s.sgv.holds h.bit } }

/-- Whether a stop cause stands (R157). -/
def State.hasStop (s : State) (c : StopCause) : Bool := hasBit s.sgv.stops c.bit

/-- A stop cause enters the set (R157). -/
def State.addStop (s : State) (c : StopCause) : State :=
  { s with sgv := { s.sgv with stops := setBit s.sgv.stops c.bit } }

/-- A stop cause is withdrawn (R157). -/
def State.dropStop (s : State) (c : StopCause) : State :=
  { s with sgv := { s.sgv with stops := clearBit s.sgv.stops c.bit } }

/-- Whether a trip cause stands (R159). -/
def State.hasTrip (s : State) (c : TripCause) : Bool := hasBit s.sgv.trips c.bit

/-- A trip cause enters the set (R159). -/
def State.addTrip (s : State) (c : TripCause) : State :=
  { s with sgv := { s.sgv with trips := setBit s.sgv.trips c.bit } }

/-- A trip cause is withdrawn (R159). -/
def State.dropTrip (s : State) (c : TripCause) : State :=
  { s with sgv := { s.sgv with trips := clearBit s.sgv.trips c.bit } }

end Sys2Proof.Machine
end

