-- ==== Sys2Proof/Machine/Ops.lean ====
section
/-! DEFINITION. The named operations over coordinates, pins, tables and slots that every unit shares. -/

namespace Sys2Proof

/-! ### Operations on the operands of commands -/

/-- A coordinate moved by one count (R1, R2). -/
def Travel.move (d : Travel) (c : Coord) : Coord :=
  match d with
  | .forward => c + 1
  | .reverse => c - 1

/-- One count as a signed number (R10). -/
def Travel.sign (d : Travel) : Int :=
  match d with
  | .forward => 1
  | .reverse => -1

/-- The other station. -/
def Station.other : Station → Station
  | .a => .b
  | .b => .a

/-- A station's CORE_NEAR input. -/
def Station.coreNear : Station → Input
  | .a => .staCoreNear
  | .b => .stbCoreNear

/-- A station's SEATED input. -/
def Station.seatedPin : Station → Input
  | .a => .staSeated
  | .b => .stbSeated

/-- The other port. -/
def Port.other : Port → Port
  | .sup => .pen
  | .pen => .sup

end Sys2Proof

namespace Sys2Proof.Machine

/-! ### Coordinates (R3, R6) -/

/-- The difference of two coordinates of one frame: modulo 2^40, read as a signed number (R3). -/
def coordDiff (x y : Coord) : Int := (x - y).toInt

/-- "x reaches c": the difference x − c is zero or positive (R3). -/
def reaches (x c : Coord) : Bool := decide (0 ≤ coordDiff x c)

/-- A coordinate `n` counts further on, modulo 2^40. -/
def advance (c : Coord) (n : Nat) : Coord := c + BitVec.ofNat 40 n

/-- Whether a coordinate lies in the half-open extent [head, tail). -/
def inExtent (c head tail : Coord) : Bool := reaches c head && !reaches c tail

/-! ### Four zones -/

/-- The value of one zone. -/
def Four.get {α : Type} (f : Four α) : ZoneId → α
  | .z1 => f.z1
  | .z2 => f.z2
  | .z3 => f.z3
  | .z4 => f.z4

/-- The four values with one zone's replaced. -/
def Four.set {α : Type} (f : Four α) (z : ZoneId) (x : α) : Four α :=
  match z with
  | .z1 => { f with z1 := x }
  | .z2 => { f with z2 := x }
  | .z3 => { f with z3 := x }
  | .z4 => { f with z4 := x }

/-- A function of the zone applied to each of the four. -/
def Four.map {α β : Type} (g : ZoneId → α → β) (f : Four α) : Four β :=
  ⟨g .z1 f.z1, g .z2 f.z2, g .z3 f.z3, g .z4 f.z4⟩

/-- Whether any zone's value passes a test. -/
def Four.any {α : Type} (g : ZoneId → α → Bool) (f : Four α) : Bool :=
  g .z1 f.z1 || g .z2 f.z2 || g .z3 f.z3 || g .z4 f.z4

/-- The four zones, in order. -/
def allZones : List ZoneId := [.z1, .z2, .z3, .z4]

/-- The zone of a one-based index (section 11.2). -/
def zoneOfIndex : Nat → Option ZoneId
  | 1 => some .z1
  | 2 => some .z2
  | 3 => some .z3
  | 4 => some .z4
  | _ => none

/-! ### Pins (R11) -/

/-- One discrete input. -/
def Inputs.get (p : Inputs) : Input → Pin
  | .staSeated => p.staSeated
  | .stbSeated => p.stbSeated
  | .staCoreNear => p.staCoreNear
  | .stbCoreNear => p.stbCoreNear
  | .extended => p.extended
  | .retracted => p.retracted
  | .knifeDone => p.knifeDone
  | .home => p.home
  | .cutHome => p.cutHome
  | .eStop => p.eStop
  | .key => p.key

/-- The inputs with one replaced. -/
def Inputs.set (p : Inputs) (i : Input) (x : Pin) : Inputs :=
  match i with
  | .staSeated => { p with staSeated := x }
  | .stbSeated => { p with stbSeated := x }
  | .staCoreNear => { p with staCoreNear := x }
  | .stbCoreNear => { p with stbCoreNear := x }
  | .extended => { p with extended := x }
  | .retracted => { p with retracted := x }
  | .knifeDone => { p with knifeDone := x }
  | .home => { p with home := x }
  | .cutHome => { p with cutHome := x }
  | .eStop => { p with eStop := x }
  | .key => { p with key := x }

/-- The eleven inputs. -/
def allInputs : List Input :=
  [.staSeated, .stbSeated, .staCoreNear, .stbCoreNear, .extended, .retracted, .knifeDone, .home, .cutHome, .eStop, .key]

/-- Whether every input has its first debounced level (R11). -/
def Inputs.allKnown (p : Inputs) : Bool := allInputs.all fun i => (p.get i).level.isSome

/-- Whether an input's debounced level is asserted. -/
def State.asserted (s : State) (i : Input) : Bool := (s.inputs.get i).level == some true

/-- The key position: LOCAL is KEY's asserted level (R181, log entry 7). -/
def State.keyLocal (s : State) : Bool := s.asserted .key

/-! ### Tables kept in listing order -/

/-- A record put into a table kept in ascending key order, over the record of the same key if there is one. -/
def upsert {α : Type} (key : α → Nat) (x : α) : List α → List α
  | [] => [x]
  | y :: ys =>
    if key x < key y then x :: y :: ys
    else if key x = key y then x :: ys
    else y :: upsert key x ys

/-- The table without the record of one key. -/
def dropKey {α : Type} (key : α → Nat) (k : Nat) (l : List α) : List α := l.filter fun y => key y != k

/-- The record of a pattern number, if it is not FREE (R14). -/
def State.pattern? (s : State) (n : Nat) : Option Pattern := s.rst.patterns.find? fun p => p.number == n

/-- The record of a class number, if it is not FREE (R33). -/
def State.class? (s : State) (n : Nat) : Option FabricClass := s.rst.classes.find? fun c => c.number == n

/-- The class record, where the class is DEFINED (R33). -/
def State.definedClass? (s : State) (n : Nat) : Option FabricClass :=
  (s.class? n).filter fun c => c.state == .defined

/-- The roll of a tag (R45). -/
def State.roll? (s : State) (tag : Nat) : Option Roll := s.rst.rolls.find? fun r => r.tag == tag

/-- The lot of a number (R76). -/
def State.lot? (s : State) (n : Nat) : Option Lot := s.rst.lots.find? fun l => l.number == n

/-- The panel record of a key (R135). -/
def State.panel? (s : State) (k : PanelKey) : Option Panel := s.rst.panels.find? fun p => p.key == k

/-- F of a lot's pattern (R96), 0 where the lot names none. -/
def State.lotFlatLen (s : State) (l : Lot) : Nat :=
  ((l.pattern.bind s.pattern?).map (·.flatLen)).getD 0

/-- The pattern record put into the table. -/
def State.putPattern (s : State) (p : Pattern) : State :=
  { s with rst := { s.rst with patterns := upsert (·.number) p s.rst.patterns } }

/-- The class record put into the table. -/
def State.putClass (s : State) (c : FabricClass) : State :=
  { s with rst := { s.rst with classes := upsert (·.number) c s.rst.classes } }

/-- The roll record put into the table. -/
def State.putRoll (s : State) (r : Roll) : State :=
  { s with rst := { s.rst with rolls := upsert (·.tag) r s.rst.rolls } }

/-- The lot record put into the table. -/
def State.putLot (s : State) (l : Lot) : State :=
  { s with rst := { s.rst with lots := upsert (·.number) l s.rst.lots } }

/-- A change of the panel record of one key, where it exists. -/
def State.changePanel (s : State) (k : PanelKey) (g : Panel → Panel) : State :=
  { s with rst := { s.rst with panels := s.rst.panels.map fun p => if p.key = k then g p else p } }

/-- A lot on the web is FEEDING or FED (R76). -/
def Lot.onWeb (l : Lot) : Bool := l.state == .feeding || l.state == .fed

/-- A waiting lot is NEW or QUEUED (R76). -/
def Lot.waiting (l : Lot) : Bool := l.state == .new || l.state == .queued

/-- Planned is always ordered + make-up used − cancelled (R78). -/
def Lot.replan (l : Lot) : Lot := { l with planned := l.ordered.getD 0 + l.makeupUsed - l.cancelled }

/-- Whether the lot's extent [head, tail) holds a flat point (R96). -/
def Lot.holds (l : Lot) (c : Coord) : Bool :=
  match l.head, l.tail with
  | some h, some t => inExtent c h t
  | _, _ => false

/-- The FEEDING lot, when LTR's current segment is a lot segment (R83, R96). -/
def State.feedingLot? (s : State) : Option Lot :=
  match s.ltr.segment with
  | .lot n => s.lot? n
  | _ => none

/-- The lots on the web, in line order (R81). -/
def State.webLots (s : State) : List Lot := (s.rst.order.filterMap s.lot?).filter (·.onWeb)

/-! ### Stations (R52, R55) -/

/-- The state of a station. -/
def State.station (s : State) : Station → StationState
  | .a => s.fsu.staA
  | .b => s.fsu.staB

/-- A station's state replaced. -/
def State.setStation (s : State) (x : Station) (v : StationState) : State :=
  match x with
  | .a => { s with fsu := { s.fsu with staA := v } }
  | .b => { s with fsu := { s.fsu with staB := v } }

/-- The roll bound to a station: the roll whose station field names it (R45, R52). -/
def State.boundRoll? (s : State) (x : Station) : Option Roll := s.rst.rolls.find? fun r => r.station == some x

/-- The active station: the station in FEEDING, or none (R55). -/
def State.activeStation (s : State) : Option Station :=
  if s.fsu.staA = .feeding then some .a
  else if s.fsu.staB = .feeding then some .b
  else none

/-- The ACTIVE roll: the roll bound to the FEEDING station (R55). -/
def State.activeRoll? (s : State) : Option Roll := s.activeStation.bind s.boundRoll?

/-- The flat drive reference on FLAT_REF, in 0.01 mm/s (R153). -/
def State.flatRef (s : State) : Nat := s.sgv.flatRef

/-- The belt drive reference on BELT_REF, in 0.01 mm/s (R153). -/
def State.beltRef (s : State) : Nat := s.sgv.beltRef

/-- The drive reference of a station, STA_DRIVE or STB_DRIVE, in 0.01 mm/s (R52): a negative web speed is driven as 0. -/
def State.staDrive (s : State) (x : Station) : Nat :=
  match s.station x with
  | .matching => s.fsu.web.speed.toNat * 100
  | .matched => s.fsu.web.speed.toNat * 100
  | .feeding => s.flatRef
  | .joined => if s.fsu.phase = .idle then 0 else s.flatRef
  | .empty => 0
  | .seated => 0
  | .prepared => 0
  | .rundown => 0

/-! ### Keys, listings and slots (R183, R185, R187, R201) -/

/-- A panel key as the 32-bit key of R201: lot number above panel index. -/
def PanelKey.toKey (k : PanelKey) : Nat := k.lot * 65536 + k.index

/-- A 32-bit key read as a panel key (R201). -/
def panelKeyOf (key : Nat) : PanelKey := { lot := key / 65536, index := key % 65536 }

/-- Whether a key names a record of a table (R187, R189). -/
def State.recordExists (s : State) (t : Table) (key : Nat) : Bool :=
  match t with
  | .pattern => (s.pattern? key).isSome
  | .cls => (s.class? key).isSome
  | .roll => (s.roll? key).isSome
  | .lot => (s.lot? key).isSome
  | .panel => (s.panel? (panelKeyOf key)).isSome
  | .line => key == 0

/-- The keys of a table in its listing order (R14, R33, R45, R76, R135, R170). -/
def State.keysInOrder (s : State) : Table → List Nat
  | .pattern => s.rst.patterns.map (·.number)
  | .cls => s.rst.classes.map (·.number)
  | .roll => s.rst.rolls.map (·.tag)
  | .lot => s.rst.order ++ (s.rst.lots.filter fun l => l.state == .done).map (·.number)
  | .panel => s.rst.panels.map fun p => p.key.toKey
  | .line => [0]

/-- The records of a table in its listing order, by key. -/
def State.listing (s : State) (t : Table) : List Nat := (s.keysInOrder t).filter (s.recordExists t)

/-- The table of a staging copy. -/
def Staging.table : Staging → Table
  | .pattern _ => .pattern
  | .cls _ => .cls
  | .roll _ => .roll
  | .lot _ => .lot
  | .panel _ => .panel
  | .line _ => .line

/-- An empty staging copy for a table (R189). -/
def Staging.fresh : Table → Staging
  | .pattern => .pattern {}
  | .cls => .cls {}
  | .roll => .roll {}
  | .lot => .lot {}
  | .panel => .panel {}
  | .line => .line {}

/-- Whether nothing is staged (R192). -/
def Staging.isEmpty (st : Staging) : Bool := st == Staging.fresh st.table

/-- What LNK keeps for a port. -/
def State.port (s : State) : Port → PortState
  | .sup => s.lnk.sup
  | .pen => s.lnk.pen

/-- A port's state replaced. -/
def State.setPort (s : State) (p : Port) (v : PortState) : State :=
  match p with
  | .sup => { s with lnk := { s.lnk with sup := v } }
  | .pen => { s with lnk := { s.lnk with pen := v } }

/-- A port's open slot. -/
def State.slot (s : State) (p : Port) : Slot := (s.port p).slot

/-- The 30 s inactivity limit (R184). -/
def inactivityLimit : Nat := 30000

/-- The inactivity timer that goes with a slot: it runs while the slot is WRITE (R184). -/
def Slot.timer : Slot → Timer
  | .write _ _ => some inactivityLimit
  | .empty => none
  | .read _ _ => none
  | .lost _ _ => none

/-- A port's slot replaced; the inactivity timer starts at the taking of a claim and stops at its end (R184). -/
def State.setSlot (s : State) (p : Port) (v : Slot) : State :=
  s.setPort p { s.port p with slot := v, inactivity := v.timer }

/-- Whether a slot holds the write claim on a record (R183). -/
def Slot.claims (v : Slot) (t : Table) (key : Nat) : Bool :=
  match v with
  | .write k st => st.table == t && k == key
  | .empty => false
  | .read _ _ => false
  | .lost _ _ => false

/-- Whether a port holds the write claim on a record. -/
def State.claims (s : State) (p : Port) (t : Table) (key : Nat) : Bool := (s.slot p).claims t key

/-- The slot of a port after records have been removed: LOST where its record is gone (R185). -/
def State.sweepSlot (s : State) (v : Slot) : Slot :=
  match v with
  | .empty => .empty
  | .read t k => if s.recordExists t k then .read t k else .lost t k
  | .write k st => if s.recordExists st.table k then .write k st else .lost st.table k
  | .lost t k => .lost t k

/-- A port swept: a claim that is lost stops its inactivity timer (R185). -/
def State.sweepPort (s : State) (v : PortState) : PortState :=
  { v with slot := s.sweepSlot v.slot, inactivity := (s.sweepSlot v.slot).timer }

/-- Every slot whose record has been removed becomes LOST, in the act of the removal (R185). -/
def State.sweep (s : State) : State :=
  { s with lnk := { s.lnk with sup := s.sweepPort s.lnk.sup, pen := s.sweepPort s.lnk.pen } }

/-! ### Reference counts (R26, R30, R38) -/

/-- The lots not DONE that name a pattern (R26). -/
def patternRefs (lots : List Lot) (n : Nat) : Nat := lots.countP fun l => l.state != .done && l.pattern == some n

/-- The rolls that name a class and the lots not DONE that name it (R38). -/
def classRefs (rolls : List Roll) (lots : List Lot) (n : Nat) : Nat :=
  rolls.countP (fun r => r.cls == some n) + lots.countP fun l => l.state != .done && l.cls == some n

/-- Every reference count made equal to the number it stands for (R26, R38). -/
def State.recount (s : State) : State :=
  { s with rst := { s.rst with
      patterns := s.rst.patterns.map fun p => { p with refCount := patternRefs s.rst.lots p.number }
      classes := s.rst.classes.map fun c => { c with refCount := classRefs s.rst.rolls s.rst.lots c.number } } }

/-- The pool with every slot of the given blocks emptied (R23, R24). -/
def poolRelease (blocks : List Nat) (pool : List (Nat × Step)) : List (Nat × Step) :=
  pool.filter fun e => !blocks.contains (e.1 / Config.blockSlots)

/-- A pattern that has served its last lot (R30). -/
def Pattern.spentRetiring (p : Pattern) : Bool := p.state == .retiring && p.refCount == 0

/-- Every RETIRING pattern whose count has come to 0 becomes FREE, its blocks released (R30). -/
def State.freeRetired (s : State) : State :=
  { s with rst := { s.rst with
      patterns := s.rst.patterns.filter fun p => !p.spentRetiring
      pool := poolRelease ((s.rst.patterns.filter (·.spentRetiring)).flatMap (·.blockMap)) s.rst.pool } }

/-- What RST does in the act of any change of rolls or lots: counts, patterns freed, slots lost (R26, R30, R38, R185). -/
def State.settleCounts (s : State) : State := s.recount.freeRetired.sweep

/-! ### The pool (R23) -/

/-- The pool slot of step k (from 1) of a block map: the block at position ceil(k / 8), slot (k − 1) mod 8 (R23). -/
def slotOf (blockMap : List Nat) (k : Nat) : Option Nat :=
  (blockMap[(k - 1) / Config.blockSlots]?).map fun b => b * Config.blockSlots + (k - 1) % Config.blockSlots

/-- The step in a pool slot. -/
def poolRead (pool : List (Nat × Step)) (slot : Nat) : Option Step :=
  (pool.find? fun e => e.1 == slot).map (·.2)

/-- A step written into a pool slot. -/
def poolWrite (pool : List (Nat × Step)) (slot : Nat) (st : Step) : List (Nat × Step) :=
  upsert (·.1) (slot, st) pool

/-- The step pool's canonical form: slots strictly rising. -/
def poolWf : List (Nat × Step) → Bool
  | [] => true
  | e :: es => es.all (fun x => decide (e.1 < x.1)) && poolWf es

/-- Current step k of a pattern, through its block map (R23); none in EDIT and beyond the step count (R16). -/
def State.currentStep (s : State) (p : Pattern) (k : Nat) : Option Step :=
  if p.state = .edit ∨ k = 0 ∨ p.stepCount < k then none
  else (slotOf p.blockMap k).bind (poolRead s.rst.pool)

/-- The steps of a pattern, in step order (R32). -/
def State.patternSteps (s : State) (p : Pattern) : List Step :=
  ((List.range p.stepCount).map (· + 1)).filterMap (s.currentStep p)

/-! ### Pleat geometry (R7, R8, R9) -/

/-- The flat consumption of a step (R7). -/
def Step.consumption (st : Step) : Nat := st.advance + 2 * st.depth

/-- F of steps and a trailer (R8). -/
def flatLength (steps : List Step) (trailer : Nat) : Nat := (steps.map (·.consumption)).sum + trailer

/-- P of steps and a trailer (R8). -/
def pleatedLength (steps : List Step) (trailer : Nat) : Nat := (steps.map (·.advance)).sum + trailer

/-- The least flat consumption of the steps (R8), 0 with no steps. -/
def minConsumption : List Step → Nat
  | [] => 0
  | [st] => st.consumption
  | st :: sts => min st.consumption (minConsumption sts)

/-- The strike point of step k, from 1: the consumptions before it and its own advance (R7). -/
def strikePoint (steps : List Step) (k : Nat) : Option Nat :=
  (steps[k - 1]?).map fun st => ((steps.take (k - 1)).map (·.consumption)).sum + st.advance

/-- The midpoint's distance past the blade bank (R9). -/
def Panel.midDistance (p : Panel) (b : Coord) : Int := coordDiff b p.head - (p.pleatedLen / 2 : Nat)

/-- The head's distance past the blade bank (R9). -/
def Panel.headDistance (p : Panel) (b : Coord) : Int := coordDiff b p.head

/-- The tail's distance past the blade bank (R9). -/
def Panel.tailDistance (p : Panel) (b : Coord) : Int := coordDiff b p.head - (p.pleatedLen : Int)

/-- Whether the panel's midpoint lies in a zone (R5). -/
def Panel.inZone (p : Panel) (b : Coord) (z : ZoneId) : Bool :=
  decide (Config.zoneStart z ≤ p.midDistance b) && decide (p.midDistance b < Config.zoneStart z + Config.zoneLength)

/-- Whether the panel's midpoint lies in the cooling bed (R5). -/
def Panel.inCooling (p : Panel) (b : Coord) : Bool :=
  decide (Config.coolingStart ≤ p.midDistance b) && decide (p.midDistance b < Config.coolingEnd)

/-- Whether the panel is at the cutter: its head has reached it and its tail has not (R5). -/
def Panel.atCutter (p : Panel) (b : Coord) : Bool :=
  decide (Config.cutterPlace ≤ p.headDistance b) && decide (p.tailDistance b < Config.cutterPlace)

/-- The panel whose midpoint lies farthest past the blade bank; a tie goes to the record created first (R117). -/
def farthest (b : Coord) : List Panel → Option Panel
  | [] => none
  | p :: ps =>
    match farthest b ps with
    | none => some p
    | some q => if p.midDistance b < q.midDistance b then some q else some p

/-- The lead panel of a zone (R117). -/
def State.leadPanel (s : State) (z : ZoneId) : Option Panel :=
  farthest s.exu.b (s.rst.panels.filter fun p => p.inZone s.exu.b z)

/-- The next panel of a zone (R117). -/
def State.nextPanel (s : State) (z : ZoneId) : Option Panel :=
  farthest s.exu.b (s.rst.panels.filter fun p => decide (p.midDistance s.exu.b < Config.zoneStart z))

/-! ### Speeds (R10) -/

/-- A count enters the 10 ms being counted. -/
def SpeedWindow.count (v : SpeedWindow) (n : Int) : SpeedWindow := { v with cur := v.cur + n }

/-- A speed saturates at ±5,000 mm/s (R10). -/
def clampSpeed (n : Int) : Int := max (-5000) (min 5000 n)

/-- The window slides by 10 ms and the speed is read from it (R10). -/
def SpeedWindow.refresh (v : SpeedWindow) : SpeedWindow :=
  { cur := 0, past := (v.cur :: v.past).take 10, speed := clampSpeed ((v.cur :: v.past).take 10).sum }

/-- The state of a cycle whose actuator stands as its home input shows (R97, R115, R140, R152). -/
def cycleAt (home : Bool) : Cycle := if home then .idle else .away

/-! ### Free values -/

/-- The next free value is taken from the following index. -/
def State.takeFree (s : State) : State := { s with freeIdx := s.freeIdx + 1 }

end Sys2Proof.Machine
end

