-- ==== Sys2Proof/Machine/Speed.lean ====
section
/-! DEFINITION. What SGV computes at the end of every act that can change a component of it: the strike ceiling that PFM
keeps (R112), the ceiling (R166, R167), the references (R153, R168, R169), the hold reason ZONE_UNSETTLED (R124), the fall
from RUN to CREEP (R154, R156), and the arming of the web-break monitor (R74). -/

namespace Sys2Proof.Machine

/-- The least of the values present, or none. -/
def leastOf : List Nat → Option Nat
  | [] => none
  | x :: xs =>
    match leastOf xs with
    | none => some x
    | some y => some (min x y)

/-- The minimum step consumptions the strike ceiling is taken over: that of a forming PRODUCT panel, and of the pattern
of each lot on the web with panels still to start (R112). -/
def State.strikeConsumptions (s : State) : List Nat :=
  ((s.pfm.forming.filter fun f => f.kind == .product).map (·.minStep)).toList ++
    (s.webLots.filter fun l => decide (l.started < l.planned)).filterMap fun l =>
      (l.pattern.bind s.pattern?).map (·.minStep)

/-- The strike ceiling: floor(minimum step consumption × 100 / strike period), the least over the set (R112). -/
def State.strikeCeilingNow (s : State) : Option Nat :=
  match s.rst.line.strikePeriod with
  | none => none
  | some period => leastOf (s.strikeConsumptions.map fun m => m * 100 / period)

/-- F and P of the forming panel, taken as equal for a WASTE panel and with no panel forming (R167, R169). -/
def State.formingRatio (s : State) : Nat × Nat :=
  match s.pfm.forming with
  | none => (1, 1)
  | some f => if f.kind = .product then (f.flatLen, f.pleatedLen) else (1, 1)

/-- The classes the class ceiling counts: the set HSU last handed over, and the forming panel's class (R167). -/
def State.countedClasses (s : State) : List Nat := s.sgv.classSet ++ (s.pfm.forming.map (·.cls)).toList

/-- The class ceiling of one class: floor(maximum belt speed × F / P); none where the number names no DEFINED class (R167). -/
def State.classCeiling (s : State) (n : Nat) : Option Nat :=
  ((s.definedClass? n).bind (·.maxBelt)).map fun v => v * s.formingRatio.1 / s.formingRatio.2

/-- The splice speed, present from the beginning of a splice to its end (R166). -/
def State.spliceCeiling (s : State) : Option Nat := if s.fsu.phase = .idle then none else s.rst.line.spliceSpeed

/-- The ceiling: the least of the components present, never above the line maximum of 600 mm/s (R166). -/
def State.ceilingNow (s : State) : Nat :=
  (s.countedClasses.filterMap s.classCeiling ++ s.pfm.strikeCeiling.toList ++ s.spliceCeiling.toList).foldl min 600

/-- The flat reference the governor's state gives under a ceiling, in 0.01 mm/s (R153, R168). -/
def State.flatRefUnder (s : State) (ceiling : Nat) : Nat :=
  match s.sgv.gov with
  | .creep => min (s.rst.line.creep.getD 0) ceiling * 100
  | .stepping =>
    match s.pfm.stepTarget with
    | some (_, true) => 0
    | _ => min (s.rst.line.creep.getD 0) ceiling * 100
  | .run => min s.sgv.flatRef (ceiling * 100)
  | .stopped => 0
  | .halting => 0
  | .tripped => 0

/-- HSU sets or withdraws ZONE_UNSETTLED: held while HEAT is ON and a zone is WARMING (R124). -/
def State.syncUnsettled (s : State) : State :=
  if s.rst.line.heat && s.hsu.zones.any fun _ z => z.mode == .warming
  then s.setHold .zoneUnsettled
  else s.dropHold .zoneUnsettled

/-- A governor in RUN goes to CREEP where a hold reason stands or run intent is clear (R154, R156). -/
def State.leaveRun (s : State) : State :=
  if s.sgv.gov = .run ∧ (s.sgv.holds ≠ 0#6 ∨ s.sgv.intent = false)
  then { s with sgv := { s.sgv with gov := .creep } }
  else s

/-- PFM recomputes its strike ceiling (R112). -/
def State.syncStrikeCeiling (s : State) : State :=
  { s with pfm := { s.pfm with strikeCeiling := s.strikeCeilingNow } }

/-- The web-break monitor under a flat reference: armed at or above the creep speed, its window going on where it was
armed (R74). -/
def State.webBreakUnder (s : State) (flat : Nat) : Timer :=
  match s.rst.line.creep with
  | none => none
  | some c => if c * 100 ≤ flat then some (s.fsu.webBreak.getD 250) else none

/-- SGV recomputes the ceiling and the two references; FSU arms or disarms its monitor from the flat one (R166, R168,
R169, R74). -/
def State.regulate (s : State) : State :=
  let ceiling := s.ceilingNow
  let flat := s.flatRefUnder ceiling
  { s with
    sgv := { s.sgv with ceiling := ceiling, flatRef := flat, beltRef := flat * s.formingRatio.2 / s.formingRatio.1 }
    fsu := { s.fsu with webBreak := s.webBreakUnder flat } }

/-- What every act that touches the line ends with (log entry 21). -/
def State.endAct (s : State) : State := s.syncUnsettled.leaveRun.syncStrikeCeiling.regulate

end Sys2Proof.Machine
end

