-- ==== Sys2Proof/Machine/Heat.lean ====
section
/-! DEFINITION. The Heat-Set Unit: targets (R118, R119), zone moves (R120), readings (R121–R123, R125, R126), dose (R127,
R128), HEAT and the permit (R129–R132). -/

namespace Sys2Proof.Machine

/-- A zone's state replaced. -/
def State.setZone (s : State) (z : ZoneId) (v : Zone) : State :=
  { s with hsu := { s.hsu with zones := s.hsu.zones.set z v } }

/-- All zones changed at once. -/
def State.mapZones (s : State) (g : ZoneId → Zone → Zone) : State :=
  { s with hsu := { s.hsu with zones := s.hsu.zones.map g } }

/-- The governor is in CREEP or RUN (R118). -/
def State.running (s : State) : Bool := s.sgv.gov == .creep || s.sgv.gov == .run

/-- The class a zone targets, in the order of R118; none in its case 4. -/
def State.zoneClass (s : State) (z : ZoneId) : Option Nat :=
  match s.leadPanel z with
  | some p => some p.cls
  | none =>
    match s.nextPanel z with
    | some p => some p.cls
    | none => s.activeRoll?.bind (·.cls)

/-- A class record's setpoint for a zone, where it has one. -/
def State.setpoint? (s : State) (c : Nat) (z : ZoneId) : Option Nat := (s.class? c).bind fun r => r.setpoints.get z

/-- The setpoint read for a zone: the class record's, and where the number names no record with one a free value within
the range of a setpoint (log entry 13). -/
def State.setpointRead (s : State) (c : Nat) (z : ZoneId) : Nat :=
  match s.setpoint? c z with
  | some t => t
  | none => 1000 + Config.missingSetpoint s.freeIdx c z % 901

/-- The class target of a zone: temperature and class (R118, the running line's four cases). -/
def State.classTarget (s : State) (z : ZoneId) (v : Zone) : Option Nat × Option Nat :=
  match s.zoneClass z with
  | some c => (some (s.setpointRead c z), some c)
  | none =>
    match v.target with
    | some t => (some t, v.targetClass)
    | none => (s.rst.line.standby, none)

/-- A zone given the standby target (R118). -/
def State.standbyZone (s : State) (v : Zone) : Zone :=
  { v with mode := .standby, target := s.rst.line.standby, targetClass := none, settle := none }

/-- A zone given its class target and WARMING (R120). -/
def State.warmZone (s : State) (z : ZoneId) (v : Zone) : Zone :=
  { v with mode := .warming, target := (s.classTarget z v).1, targetClass := (s.classTarget z v).2, settle := none }

/-- A zone retargeted (R119): a new temperature makes it WARMING and stops its settling, an equal one moves the class
alone. -/
def State.retargetZone (s : State) (z : ZoneId) (v : Zone) : Zone :=
  if v.mode = .warming ∨ v.mode = .settled then
    if (s.classTarget z v).1 = v.target then { v with targetClass := (s.classTarget z v).2 }
    else s.warmZone z v
  else v

/-- Whether a free setpoint is read for some zone (log entry 13). -/
def State.readsMissingSetpoint (s : State) (reads : ZoneId → Zone → Bool) : Bool :=
  s.hsu.zones.any fun z v => reads z v && (s.zoneClass z).any fun c => (s.setpoint? c z).isNone

/-- The free index moved on where a free setpoint has been read. -/
def State.takeFreeIf (s : State) (c : Bool) : State := if c then s.takeFree else s

/-- A zone in WARMING or SETTLED. -/
def Zone.heating (v : Zone) : Bool := v.mode == .warming || v.mode == .settled

/-- The classes of the panels whose midpoints lie in the four zones, each once (R119). -/
def State.zoneClasses (s : State) : List Nat :=
  ((s.rst.panels.filter fun p => allZones.any (p.inZone s.exu.b)).map (·.cls)).eraseDups

/-- HSU hands SGV the classes of the panels in the zones (R119). -/
def State.handClasses (s : State) : State := { s with sgv := { s.sgv with classSet := s.zoneClasses } }

/-- An arrival of R119: the zones retargeted while HEAT is ON and the governor in CREEP or RUN, and the classes handed to
SGV. -/
def State.retarget (s : State) : State :=
  (if s.rst.line.heat && s.running
   then (s.mapZones s.retargetZone).takeFreeIf (s.readsMissingSetpoint fun _ v => v.heating)
   else s).handClasses

/-- The governor enters STOPPED, STEPPING, HALTING or TRIPPED: zones in WARMING or SETTLED go to STANDBY (R120). -/
def State.zonesToStandby (s : State) : State :=
  s.mapZones fun _ v => if v.heating then s.standbyZone v else v

/-- The governor enters CREEP from STOPPED: zones in STANDBY take their class targets and are WARMING (R120). -/
def State.zonesToWarming (s : State) : State :=
  (s.mapZones fun z v => if v.mode = .standby then s.warmZone z v else v).takeFreeIf
    (s.readsMissingSetpoint fun _ v => v.mode == .standby)

/-- Every zone to OFF, its settle timer stopped, its target kept (R118, R120). -/
def State.zonesOff (s : State) : State := s.mapZones fun _ v => { v with mode := .off, settle := none }

/-- HEAT goes OFF: permit timer stopped, zones OFF (R129–R132). -/
def State.heatOff (s : State) : State :=
  let s1 := s.zonesOff
  { s1 with
    rst := { s1.rst with line := { s1.rst.line with heat := false } }
    hsu := { s1.hsu with permit := none } }

/-- Whether any zone is STALE (R123). -/
def State.anyStale (s : State) : Bool := s.hsu.zones.any fun _ v => !v.fresh

/-- HEAT goes from OFF to ON: permit timer started, zones out of OFF, ZONE_SENSOR for a STALE zone (R120, R123, R129,
R130). -/
def State.heatOn (s : State) : State :=
  let s1 := { s with
    rst := { s.rst with line := { s.rst.line with heat := true } }
    hsu := { s.hsu with permit := some (s.rst.line.permitPeriod.getD 0) } }
  let s2 :=
    if s1.running then
      (s1.mapZones fun z v => if v.mode = .off then s1.warmZone z v else v).takeFreeIf
        (s1.readsMissingSetpoint fun _ v => v.mode == .off)
    else s1.mapZones fun _ v => if v.mode = .off then s1.standbyZone v else v
  if s2.anyStale then s2.raiseAlert .zoneSensor else s2

/-- HSU's part of an E_STOP assertion (R132). -/
def State.heatEStop (s : State) : State := s.heatOff

/-- Whether a reading lies within a target ± a band, both ends included (R121, R122). -/
def withinBand (target : Option Nat) (v band : Nat) : Bool :=
  match target with
  | none => false
  | some t => decide (t ≤ v + band) && decide (v ≤ t + band)

/-- A zone after a valid reading (R121–R123). -/
def Zone.take (v : Zone) (n : Nat) : Zone :=
  let v1 := { v with reading := some n, fresh := true, window := some 500 }
  match v1.mode with
  | .warming => { v1 with settle := if withinBand v1.target n 20 then some (v1.settle.getD 5000) else none }
  | .settled => if withinBand v1.target n 40 then v1 else { v1 with mode := .warming, settle := none }
  | .off => v1
  | .standby => v1

/-- A zone whose reading goes STALE (R123). -/
def Zone.goStale (v : Zone) : Zone :=
  let v1 := { v with fresh := false, window := none }
  match v1.mode with
  | .warming => { v1 with settle := none }
  | .settled => { v1 with mode := .warming, settle := none }
  | .off => v1
  | .standby => v1

/-- The pressure state after a valid reading (R125). -/
def PressureState.take (p : PressureState) (n : Nat) : PressureState :=
  if n < 300 then .low
  else if 330 < n then .normal
  else
    match p with
    | .low => .low
    | .unknown => .normal
    | .normal => .normal

/-- A valid pressure reading: state, and the STEAM_LOW hold reason and alert that follow it (R125, R126). -/
def State.takePressure (s : State) (n : Nat) : State :=
  let p := s.hsu.pressure.take n
  let s1 := { s with hsu := { s.hsu with pressure := p, pressureReading := some n } }
  match p with
  | .low => if s.hsu.pressure = .low then s1.setHold .steamLow else (s1.raiseAlert .steamLow).setHold .steamLow
  | .normal => s1.dropHold .steamLow
  | .unknown => s1

/-- The dose increment of a zone at an expiry of the dose interval: none from a zone OFF or STALE, else the latest
reading less 950, not below 0 (R127). -/
def Zone.increment (v : Zone) : Nat :=
  if v.mode = .off ∨ v.fresh = false then 0 else v.reading.getD 0 - 950

/-- The greatest zone dose (R128). -/
def doseLimit : Nat := 999999999

/-- An increment added to one zone dose, saturating, and the same amount to the total (R127, R128). -/
def Panel.addDose (p : Panel) (z : ZoneId) (n : Nat) : Panel :=
  let added := min n (doseLimit - p.doses.get z)
  { p with doses := p.doses.set z (p.doses.get z + added), totalDose := p.totalDose + added }

/-- A panel takes one zone's increment if its midpoint lies there (R127). -/
def Panel.doseFrom (b : Coord) (zones : Four Zone) (p : Panel) (z : ZoneId) : Panel :=
  if p.inZone b z then p.addDose z (zones.get z).increment else p

/-- Every panel takes the increments of one expiry of the dose interval (R127). -/
def State.accrue (s : State) : State :=
  { s with rst := { s.rst with panels := s.rst.panels.map fun p => allZones.foldl (Panel.doseFrom s.exu.b s.hsu.zones) p } }

/-- A committed setpoint acts on its zone where the zone is WARMING or SETTLED and targets that class (R40). -/
def State.setpointCommitted (s : State) (c : Nat) (z : ZoneId) (t : Nat) : State :=
  let v := s.hsu.zones.get z
  if v.heating = true ∧ v.targetClass = some c ∧ v.target ≠ some t
  then s.setZone z { v with mode := .warming, target := some t, settle := none }
  else s

/-- A class becomes FREE: zones that target it take target class none, then the zones are retargeted (R133). -/
def State.classFreed (s : State) (c : Nat) : State :=
  (s.mapZones fun _ v => if v.targetClass = some c then { v with targetClass := none } else v).retarget

end Sys2Proof.Machine
end

