-- ==== Sys2Proof/Machine/Lots.lean ====
section
/-! DEFINITION. What RST does to lots by itself: the completion test (R93), the tallies (R149), the entered count and the
moving of a tail (R89, R91), and the line order's changes (R81, R82). -/

namespace Sys2Proof.Machine

/-- A number taken out of the line order; its gap closes (R81). -/
def State.leaveOrder (s : State) (n : Nat) : State :=
  { s with rst := { s.rst with order := s.rst.order.filter (· != n) } }

/-- Whether a lot of a number is on the web. -/
def State.numberOnWeb (s : State) (n : Nat) : Bool := (s.lot? n).any (·.onWeb)

/-- The line order with a placed lot put after the last lot on the web (R81, R85). -/
def State.placeInOrder (s : State) (n : Nat) : State :=
  let rest := s.rst.order.filter (· != n)
  { s with rst := { s.rst with
      order := rest.filter s.numberOnWeb ++ n :: rest.filter fun m => !s.numberOnWeb m } }

/-- A number put directly before another in a list; at the end where the other is not in it. -/
def insertBefore (n m : Nat) : List Nat → List Nat
  | [] => [n]
  | x :: xs => if x = m then n :: x :: xs else x :: insertBefore n m xs

/-- A commit carrying place moves the lot among the waiting lots (R82). -/
def State.moveInOrder (s : State) (n place : Nat) : State :=
  if place = n then s
  else
    let rest := s.rst.order.filter (· != n)
    { s with rst := { s.rst with order := if place = 0 then rest ++ [n] else insertBefore n place rest } }

/-- Whether any panel record belongs to a lot (R93). -/
def State.hasPanelsOf (s : State) (n : Nat) : Bool :=
  s.rst.panels.any fun p => p.kind == .product && p.key.lot == n

/-- The completion test: a FED lot with every planned panel started and no panel record becomes DONE (R93). -/
def State.testCompletion (s : State) (n : Nat) : State :=
  match s.lot? n with
  | none => s
  | some l =>
    if l.state = .fed ∧ l.started = l.planned ∧ s.hasPanelsOf n = false
    then ((s.putLot { l with state := .done }).leaveOrder n).settleCounts
    else s

/-- A rejected count raised (R149). -/
def Rejects.raise (r : Rejects) : RejectReason → Rejects
  | .cut => { r with cut := r.cut + 1 }
  | .operator => { r with operator := r.operator + 1 }
  | .joint => { r with joint := r.joint + 1 }
  | .strike => { r with strike := r.strike + 1 }
  | .overDose => { r with overDose := r.overDose + 1 }
  | .shortDose => { r with shortDose := r.shortDose + 1 }

/-- The sum of a lot's rejected counts (R94). -/
def Rejects.total (r : Rejects) : Nat :=
  r.cut + r.operator + r.joint + r.strike + r.overDose + r.shortDose

/-- A verdict tallied into a lot (R149). -/
def Lot.tally (l : Lot) : Verdict → Lot
  | .good => { l with good := l.good + 1 }
  | .rejected r => { l with rejected := l.rejected.raise r }

/-- A verdict tallied into the lot of a PRODUCT panel (R149). -/
def State.tallyPanel (s : State) (p : Panel) (v : Verdict) : State :=
  if p.kind = .product then
    match s.lot? p.key.lot with
    | none => s
    | some l => s.putLot (l.tally v)
  else s

/-- A lot on the web with its tail at head + planned × F (R78). -/
def Lot.retail (l : Lot) (flatLen : Nat) : Lot :=
  { l with tail := l.head.map fun h => advance h (l.planned * flatLen) }

/-- Planned and tail made to follow a change of ordered, make-up used or cancelled (R78). -/
def Lot.replanOnWeb (l : Lot) (flatLen : Nat) : Lot := l.replan.retail flatLen

/-- A count of panels held between the panels that have started and those planned: no started panel is cut off, also where a
reverse run has put W behind it (R89, R94, R96; how these bind the formulas of R89, R91 and R92 there is the model's choice,
log entry 37). -/
def keepStarted (started planned n : Nat) : Nat := min planned (max started n)

/-- The entered count: the panels whose flat start lies behind W, capped at planned and never below panels started (R89; the
last after a long reverse run is log entry 37). -/
def enteredCount (w head : Coord) (flatLen planned started : Nat) : Nat :=
  let d := coordDiff w head
  keepStarted started planned (if d ≤ 0 then 0 else (d.toNat + flatLen - 1) / flatLen)

/-- How many panels a lot keeps when its tail is pulled in to the end of the panel that W lies in: none with W behind the
head, never fewer than have started (R91, R94, R96; the last after a long reverse run is log entry 37). -/
def keptByCancel (w head : Coord) (flatLen planned started : Nat) : Nat :=
  let d := coordDiff w head
  keepStarted started planned (if d < 0 then 0 else d.toNat / flatLen + 1)

/-- A lot cut down to a number of planned panels, the rest added to cancelled (R91, R92). -/
def Lot.cutTo (l : Lot) (kept flatLen : Nat) : Lot :=
  ({ l with cancelled := l.cancelled + (l.planned - kept) }).replanOnWeb flatLen

/-- A cancel of a FEEDING lot (R91). -/
def State.cancelLot (s : State) (l : Lot) : State :=
  match l.head with
  | none => s
  | some h =>
    let len := s.lotFlatLen l
    s.putLot (l.cutTo (keptByCancel s.fsu.w h len l.planned l.started) len)

end Sys2Proof.Machine
end

