-- ==== Sys2Proof/Machine/Exit.lean ====
section
/-! DEFINITION. The Exit Unit: verdicts (R147), retirement (R139, R141, R148–R150), the cut fault (R146), tail arrivals
(R141, R145), the cutter cycle (R142–R144) and the trip (R151). -/

namespace Sys2Proof.Machine

/-- Whether a panel record of a serial exists. -/
def State.hasSerial (s : State) (n : Nat) : Bool := s.rst.panels.any fun p => p.serial == n

/-- The cut fault given to the record created next after the one of a serial: set on it where it exists, pending where it
has not been created, dropped where it has been retired (R146). -/
def State.passCutFault (s : State) (serial : Nat) : State :=
  if s.hasSerial (serial + 1) = true then
    { s with rst := { s.rst with
        panels := s.rst.panels.map fun p => if p.serial = serial + 1 then { p with cutFault := true } else p } }
  else if s.rst.panelSerial = serial + 1 then { s with exu := { s.exu with pendingFault := true } }
  else s

/-- The verdict: the first reason present, in the order of R147. `uncut` says that no cut is made at this arrival or that
the record is retired early. -/
def Panel.verdict (p : Panel) (uncut : Bool) : Verdict :=
  if uncut || p.cutFault then .rejected .cut
  else if p.reject then .rejected .operator
  else if p.joint then .rejected .joint
  else if 0 < p.missed then .rejected .strike
  else if p.doseMax < p.totalDose then .rejected .overDose
  else if p.totalDose < p.doseMin then .rejected .shortDose
  else .good

/-- Where a verdict sends a panel: the good stack takes a GOOD PRODUCT panel alone (R148). -/
def Panel.toReject (p : Panel) (v : Verdict) : Bool := !(p.kind == .product && v == .good)

/-- The record of a serial removed (R149, R185). -/
def State.removePanel (s : State) (serial : Nat) : State :=
  ({ s with rst := { s.rst with panels := s.rst.panels.filter fun p => p.serial != serial } }).sweep

/-- The disposition of a panel (R140). -/
def Panel.disposition (p : Panel) (v : Verdict) : Disposition :=
  { key := p.key, kind := p.kind, verdict := v, toReject := p.toReject v }

/-- The last disposition replaced (R140, R141 step 7). -/
def State.setLast (s : State) (d : Disposition) : State := { s with exu := { s.exu with last := some d } }

/-- DIVERT driven (R148). -/
def State.setDivert (s : State) (v : Bool) : State := { s with exu := { s.exu with divert := v } }

/-- A record tallied, removed and shown, and the removal handed on: the lot's completion test (R93) and HSU's retargeting
(R119). -/
def State.retirePanel (s : State) (p : Panel) (v : Verdict) : State :=
  let s1 := ((s.tallyPanel p v).removePanel p.serial).setLast (p.disposition v)
  (if p.kind = .product then s1.testCompletion p.key.lot else s1).retarget

/-- Early retirement of the oldest record, uncut: its verdict has the CUT reason, the next record takes the cut fault,
CUT_OVERRUN is raised, neither CUT nor DIVERT is driven (R139). -/
def State.retireEarly (s : State) (p : Panel) : State :=
  ((s.passCutFault p.serial).retirePanel p (p.verdict true)).raiseAlert .cutOverrun

/-- Whether a cut is made at a tail arrival (R141, step 1). -/
def State.cutMade (s : State) : Bool := s.exu.cycle == .idle && s.sgv.gov != .tripped

/-- A cut begun at the tail of the record of a serial (R141, step 2). -/
def State.beginCut (s : State) (serial : Nat) : State :=
  { s with exu := { s.exu with cut := true, limit := some 250, cycle := .stroke, cutSerial := some serial } }

/-- A tail that is not cut: the cut fault passes on, and CUT_OVERRUN is raised unless the governor is TRIPPED (R145). -/
def State.uncutTail (s : State) (serial : Nat) : State :=
  let s1 := s.passCutFault serial
  if s.sgv.gov = .tripped then s1 else s1.raiseAlert .cutOverrun

/-- One tail arrival (R141). -/
def State.tailArrival (s : State) (p : Panel) : State :=
  let made := s.cutMade
  let v := p.verdict (!made)
  ((if made then s.beginCut p.serial else s.uncutTail p.serial).setDivert (p.toReject v)).retirePanel p v

/-- The records whose tail is at or past the cutter (R9, R141). -/
def State.dueTails (s : State) : List Panel :=
  s.rst.panels.filter fun p => decide (Config.cutterPlace ≤ p.tailDistance s.exu.b)

/-- The due tail taken next: with one due it is that one; with more, a free choice (R141, log entry 9). -/
def State.pickTail (s : State) : Option (Panel × Bool) :=
  match s.dueTails with
  | [] => none
  | [p] => some (p, false)
  | p :: q :: ps => ((p :: q :: ps)[Config.tailChoice s.freeIdx % (ps.length + 2)]?).map fun x => (x, true)

/-- The due tails taken, one by one. -/
def State.takeTails : Nat → State → State
  | 0, s => s
  | n + 1, s =>
    match s.pickTail with
    | none => s
    | some (p, chosen) => State.takeTails n ((s.tailArrival p).takeFreeIf chosen)

/-- A tail's record as it stands when its turn comes is the one judged, so a fault passed on by a tail taken first counts. -/
def State.allTails (s : State) : State := s.takeTails s.rst.panels.length

/-- The cutter brought out of its cycle: CUT deasserted, limit stopped. -/
def State.cutterTo (s : State) (c : Cycle) : State :=
  { s with exu := { s.exu with cut := false, limit := none, cycle := c, cutSerial := none } }

/-- The cut fault given for a stroke that made no cut (R144, R151). -/
def State.failedStroke (s : State) : State :=
  match s.exu.cutSerial with
  | none => s
  | some n => s.passCutFault n

/-- The cutter ended as a jam, its stop cause apart (R144). -/
def State.cutterJam (s : State) : State :=
  if s.exu.cycle = .stroke then s.failedStroke.cutterTo .away else s.cutterTo .away

/-- EXU at the entry into TRIPPED (R151). -/
def State.exitTrip (s : State) : State :=
  (match s.exu.cycle with
   | .idle => s.cutterTo .idle
   | .stroke => s.failedStroke.cutterTo .idle
   | .back => s.cutterTo .away
   | .away => s.cutterTo .away).setDivert true

end Sys2Proof.Machine
end

