-- ==== Sys2Proof/Machine/Former.lean ====
section
/-! DEFINITION. The Pleat Former: panel starts (R98–R102), strikes (R104–R106), missed strikes (R109, R110), the end of a
strike (R107, R108) and the trip (R111). -/

namespace Sys2Proof.Machine

/-- The size of one trim unit, in 0.01 mm (R15, R102). -/
def TrimRange.unit : TrimRange → Nat
  | .fine => 2
  | .normal => 5
  | .coarse => 10

/-- A strike missed on a panel: its count rises by 1, saturating at 15, and 15 raises STRIKE_SATURATED (R109, R110). A
panel whose record is gone is counted nowhere. -/
def State.missStrike (s : State) (k : PanelKey) : State :=
  match s.panel? k with
  | none => s
  | some p =>
    if 15 ≤ p.missed then s
    else
      let s1 := s.changePanel k fun q => { q with missed := q.missed + 1 }
      if p.missed = 14 then (s1.raiseAlert .strikeSaturated).setHold .strikeSaturated else s1

/-- The lot on the web whose extent holds a flat point (R96, R98). -/
def State.lotAt (s : State) (c : Coord) : Option Lot := s.webLots.find? fun l => l.holds c

/-- What a panel start takes its class and dose window from (R99, R100). -/
structure PanelClass where
  cls : Nat
  doseMin : Nat
  doseMax : Nat
deriving DecidableEq, Repr

/-- Class and dose limits copied from a class record (R99, R100). -/
def State.copyClass (s : State) (c : Nat) : PanelClass :=
  let r := s.class? c
  { cls := c, doseMin := (r.bind (·.doseMin)).getD 0, doseMax := (r.bind (·.doseMax)).getD 0 }

/-- The class and dose window of a WASTE panel: the ACTIVE roll's, else those of the context it replaces (R100). -/
def State.wasteClass (s : State) : PanelClass :=
  match s.activeRoll?.bind (·.cls) with
  | some c => s.copyClass c
  | none =>
    match s.pfm.forming with
    | some f => { cls := f.cls, doseMin := f.doseMin, doseMax := f.doseMax }
    | none => { cls := 0, doseMin := 0, doseMax := 0 }

/-- The context of a PRODUCT panel of a lot and its pattern, starting at `c` (R98, R99, R102). -/
def State.productContext (s : State) (l : Lot) (p : Pattern) (head c : Coord) : FormContext :=
  let k := (coordDiff c head).toNat / p.flatLen + 1
  let pc := s.copyClass (l.cls.getD 0)
  { key := { lot := l.number, index := k }, kind := .product, start := c, flatLen := p.flatLen,
    pleatedLen := p.pleatedLen, pattern := some p.number, cls := pc.cls, doseMin := pc.doseMin, doseMax := pc.doseMax,
    laneMask := p.laneMask.getD s.rst.line.laneMask, trims := s.rst.line.trims, trimRange := some p.trimRange,
    steps := s.patternSteps p, minStep := p.minStep, nextStep := 1 }

/-- The context of a WASTE panel starting at `c` (R98–R100, R102). -/
def State.wasteContext (s : State) (c : Coord) : FormContext :=
  let pc := s.wasteClass
  let len := s.rst.line.wasteLen.getD 0
  { key := { lot := 0, index := s.pfm.nextWaste }, kind := .waste, start := c, flatLen := len, pleatedLen := len,
    pattern := none, cls := pc.cls, doseMin := pc.doseMin, doseMax := pc.doseMax, laneMask := s.rst.line.laneMask,
    trims := s.rst.line.trims, trimRange := none, steps := [], minStep := 0, nextStep := 1 }

/-- The next waste index, wrapping from 65,535 to 1 (R98). -/
def bumpWaste (n : Nat) : Nat := if 65535 ≤ n then 1 else n + 1

/-- Whether any joint lies in [c, c + F) (R101). -/
def jointIn (joints : List Coord) (c : Coord) (flatLen : Nat) : Bool :=
  joints.any fun j => inExtent j c (advance c flatLen)

/-- The record of a panel that starts with a context (R99); EXU's pending cut fault is taken over (R146). -/
def State.newPanel (s : State) (f : FormContext) (joint : Bool) : Panel :=
  { serial := s.rst.panelSerial, key := f.key, kind := f.kind, pattern := f.pattern, cls := f.cls, doseMin := f.doseMin,
    doseMax := f.doseMax, head := s.exu.b, pleatedLen := f.pleatedLen, forming := true, missed := 0, joint := joint,
    doses := ⟨0, 0, 0, 0⟩, totalDose := 0, cutFault := s.exu.pendingFault, reject := false }

/-- The record created, the one before it FORMED, the pending cut fault spent (R99, R146). -/
def State.createPanel (s : State) (f : FormContext) (joint : Bool) : State :=
  { s with
    rst := { s.rst with
      panels := (s.rst.panels.map fun p => { p with forming := false }) ++ [s.newPanel f joint]
      panelSerial := s.rst.panelSerial + 1 }
    exu := { s.exu with pendingFault := false } }

/-- The forming context replaced; the next panel start armed at its end and the next strike point at step 1 of a PRODUCT
panel (R98, R99). -/
def State.formPanel (s : State) (f : FormContext) : State :=
  { s with pfm := { s.pfm with
      forming := some f
      nextStart := some (advance f.start f.flatLen)
      nextStrike :=
        if f.kind = .product then (strikePoint f.steps 1).map fun d => (advance f.start d, 1) else none } }

/-- The oldest record retired where 39 exist already (R139). -/
def State.makeRoom (s : State) : State :=
  if Config.panelsInUse ≤ s.rst.panels.length then
    match s.rst.panels with
    | [] => s
    | p :: _ => s.retireEarly p
  else s

/-- A panel start at flat coordinate `c` (R98–R102): PRODUCT where a lot on the web holds `c`, else WASTE. -/
def State.panelStart (s : State) (c : Coord) : State :=
  let s1 := s.makeRoom
  match s1.lotAt c with
  | some l =>
    match l.head, l.pattern.bind s1.pattern? with
    | some h, some p =>
      let f := s1.productContext l p h c
      let s2 := s1.putLot { l with started := l.started + 1 }
      ((s2.createPanel f (jointIn l.joints c p.flatLen)).formPanel f).retarget
    | _, _ => s1
  | none =>
    let f := s1.wasteContext c
    let s2 := { s1 with pfm := { s1.pfm with nextWaste := bumpWaste s1.pfm.nextWaste } }
    ((s2.createPanel f false).formPanel f).retarget

/-- The panel start taken when W reaches it plus 20,000 (R98, R6). -/
def State.panelStartArrival (s : State) : State :=
  match s.pfm.nextStart with
  | none => s
  | some c => if Config.bladePlace ≤ coordDiff s.fsu.w c then s.panelStart c else s

/-- The depth output of lane n for a strike: depth × 10 + trim × range step on a lane of the mask, 0 elsewhere (R106). -/
def FormContext.depthOf (f : FormContext) (st : Step) (n : Nat) : Option DepthCommand :=
  if f.laneMask.getLsbD n then
    some { magnitude := st.depth * 10 + (f.trims[n]?).getD 0 * ((f.trimRange.map (·.unit)).getD 0), dir := st.dir }
  else none

/-- DEPTH1 to DEPTH16 at 0 (R105). -/
def depthsAtRest : List (Option DepthCommand) := List.replicate 16 none

/-- A stroke begun for a step of the forming panel (R105, R106): the blade limit is twice the strike period. -/
def State.beginStrike (s : State) (f : FormContext) (st : Step) : State :=
  { s with pfm := { s.pfm with
      strike := true
      cycle := .stroke
      bladeLimit := some (2 * s.rst.line.strikePeriod.getD 0)
      strikeFor := some f.key
      depths := (List.range 16).map (f.depthOf st) } }

/-- What a strike arrival does before the next point is armed (R105, R109): an empty lane mask strikes and misses nothing
(log entry 24). -/
def State.strikeOrMiss (s : State) (f : FormContext) (k : Nat) : State :=
  if f.laneMask = 0#16 then s
  else if s.pfm.cycle = .idle ∧ s.sgv.gov ≠ .tripped then
    match f.steps[k - 1]? with
    | none => s
    | some st => s.beginStrike f st
  else s.missStrike f.key

/-- The next strike point moved on to step k + 1, none after the last (R104). -/
def State.armStrike (s : State) (f : FormContext) (k : Nat) : State :=
  { s with pfm := { s.pfm with
      forming := some { f with nextStep := k + 1 }
      nextStrike := (strikePoint f.steps (k + 1)).map fun d => (advance f.start d, k + 1) } }

/-- The strike arrival of the next strike point (R104). -/
def State.strikeArrival (s : State) : State :=
  match s.pfm.nextStrike, s.pfm.forming with
  | some (c, k), some f =>
    if Config.bladePlace ≤ coordDiff s.fsu.w c then (s.strikeOrMiss f k).armStrike f k else s
  | _, _ => s

/-- The feed count that brings W to the step target marks it reached (R114). -/
def State.targetArrival (s : State) : State :=
  match s.pfm.stepTarget with
  | some (c, false) =>
    if reaches s.fsu.w c then { s with pfm := { s.pfm with stepTarget := some (c, true) } } else s
  | _ => s

/-- The blade bank out of its cycle: STRIKE deasserted, depths 0, limit stopped (R105, R108, R111). -/
def State.bladesTo (s : State) (c : Cycle) : State :=
  { s with pfm := { s.pfm with
      strike := false, cycle := c, bladeLimit := none, strikeFor := none, depths := depthsAtRest } }

/-- The strike in progress counted missed on the panel it was made for (R108, R111). -/
def State.missCurrent (s : State) : State :=
  match s.pfm.strikeFor with
  | none => s
  | some k => s.missStrike k

/-- PFM at the entry into TRIPPED (R111). -/
def State.bladeTrip (s : State) : State :=
  match s.pfm.cycle with
  | .idle => s.bladesTo .idle
  | .stroke => s.missCurrent.bladesTo .idle
  | .back => s.missCurrent.bladesTo .away
  | .away => s.bladesTo .away

/-- The step target cleared (R114). -/
def State.clearTarget (s : State) : State := { s with pfm := { s.pfm with stepTarget := none } }

end Sys2Proof.Machine
end

