-- ==== Sys2Proof/Machine/Tracker.lean ====
section
/-! DEFINITION. The Lot Tracker: entry decisions (R84–R86), joints (R87, R88), the moving of a FEEDING lot's tail (R89) and
a threading under a FEEDING lot (R92). -/

namespace Sys2Proof.Machine

/-- LTR's current segment replaced. -/
def State.setSegment (s : State) (v : Segment) : State := { s with ltr := { s.ltr with segment := v } }

/-- LTR's class change pending set or withdrawn (R62, R83). -/
def State.setClassChange (s : State) (v : Bool) : State := { s with ltr := { s.ltr with classChange := v } }

/-- The Line record's waste length (R171). -/
def State.wasteLength (s : State) : Nat := s.rst.line.wasteLen.getD 0

/-- The start and end of the current segment (R83). -/
def State.segmentExtent (s : State) : Option (Coord × Coord) :=
  match s.ltr.segment with
  | .none => none
  | .waste h t => some (h, t)
  | .lot n =>
    match s.lot? n with
    | some l =>
      match l.head, l.tail with
      | some h, some t => some (h, t)
      | _, _ => none
    | none => none

/-- Whether a lot is eligible at an entry decision (R85). -/
def State.eligible (s : State) (l : Lot) : Bool :=
  match s.activeRoll? with
  | none => false
  | some r =>
    l.state == .queued && !l.held && l.cls.isSome && l.cls == r.cls &&
      (l.restriction == none || l.restriction == some r.tag)

/-- The first waiting lot in line order that is eligible (R85). -/
def State.firstEligible (s : State) : Option Lot :=
  (s.rst.order.filterMap s.lot?).find? fun l => l.waiting && s.eligible l

/-- Starvation ended by a placement (R85). -/
def State.endStarvation (s : State) : State :=
  if s.ltr.starved then
    (({ s with ltr := { s.ltr with starved := false } }).dropHold .lotStarved).dropAlert .lotStarved
  else s

/-- A lot placed at a segment start (R85). -/
def State.placeLot (s : State) (l : Lot) (c : Coord) : State :=
  let l1 := ({ l with state := .feeding, head := some c } : Lot).replanOnWeb (s.lotFlatLen l)
  (((s.placeInOrder l.number).putLot l1).setSegment (.lot l.number)).endStarvation

/-- A waste segment opened at a segment start (R86). -/
def State.openWaste (s : State) (c : Coord) : State := s.setSegment (.waste c (advance c s.wasteLength))

/-- No lot eligible: LOT_STARVED raised, and its hold reason set where the flag is NO (R86). -/
def State.starve (s : State) : State :=
  let s1 := s.raiseAlert .lotStarved
  if s1.ltr.starved then s1
  else ({ s1 with ltr := { s1.ltr with starved := true } }).setHold .lotStarved

/-- The joint flag of the forming panel set where a joint of its lot lies in its flat extent (R101). -/
def State.flagForming (s : State) (n : Nat) (j : Coord) : State :=
  match s.pfm.forming with
  | none => s
  | some f =>
    if f.kind = .product ∧ f.key.lot = n ∧ inExtent j f.start (advance f.start f.flatLen) = true
    then s.changePanel f.key fun p => { p with joint := true }
    else s

/-- A lot with a joint appended, and make-up judged in the same act (R88). -/
def Lot.addJoint (l : Lot) (j : Coord) (flatLen : Nat) : Lot :=
  let l1 := { l with joints := l.joints ++ [j] }
  if l.makeupUsed < l.makeupAllowance.getD 0
  then ({ l1 with makeupUsed := l.makeupUsed + 1 } : Lot).replanOnWeb flatLen
  else l1

/-- A joint assigned to a lot; a fifth is dropped (R88, R101). -/
def State.assignJoint (s : State) (n : Nat) (j : Coord) : State :=
  match s.lot? n with
  | none => s
  | some l =>
    if 4 ≤ l.joints.length then s
    else (s.putLot (l.addJoint j (s.lotFlatLen l))).flagForming n j

/-- The pending joint taken out of its holder at an entry decision: assigned to the lot placed if it holds it, else
dropped (R87). -/
def State.settlePendingJoint (s : State) : State :=
  match s.ltr.pendingJoint with
  | none => s
  | some j =>
    let s1 := { s with ltr := { s.ltr with pendingJoint := none } }
    match s1.feedingLot? with
    | some l => if l.holds j then s1.assignJoint l.number j else s1
    | none => s1

/-- What comes next at a segment start: the first eligible lot, else waste (R85, R86). -/
def State.decideNext (s : State) (c : Coord) : State :=
  if s.ltr.classChange then s.openWaste c
  else
    match s.firstEligible with
    | some l => s.placeLot l c
    | none => (s.openWaste c).starve

/-- One entry decision (R84–R87). -/
def State.entryDecision (s : State) (c : Coord) : State := (s.decideNext c).settlePendingJoint

/-- A lot made FED and tested for completion (R84, R93). -/
def State.makeFed (s : State) (n : Nat) : State :=
  match s.lot? n with
  | none => s
  | some l => (s.putLot { l with state := .fed }).testCompletion n

/-- The end of the current segment arrived (R84): the old segment finished, the next opened at its end. -/
def State.segmentEnd (s : State) : State :=
  match s.ltr.segment, s.segmentExtent with
  | .lot n, some (_, t) => (s.makeFed n).entryDecision t
  | .waste _ _, some (_, t) => s.entryDecision t
  | _, _ => s

/-- Whether W has reached the end of the current segment (R83, R84). -/
def State.segmentDue (s : State) : Bool :=
  match s.segmentExtent with
  | none => false
  | some (_, t) => reaches s.fsu.w t

/-- The arrival of the segment's end, where W has reached it. -/
def State.segmentArrival (s : State) : State := if s.segmentDue then s.segmentEnd else s

/-- A joint handed to LTR, judged against the current segment (R87). -/
def State.handJoint (s : State) (j : Coord) : State :=
  match s.segmentExtent with
  | none => s
  | some (h, t) =>
    if inExtent j h t then
      match s.ltr.segment with
      | .lot n => s.assignJoint n j
      | _ => s
    else if reaches j t then
      match s.ltr.pendingJoint with
      | none => { s with ltr := { s.ltr with pendingJoint := some j } }
      | some _ => s
    else s

/-- The flat coordinate, as a number of kept panels, at which a threading of another class ends a lot: none with W behind
the head, else up to the panel W lies in, with that panel itself if it has started at the blade; never fewer than have started
(R92, R94; the last after a long reverse run is log entry 37). -/
def keptByThreading (w head : Coord) (flatLen planned started : Nat) : Nat :=
  let d := coordDiff w head
  let k := d.toNat / flatLen
  keepStarted started planned (if d < 0 then 0 else if started < k + 1 then k else k + 1)

/-- The waste opened from `c` at a threading: the first segment from `c` on whose end lies ahead of W (R92). -/
def State.openWasteFrom (s : State) (c : Coord) : State :=
  let d := coordDiff s.fsu.w c
  if d < 0 then s.openWaste c else s.openWaste (advance c (d.toNat / s.wasteLength * s.wasteLength))

/-- A threading of another class ends the FEEDING lot and opens waste (R92). -/
def State.endLotByThreading (s : State) (l : Lot) : State :=
  match l.head with
  | none => s
  | some h =>
    let len := s.lotFlatLen l
    let kept := keptByThreading s.fsu.w h len l.planned l.started
    let s1 := s.putLot { l.cutTo kept len with state := .fed }
    ((s1.openWasteFrom (advance h (kept * len))).settlePendingJoint).testCompletion l.number

/-- A threading under a FEEDING lot (R92). -/
def State.threadUnderLot (s : State) : State :=
  match s.feedingLot?, s.activeRoll? with
  | some l, some r => if r.cls = l.cls then s.assignJoint l.number s.fsu.w else s.endLotByThreading l
  | _, _ => s

/-- The tail of a FEEDING lot moved by a panels-ordered commit: where it no longer lies ahead of W the lot is FED and the
entry decision is made at the new tail (R84, R89). -/
def State.tailMoved (s : State) (n : Nat) : State :=
  match s.lot? n with
  | none => s
  | some l =>
    match l.tail with
    | none => s
    | some t => if reaches s.fsu.w t then (s.makeFed n).entryDecision t else s

end Sys2Proof.Machine
end

