-- ==== Sys2Proof/Machine/Governor.lean ====
section
/-! DEFINITION. The governor's moves (R154–R159) with what each unit does at them, threading (R56), and the abandoning of
a splice (R68, R69), which the moves need. -/

namespace Sys2Proof.Machine

/-! ### The splice abandoned (R68) -/

/-- The splice phase before the joint (R68). -/
def SplicePhase.beforeJoint (p : SplicePhase) : Bool := p == .matching || p == .press

/-- The splice head is on the web (R158). -/
def SplicePhase.headOn (p : SplicePhase) : Bool := p == .press || p == .cut || p == .retract

/-- The incoming station goes back to PREPARED where the splice had it MATCHING or MATCHED (R68). -/
def State.releaseIncoming (s : State) : State :=
  match s.fsu.incoming with
  | none => s
  | some x => if s.station x = .matching ∨ s.station x = .matched then s.setStation x .prepared else s

/-- The splice operation over, with an outcome: EXTEND and KNIFE deasserted, limits stopped, phase IDLE (R67, R68). -/
def State.spliceOver (s : State) (o : SpliceOutcome) : State :=
  { s with fsu := { s.fsu with
      phase := .idle, outcome := o, incoming := none, outgoing := none, limit := none, matchCount := none,
      extend := false, knife := false } }

/-- A splice abandoned, before its joint or after it (R68). -/
def State.abandonSplice (s : State) (o : SpliceOutcome) : State :=
  if s.fsu.phase = .idle then s
  else
    ((if s.fsu.phase.beforeJoint then s.releaseIncoming else s).setClassChange false).spliceOver o

/-! ### The tension lock's clears (R72) -/

/-- An expected clear: UNLOCKED, the count from 0 again, no loss watch (R72, log entry 16). -/
def State.clearTension (s : State) : State :=
  { s with fsu := { s.fsu with locked := false, lockCount := s.fsu.lockCount.map fun _ => 0, lossWatch := none } }

/-! ### Expiring (R58) -/

/-- The splice reserve condition or the core condition for the ACTIVE roll on a station (R58). -/
def State.expiringHolds (s : State) (x : Station) (r : Roll) : Bool :=
  (s.rst.line.configured && decide (r.remaining ≤ s.rst.line.spliceReserve.getD 0)) || s.asserted x.coreNear

/-- FSU judges Expiring of the ACTIVE roll (R58). -/
def State.judgeExpiring (s : State) : State :=
  match s.activeStation with
  | none => s
  | some x =>
    match s.boundRoll? x with
    | none => s
    | some r =>
      if r.expiring = false ∧ s.expiringHolds x r = true
      then (s.putRoll { r with expiring := true }).raiseAlert .rollLow
      else s

/-- Whether the ACTIVE roll's Expiring is YES. -/
def State.activeExpiring (s : State) : Bool := s.activeRoll?.any (·.expiring)

/-! ### Threading (R56) -/

/-- Threading of a station: FEEDING, its roll ACTIVE with its initial length, the lock UNLOCKED, Expiring judged (R56),
then LTR's part (R92) and HSU's (R119). -/
def State.thread (s : State) (x : Station) : State :=
  let s1 := s.setStation x .feeding
  let s2 :=
    match s1.boundRoll? x with
    | none => s1
    | some r => s1.putRoll { r with state := .active, remaining := r.initLen.getD 0 }
  let s3 := { s2 with fsu := { s2.fsu with locked := false, lockCount := s2.fsu.lockCount.map fun _ => 0 } }
  (s3.judgeExpiring.threadUnderLot).retarget

/-- FSU's threading test (R56). -/
def State.threadTest (s : State) : State :=
  match s.rst.line.requested with
  | none => s
  | some x =>
    if s.activeStation = none ∧ s.sgv.gov = .stopped ∧ s.station x = .prepared then s.thread x else s

/-! ### Entries into the governor's states (R154) -/

/-- HALTING: run intent cleared, standstill NO with its window restarted (R161), zones to STANDBY (R120), a step
abandoned (R114), a splice in MATCHING abandoned (R69). -/
def State.enterHalting (s : State) : State :=
  let s1 := { s with sgv := { s.sgv with
    gov := .halting, intent := false, stopPending := false, standstill := false, standWindow := some 200 } }
  let s2 := s1.zonesToStandby.clearTarget
  if s2.fsu.phase = .matching then s2.abandonSplice .abandoned else s2

/-- A stop deferred behind a splice (R158). -/
def State.deferStop (s : State) : State :=
  { s with sgv := { s.sgv with intent := false, stopPending := true, gov := .creep } }

/-- What STOP and a stop cause do to the governor (R157, R158, R163). -/
def State.stopLine (s : State) : State :=
  match s.sgv.gov with
  | .stepping => s.enterHalting
  | .creep => if s.fsu.phase.headOn then s.deferStop else s.enterHalting
  | .run => if s.fsu.phase.headOn then s.deferStop else s.enterHalting
  | .stopped => s
  | .halting => s
  | .tripped => s

/-- A stop cause raised, with the alert of its name (R157). -/
def State.raiseStop (s : State) (c : StopCause) : State := ((s.raiseAlert c.alert).addStop c).stopLine

/-- The entry into TRIPPED, with what every unit does at it (R159). -/
def State.enterTripped (s : State) : State :=
  let s1 := { s with sgv := { s.sgv with gov := .tripped, intent := false, stopPending := false } }
  ((((s1.abandonSplice .abandoned).bladeTrip).exitTrip).zonesToStandby).clearTarget

/-- A trip cause raised, with its alert (R159). -/
def State.raiseTrip (s : State) (c : TripCause) : State :=
  let s1 := (s.raiseAlert c.alert).addTrip c
  if s1.sgv.gov = .tripped then s1 else s1.enterTripped

/-- The entry into STOPPED: no step target, zones in STANDBY or OFF (R120), FSU's threading test (R56, R161). -/
def State.enterStopped (s : State) : State :=
  let s1 := { s with sgv := { s.sgv with gov := .stopped, intent := false } }
  (s1.clearTarget.zonesToStandby).threadTest

/-- The phase has become IDLE with a stop pending: HALTING (R158). -/
def State.haltIfPending (s : State) : State := if s.sgv.stopPending then s.enterHalting else s

/-- An assertion of E_STOP (R160): alert, trip cause, HSU's part. HSU takes the assertion and the entry into TRIPPED in
either order (R132); where a zone not OFF makes the order show, it is a free choice (log entry 12). -/
def State.assertEStop (s : State) : State :=
  if s.sgv.gov ≠ .tripped ∧ s.hsu.zones.any (fun _ v => v.heating) = true then
    if Config.eStopHeatFirst s.freeIdx then (s.heatEStop.raiseTrip .eStop).takeFree
    else (s.raiseTrip .eStop).heatEStop.takeFree
  else (s.raiseTrip .eStop).heatEStop

/-! ### The step (R113, R114) -/

/-- A step is complete when its target has been reached, the cycle is IDLE and the web stands still (R114). -/
def State.stepComplete (s : State) : Bool :=
  s.sgv.gov == .stepping && s.pfm.cycle == .idle && s.sgv.standstill &&
    (match s.pfm.stepTarget with
     | some (_, true) => true
     | _ => false)

/-- The completion of a step reported to SGV (R114). -/
def State.testStep (s : State) : State := if s.stepComplete then s.enterStopped else s

end Sys2Proof.Machine
end

