-- ==== Sys2Proof/Machine/Operands.lean ====
section
/-! DEFINITION. The bytes of the ports (Chapter 11): numbers, the CRC (R178), status codes, tables and keys (R201), the
decoding of a request's operands (R202), and which fields each table has (R203). -/

namespace Sys2Proof.Machine

/-! ### Numbers (R201) -/

/-- An unsigned number from its bytes, most significant first (R201). -/
def numOf (bs : List Byte) : Nat := bs.foldl (fun acc b => acc * 256 + b.toNat) 0

/-- A number as `w` bytes, most significant first (R201). -/
def bytesOf : Nat → Nat → List Byte
  | 0, _ => []
  | w + 1, n => BitVec.ofNat 8 (n / 256 ^ w) :: bytesOf w n

/-- A coordinate as 5 bytes (R201). -/
def coordBytes (c : Coord) : List Byte := bytesOf 5 c.toNat

/-- A flag as one byte: 0 or 1 (section 11.2). -/
def flagByte (b : Bool) : Byte := if b then 1#8 else 0#8

/-- An optional field: a presence byte and the value bytes, zeros when absent (R203). -/
def optBytes (w : Nat) (v : Option (List Byte)) : List Byte :=
  match v with
  | none => 0#8 :: List.replicate w 0#8
  | some bs => 1#8 :: bs

/-! ### The CRC (R178) -/

/-- One bit of the CRC: polynomial 0x1021, most significant bit first (R178). -/
def crcBit (c : BitVec 16) : BitVec 16 := if c.msb then (c <<< 1) ^^^ 0x1021#16 else c <<< 1

/-- One byte taken into the CRC (R178). -/
def crcByte (c : BitVec 16) (b : Byte) : BitVec 16 :=
  crcBit <| crcBit <| crcBit <| crcBit <| crcBit <| crcBit <| crcBit <| crcBit <| c ^^^ (b.setWidth 16 <<< 8)

/-- The CRC of a run of bytes, from 0xFFFF (R178). -/
def crc (bs : List Byte) : BitVec 16 := bs.foldl crcByte 0xFFFF#16

/-- A frame on the wire: start byte, length, body, CRC high byte first (section 10.1, R178). -/
def frameOf (body : List Byte) : List Byte :=
  let covered := BitVec.ofNat 8 body.length :: body
  0xA5#8 :: (covered ++ bytesOf 2 (crc covered).toNat)

/-! ### Status codes (section 11.3) -/

/-- The status codes (R200). -/
inductive Status where
  | ok
  | badFrame
  | unknownCommand
  | badTable
  | noSuchRecord
  | exists_
  | tableFull
  | held
  | notOpen
  | alreadyOpen
  | readOnly
  | privilege
  | keyPosition
  | outOfRange
  | locked
  | fixed
  | invalid
  | poolFull
  | inUse
  | wrongState
  | gone
  | notConfigured
  | notReady
  | classStep
  | end_
deriving DecidableEq, Repr

/-- The code of a status (section 11.3). -/
def Status.code : Status → Byte
  | .ok => 0x00#8
  | .badFrame => 0x01#8
  | .unknownCommand => 0x02#8
  | .badTable => 0x03#8
  | .noSuchRecord => 0x04#8
  | .exists_ => 0x05#8
  | .tableFull => 0x06#8
  | .held => 0x07#8
  | .notOpen => 0x08#8
  | .alreadyOpen => 0x09#8
  | .readOnly => 0x0A#8
  | .privilege => 0x0B#8
  | .keyPosition => 0x0C#8
  | .outOfRange => 0x0D#8
  | .locked => 0x0E#8
  | .fixed => 0x0F#8
  | .invalid => 0x10#8
  | .poolFull => 0x11#8
  | .inUse => 0x12#8
  | .wrongState => 0x13#8
  | .gone => 0x14#8
  | .notConfigured => 0x15#8
  | .notReady => 0x16#8
  | .classStep => 0x17#8
  | .end_ => 0x18#8

/-- A response: status and payload (R179, R204). -/
structure Reply where
  status : Status
  payload : List Byte := []
deriving DecidableEq, Repr

/-- The body of a response (R179). -/
def Reply.body (r : Reply) : List Byte := r.status.code :: r.payload

/-- A response of a status alone. -/
def say (st : Status) : Reply := { status := st }

/-! ### Tables and keys (R201) -/

/-- The table of a table byte (R201). -/
def tableOf : Nat → Option Table
  | 0x01 => some .pattern
  | 0x02 => some .cls
  | 0x03 => some .roll
  | 0x04 => some .lot
  | 0x05 => some .panel
  | 0x06 => some .line
  | _ => none

/-- The byte of a table (R201). -/
def Table.code : Table → Byte
  | .pattern => 0x01#8
  | .cls => 0x02#8
  | .roll => 0x03#8
  | .lot => 0x04#8
  | .panel => 0x05#8
  | .line => 0x06#8

/-- The payload that names a record: table and key (R204). -/
def nameRecord (t : Table) (key : Nat) : List Byte := t.code :: bytesOf 4 key

/-- The operands table and key, with what follows them (R201). -/
structure Named where
  table : Nat
  key : Nat
  rest : List Byte
deriving DecidableEq, Repr

/-- Table and key read from the operand bytes (R201): none where they are fewer than five. -/
def readNamed : List Byte → Option Named
  | t :: k3 :: k2 :: k1 :: k0 :: rest => some { table := t.toNat, key := numOf [k3, k2, k1, k0], rest := rest }
  | _ => none

/-- The station of a station code (section 11.2). -/
def stationOf : Nat → Option (Option Station)
  | 0 => some none
  | 1 => some (some .a)
  | 2 => some (some .b)
  | _ => none

/-- A station's code (section 11.2). -/
def stationCode : Option Station → Byte
  | none => 0#8
  | some .a => 1#8
  | some .b => 2#8

/-! ### Values (R203) -/

/-- A number of a width within a range (R203). -/
def numValue (w lo hi : Nat) (bs : List Byte) : Option Nat :=
  if bs.length = w ∧ lo ≤ numOf bs ∧ numOf bs ≤ hi then some (numOf bs) else none

/-- A flag of one byte (R203). -/
def flagValue (bs : List Byte) : Option Bool := (numValue 1 0 1 bs).map (· == 1)

/-- A name tag: 8 characters 0x20–0x7E (R203). -/
def nameValue (bs : List Byte) : Option (List Byte) :=
  if bs.length = 8 ∧ (bs.all fun b => decide (0x20 ≤ b.toNat) && decide (b.toNat ≤ 0x7E)) = true then some bs else none

/-- An optional field of `w` value bytes: a presence byte first; when absent the value bytes are not read (R203). -/
def optValue {α : Type} (w : Nat) (read : List Byte → Option α) : List Byte → Option (Option α)
  | [] => none
  | p :: bs =>
    if bs.length = w then
      if p = 0#8 then some none
      else if p = 1#8 then (read bs).map some
      else none
    else none

/-- A step: advance (2), depth (2), direction (1), each in its range (R15, R203). -/
def stepValue : List Byte → Option Step
  | [a1, a0, d1, d0, dir] =>
    match numValue 2 40 1500 [a1, a0], numValue 2 20 300 [d1, d0], numValue 1 0 1 [dir] with
    | some a, some d, some r => some { advance := a, depth := d, dir := if r = 0 then .left else .right }
    | _, _, _ => none
  | _ => none

/-- A style code (section 11.2). -/
def styleValue (bs : List Byte) : Option Style :=
  (numValue 1 0 2 bs).map fun n => if n = 0 then .knife else if n = 1 then .box else .accordion

/-- A trim range code (section 11.2). -/
def trimRangeValue (bs : List Byte) : Option TrimRange :=
  (numValue 1 0 2 bs).map fun n => if n = 0 then .fine else if n = 1 then .normal else .coarse

/-- A station code as a field value (section 11.2). -/
def stationValue (bs : List Byte) : Option (Option Station) := (numValue 1 0 2 bs).bind stationOf

/-- A lane set with at least one lane (R15). -/
def someLanes (bs : List Byte) : Option LaneSet := (numValue 2 1 0xFFFF bs).map (BitVec.ofNat 16)

/-! ### The fields a roll's CREATE carries (R48, R201, R202) -/

/-- The field items of a roll's CREATE read into a staging copy, their values not judged: class (1 byte), initial length
(4) and intended station (1), each at most once (R201, R202). The second part says whether every value lies in its
range (R48). -/
def rollItems : Nat → List Byte → Option (RollStage × Bool)
  | _, [] => some ({}, true)
  | 0, _ :: _ => none
  | n + 1, 0x01#8 :: c :: rest =>
    (rollItems n rest).bind fun r =>
      if r.1.cls.isSome then none
      else some ({ r.1 with cls := some c.toNat }, r.2 && (numValue 1 1 16 [c]).isSome)
  | n + 1, 0x02#8 :: l3 :: l2 :: l1 :: l0 :: rest =>
    (rollItems n rest).bind fun r =>
      if r.1.initLen.isSome then none
      else some ({ r.1 with initLen := some (numOf [l3, l2, l1, l0]) },
        r.2 && (numValue 4 1 30000000 [l3, l2, l1, l0]).isSome)
  | n + 1, 0x03#8 :: x :: rest =>
    (rollItems n rest).bind fun r =>
      if r.1.intended.isSome then none
      else some ({ r.1 with intended := some ((stationOf x.toNat).getD none) }, r.2 && (stationValue [x]).isSome)
  | _ + 1, _ :: _ => none

/-! ### The fields of the tables (section 11.2) -/

/-- How a field is indexed (R203): not at all, by an array index 1–n, or by an index 1–n of a list with a length. -/
inductive Elements where
  | single
  | array (n : Nat)
  | list (n : Nat)
deriving DecidableEq, Repr

/-- One row of a field table (section 11.2). -/
structure FieldRow where
  id : Nat
  elements : Elements := .single
deriving DecidableEq, Repr

/-- The field tables (section 11.2); status fields are 0x40 plus the row of section 11.5. -/
def fieldRows : Table → List FieldRow
  | .pattern => [⟨0x01, .single⟩, ⟨0x02, .single⟩, ⟨0x03, .single⟩, ⟨0x04, .single⟩, ⟨0x05, .single⟩, ⟨0x06, .single⟩,
      ⟨0x07, .list 64⟩, ⟨0x20, .single⟩, ⟨0x21, .single⟩, ⟨0x22, .single⟩, ⟨0x23, .single⟩, ⟨0x24, .single⟩,
      ⟨0x25, .single⟩, ⟨0x26, .list 8⟩]
  | .cls => [⟨0x01, .single⟩, ⟨0x02, .array 4⟩, ⟨0x03, .single⟩, ⟨0x04, .single⟩, ⟨0x05, .single⟩, ⟨0x20, .single⟩,
      ⟨0x21, .single⟩, ⟨0x22, .single⟩]
  | .roll => [⟨0x01, .single⟩, ⟨0x02, .single⟩, ⟨0x03, .single⟩, ⟨0x04, .single⟩, ⟨0x20, .single⟩, ⟨0x21, .single⟩,
      ⟨0x22, .single⟩, ⟨0x23, .single⟩, ⟨0x24, .single⟩]
  | .lot => [⟨0x01, .single⟩, ⟨0x02, .single⟩, ⟨0x03, .single⟩, ⟨0x04, .single⟩, ⟨0x05, .single⟩, ⟨0x06, .single⟩,
      ⟨0x07, .single⟩, ⟨0x20, .single⟩, ⟨0x21, .single⟩, ⟨0x22, .single⟩, ⟨0x23, .list 4⟩, ⟨0x24, .single⟩,
      ⟨0x25, .single⟩, ⟨0x26, .single⟩, ⟨0x27, .single⟩, ⟨0x28, .single⟩, ⟨0x29, .array 6⟩, ⟨0x2A, .single⟩]
  | .panel => [⟨0x01, .single⟩, ⟨0x20, .single⟩, ⟨0x21, .single⟩, ⟨0x22, .single⟩, ⟨0x23, .single⟩, ⟨0x24, .single⟩,
      ⟨0x25, .single⟩, ⟨0x26, .single⟩, ⟨0x27, .single⟩, ⟨0x28, .single⟩, ⟨0x29, .single⟩, ⟨0x2A, .single⟩,
      ⟨0x2B, .single⟩, ⟨0x2C, .array 4⟩, ⟨0x2D, .single⟩, ⟨0x2E, .single⟩]
  | .line => [⟨0x01, .single⟩, ⟨0x02, .single⟩, ⟨0x03, .single⟩, ⟨0x04, .single⟩, ⟨0x05, .single⟩, ⟨0x06, .single⟩,
      ⟨0x07, .single⟩, ⟨0x08, .single⟩, ⟨0x09, .single⟩, ⟨0x10, .single⟩, ⟨0x11, .single⟩, ⟨0x12, .single⟩,
      ⟨0x13, .single⟩, ⟨0x14, .single⟩, ⟨0x15, .array 16⟩, ⟨0x41, .single⟩, ⟨0x42, .single⟩, ⟨0x43, .single⟩,
      ⟨0x44, .single⟩, ⟨0x45, .single⟩, ⟨0x46, .single⟩, ⟨0x47, .single⟩, ⟨0x48, .single⟩, ⟨0x49, .single⟩,
      ⟨0x4A, .single⟩, ⟨0x4B, .single⟩, ⟨0x4C, .single⟩, ⟨0x4D, .single⟩, ⟨0x4E, .single⟩, ⟨0x4F, .single⟩,
      ⟨0x50, .single⟩, ⟨0x51, .single⟩, ⟨0x52, .single⟩, ⟨0x53, .single⟩, ⟨0x54, .single⟩, ⟨0x55, .single⟩,
      ⟨0x56, .single⟩, ⟨0x57, .single⟩, ⟨0x58, .single⟩, ⟨0x59, .single⟩, ⟨0x5A, .array 4⟩, ⟨0x5B, .single⟩,
      ⟨0x5C, .single⟩]

/-- A table's row for a field identifier, if it has the field. -/
def fieldRow? (t : Table) (id : Nat) : Option FieldRow := (fieldRows t).find? fun r => r.id == id

/-- Whether an index is in the field's range at a PUT (R203): 0 for a field without elements, else 1 to the greatest. -/
def Elements.admits (e : Elements) (idx : Nat) : Bool :=
  match e with
  | .single => idx == 0
  | .array n => decide (1 ≤ idx) && decide (idx ≤ n)
  | .list n => decide (1 ≤ idx) && decide (idx ≤ n)

/-- Whether an index may be read at a GET (R190, R203): a list field's index 0 reads its length. -/
def Elements.admitsGet (e : Elements) (idx : Nat) : Bool :=
  match e with
  | .single => idx == 0
  | .array n => decide (1 ≤ idx) && decide (idx ≤ n)
  | .list n => decide (idx ≤ n)

/-- Identifiers from 0x20 are maintained fields, those of the Line record's status from 0x40 (R203). -/
def isHostField (id : Nat) : Bool := decide (id < 0x20)

/-- The four host fields a pendant may PUT (R182). -/
def pendantMayPut : Table → Nat → Bool
  | .roll, 0x04 => true
  | .lot, 0x06 => true
  | .panel, 0x01 => true
  | .line, 0x10 => true
  | _, _ => false

end Sys2Proof.Machine
end

