-- ==== Sys2Proof/Machine/Splice.lean ====
section
/-! DEFINITION. The Feed and Splice Unit: the splice checks (R60), its beginning (R61, R62), matching (R63), press, joint,
cut and retract (R64–R67), length accounting (R57, R69) and the tension lock (R72, R73). -/

namespace Sys2Proof.Machine

/-- Two setpoints differ by at most 150, in either direction (R44). -/
def nearSetpoints (x y : Option Nat) : Bool :=
  match x, y with
  | some a, some b => decide (a ≤ b + 150) && decide (b ≤ a + 150)
  | _, _ => false

/-- Two class records are compatible (R44). -/
def FabricClass.compatible (x y : FabricClass) : Bool :=
  allZones.all fun z => nearSetpoints (x.setpoints.get z) (y.setpoints.get z)

/-- Two class numbers name compatible classes (R44). -/
def State.classesCompatible (s : State) (x y : Option Nat) : Bool :=
  match x.bind s.class?, y.bind s.class? with
  | some a, some b => a.compatible b
  | _, _ => false

/-- The splice head is at rest (R60, check 4). -/
def State.headAtRest (s : State) : Bool := s.asserted .retracted && !s.asserted .extended

/-- The checks of a splice, in order (R60); none where it may begin. -/
def State.spliceRefusal (s : State) : Option Status :=
  if s.running = false then some .notReady
  else if s.fsu.phase ≠ .idle then some .notReady
  else
    match s.rst.line.requested with
    | none => some .notReady
    | some x =>
      if s.station x ≠ .prepared then some .notReady
      else if s.headAtRest = false then some .notReady
      else
        let incoming := (s.boundRoll? x).bind (·.cls)
        if s.classesCompatible incoming (s.activeRoll?.bind (·.cls)) = false then some .notReady
        else
          match s.feedingLot? with
          | none => none
          | some l =>
            if incoming ≠ l.cls then some .classStep
            else if 4 ≤ l.joints.length then some .notReady
            else none

/-- The beginning of a splice (R62). -/
def State.beginSplice (s : State) : State :=
  match s.rst.line.requested with
  | none => s
  | some x =>
    let differs := (s.boundRoll? x).bind (·.cls) != s.activeRoll?.bind (·.cls)
    let s1 := { s with fsu := { s.fsu with
      phase := .matching, incoming := some x, outgoing := s.activeStation, limit := some 20000, matchCount := none } }
    let s2 := s1.setStation x .matching
    if differs then s2.setClassChange true else s2

/-- The last splice outcome set (section 4.6). -/
def State.setOutcome (s : State) (o : SpliceOutcome) : State := { s with fsu := { s.fsu with outcome := o } }

/-- The conditions of an auto-splice, all together (R61). -/
def State.autoSpliceReady (s : State) : Bool :=
  s.rst.line.autoSplice && s.running && s.fsu.phase == .idle &&
    (match s.activeStation, s.activeRoll? with
     | some x, some r => r.expiring && !r.attemptSpent && s.station x.other == .prepared
     | _, _ => false)

/-- An auto-splice attempted: requested station, attempt, checks, and beginning or refusal (R61). -/
def State.attemptAutoSplice (s : State) : State :=
  match s.activeStation, s.activeRoll? with
  | some x, some r =>
    let s1 := { s with rst := { s.rst with line := { s.rst.line with requested := some x.other } } }
    let refusal := s1.spliceRefusal
    let s2 := s1.putRoll { r with attemptSpent := true }
    match refusal with
    | some _ => (s2.setOutcome .refused).raiseAlert .spliceFailed
    | none => s2.beginSplice
  | _, _ => s

/-- FSU's auto-splice test (R61). -/
def State.autoSpliceTest (s : State) : State := if s.autoSpliceReady then s.attemptAutoSplice else s

/-- What follows the end of a splice: a pending stop takes effect (R158), and then the auto-splice test is made (R61); that order
within the act is the model's choice (log entry 41). -/
def State.afterSplice (s : State) : State := s.haltIfPending.autoSpliceTest

/-! ### MATCHING and PRESS (R63, R64) -/

/-- The measured surface speed of a station (R10). -/
def State.surfSpeed (s : State) : Station → Int
  | .a => s.fsu.surfA.speed
  | .b => s.fsu.surfB.speed

/-- A station is in band: its surface speed within 10 ‰ of the web speed (R63). -/
def State.inBand (s : State) (x : Station) : Bool :=
  decide (((s.surfSpeed x - s.fsu.web.speed).natAbs : Int) * 1000 ≤ 10 * s.fsu.web.speed)

/-- The incoming station judged at a refresh, in MATCHING (R63). -/
def State.judgeBand (s : State) : State :=
  match s.fsu.phase, s.fsu.incoming with
  | .matching, some x =>
    if s.inBand x then { s with fsu := { s.fsu with matchCount := some (s.fsu.matchCount.getD 0) } }
    else
      let s1 := { s with fsu := { s.fsu with matchCount := none } }
      if s.station x = .matched then s1.setStation x .matching else s1
  | _, _ => s

/-- The counts in band that make a station MATCHED (R63). -/
def matchCounts : Nat := 2000

/-- The incoming station has stayed in band over 2,000 forward counts: MATCHED (R63). -/
def State.matchReached (s : State) : State :=
  match s.fsu.phase, s.fsu.incoming, s.fsu.matchCount with
  | .matching, some x, some n =>
    if matchCounts ≤ n ∧ s.station x = .matching then s.setStation x .matched else s
  | _, _, _ => s

/-- The entry to PRESS: EXTEND driven, 400 ms limit (R64). -/
def State.enterPress (s : State) : State :=
  { s with fsu := { s.fsu with phase := .press, extend := true, limit := some 400 } }

/-- Whether the incoming station is MATCHED. -/
def State.incomingMatched (s : State) : Bool := s.fsu.incoming.any fun x => s.station x == .matched

/-- MATCHING passes to PRESS where the incoming station is MATCHED and the web at or below the splice speed (R63). -/
def State.pressTest (s : State) : State :=
  if s.fsu.phase = .matching ∧ s.incomingMatched = true ∧ s.fsu.web.speed ≤ (s.rst.line.spliceSpeed.getD 0 : Nat)
  then s.enterPress else s

/-- A forward count in the match count (R63). -/
def State.countMatch (s : State) : State :=
  if s.fsu.phase = .matching then
    { s with fsu := { s.fsu with matchCount := s.fsu.matchCount.map fun n => min matchCounts (n + 1) } }
  else s

/-! ### The joint and the end (R65–R67) -/

/-- A roll run out by a joint: SPENT, its remaining length frozen (R65). -/
def State.spendOutgoing (s : State) : State :=
  match s.fsu.outgoing with
  | none => s
  | some x =>
    let s1 := s.setStation x .joined
    match s.boundRoll? x with
    | none => s1
    | some r => s1.putRoll { r with state := .spent }

/-- The incoming station FEEDING, its roll ACTIVE with its initial length (R65). -/
def State.feedIncoming (s : State) : State :=
  match s.fsu.incoming with
  | none => s
  | some x =>
    let s1 := s.setStation x .feeding
    match s.boundRoll? x with
    | none => s1
    | some r => s1.putRoll { r with state := .active, remaining := r.initLen.getD 0 }

/-- The joint made at W (R65). -/
def State.makeJoint (s : State) : State :=
  let s1 := ((s.spendOutgoing.feedIncoming).setClassChange false).handJoint s.fsu.w
  let s2 := s1.judgeExpiring.retarget
  { s2 with fsu := { s2.fsu with phase := .cut, knife := true, limit := some 300 } }

/-- CUT passes to RETRACT: KNIFE and EXTEND deasserted, 400 ms limit (R66, R67). -/
def State.enterRetract (s : State) : State :=
  { s with fsu := { s.fsu with phase := .retract, knife := false, extend := false, limit := some 400 } }

/-- The outgoing station goes to RUNDOWN at the end of a completed splice, where it is still JOINED (R67, R71). -/
def State.runDownOutgoing (s : State) : State :=
  match s.fsu.outgoing with
  | none => s
  | some x => if s.station x = .joined then s.setStation x .rundown else s

/-- A splice ends COMPLETED at the rise of RETRACTED (R67). -/
def State.completeSplice (s : State) : State := ((s.runDownOutgoing.clearTension).spliceOver .completed).afterSplice

/-- A splice ends at the retract limit: the outgoing station stays JOINED (R67). The stop cause comes before the phase change,
where R158 allows either order: it is deferred, and the governor is in HALTING when the auto-splice test is made (the model's
choice, log entry 40). -/
def State.retractTimeout (s : State) : State :=
  (((s.raiseStop .spliceSensor).clearTension).spliceOver .retractTimeout).afterSplice

/-- The ACTIVE roll has run out: its effect on a splice, then the stop cause (R57, R69). No auto-splice test is made between the
end of an abandoned splice and the stop cause that follows it (the model's choice, log entry 41). -/
def State.rollOut (s : State) : State :=
  (if s.fsu.phase = .matching then
    if s.incomingMatched then s.enterPress else s.abandonSplice .abandoned
   else s).raiseStop .rollOut

/-! ### Length accounting (R57) -/

/-- One feed count charged to the ACTIVE roll (R57). -/
def Roll.charge (r : Roll) (d : Travel) : Roll :=
  match d with
  | .forward => { r with remaining := r.remaining - 1 }
  | .reverse => { r with remaining := if r.remaining < r.initLen.getD 0 then r.remaining + 1 else r.remaining }

/-- The ACTIVE roll's length after a feed count. -/
def State.chargeRoll (s : State) (d : Travel) : State :=
  match s.activeRoll? with
  | none => s
  | some r => s.putRoll (r.charge d)

/-- Whether a feed count brings the ACTIVE roll's remaining length from 1 to 0 (R57). -/
def State.rollsOut (s : State) (d : Travel) : Bool := d == .forward && s.activeRoll?.any fun r => r.remaining == 1

/-! ### The tension lock (R72, R73) -/

/-- The forward counts in band that lock (R72). -/
def lockCounts : Nat := 3000

/-- The forward counts in RUN after which a lost lock holds the line (R73). -/
def watchCounts : Nat := 20000

/-- The lock becomes LOCKED, which ends a loss watch and withdraws the TENSION hold reason (R72, R73). -/
def State.lockReached (s : State) : State :=
  match s.fsu.lockCount with
  | none => s
  | some n =>
    if lockCounts ≤ n ∧ s.fsu.locked = false
    then ({ s with fsu := { s.fsu with locked := true, lossWatch := none } }).dropHold .tension
    else s

/-- The loss watch has reached its count with the lock UNLOCKED: the TENSION hold reason (R73). -/
def State.watchReached (s : State) : State :=
  match s.fsu.lossWatch with
  | none => s
  | some n => if watchCounts ≤ n ∧ s.fsu.locked = false then s.setHold .tension else s

/-- A forward count in the lock count, and in the loss watch while the governor is in RUN (R72, R73). -/
def State.countTension (s : State) : State :=
  { s with fsu := { s.fsu with
      lockCount := s.fsu.lockCount.map fun n => min lockCounts (n + 1)
      lossWatch := if s.sgv.gov = .run then s.fsu.lossWatch.map fun n => min watchCounts (n + 1) else s.fsu.lossWatch } }

/-- The count in band ends; a LOCKED lock is lost (R72, R73). -/
def State.endBand (s : State) : State :=
  let s1 := { s with fsu := { s.fsu with lockCount := none } }
  if s.fsu.locked then
    ({ s1 with fsu := { s1.fsu with locked := false, lossWatch := some (s1.fsu.lossWatch.getD 0) } }).raiseAlert .tensionLost
  else s1

/-- A dancer reading in band: within 500 ± the half-width (R72). -/
def State.dancerInBand (s : State) (n : Nat) : Bool :=
  let half := s.rst.line.tensionBand.getD 0
  decide (500 ≤ n + half) && decide (n ≤ 500 + half)

/-- A valid dancer reading (R12, R72): judged once the Line record is configured. -/
def State.takeDancer (s : State) (n : Nat) : State :=
  let s1 := { s with fsu := { s.fsu with dancer := some n, dancerWindow := some 50 } }
  if s.rst.line.configured then
    if s.dancerInBand n then { s1 with fsu := { s1.fsu with lockCount := some (s1.fsu.lockCount.getD 0) } }
    else s1.endBand
  else s1

/-! ### FSU's part of a feed count -/

/-- The match count's part of a feed count (R63). -/
def State.matchPart (s : State) (d : Travel) : State :=
  ((match d with
    | .forward => s.countMatch.matchReached
    | .reverse => s).pressTest)

/-- Whether this forward count brings the incoming station to MATCHED (R63). -/
def State.matchDue (s : State) (d : Travel) : Bool :=
  d == .forward && s.countMatch.matchReached.incomingMatched && !s.incomingMatched

/-- The match count and a roll that runs out on one count: where both come, their order is a free choice (log entry 10). -/
def State.matchAndRollOut (s : State) (d : Travel) (out : Bool) : State :=
  if out then
    if s.matchDue d then
      if Config.feedSpliceFirst s.freeIdx then ((s.matchPart d).rollOut).takeFree else ((s.rollOut).matchPart d).takeFree
    else (s.matchPart d).rollOut
  else s.matchPart d

/-- The tension lock's part of a feed count (R72, R73). Where one count completes both the lock's and the loss watch's, the
lock's return comes first and ends the watch, so that TENSION is not set (the model's choice, log entry 39). -/
def State.tensionPart (s : State) (d : Travel) : State :=
  match d with
  | .forward => s.countTension.lockReached.watchReached
  | .reverse => s

/-- FSU's part of a feed count: length, Expiring, splice, tension lock, and the auto-splice test where Expiring has just
been set (R57, R58, R61, R63, R72). -/
def State.fsuCount (s : State) (d : Travel) : State :=
  let s1 := (s.tensionPart d).chargeRoll d
  let s2 := s1.judgeExpiring
  let s3 := s2.matchAndRollOut d (s.rollsOut d)
  if s2.activeExpiring && !s1.activeExpiring then s3.autoSpliceTest else s3

end Sys2Proof.Machine
end

