-- ==== Sys2Proof/Machine/Encoders.lean ====
section
/-! DEFINITION. The encoder commands: FEED_COUNT (R1, R6, R57, R84, R98, R104, R114, R161), BELT_COUNT (R2, R141) and
SPEED_REFRESH (R10, R63, R67). -/

namespace Sys2Proof.Machine

/-- W moved, the web speed's window counted, the web-break window started again where it runs, standstill NO with its
window restarted (R1, R10, R74, R161). -/
def State.countWeb (s : State) (d : Travel) : State :=
  { s with
    fsu := { s.fsu with
      w := d.move s.fsu.w
      web := s.fsu.web.count d.sign
      webBreak := s.fsu.webBreak.map fun _ => 250 }
    sgv := { s.sgv with standstill := false, standWindow := some 200 } }

/-- Whether FSU's part of a feed count acts on a splice: it begins, ends or refuses one. -/
def State.spliceActs (s : State) (d : Travel) : Bool :=
  (s.fsuCount d).fsu.phase != s.fsu.phase || (s.fsuCount d).fsu.outcome != s.fsu.outcome ||
    (s.fsuCount d).activeRoll?.any fun r => r.attemptSpent && !(s.activeRoll?.any (·.attemptSpent))

/-- FSU's and LTR's parts of a feed count: a segment end is an arrival of a forward count alone (R6, R84). Where FSU acts
on a splice on the count of a segment end, the order is a free choice (log entry 10). -/
def State.feedUnits (s : State) (d : Travel) : State :=
  match d with
  | .reverse => s.fsuCount .reverse
  | .forward =>
    if s.segmentDue && s.spliceActs .forward then
      if Config.feedSpliceFirst s.freeIdx then (s.takeFree.fsuCount .forward).segmentArrival
      else s.takeFree.segmentArrival.fsuCount .forward
    else (s.fsuCount .forward).segmentArrival

/-- PFM's part of a feed count: strike point, panel start, step target, each an arrival of a forward count alone (R6, R98,
R104, R114). -/
def State.formUnits (s : State) (d : Travel) : State :=
  match d with
  | .reverse => s
  | .forward => s.strikeArrival.panelStartArrival.targetArrival

/-- FEED_COUNT (R1). -/
def execFeedCount (d : Travel) (s : State) : Host.Outcome State Fault Refusal :=
  .next (((s.countWeb d).feedUnits d).formUnits d).endAct

/-- B moved and the belt speed's window counted (R2, R10). -/
def State.countBelt (s : State) (d : Travel) : State :=
  { s with exu := { s.exu with b := d.move s.exu.b, belt := s.exu.belt.count d.sign } }

/-- EXU's part of a belt count: the tails that arrive, on a forward count alone (R6, R141). -/
def State.beltUnits (s : State) (d : Travel) : State :=
  match d with
  | .forward => s.allTails
  | .reverse => s

/-- BELT_COUNT (R2). -/
def execBeltCount (d : Travel) (s : State) : Host.Outcome State Fault Refusal :=
  .next ((s.countBelt d).beltUnits d).endAct

/-- The four speeds refreshed, the surface encoders' counts of the 10 ms taken in (R10, log entry 6). -/
def State.refreshSpeeds (s : State) (surfA surfB : Int) : State :=
  { s with
    fsu := { s.fsu with
      web := s.fsu.web.refresh
      surfA := (s.fsu.surfA.count surfA).refresh
      surfB := (s.fsu.surfB.count surfB).refresh }
    exu := { s.exu with belt := s.exu.belt.refresh } }

/-- A RUNDOWN station becomes SEATED at a refresh at which its surface speed reads 0 (R67). -/
def State.endRundown (s : State) (x : Station) : State :=
  if s.station x = .rundown ∧ s.surfSpeed x = 0 then s.setStation x .seated else s

/-- SPEED_REFRESH (R10, R63, R67). -/
def execSpeedRefresh (surfA surfB : Int) (s : State) : Host.Outcome State Fault Refusal :=
  .next ((((s.refreshSpeeds surfA surfB).judgeBand.pressTest).endRundown .a).endRundown .b).endAct

end Sys2Proof.Machine
end

