-- ==== Sys2Proof/Machine/Expiries.lean ====
section
/-! DEFINITION. The sensor line (R12), the counts reached (R63, R72, R73) and the running out of timers (R63–R67, R74,
R108, R121–R123, R127, R131, R144, R161, R168). An expiry whose timer does not run is no arrival (log entry 1). -/

namespace Sys2Proof.Machine

/-! ### SENSE (R12) -/

/-- The value of a reading, where it lies in the range of its kind (R12). -/
def readingIn (hi : Nat) (value : Int) : Option Nat := if 0 ≤ value ∧ value ≤ (hi : Int) then some value.toNat else none

/-- The value ranges of R12: 0 to this. -/
def greatestReading : SenseKind → Option Nat
  | .zone _ => some 4000
  | .pressure => some 2000
  | .dancer => some 1000
  | .unnamed => none

/-- A reading that is taken: of a kind of the table, in its range, not marked faulted (R12). -/
def validReading (kind : SenseKind) (value : Int) (faulted : Bool) : Option Nat :=
  if faulted then none else (greatestReading kind).bind fun hi => readingIn hi value

/-- A valid reading at the unit that owns its kind (R12, R72, R121, R122, R125). -/
def State.takeReading (s : State) (kind : SenseKind) (n : Nat) : State :=
  match kind with
  | .zone z => s.setZone z ((s.hsu.zones.get z).take n)
  | .pressure => s.takePressure n
  | .dancer => s.takeDancer n
  | .unnamed => s

/-- SENSE_READING (R12): any other reading is discarded and is no arrival. -/
def execSenseReading (kind : SenseKind) (value : Int) (faulted : Bool) (s : State) : Host.Outcome State Fault Refusal :=
  .next (match validReading kind value faulted with
    | none => s
    | some n => (s.takeReading kind n).endAct)

/-- DANCER_TIMEOUT: 50 ms without a dancer reading (R72). -/
def execDancerTimeout (s : State) : Host.Outcome State Fault Refusal :=
  .next (if s.fsu.dancerWindow.isSome then ({ s with fsu := { s.fsu with dancerWindow := none } }).endBand.endAct else s)

/-! ### Counts reached -/

/-- TENSION_LOCK_COUNT (R72; log entry 5). -/
def execTensionLockCount (s : State) : Host.Outcome State Fault Refusal := .next s.lockReached.endAct

/-- TENSION_WATCH_COUNT (R73; log entry 5). -/
def execTensionWatchCount (s : State) : Host.Outcome State Fault Refusal := .next s.watchReached.endAct

/-- MATCH_COUNT (R63; log entry 5). -/
def execMatchCount (s : State) : Host.Outcome State Fault Refusal := .next s.matchReached.pressTest.endAct

/-! ### The splice limits -/

/-- Whether the splice limit runs in a phase. -/
def State.limitIn (s : State) (p : SplicePhase) : Bool := s.fsu.limit.isSome && s.fsu.phase == p

/-- A splice that failed: abandoned with an outcome, SPLICE_FAILED raised (R63, R64). -/
def State.failSplice (s : State) (o : SpliceOutcome) : State :=
  ((s.abandonSplice o).raiseAlert .spliceFailed).afterSplice

/-- MATCH_LIMIT_EXPIRY (R63). -/
def execMatchLimitExpiry (s : State) : Host.Outcome State Fault Refusal :=
  .next (if s.limitIn .matching then (s.failSplice .matchTimeout).endAct else s)

/-- HEAD_LIMIT_EXPIRY (R64). -/
def execHeadLimitExpiry (s : State) : Host.Outcome State Fault Refusal :=
  .next (if s.limitIn .press then (s.failSplice .headTimeout).endAct else s)

/-- KNIFE_LIMIT_EXPIRY (R66). -/
def execKnifeLimitExpiry (s : State) : Host.Outcome State Fault Refusal :=
  .next (if s.limitIn .cut then ((s.raiseStop .spliceSensor).enterRetract).endAct else s)

/-- RETRACT_LIMIT_EXPIRY (R67). -/
def execRetractLimitExpiry (s : State) : Host.Outcome State Fault Refusal :=
  .next (if s.limitIn .retract then s.retractTimeout.endAct else s)

/-- WEB_BREAK_EXPIRY (R74). -/
def execWebBreakExpiry (s : State) : Host.Outcome State Fault Refusal :=
  .next (if s.fsu.webBreak.isSome then (s.raiseTrip .webBreak).endAct else s)

/-! ### The blade and cutter limits -/

/-- A cycle whose limit runs: STROKE or RETURN (R105, R142). -/
def Cycle.limited (c : Cycle) : Bool := c == .stroke || c == .back

/-- BLADE_LIMIT_EXPIRY: the strike ends as a jam (R108). -/
def execBladeLimitExpiry (s : State) : Host.Outcome State Fault Refusal :=
  .next (if s.pfm.bladeLimit.isSome && s.pfm.cycle.limited
    then ((s.missCurrent.bladesTo .away).raiseStop .bladeJam).endAct else s)

/-- CUTTER_LIMIT_EXPIRY: the cycle ends as a jam (R144). -/
def execCutterLimitExpiry (s : State) : Host.Outcome State Fault Refusal :=
  .next (if s.exu.limit.isSome && s.exu.cycle.limited then (s.cutterJam.raiseStop .cutterJam).endAct else s)

/-! ### The Heat-Set Unit's timers -/

/-- DOSE_INTERVAL_EXPIRY: the doses, then the retargeting (R119, R127). -/
def execDoseIntervalExpiry (s : State) : Host.Outcome State Fault Refusal := .next s.accrue.retarget.endAct

/-- A settle timer that runs out in WARMING: SETTLED (R121). -/
def Zone.settled (v : Zone) : Zone := { v with mode := .settled, settle := none }

/-- ZONE_SETTLE_EXPIRY (R121). -/
def execZoneSettleExpiry (z : ZoneId) (s : State) : Host.Outcome State Fault Refusal :=
  let v := s.hsu.zones.get z
  .next (if v.settle.isSome && v.mode == .warming then (s.setZone z v.settled).endAct else s)

/-- A zone's reading goes STALE; ZONE_SENSOR while HEAT is ON (R123). -/
def State.staleZone (s : State) (z : ZoneId) : State :=
  let s1 := s.setZone z (s.hsu.zones.get z).goStale
  if s1.rst.line.heat then s1.raiseAlert .zoneSensor else s1

/-- READING_STALE (R123). -/
def execReadingStale (z : ZoneId) (s : State) : Host.Outcome State Fault Refusal :=
  .next (if (s.hsu.zones.get z).window.isSome then (s.staleZone z).endAct else s)

/-- HEAT_PERMIT_EXPIRY (R131). -/
def execHeatPermitExpiry (s : State) : Host.Outcome State Fault Refusal :=
  .next (if s.hsu.permit.isSome then (s.heatOff.raiseStop .permitExpired).endAct else s)

/-! ### The governor's timers -/

/-- A reference moved towards a target by one ramp step; a rise needs the tension lock LOCKED (R168). -/
def rampStep (flat target step : Nat) (locked : Bool) : Nat :=
  if flat < target then if locked then min target (flat + step) else flat
  else max target (flat - step)

/-- The RUN target, in 0.01 mm/s: min(set speed, ceiling) (R168). -/
def State.runTarget (s : State) : Nat := min s.rst.line.setSpeed s.sgv.ceiling * 100

/-- The reference ramped in RUN (R168). -/
def State.ramp (s : State) : State :=
  { s with sgv := { s.sgv with
      flatRef := rampStep s.sgv.flatRef s.runTarget (s.rst.line.accel.getD 0) s.fsu.locked } }

/-- A governor in CREEP may enter RUN (R154, R156). -/
def State.mayRun (s : State) : Bool := s.sgv.intent && s.sgv.holds == 0#6 && !s.sgv.stopPending

/-- The entry into RUN, with FSU's auto-splice test (R61, R156). -/
def State.enterRun (s : State) : State := ({ s with sgv := { s.sgv with gov := .run } }).autoSpliceTest

/-- RAMP_INTERVAL_EXPIRY (R154, R156, R168). -/
def execRampIntervalExpiry (s : State) : Host.Outcome State Fault Refusal :=
  .next (match s.sgv.gov with
    | .creep => (if s.mayRun then s.enterRun else s).endAct
    | .run => s.ramp.endAct
    | .stopped => s.endAct
    | .stepping => s.endAct
    | .halting => s.endAct
    | .tripped => s.endAct)

/-- Standstill becomes YES: a HALTING governor enters STOPPED (R161), and a step may be complete (R114). -/
def State.standStill (s : State) : State :=
  let s1 := { s with sgv := { s.sgv with standstill := true, standWindow := none } }
  if s1.sgv.gov = .halting then s1.enterStopped else s1.testStep

/-- STANDSTILL_EXPIRY (R161). -/
def execStandstillExpiry (s : State) : Host.Outcome State Fault Refusal :=
  .next (if s.sgv.standWindow.isSome then s.standStill.endAct else s)

end Sys2Proof.Machine
end

