-- ==== Sys2Proof/Machine/Inputs.lean ====
section
/-! DEFINITION. The discrete inputs: RAW_INPUT_CHANGE and DEBOUNCE_SETTLE (R11), what each owner does at the first level
and at each debounced change (R52–R54, R58, R65–R67, R70, R71, R107, R143, R160, R181), and RESET_PIN (R13). -/

namespace Sys2Proof.Machine

/-- One input replaced. -/
def State.setPin (s : State) (i : Input) (v : Pin) : State := { s with inputs := s.inputs.set i v }

/-- A pin after a change of its raw level: a settle starts, or ends where the level is back at the debounced one (R11). -/
def Pin.change (v : Pin) (level : Bool) : Pin :=
  if v.raw = level then v
  else { v with raw := level, settle := if v.level = some level then none else some 10 }

/-- RAW_INPUT_CHANGE (R11). -/
def execRawInputChange (i : Input) (level : Bool) (s : State) : Host.Outcome State Fault Refusal :=
  .next (s.setPin i ((s.inputs.get i).change level))

/-! ### The first level (R11, R52, R97, R140, R160, R177) -/

/-- The owner takes an input's first level as its starting level. -/
def State.firstLevel (s : State) (i : Input) (level : Bool) : State :=
  match i with
  | .staSeated => s.setStation .a (if level then .seated else .empty)
  | .stbSeated => s.setStation .b (if level then .seated else .empty)
  | .home => s.bladesTo (cycleAt level)
  | .cutHome => s.cutterTo (cycleAt level)
  | .eStop => if level then s.assertEStop else s
  | .staCoreNear => s
  | .stbCoreNear => s
  | .extended => s
  | .retracted => s
  | .knifeDone => s
  | .key => s

/-- A receiver that waits for the first levels enters HUNTING (R177). -/
def PortState.openEar (v : PortState) : PortState := if v.receiver = .waiting then { v with receiver := .hunting } else v

/-- The ports begin to receive once every input has its first level (R11, R177). -/
def State.openPorts (s : State) : State :=
  if s.inputs.allKnown then { s with lnk := { s.lnk with sup := s.lnk.sup.openEar, pen := s.lnk.pen.openEar } } else s

/-! ### SEATED (R53, R54, R71) -/

/-- A DECLARED roll bound to a seated station (R49, R53). -/
def State.bindRoll (s : State) (x : Station) (r : Roll) : State :=
  s.putRoll { r with state := .mounted, station := some x }

/-- The DECLARED roll whose intended station is X (R53). -/
def State.declaredFor? (s : State) (x : Station) : Option Roll :=
  s.rst.rolls.find? fun r => r.state == .declared && r.intended == some x

/-- SEATED rises (R53). -/
def State.seatedRise (s : State) (x : Station) : State :=
  let s1 := s.setStation x .seated
  match s1.declaredFor? x with
  | some r => s1.bindRoll x r
  | none => s1.raiseAlert .rollUnknown

/-- Whether another DECLARED roll has a roll's intended station (R49, R54). -/
def State.intendedTaken (s : State) (tag : Nat) (x : Option Station) : Bool :=
  x.isSome && s.rst.rolls.any fun q => q.tag != tag && q.state == .declared && q.intended == x

/-- A roll lifted off its station before it has fed returns to DECLARED (R54). -/
def State.returnRoll (s : State) (r : Roll) : State :=
  s.putRoll { r with
    state := .declared, station := none, leaderReady := false
    intended := if s.intendedTaken r.tag r.intended then none else r.intended }

/-- What unseating does to a roll by its state (R54). -/
def State.unbindRoll (s : State) (r : Roll) : State :=
  match r.state with
  | .mounted => s.returnRoll r
  | .prepared => s.returnRoll r
  | .active => s.putRoll { r with state := .spent, station := none }
  | .spent => s.putRoll { r with station := none }
  | .new => s
  | .declared => s

/-- A station becomes EMPTY and its roll is unbound (R54). -/
def State.emptyStation (s : State) (x : Station) : State :=
  let s1 := s.setStation x .empty
  match s.boundRoll? x with
  | none => s1
  | some r => s1.unbindRoll r

/-- SEATED falls (R54, R71). -/
def State.seatedFall (s : State) (x : Station) : State :=
  match s.station x with
  | .matching => ((s.abandonSplice .abandoned).emptyStation x).afterSplice
  | .matched => ((s.abandonSplice .abandoned).emptyStation x).afterSplice
  | .feeding => ((s.emptyStation x).raiseTrip .rollUnseated).retarget
  | .empty => s.emptyStation x
  | .seated => s.emptyStation x
  | .prepared => s.emptyStation x
  | .joined => s.emptyStation x
  | .rundown => s.emptyStation x

/-! ### CORE_NEAR (R58) and the splice head (R65–R67, R70) -/

/-- CORE_NEAR rises: Expiring is judged on the FEEDING station, and the auto-splice test follows its setting (R58, R61). -/
def State.coreNearRise (s : State) (x : Station) : State :=
  if s.activeStation = some x then
    if s.judgeExpiring.activeExpiring && !s.activeExpiring then s.judgeExpiring.autoSpliceTest else s.judgeExpiring
  else s

/-- Both head inputs are asserted (R70). -/
def State.headConflict (s : State) : Bool := s.asserted .extended && s.asserted .retracted

/-- Both head inputs found asserted: the cause first, then the splice abandoned where it is before its joint (R70, log
entry 31). -/
def State.headFault (s : State) : State :=
  let s1 := s.raiseStop .spliceSensor
  if s1.fsu.phase.beforeJoint then (s1.abandonSplice .abandoned).afterSplice else s1

/-- EXTENDED rises (R65, R70). -/
def State.extendedRise (s : State) : State :=
  if s.headConflict then s.headFault
  else if s.fsu.phase = .press then s.makeJoint
  else s

/-- EXTENDED falls (R70). -/
def State.extendedFall (s : State) : State := if s.fsu.phase = .cut then s.raiseStop .spliceSensor else s

/-- RETRACTED rises (R67, R70). -/
def State.retractedRise (s : State) : State :=
  let s1 := if s.headConflict then s.headFault else s
  if s1.fsu.phase = .retract then s1.completeSplice else s1

/-- KNIFE_DONE rises (R66). -/
def State.knifeDoneRise (s : State) : State := if s.fsu.phase = .cut then s.enterRetract else s

/-! ### HOME (R107) and CUT_HOME (R143) -/

/-- HOME falls (R107). -/
def State.homeFall (s : State) : State :=
  match s.pfm.cycle with
  | .idle => (s.bladesTo .away).raiseStop .bladeJam
  | .stroke => { s with pfm := { s.pfm with strike := false, cycle := .back } }
  | .back => s
  | .away => s

/-- HOME rises (R107); a step may be complete by it (R114). -/
def State.homeRise (s : State) : State :=
  match s.pfm.cycle with
  | .back => (s.bladesTo .idle).testStep
  | .away => (s.bladesTo .idle).testStep
  | .idle => s
  | .stroke => s

/-- CUT_HOME falls (R143). -/
def State.cutHomeFall (s : State) : State :=
  match s.exu.cycle with
  | .idle => (s.cutterTo .away).raiseStop .cutterJam
  | .stroke => { s with exu := { s.exu with cut := false, cycle := .back } }
  | .back => s
  | .away => s

/-- CUT_HOME rises (R143). -/
def State.cutHomeRise (s : State) : State :=
  match s.exu.cycle with
  | .back => s.cutterTo .idle
  | .away => s.cutterTo .idle
  | .idle => s
  | .stroke => s

/-! ### Debounced changes (R11) -/

/-- A debounced rise handed to its owner. -/
def State.inputRise (s : State) (i : Input) : State :=
  match i with
  | .staSeated => s.seatedRise .a
  | .stbSeated => s.seatedRise .b
  | .staCoreNear => s.coreNearRise .a
  | .stbCoreNear => s.coreNearRise .b
  | .extended => s.extendedRise
  | .retracted => s.retractedRise
  | .knifeDone => s.knifeDoneRise
  | .home => s.homeRise
  | .cutHome => s.cutHomeRise
  | .eStop => s.assertEStop
  | .key => s

/-- A debounced fall handed to its owner. -/
def State.inputFall (s : State) (i : Input) : State :=
  match i with
  | .staSeated => s.seatedFall .a
  | .stbSeated => s.seatedFall .b
  | .extended => s.extendedFall
  | .home => s.homeFall
  | .cutHome => s.cutHomeFall
  | .staCoreNear => s
  | .stbCoreNear => s
  | .retracted => s
  | .knifeDone => s
  | .eStop => s
  | .key => s

/-- The debounced level takes the raw level: a first level, or a change handed on (R11). -/
def State.settleInput (s : State) (i : Input) : State :=
  let v := s.inputs.get i
  let s1 := s.setPin i { v with level := some v.raw, settle := none }
  match v.level with
  | none => (s1.firstLevel i v.raw).openPorts
  | some old => if old = v.raw then s1 else if v.raw then s1.inputRise i else s1.inputFall i

/-- DEBOUNCE_SETTLE (R11): no settle running, no arrival (log entry 1). -/
def execDebounceSettle (i : Input) (s : State) : Host.Outcome State Fault Refusal :=
  .next (if (s.inputs.get i).settle.isSome then (s.settleInput i).endAct else s)

/-! ### RESET_PIN (R13) -/

/-- Every input after the RESET pin: its raw level kept, its first level to come (R11, log entry 27). -/
def Inputs.afterReset (p : Inputs) : Inputs :=
  { staSeated := Pin.reset p.staSeated.raw, stbSeated := Pin.reset p.stbSeated.raw,
    staCoreNear := Pin.reset p.staCoreNear.raw, stbCoreNear := Pin.reset p.stbCoreNear.raw,
    extended := Pin.reset p.extended.raw, retracted := Pin.reset p.retracted.raw,
    knifeDone := Pin.reset p.knifeDone.raw, home := Pin.reset p.home.raw, cutHome := Pin.reset p.cutHome.raw,
    eStop := Pin.reset p.eStop.raw, key := Pin.reset p.key.raw }

/-- RESET_PIN: every state as at power-on, but for the levels that stand on the pins (R13; log entry 27). -/
def execResetPin (s : State) : Host.Outcome State Fault Refusal :=
  .next { State.reset with pending := s.pending, freeIdx := s.freeIdx, inputs := s.inputs.afterReset }

end Sys2Proof.Machine
end

