-- ==== Sys2Proof/Machine/Fields.lean ====
section
/-! DEFINITION. The fields as a requester sees and stages them: the value in view of each field (R16, R34, R46, R77, R136,
R173, R190), the STATUS and IDENT payloads (sections 11.4, 11.5), what may be PUT when (R27, R39, R46, R77, R171), and
the staging of a value (R191, R203). -/

namespace Sys2Proof.Machine

/-! ### Codes (section 11.2) -/

/-- Pattern state. -/
def PatternState.code : PatternState → Byte
  | .edit => 1#8
  | .ready => 2#8
  | .retiring => 3#8

/-- Style. -/
def Style.code : Style → Byte
  | .knife => 0#8
  | .box => 1#8
  | .accordion => 2#8

/-- Trim range. -/
def TrimRange.code : TrimRange → Byte
  | .fine => 0#8
  | .normal => 1#8
  | .coarse => 2#8

/-- Direction. -/
def Direction.code : Direction → Byte
  | .left => 0#8
  | .right => 1#8

/-- Class state. -/
def ClassState.code : ClassState → Byte
  | .new => 1#8
  | .defined => 2#8

/-- Roll state. -/
def RollState.code : RollState → Byte
  | .new => 0#8
  | .declared => 1#8
  | .mounted => 2#8
  | .prepared => 3#8
  | .active => 4#8
  | .spent => 5#8

/-- Lot state. -/
def LotState.code : LotState → Byte
  | .new => 0#8
  | .queued => 1#8
  | .feeding => 2#8
  | .fed => 3#8
  | .done => 4#8

/-- Panel kind. -/
def PanelKind.code : PanelKind → Byte
  | .product => 0#8
  | .waste => 1#8

/-- Verdict. -/
def Verdict.code : Verdict → Byte
  | .good => 0#8
  | .rejected .cut => 1#8
  | .rejected .operator => 2#8
  | .rejected .joint => 3#8
  | .rejected .strike => 4#8
  | .rejected .overDose => 5#8
  | .rejected .shortDose => 6#8

/-- Governor state. -/
def Governor.code : Governor → Byte
  | .stopped => 0#8
  | .stepping => 1#8
  | .creep => 2#8
  | .run => 3#8
  | .halting => 4#8
  | .tripped => 5#8

/-- Station state. -/
def StationState.code : StationState → Byte
  | .empty => 0#8
  | .seated => 1#8
  | .prepared => 2#8
  | .matching => 3#8
  | .matched => 4#8
  | .feeding => 5#8
  | .joined => 6#8
  | .rundown => 7#8

/-- Splice phase. -/
def SplicePhase.code : SplicePhase → Byte
  | .idle => 0#8
  | .matching => 1#8
  | .press => 2#8
  | .cut => 3#8
  | .retract => 4#8

/-- Last splice outcome. -/
def SpliceOutcome.code : SpliceOutcome → Byte
  | .none => 0#8
  | .completed => 1#8
  | .refused => 2#8
  | .matchTimeout => 3#8
  | .headTimeout => 4#8
  | .retractTimeout => 5#8
  | .abandoned => 6#8

/-- Strike and cutter cycle. -/
def Cycle.code : Cycle → Byte
  | .idle => 0#8
  | .stroke => 1#8
  | .back => 2#8
  | .away => 3#8

/-- Zone state. -/
def ZoneMode.code : ZoneMode → Byte
  | .off => 0#8
  | .standby => 1#8
  | .warming => 2#8
  | .settled => 3#8

/-- Pressure state. -/
def PressureState.code : PressureState → Byte
  | .unknown => 0#8
  | .normal => 1#8
  | .low => 2#8

/-! ### The value in view (R190) -/

/-- What a GET finds: value bytes, a field unset in view (WRONG_STATE), or an index beyond what the field has
(OUT_OF_RANGE). -/
inductive Seen where
  | value (bs : List Byte)
  | unset
  | beyond
deriving DecidableEq, Repr

/-- A number of `w` bytes that may be unset. -/
def seenNat (w : Nat) (v : Option Nat) : Seen :=
  match v with
  | none => .unset
  | some n => .value (bytesOf w n)

/-- A number of `w` bytes. -/
def seen (w n : Nat) : Seen := .value (bytesOf w n)

/-- A step as 5 bytes (R203). -/
def stepBytes (st : Step) : List Byte := bytesOf 2 st.advance ++ bytesOf 2 st.depth ++ [st.dir.code]

/-- A staged value over the current one. -/
def inView {α : Type} (staged current : Option α) : Option α := staged <|> current

/-- The step count in view (R16). -/
def PatternStage.countOver (st : PatternStage) (p : Pattern) : Nat := st.stepCount.getD p.stepCount

/-- A staged step. -/
def PatternStage.step? (st : PatternStage) (k : Nat) : Option Step := (st.steps.find? fun e => e.1 == k).map (·.2)

/-- Step k in view: staged, or current (R16). -/
def State.stepInView (s : State) (p : Pattern) (st : PatternStage) (k : Nat) : Option Step :=
  inView (st.step? k) (s.currentStep p k)

/-- An element of a list field: index 0 reads its length, an index beyond it nothing (R203). -/
def seenElement (w : Nat) (items : List Nat) (idx : Nat) : Seen :=
  if idx = 0 then seen 1 items.length
  else
    match items[idx - 1]? with
    | none => .beyond
    | some n => seen w n

/-- A pattern's field in view (R16, R17). -/
def State.seePattern (s : State) (p : Pattern) (st : PatternStage) (id idx : Nat) : Seen :=
  match id with
  | 0x01 => .value (st.name.getD p.name)
  | 0x02 => .value [(st.style.getD p.style).code]
  | 0x03 => seen 2 (st.trailer.getD p.trailer)
  | 0x04 => .value [(st.trimRange.getD p.trimRange).code]
  | 0x05 => .value (optBytes 2 ((st.laneMask.getD p.laneMask).map fun m => bytesOf 2 m.toNat))
  | 0x06 => seen 1 (st.countOver p)
  | 0x07 =>
    if idx = 0 then seen 1 (st.countOver p)
    else if st.countOver p < idx then .beyond
    else
      match s.stepInView p st idx with
      | none => .unset
      | some v => .value (stepBytes v)
  | 0x20 => .value [p.state.code]
  | 0x21 => seen 1 p.refCount
  | 0x22 => seen 2 p.revision.toNat
  | 0x23 => seen 2 p.flatLen
  | 0x24 => seen 2 p.pleatedLen
  | 0x25 => seen 2 p.minStep
  | 0x26 => seenElement 1 p.blockMap idx
  | _ => .beyond

/-- A class's setpoint in view. -/
def setpointInView (c : FabricClass) (st : ClassStage) (z : ZoneId) : Option Nat :=
  inView (st.setpoints.get z) (c.setpoints.get z)

/-- A class's field in view (R34, R35); the name tag of a NEW class reads as its CREATE value though never staged (the model's
choice, log entry 38). -/
def seeClass (c : FabricClass) (st : ClassStage) (id idx : Nat) : Seen :=
  match id with
  | 0x01 => .value (st.name.getD c.name)
  | 0x02 =>
    match zoneOfIndex idx with
    | none => .beyond
    | some z => seenNat 2 (setpointInView c st z)
  | 0x03 => seenNat 2 (inView st.maxBelt c.maxBelt)
  | 0x04 => seenNat 4 (inView st.doseMin c.doseMin)
  | 0x05 => seenNat 4 (inView st.doseMax c.doseMax)
  | 0x20 => .value [c.state.code]
  | 0x21 => seen 1 c.refCount
  | 0x22 => seen 2 c.revision.toNat
  | _ => .beyond

/-- The current value of a host field that a record has once it has been committed (R46, R77; log entry 22). -/
def committedValue {α : Type} (isNew : Bool) (staged : Option α) (current : α) : Option α :=
  inView staged (if isNew then none else some current)

/-- A byte that may be unset. -/
def seenByte (v : Option Byte) : Seen :=
  match v with
  | none => .unset
  | some b => .value [b]

/-- A roll's field in view (R46, R47). -/
def seeRoll (r : Roll) (st : RollStage) (id : Nat) : Seen :=
  let isNew := r.state == .new
  match id with
  | 0x01 => seenNat 1 (inView st.cls r.cls)
  | 0x02 => seenNat 4 (inView st.initLen r.initLen)
  | 0x03 => seenByte ((committedValue isNew st.intended r.intended).map stationCode)
  | 0x04 => seenByte ((committedValue isNew st.leaderReady r.leaderReady).map flagByte)
  | 0x20 => .value [r.state.code]
  | 0x21 => .value [stationCode r.station]
  | 0x22 => seen 4 r.remaining
  | 0x23 => .value [flagByte r.expiring]
  | 0x24 => .value [flagByte r.attemptSpent]
  | _ => .beyond

/-- The rejected count of a reason code (section 11.2). -/
def Rejects.ofCode (r : Rejects) : Nat → Option Nat
  | 1 => some r.cut
  | 2 => some r.operator
  | 3 => some r.joint
  | 4 => some r.strike
  | 5 => some r.overDose
  | 6 => some r.shortDose
  | _ => none

/-- A value, or an index the field does not have. -/
def seenOrBeyond (w : Nat) (v : Option Nat) : Seen :=
  match v with
  | none => .beyond
  | some n => seen w n

/-- Bytes that may be unset. -/
def seenBytes (v : Option (List Byte)) : Seen :=
  match v with
  | none => .unset
  | some bs => .value bs

/-- A lot's field in view (R77, R78). -/
def seeLot (l : Lot) (st : LotStage) (id idx : Nat) : Seen :=
  let isNew := l.state == .new
  match id with
  | 0x01 => seenNat 1 (inView st.pattern l.pattern)
  | 0x02 => seenNat 1 (inView st.cls l.cls)
  | 0x03 => seenNat 2 (inView st.ordered l.ordered)
  | 0x04 => seenBytes ((committedValue isNew st.makeupAllowance l.makeupAllowance).map fun v => optBytes 1 (v.map (bytesOf 1)))
  | 0x05 => seenBytes ((committedValue isNew st.restriction l.restriction).map fun v => optBytes 4 (v.map (bytesOf 4)))
  | 0x06 => seenByte ((committedValue isNew st.held l.held).map flagByte)
  | 0x07 => seen 2 (st.place.getD 0)
  | 0x20 => .value [l.state.code]
  | 0x21 => .value (optBytes 5 (l.head.map coordBytes))
  | 0x22 => .value (optBytes 5 (l.tail.map coordBytes))
  | 0x23 => seenElement 5 (l.joints.map (·.toNat)) idx
  | 0x24 => seen 1 l.makeupUsed
  | 0x25 => seen 2 l.cancelled
  | 0x26 => seen 2 l.planned
  | 0x27 => seen 2 l.started
  | 0x28 => seen 2 l.good
  | 0x29 => seenOrBeyond 2 (l.rejected.ofCode idx)
  | 0x2A => seen 2 l.lost
  | _ => .beyond

/-- A panel's field in view (R136, R138). -/
def seePanel (p : Panel) (st : PanelStage) (id idx : Nat) : Seen :=
  match id with
  | 0x01 => .value [flagByte (st.reject.getD p.reject)]
  | 0x20 => .value [p.kind.code]
  | 0x21 => .value (optBytes 2 (if p.kind = .product then some (bytesOf 2 p.key.lot) else none))
  | 0x22 => seen 2 p.key.index
  | 0x23 => .value (optBytes 1 (p.pattern.map (bytesOf 1)))
  | 0x24 => seen 1 p.cls
  | 0x25 => seen 4 p.doseMin
  | 0x26 => seen 4 p.doseMax
  | 0x27 => .value (coordBytes p.head)
  | 0x28 => seen 2 p.pleatedLen
  | 0x29 => .value [flagByte (!p.forming)]
  | 0x2A => seen 1 p.missed
  | 0x2B => .value [flagByte p.joint]
  | 0x2C => seenOrBeyond 4 ((zoneOfIndex idx).map p.doses.get)
  | 0x2D => seen 4 p.totalDose
  | 0x2E => .value [flagByte p.cutFault]
  | _ => .beyond

/-! ### The Line record and STATUS (R173, R197, section 11.5) -/

/-- Row 22: the last disposition. -/
def dispositionBytes : Option Disposition → List Byte
  | none => List.replicate 8 0#8
  | some d =>
    1#8 :: (bytesOf 2 d.key.lot ++ bytesOf 2 d.key.index ++ [d.kind.code, d.verdict.code, flagByte d.toReject])

/-- Row 26 for one zone. -/
def Zone.bytes (v : Zone) : List Byte :=
  v.mode.code :: (optBytes 2 (v.target.map (bytesOf 2)) ++ bytesOf 1 (v.targetClass.getD 0) ++ [flagByte v.fresh])

/-- A status row of section 11.5, row 26 apart. -/
def State.statusRow (s : State) : Nat → List Byte
  | 1 => [s.sgv.gov.code]
  | 2 => [flagByte s.sgv.intent]
  | 3 => bytesOf 1 s.sgv.holds.toNat
  | 4 => bytesOf 1 s.sgv.stops.toNat
  | 5 => bytesOf 1 s.sgv.trips.toNat
  | 6 => [flagByte s.sgv.stopPending]
  | 7 => [flagByte s.sgv.standstill]
  | 8 => bytesOf 2 s.sgv.flatRef
  | 9 => bytesOf 2 s.sgv.beltRef
  | 10 => bytesOf 2 s.sgv.ceiling
  | 11 => [flagByte s.rst.line.configured]
  | 12 => [flagByte s.rst.line.windowOpen]
  | 13 => coordBytes s.fsu.w
  | 14 => [stationCode s.activeStation]
  | 15 => [s.fsu.staA.code]
  | 16 => [s.fsu.staB.code]
  | 17 => [s.fsu.phase.code]
  | 18 => [s.fsu.outcome.code]
  | 19 => [flagByte s.fsu.locked]
  | 20 => coordBytes s.exu.b
  | 21 => [s.exu.cycle.code]
  | 22 => dispositionBytes s.exu.last
  | 23 => optBytes 4 (s.pfm.forming.map fun f => bytesOf 4 f.key.toKey)
  | 24 => [s.pfm.cycle.code]
  | 25 => optBytes 2 (s.feedingLot?.map fun l => bytesOf 2 l.number)
  | 27 => [s.hsu.pressure.code]
  | 28 => bytesOf 4 s.lnk.alerts.toNat
  | _ => []

/-- The 78 bytes of STATUS (section 11.5). -/
def State.statusPayload (s : State) : List Byte :=
  (List.range 25).flatMap (fun i => s.statusRow (i + 1)) ++ allZones.flatMap (fun z => (s.hsu.zones.get z).bytes) ++
    s.statusRow 27 ++ s.statusRow 28

/-- The 14 bytes of IDENT (section 11.4). -/
def identPayload : List Byte :=
  [0x42#8, 0x5A#8, 0x2D#8, 0x34#8, 0x31#8, 0x36#8, 1#8, BitVec.ofNat 8 Config.patternCount,
    BitVec.ofNat 8 Config.blockCount, BitVec.ofNat 8 Config.blockSlots, BitVec.ofNat 8 Config.classCount,
    BitVec.ofNat 8 Config.rollCount, BitVec.ofNat 8 Config.lotCount, BitVec.ofNat 8 Config.panelStore]

/-- A staged trim over the current one. -/
def LineStage.trim? (st : LineStage) (k : Nat) : Option Nat := (st.trims.find? fun e => e.1 == k).map (·.2)

/-- A field of the Line record in view (R171–R173). -/
def State.seeLine (s : State) (st : LineStage) (id idx : Nat) : Seen :=
  let l := s.rst.line
  match id with
  | 0x01 => seenNat 1 (inView st.strikePeriod l.strikePeriod)
  | 0x02 => seenNat 1 (inView st.creep l.creep)
  | 0x03 => seenNat 2 (inView st.spliceSpeed l.spliceSpeed)
  | 0x04 => seenNat 2 (inView st.accel l.accel)
  | 0x05 => seenNat 2 (inView st.permitPeriod l.permitPeriod)
  | 0x06 => seenNat 4 (inView st.spliceReserve l.spliceReserve)
  | 0x07 => seenNat 1 (inView st.tensionBand l.tensionBand)
  | 0x08 => seenNat 2 (inView st.standby l.standby)
  | 0x09 => seenNat 2 (inView st.wasteLen l.wasteLen)
  | 0x10 => seen 2 (st.setSpeed.getD l.setSpeed)
  | 0x11 => .value [stationCode (st.requested.getD l.requested)]
  | 0x12 => .value [flagByte (st.autoSplice.getD l.autoSplice)]
  | 0x13 => .value [flagByte (st.heat.getD l.heat)]
  | 0x14 => seen 2 (st.laneMask.getD l.laneMask).toNat
  | 0x15 => seenOrBeyond 1 (inView (st.trim? idx) (l.trims[idx - 1]?))
  | 0x5A =>
    match zoneOfIndex idx with
    | none => .beyond
    | some z => .value (s.hsu.zones.get z).bytes
  | _ => .value (s.statusRow (id - 0x40))

/-- The field in view of a record, with a staging copy laid over it (R190). -/
def State.see (s : State) (t : Table) (key : Nat) (st : Staging) (id idx : Nat) : Seen :=
  match t, st with
  | .pattern, .pattern g =>
    match s.pattern? key with
    | none => .unset
    | some p => s.seePattern p g id idx
  | .cls, .cls g =>
    match s.class? key with
    | none => .unset
    | some c => seeClass c g id idx
  | .roll, .roll g =>
    match s.roll? key with
    | none => .unset
    | some r => seeRoll r g id
  | .lot, .lot g =>
    match s.lot? key with
    | none => .unset
    | some l => seeLot l g id idx
  | .panel, .panel g =>
    match s.panel? (panelKeyOf key) with
    | none => .unset
    | some p => seePanel p g id idx
  | .line, .line g => s.seeLine g id idx
  | _, _ => .unset

/-- The answer to a GET of field and index on an open record (R190, R203, R204). -/
def State.getAnswer (s : State) (t : Table) (key : Nat) (st : Staging) (id idx : Nat) : Reply :=
  match fieldRow? t id with
  | none => say .outOfRange
  | some row =>
    if row.elements.admitsGet idx then
      match s.see t key st id idx with
      | .value bs => { status := .ok, payload := BitVec.ofNat 8 id :: BitVec.ofNat 8 idx :: bs }
      | .unset => say .wrongState
      | .beyond => say .outOfRange
    else say .outOfRange

/-! ### What may be PUT (R191) -/

/-- Identifiers 0x01–0x09 of the Line record are the set-once fields (section 11.2). -/
def isSetOnce (id : Nat) : Bool := decide (id ≤ 0x09)

/-- Whether a host field is writable in the record's state and reference count (R27, R39, R46, R77; check 6 of R191). -/
def State.writable (s : State) (t : Table) (key id : Nat) : Bool :=
  match t with
  | .pattern => id == 0x01 || (s.pattern? key).any fun p => p.refCount == 0
  | .cls => !(id == 0x04 || id == 0x05) || (s.class? key).any fun c => c.refCount == 0
  | .roll => id == 0x04 || (s.roll? key).any fun r => r.state == .new || r.state == .declared
  | .lot =>
    id == 0x06 || (s.lot? key).any fun l => l.waiting || (id == 0x03 && l.state == .feeding)
  | .panel => true
  | .line => true

/-- A staged step over the ones staged before. -/
def PatternStage.putStep (st : PatternStage) (k : Nat) (v : Step) : PatternStage :=
  { st with steps := upsert (·.1) (k, v) st.steps }

/-- A staged step count: staged steps above it are dropped (R16). -/
def PatternStage.putCount (st : PatternStage) (n : Nat) : PatternStage :=
  { st with stepCount := some n, steps := st.steps.filter fun e => decide (e.1 ≤ n) }

/-- A value staged in a pattern (R15, R16); none where it is out of range. -/
def stagePattern (p : Pattern) (st : PatternStage) (id idx : Nat) (bs : List Byte) : Option PatternStage :=
  match id with
  | 0x01 => (nameValue bs).map fun v => { st with name := some v }
  | 0x02 => (styleValue bs).map fun v => { st with style := some v }
  | 0x03 => (numValue 2 0 5000 bs).map fun v => { st with trailer := some v }
  | 0x04 => (trimRangeValue bs).map fun v => { st with trimRange := some v }
  | 0x05 => (optValue 2 someLanes bs).map fun v => { st with laneMask := some v }
  | 0x06 => (numValue 1 1 64 bs).map st.putCount
  | 0x07 => if st.countOver p < idx then none else (stepValue bs).map (st.putStep idx)
  | _ => none

/-- A value staged in a class (R34). -/
def stageClass (st : ClassStage) (id idx : Nat) (bs : List Byte) : Option ClassStage :=
  match id with
  | 0x01 => (nameValue bs).map fun v => { st with name := some v }
  | 0x02 =>
    match zoneOfIndex idx with
    | none => none
    | some z => (numValue 2 1000 1900 bs).map fun v => { st with setpoints := st.setpoints.set z (some v) }
  | 0x03 => (numValue 2 10 300 bs).map fun v => { st with maxBelt := some v }
  | 0x04 => (numValue 4 5000 5000000 bs).map fun v => { st with doseMin := some v }
  | 0x05 => (numValue 4 5001 5000000 bs).map fun v => { st with doseMax := some v }
  | _ => none

/-- A value staged in a roll (R46). -/
def stageRoll (st : RollStage) (id : Nat) (bs : List Byte) : Option RollStage :=
  match id with
  | 0x01 => (numValue 1 1 16 bs).map fun v => { st with cls := some v }
  | 0x02 => (numValue 4 1 30000000 bs).map fun v => { st with initLen := some v }
  | 0x03 => (stationValue bs).map fun v => { st with intended := some v }
  | 0x04 => (flagValue bs).map fun v => { st with leaderReady := some v }
  | _ => none

/-- A value staged in a lot (R77). -/
def stageLot (st : LotStage) (id : Nat) (bs : List Byte) : Option LotStage :=
  match id with
  | 0x01 => (numValue 1 1 40 bs).map fun v => { st with pattern := some v }
  | 0x02 => (numValue 1 1 16 bs).map fun v => { st with cls := some v }
  | 0x03 => (numValue 2 1 999 bs).map fun v => { st with ordered := some v }
  | 0x04 => (optValue 1 (numValue 1 0 3) bs).map fun v => { st with makeupAllowance := some v }
  | 0x05 => (optValue 4 (numValue 4 1 0xFFFFFFFF) bs).map fun v => { st with restriction := some v }
  | 0x06 => (flagValue bs).map fun v => { st with held := some v }
  | 0x07 => (numValue 2 0 65535 bs).map fun v => { st with place := some v }
  | _ => none

/-- The waste lengths (R171). -/
def wasteValue (bs : List Byte) : Option Nat :=
  (numValue 2 2500 20000 bs).filter fun n => n == 2500 || n == 5000 || n == 10000 || n == 20000

/-- A value staged in the Line record (R171, R172). -/
def stageLine (st : LineStage) (id idx : Nat) (bs : List Byte) : Option LineStage :=
  match id with
  | 0x01 => (numValue 1 40 250 bs).map fun v => { st with strikePeriod := some v }
  | 0x02 => (numValue 1 10 50 bs).map fun v => { st with creep := some v }
  | 0x03 => (numValue 2 50 300 bs).map fun v => { st with spliceSpeed := some v }
  | 0x04 => (numValue 2 20 500 bs).map fun v => { st with accel := some v }
  | 0x05 => (numValue 2 1000 5000 bs).map fun v => { st with permitPeriod := some v }
  | 0x06 => (numValue 4 50000 500000 bs).map fun v => { st with spliceReserve := some v }
  | 0x07 => (numValue 1 20 200 bs).map fun v => { st with tensionBand := some v }
  | 0x08 => (numValue 2 1000 1200 bs).map fun v => { st with standby := some v }
  | 0x09 => (wasteValue bs).map fun v => { st with wasteLen := some v }
  | 0x10 => (numValue 2 0 600 bs).map fun v => { st with setSpeed := some v }
  | 0x11 => (stationValue bs).map fun v => { st with requested := some v }
  | 0x12 => (flagValue bs).map fun v => { st with autoSplice := some v }
  | 0x13 => (flagValue bs).map fun v => { st with heat := some v }
  | 0x14 => (numValue 2 0 0xFFFF bs).map fun v => { st with laneMask := some (BitVec.ofNat 16 v) }
  | 0x15 => (numValue 1 0 15 bs).map fun v => { st with trims := upsert (·.1) (idx, v) st.trims }
  | _ => none

/-- A value staged in the record open for writing (check 7 of R191); none where it is out of range. -/
def State.stage (s : State) (key : Nat) (st : Staging) (id idx : Nat) (bs : List Byte) : Option Staging :=
  match st with
  | .pattern g =>
    match s.pattern? key with
    | none => none
    | some p => (stagePattern p g id idx bs).map .pattern
  | .cls g => (stageClass g id idx bs).map .cls
  | .roll g => (stageRoll g id bs).map .roll
  | .lot g => (stageLot g id bs).map .lot
  | .panel g => (flagValue bs).map fun v => .panel { g with reject := some v }
  | .line g => (stageLine g id idx bs).map .line

/-- The checks of a PUT on the record open for writing, in order (R191): the new staging copy, or the refusal. -/
def State.putAnswer (s : State) (p : Port) (key : Nat) (st : Staging) (id idx : Nat) (bs : List Byte) :
    Except Status Staging :=
  match fieldRow? st.table id with
  | none => .error .outOfRange
  | some row =>
    if row.elements.admits idx = false then .error .outOfRange
    else if isHostField id = false then .error .readOnly
    else if p = .pen ∧ pendantMayPut st.table id = false then .error .privilege
    else if p = .pen ∧ st.table = .line ∧ s.keyLocal = false then .error .keyPosition
    else if st.table = .line ∧ isSetOnce id = true ∧ s.rst.line.windowOpen = false then .error .fixed
    else if s.writable st.table key id = false then .error .locked
    else
      match s.stage key st id idx bs with
      | none => .error .outOfRange
      | some st1 => .ok st1

end Sys2Proof.Machine
end

