-- ==== Sys2Proof/Machine/Commit.lean ====
section
/-! DEFINITION. The commit of a staging copy by the rule of its table: patterns (R20–R25), classes (R37, R40), rolls (R49,
R50), lots (R80, R82, R89), panels (R137) and the Line record (R174, R181). -/

namespace Sys2Proof.Machine

/-- The refusal of a commit that names a field (R192, R204). -/
def invalid (id idx : Nat) : Reply := { status := .invalid, payload := [BitVec.ofNat 8 id, BitVec.ofNat 8 idx] }

/-- The first refusal of a list of checks made in order: each a refusal and whether it applies. -/
def firstRefusal : List (Bool × Reply) → Option Reply
  | [] => none
  | (c, r) :: rest => if c then some r else firstRefusal rest

/-! ### Patterns (R20) -/

/-- Whether a locked field is staged (R27). -/
def PatternStage.locked (st : PatternStage) : Bool :=
  st.style.isSome || st.trailer.isSome || st.trimRange.isSome || st.laneMask.isSome || st.stepCount.isSome ||
    !st.steps.isEmpty

/-- Whether the commit re-forms the block map (R24). -/
def PatternStage.reforms (st : PatternStage) : Bool := st.stepCount.isSome || !st.steps.isEmpty

/-- The step numbers 1 to n. -/
def stepNumbers (n : Nat) : List Nat := (List.range n).map (· + 1)

/-- The lowest step unset in view (R20, check 2). -/
def State.unsetStep (s : State) (p : Pattern) (st : PatternStage) : Option Nat :=
  (stepNumbers (st.countOver p)).find? fun k => (s.stepInView p st k).isNone

/-- The steps in view (R16). -/
def State.stepsInView (s : State) (p : Pattern) (st : PatternStage) : List Step :=
  (stepNumbers (st.countOver p)).filterMap (s.stepInView p st)

/-- The position, from `k`, of the first direction that offends a rule of its position and the one before. -/
def firstOffender (offends : Nat → Direction → Direction → Bool) (k : Nat) (before : Direction) :
    List Direction → Option Nat
  | [] => none
  | d :: ds => if offends k before d then some k else firstOffender offends (k + 1) d ds

/-- The first field that offends the style rule: the step count or a step (R21). -/
def styleOffence (style : Style) (dirs : List Direction) : Option (Nat × Nat) :=
  match dirs with
  | [] => none
  | d1 :: rest =>
    match style with
    | .knife => (firstOffender (fun _ _ d => d != d1) 2 d1 rest).map fun k => (0x07, k)
    | .accordion => (firstOffender (fun _ before d => d == before) 2 d1 rest).map fun k => (0x07, k)
    | .box =>
      if dirs.length % 2 = 1 then some (0x06, 0)
      else
        (firstOffender (fun k _ d => if k % 2 = 1 then d != .right else d != .left) 1 d1 dirs).map fun k => (0x07, k)

/-- The blocks a step count needs: ceil(n / 8) (R23). -/
def blocksFor (n : Nat) : Nat := (n + Config.blockSlots - 1) / Config.blockSlots

/-- The blocks held by every pattern but one. -/
def State.blocksHeldByOthers (s : State) (n : Nat) : List Nat :=
  (s.rst.patterns.filter fun q => q.number != n).flatMap (·.blockMap)

/-- The blocks free to a pattern: those no other pattern holds, lowest first (R24, R25). -/
def State.blocksFreeTo (s : State) (n : Nat) : List Nat :=
  (List.range Config.blockCount).filter fun b => !(s.blocksHeldByOthers n).contains b

/-- The steps written into the blocks of a map, in step order (R23, R24). -/
def writeSteps (blockMap : List Nat) : Nat → List Step → List (Nat × Step) → List (Nat × Step)
  | _, [], pool => pool
  | k, v :: vs, pool =>
    match slotOf blockMap k with
    | none => writeSteps blockMap (k + 1) vs pool
    | some slot => writeSteps blockMap (k + 1) vs (poolWrite pool slot v)

/-- The pattern with its staged fields written, F, P and the minimum computed, the revision raised (R17, R20, R22). -/
def Pattern.written (p : Pattern) (st : PatternStage) (steps : List Step) : Pattern :=
  let trailer := st.trailer.getD p.trailer
  { p with
    state := if p.state = .edit then .ready else p.state
    name := st.name.getD p.name
    style := st.style.getD p.style
    trailer := trailer
    trimRange := st.trimRange.getD p.trimRange
    laneMask := st.laneMask.getD p.laneMask
    stepCount := st.countOver p
    revision := p.revision + 1
    flatLen := flatLength steps trailer
    pleatedLen := pleatedLength steps trailer
    minStep := minConsumption steps }

/-- The pattern written with its block map re-formed and its steps moved (R24). -/
def State.reformPattern (s : State) (p : Pattern) (st : PatternStage) (steps : List Step) : State :=
  let blocks := (s.blocksFreeTo p.number).take (blocksFor steps.length)
  ({ s with rst := { s.rst with pool := writeSteps blocks 1 steps (poolRelease p.blockMap s.rst.pool) } }).putPattern
    { p.written st steps with blockMap := blocks }

/-- The checks of a pattern commit, in order (R20). -/
def State.patternRefusal (s : State) (p : Pattern) (st : PatternStage) : Option Reply :=
  if p.refCount ≠ 0 ∧ st.locked = true then some (say .locked)
  else
    match s.unsetStep p st with
    | some k => some (invalid 0x07 k)
    | none =>
      let steps := s.stepsInView p st
      let trailer := st.trailer.getD p.trailer
      match styleOffence (st.style.getD p.style) (steps.map (·.dir)) with
      | some (id, idx) => some (invalid id idx)
      | none =>
        firstRefusal
          [(decide (pleatedLength steps trailer < 2500), invalid 0x24 0),
           (decide (60000 < flatLength steps trailer), invalid 0x23 0),
           (st.reforms && decide ((s.blocksFreeTo p.number).length < blocksFor steps.length), say .poolFull)]

/-- The commit of a pattern (R20). -/
def State.commitPattern (s : State) (key : Nat) (st : PatternStage) : Except Reply State :=
  match s.pattern? key with
  | none => .error (say .gone)
  | some p =>
    match s.patternRefusal p st with
    | some r => .error r
    | none =>
      let steps := s.stepsInView p st
      .ok (if st.reforms then s.reformPattern p st steps else s.putPattern (p.written st steps))

/-! ### Classes (R37) -/

/-- The fields of a class that may be unset, in view, in the order of R34's table, each with its identifier and index. The
name tag is not among them: the model takes it as set in view from CREATE on, with its eight spaces, though never staged
(the model's choice, log entry 38). -/
def FabricClass.fieldsInView (c : FabricClass) (st : ClassStage) : List (Nat × Nat × Option Nat) :=
  [(0x02, 1, setpointInView c st .z1), (0x02, 2, setpointInView c st .z2), (0x02, 3, setpointInView c st .z3),
   (0x02, 4, setpointInView c st .z4), (0x03, 0, inView st.maxBelt c.maxBelt), (0x04, 0, inView st.doseMin c.doseMin),
   (0x05, 0, inView st.doseMax c.doseMax)]

/-- The first unset field refused (R37 check 2, R174 check 2). -/
def firstUnset : List (Nat × Nat × Option Nat) → Option Reply
  | [] => none
  | (id, idx, v) :: rest => if v.isNone then some (invalid id idx) else firstUnset rest

/-- The checks of a class commit, in order (R37). -/
def FabricClass.refusal (c : FabricClass) (st : ClassStage) : Option Reply :=
  if c.refCount ≠ 0 ∧ (st.doseMin.isSome || st.doseMax.isSome) = true then some (say .locked)
  else
    match firstUnset (c.fieldsInView st) with
    | some r => some r
    | none =>
      if (inView st.doseMax c.doseMax).getD 0 ≤ (inView st.doseMin c.doseMin).getD 0 then some (invalid 0x05 0) else none

/-- The class with its staged fields written (R37). -/
def FabricClass.written (c : FabricClass) (st : ClassStage) : FabricClass :=
  { c with
    state := .defined
    name := st.name.getD c.name
    setpoints := c.setpoints.map fun z v => inView (st.setpoints.get z) v
    maxBelt := inView st.maxBelt c.maxBelt
    doseMin := inView st.doseMin c.doseMin
    doseMax := inView st.doseMax c.doseMax
    revision := c.revision + 1 }

/-- A staged setpoint handed to HSU (R40). -/
def State.handSetpoint (st : ClassStage) (c : Nat) (s : State) (z : ZoneId) : State :=
  match st.setpoints.get z with
  | none => s
  | some t => s.setpointCommitted c z t

/-- The commit of a class (R37, R40, R41). -/
def State.commitClass (s : State) (key : Nat) (st : ClassStage) : Except Reply State :=
  match s.class? key with
  | none => .error (say .gone)
  | some c =>
    match c.refusal st with
    | some r => .error r
    | none => .ok (allZones.foldl (State.handSetpoint st key) (s.putClass (c.written st)))

/-! ### Rolls (R49, R50) -/

/-- Whether class, initial length or intended station is staged (R49, check 1). -/
def RollStage.locked (st : RollStage) : Bool := st.cls.isSome || st.initLen.isSome || st.intended.isSome

/-- Whether a roll is NEW or DECLARED. -/
def Roll.open (r : Roll) : Bool := r.state == .new || r.state == .declared

/-- Whether a station is incoming in a splice: MATCHING or MATCHED. -/
def State.stationMatching (s : State) (x : Option Station) : Bool :=
  x.any fun y => s.station y == .matching || s.station y == .matched

/-- Whether a staged leader value is refused for the roll's state (R50, R71). -/
def State.leaderRefused (s : State) (r : Roll) (v : Bool) : Bool :=
  match r.state with
  | .new => v
  | .declared => v
  | .mounted => false
  | .prepared => !v && s.stationMatching r.station && s.fsu.phase == .press
  | .active => true
  | .spent => true

/-- The checks of a roll commit, in order (R49). -/
def State.rollRefusal (s : State) (r : Roll) (st : RollStage) : Option Reply :=
  firstRefusal
    [(!r.open && st.locked, say .locked),
     (st.leaderReady.any (s.leaderRefused r), say .wrongState),
     ((inView st.cls r.cls).isNone, invalid 0x01 0),
     ((inView st.initLen r.initLen).isNone, invalid 0x02 0),
     ((((inView st.cls r.cls).bind s.definedClass?).isNone), invalid 0x01 0),
     (s.intendedTaken r.tag (st.intended.getD r.intended), invalid 0x03 0)]

/-- The roll with its staged fields written; a NEW roll DECLARED; the remaining length follows the initial length until
the roll is ACTIVE (R47, R49). -/
def Roll.written (r : Roll) (st : RollStage) : Roll :=
  let len := inView st.initLen r.initLen
  { r with
    state := if r.state = .new then .declared else r.state
    cls := inView st.cls r.cls
    initLen := len
    intended := st.intended.getD r.intended
    leaderReady := st.leaderReady.getD r.leaderReady
    remaining := if r.state = .active ∨ r.state = .spent then r.remaining else len.getD 0 }

/-- Leader READY on a MOUNTED roll: roll and station PREPARED; FSU makes its threading test where this is the requested
station, and its auto-splice test (R50, R56, R61). -/
def State.prepareRoll (s : State) (r : Roll) (x : Station) : State :=
  let s1 := (s.putRoll { r with state := .prepared }).setStation x .prepared
  (if s.rst.line.requested = some x then s1.threadTest else s1).autoSpliceTest

/-- Leader NOT_READY on a PREPARED roll: roll MOUNTED, station SEATED; a splice onto it in MATCHING is abandoned first
(R50, R71). -/
def State.unprepareRoll (s : State) (r : Roll) (x : Station) : State :=
  if s.stationMatching (some x) then
    (((s.abandonSplice .abandoned).putRoll { r with state := .mounted }).setStation x .seated).afterSplice
  else (s.putRoll { r with state := .mounted }).setStation x .seated

/-- A committed leader value (R50). -/
def State.leaderCommitted (s : State) (r : Roll) (v : Option Bool) : State :=
  match v, r.state, r.station with
  | some true, .mounted, some x => s.prepareRoll r x
  | some false, .prepared, some x => s.unprepareRoll r x
  | _, _, _ => s

/-- A DECLARED roll bound to its intended station where that is seated with no roll bound (R49). -/
def State.bindCommitted (s : State) (r : Roll) : State :=
  match r.state, r.intended with
  | .declared, some x =>
    if s.station x = .seated ∧ (s.boundRoll? x).isNone = true then s.bindRoll x r else s
  | _, _ => s

/-- The commit of a roll (R49). -/
def State.commitRoll (s : State) (key : Nat) (st : RollStage) : Except Reply State :=
  match s.roll? key with
  | none => .error (say .gone)
  | some r =>
    match s.rollRefusal r st with
    | some refusal => .error refusal
    | none =>
      let r1 := r.written st
      .ok (((s.putRoll r1).settleCounts.leaderCommitted r1 st.leaderReady).bindCommitted r1)

/-! ### Lots (R80) -/

/-- Whether pattern, class, make-up allowance, roll restriction or place is staged (R80, check 1). -/
def LotStage.locked (st : LotStage) : Bool :=
  st.pattern.isSome || st.cls.isSome || st.makeupAllowance.isSome || st.restriction.isSome || st.place.isSome

/-- Whether a pattern number names a READY pattern (R26, R80). -/
def State.patternReady (s : State) (n : Nat) : Bool := (s.pattern? n).any fun p => p.state == .ready

/-- Whether a staged panels ordered falls below the entered count of a FEEDING lot (R80 check 5, R89). -/
def State.belowEntered (s : State) (l : Lot) (st : LotStage) : Bool :=
  match l.state, st.ordered, l.head with
  | .feeding, some n, some h =>
    decide (n + l.makeupUsed < enteredCount s.fsu.w h (s.lotFlatLen l) l.planned l.started + l.cancelled)
  | _, _, _ => false

/-- Whether a staged place names no waiting lot (R80, check 6). -/
def State.badPlace (s : State) (st : LotStage) : Bool :=
  st.place.any fun n => n != 0 && !(s.lot? n).any (·.waiting)

/-- The checks of a lot commit, in order (R80). -/
def State.lotRefusal (s : State) (l : Lot) (st : LotStage) : Option Reply :=
  firstRefusal
    [((!l.waiting && st.locked) || ((l.state == .fed || l.state == .done) && st.ordered.isSome), say .locked),
     ((inView st.pattern l.pattern).isNone, invalid 0x01 0),
     ((inView st.cls l.cls).isNone, invalid 0x02 0),
     ((inView st.ordered l.ordered).isNone, invalid 0x03 0),
     (st.pattern.any fun n => !s.patternReady n, invalid 0x01 0),
     (st.cls.any fun n => (s.definedClass? n).isNone, invalid 0x02 0),
     (s.belowEntered l st, invalid 0x03 0),
     (s.badPlace st, invalid 0x07 0)]

/-- The lot with its staged fields written and planned recomputed (R78, R80). -/
def Lot.written (l : Lot) (st : LotStage) : Lot :=
  ({ l with
    state := if l.state = .new then .queued else l.state
    pattern := inView st.pattern l.pattern
    cls := inView st.cls l.cls
    ordered := inView st.ordered l.ordered
    makeupAllowance := st.makeupAllowance.getD l.makeupAllowance
    restriction := st.restriction.getD l.restriction
    held := st.held.getD l.held } : Lot).replan

/-- A staged place moves the lot among the waiting lots (R82). -/
def State.placeCommitted (s : State) (n : Nat) (st : LotStage) : State :=
  match st.place with
  | none => s
  | some place => s.moveInOrder n place

/-- Panels ordered committed on a FEEDING lot: the tail moved, the lot FED where it is brought to W (R89). -/
def State.orderedCommitted (s : State) (l : Lot) (st : LotStage) : State :=
  if l.state = .feeding ∧ st.ordered.isSome = true
  then (s.putLot (l.retail (s.lotFlatLen l))).tailMoved l.number
  else s

/-- The commit of a lot (R80). -/
def State.commitLot (s : State) (key : Nat) (st : LotStage) : Except Reply State :=
  match s.lot? key with
  | none => .error (say .gone)
  | some l =>
    match s.lotRefusal l st with
    | some r => .error r
    | none =>
      let l1 := l.written st
      .ok ((((s.putLot l1).placeCommitted key st).settleCounts).orderedCommitted l1 st)

/-! ### Panels (R137) -/

/-- The commit of a panel's reject flag (R137). -/
def State.commitPanel (s : State) (key : Nat) (st : PanelStage) : Except Reply State :=
  match s.panel? (panelKeyOf key) with
  | none => .error (say .gone)
  | some p => .ok (s.changePanel p.key fun q => { q with reject := st.reject.getD q.reject })

/-! ### The Line record (R174) -/

/-- The set-once fields in view, in the order of R171's table. -/
def LineRecord.setOnceInView (l : LineRecord) (st : LineStage) : List (Nat × Nat × Option Nat) :=
  [(0x01, 0, inView st.strikePeriod l.strikePeriod), (0x02, 0, inView st.creep l.creep),
   (0x03, 0, inView st.spliceSpeed l.spliceSpeed), (0x04, 0, inView st.accel l.accel),
   (0x05, 0, inView st.permitPeriod l.permitPeriod), (0x06, 0, inView st.spliceReserve l.spliceReserve),
   (0x07, 0, inView st.tensionBand l.tensionBand), (0x08, 0, inView st.standby l.standby),
   (0x09, 0, inView st.wasteLen l.wasteLen)]

/-- Whether a set-once field is staged. -/
def LineStage.setOnce (st : LineStage) : Bool :=
  st.strikePeriod.isSome || st.creep.isSome || st.spliceSpeed.isSome || st.accel.isSome || st.permitPeriod.isSome ||
    st.spliceReserve.isSome || st.tensionBand.isSome || st.standby.isSome || st.wasteLen.isSome

/-- The checks of a Line commit, in order: the key for a pendant's set speed (R181), then R174's. -/
def State.lineRefusal (s : State) (p : Port) (st : LineStage) : Option Reply :=
  let l := s.rst.line
  if p = .pen ∧ st.setSpeed.isSome = true ∧ s.keyLocal = false then some (say .keyPosition)
  else if st.setOnce = true ∧ l.windowOpen = false then some (say .fixed)
  else
    match (if st.setOnce then firstUnset (l.setOnceInView st) else none) with
    | some r => some r
    | none =>
      firstRefusal
        [(st.heat == some true && s.asserted .eStop, say .notReady),
         (st.heat == some true && !l.configured && !st.setOnce, say .notConfigured)]

/-- One staged trim written. -/
def putTrim (trims : List Nat) (e : Nat × Nat) : List Nat := trims.set (e.1 - 1) e.2

/-- The Line record with its staged fields written, HEAT apart; configured and its window closed by a set-once field
(R170, R171, R174). -/
def LineRecord.written (l : LineRecord) (st : LineStage) : LineRecord :=
  { l with
    strikePeriod := inView st.strikePeriod l.strikePeriod
    creep := inView st.creep l.creep
    spliceSpeed := inView st.spliceSpeed l.spliceSpeed
    accel := inView st.accel l.accel
    permitPeriod := inView st.permitPeriod l.permitPeriod
    spliceReserve := inView st.spliceReserve l.spliceReserve
    tensionBand := inView st.tensionBand l.tensionBand
    standby := inView st.standby l.standby
    wasteLen := inView st.wasteLen l.wasteLen
    setSpeed := st.setSpeed.getD l.setSpeed
    requested := st.requested.getD l.requested
    autoSplice := st.autoSplice.getD l.autoSplice
    laneMask := st.laneMask.getD l.laneMask
    trims := st.trims.foldl putTrim l.trims
    configured := l.configured || st.setOnce
    windowOpen := l.windowOpen && !st.setOnce }

/-- An effect of a commit where its condition holds. -/
def State.when (s : State) (c : Bool) (g : State → State) : State := if c then g s else s

/-- A changed standby temperature reaches the zones in STANDBY while HEAT is ON (R118; log entry 33). -/
def State.standbyCommitted (s : State) : State :=
  if s.rst.line.heat then
    s.mapZones fun _ v => if v.mode = .standby then { v with target := s.rst.line.standby } else v
  else s

/-- A committed change of HEAT (R129). -/
def State.heatCommitted (s : State) (v : Option Bool) : State :=
  match v with
  | none => s
  | some true => if s.rst.line.heat then s else s.heatOn
  | some false => if s.rst.line.heat then s.heatOff else s

/-- The configuring commit: Expiring is judged, and the auto-splice test follows its setting (R58, R61). -/
def State.configuredCommitted (s : State) : State :=
  if s.judgeExpiring.activeExpiring && !s.activeExpiring then s.judgeExpiring.autoSpliceTest else s.judgeExpiring

/-- The changed fields handed to the units that act on them (R172, R174): `old` is the record before the commit. The order among
them is the model's choice (log entry 43): a changed standby temperature reaches the STANDBY zones before HEAT OFF of the same commit
takes them to OFF, so that they keep the new target. -/
def State.lineCommitted (s : State) (old : LineRecord) (st : LineStage) : State :=
  let new := s.rst.line
  ((((((s.when (old.setSpeed != new.setSpeed) State.clearTension).when
      (!old.configured && new.configured) State.configuredCommitted).when
      (old.standby != new.standby) State.standbyCommitted).heatCommitted st.heat).when
      (old.requested != new.requested) State.threadTest).when
      (!old.autoSplice && new.autoSplice) State.autoSpliceTest)

/-- The commit of the Line record (R174). -/
def State.commitLine (s : State) (p : Port) (st : LineStage) : Except Reply State :=
  match s.lineRefusal p st with
  | some r => .error r
  | none =>
    .ok (({ s with rst := { s.rst with line := s.rst.line.written st } }).lineCommitted s.rst.line st)

/-- A commit by the rule of the record's table (R192): the new state, the slot apart, or the refusal. -/
def State.commit (s : State) (p : Port) (key : Nat) (st : Staging) : Except Reply State :=
  match st with
  | .pattern g => s.commitPattern key g
  | .cls g => s.commitClass key g
  | .roll g => s.commitRoll key g
  | .lot g => s.commitLot key g
  | .panel g => s.commitPanel key g
  | .line g => s.commitLine p g

end Sys2Proof.Machine
end

