-- ==== Sys2Proof/Machine/Records.lean ====
section
/-! DEFINITION. The record commands (R187–R196): CREATE, OPEN, GET, PUT, CLOSE, NEXT, DISCARD, RETIRE and FIND, each as an
answer: from the requesting port, the operand bytes and the state, the state after and the response. -/

namespace Sys2Proof.Machine

/-- A refused request: nothing changes (R180, R200). -/
def refuse (s : State) (st : Status) : State × Reply := (s, say st)

/-- A request taken and answered OK with no payload. -/
def done (s : State) : State × Reply := (s, say .ok)

/-! ### Claims and slots (R183–R185) -/

/-- Whether a record has never been committed (R31, R43, R51, R79). -/
def State.neverCommitted (s : State) (t : Table) (key : Nat) : Bool :=
  match t with
  | .pattern => (s.pattern? key).any fun p => p.state == .edit
  | .cls => (s.class? key).any fun c => c.state == .new
  | .roll => (s.roll? key).any fun r => r.state == .new
  | .lot => (s.lot? key).any fun l => l.state == .new
  | .panel => false
  | .line => false

/-- A record removed from its table, a lot from the line order too (R51, R79, R81). -/
def State.dropRecord (s : State) (t : Table) (key : Nat) : State :=
  match t with
  | .pattern => { s with rst := { s.rst with patterns := dropKey (·.number) key s.rst.patterns } }
  | .cls => { s with rst := { s.rst with classes := dropKey (·.number) key s.rst.classes } }
  | .roll => { s with rst := { s.rst with rolls := dropKey (·.tag) key s.rst.rolls } }
  | .lot => ({ s with rst := { s.rst with lots := dropKey (·.number) key s.rst.lots } }).leaveOrder key
  | .panel => s
  | .line => s

/-- The open of a port ended: the slot EMPTY; with a write claim, a record never committed removed (R184, R192, R194). -/
def State.endOpen (s : State) (p : Port) : State :=
  match s.slot p with
  | .write key st =>
    let s1 := s.setSlot p .empty
    if s1.neverCommitted st.table key then (s1.dropRecord st.table key).sweep else s1
  | .read _ _ => s.setSlot p .empty
  | .empty => s.setSlot p .empty
  | .lost _ _ => s.setSlot p .empty

/-- What CREATE and OPEN find at the slot check: a LOST mark dropped, an open slot refused (R183). -/
def State.freshSlot (s : State) (p : Port) : Option State :=
  match s.slot p with
  | .empty => some s
  | .lost _ _ => some (s.setSlot p .empty)
  | .read _ _ => none
  | .write _ _ => none

/-! ### CREATE (R18, R36, R48, R79, R188) -/

/-- Eight spaces (R15, R34). -/
def blankName : List Byte := List.replicate 8 0x20#8

/-- A pattern as CREATE makes it (R15, R17, R18). -/
def Pattern.created (n : Nat) : Pattern :=
  { number := n, state := .edit, name := blankName, style := .knife, trailer := 0, trimRange := .normal,
    laneMask := none, stepCount := 1, refCount := 0, revision := 0, flatLen := 0, pleatedLen := 0, minStep := 0,
    blockMap := [] }

/-- A class as CREATE makes it (R34–R36). -/
def FabricClass.created (n : Nat) : FabricClass :=
  { number := n, state := .new, name := blankName, setpoints := ⟨none, none, none, none⟩, maxBelt := none,
    doseMin := none, doseMax := none, refCount := 0, revision := 0 }

/-- A roll as CREATE makes it (R46, R47). -/
def Roll.created (tag : Nat) : Roll :=
  { tag := tag, state := .new, cls := none, initLen := none, intended := none, leaderReady := false, station := none,
    remaining := 0, expiring := false, attemptSpent := false }

/-- A lot as CREATE makes it (R77, R78). -/
def Lot.created (n : Nat) : Lot :=
  { number := n, state := .new, pattern := none, cls := none, ordered := none, makeupAllowance := none,
    restriction := none, held := false, head := none, tail := none, joints := [], makeupUsed := 0, cancelled := 0,
    planned := 0, started := 0, good := 0, rejected := ⟨0, 0, 0, 0, 0, 0⟩, lost := 0 }

/-- A new record open for writing on the requesting port (R188). -/
def State.openCreated (s : State) (p : Port) (key : Nat) (st : Staging) : State × Reply := done (s.setSlot p (.write key st))

/-- CREATE on the pattern table (R18). -/
def State.createPattern (s : State) (p : Port) (n : Nat) : State × Reply :=
  if Config.patternCount < n then refuse s .outOfRange
  else if (s.pattern? n).isSome then refuse s .exists_
  else (s.putPattern (Pattern.created n)).openCreated p n (.pattern {})

/-- CREATE on the class table (R36). -/
def State.createClass (s : State) (p : Port) (n : Nat) : State × Reply :=
  if Config.classCount < n then refuse s .outOfRange
  else if (s.class? n).isSome then refuse s .exists_
  else (s.putClass (FabricClass.created n)).openCreated p n (.cls {})

/-- CREATE on the roll table, with the fields it carries and whether each is in its range (R48). Where several of R48's refusals
apply, EXISTS comes before TABLE_FULL and that before the fields' OUT_OF_RANGE (the model's choice, log entry 42). -/
def State.createRoll (s : State) (p : Port) (tag : Nat) (st : RollStage) (inRange : Bool) : State × Reply :=
  if (s.roll? tag).isSome then refuse s .exists_
  else if Config.rollCount ≤ s.rst.rolls.length then refuse s .tableFull
  else if inRange = false then refuse s .outOfRange
  else (s.putRoll (Roll.created tag)).openCreated p tag (.roll st)

/-- CREATE on the lot table (R79, R81). A number in use in a full table answers EXISTS (the model's choice, log entry 42). -/
def State.createLot (s : State) (p : Port) (n : Nat) : State × Reply :=
  if 65535 < n then refuse s .outOfRange
  else if (s.lot? n).isSome then refuse s .exists_
  else if Config.lotCount ≤ s.rst.lots.length then refuse s .tableFull
  else
    let s1 := s.putLot (Lot.created n)
    ({ s1 with rst := { s1.rst with order := s1.rst.order ++ [n] } }).openCreated p n (.lot {})

/-- CREATE past the checks of R180 (R188). -/
def State.createIn (s : State) (p : Port) (t : Table) (key : Nat) (st : RollStage) (inRange : Bool) : State × Reply :=
  match t with
  | .line => refuse s .exists_
  | .panel => refuse s .readOnly
  | .pattern => if key = 0 then refuse s .outOfRange else s.createPattern p key
  | .cls => if key = 0 then refuse s .outOfRange else s.createClass p key
  | .roll => if key = 0 then refuse s .outOfRange else s.createRoll p key st inRange
  | .lot => if key = 0 then refuse s .outOfRange else s.createLot p key

/-- The items after table and key of a CREATE: for ROLL the fields it carries, for any other table none (R202). -/
def createItems (table : Nat) (rest : List Byte) : Option (RollStage × Bool) :=
  if table = 0x03 then rollItems 3 rest
  else if rest.isEmpty then some ({}, true)
  else none

/-- The answer to CREATE (R180, R182, R188). -/
def answerCreate (p : Port) (ops : List Byte) (s : State) : State × Reply :=
  match readNamed ops with
  | none => refuse s .outOfRange
  | some n =>
    match createItems n.table n.rest with
    | none => refuse s .outOfRange
    | some (st, inRange) =>
      match tableOf n.table with
      | none => refuse s .badTable
      | some t =>
        if p = .pen ∧ t ≠ .roll then refuse s .privilege
        else
          match s.freshSlot p with
          | none => refuse s .alreadyOpen
          | some s1 => s1.createIn p t n.key st inRange

/-! ### OPEN (R189) -/

/-- The record an OPEN names: by its key, or by the first key the first of the listing; the refusal where there is none
(R187, R189). -/
def State.openTarget (s : State) (t : Table) (key : Nat) : Except Status Nat :=
  if key = 0 ∧ t ≠ .line then
    match s.listing t with
    | [] => .error .end_
    | k :: _ => .ok k
  else if s.recordExists t key then .ok key
  else .error .noSuchRecord

/-- A record opened, the answer naming it (R189, R204). -/
def State.openAs (s : State) (p : Port) (t : Table) (key : Nat) (write : Bool) : State × Reply :=
  (s.setSlot p (if write then .write key (Staging.fresh t) else .read t key),
    { status := .ok, payload := nameRecord t key })

/-- OPEN past the checks of R180 (R189). -/
def State.openIn (s : State) (p : Port) (t : Table) (key : Nat) (write : Bool) : State × Reply :=
  match s.openTarget t key with
  | .error e => refuse s e
  | .ok k => if write && s.claims p.other t k then refuse s .held else s.openAs p t k write

/-- The mode of an OPEN: READ or WRITE (section 11.1). -/
def openMode : List Byte → Option Bool
  | [0x00#8] => some false
  | [0x01#8] => some true
  | _ => none

/-- The answer to OPEN (R180, R182, R189). -/
def answerOpen (p : Port) (ops : List Byte) (s : State) : State × Reply :=
  match readNamed ops with
  | none => refuse s .outOfRange
  | some n =>
    match openMode n.rest with
    | none => refuse s .outOfRange
    | some write =>
      match tableOf n.table with
      | none => refuse s .badTable
      | some t =>
        if p = .pen ∧ write = true ∧ (t = .pattern ∨ t = .cls) then refuse s .privilege
        else
          match s.freshSlot p with
          | none => refuse s .alreadyOpen
          | some s1 => s1.openIn p t n.key write

/-! ### GET and PUT (R190, R191) -/

/-- A GONE answer moves the slot from LOST to EMPTY (R183). -/
def State.gone (s : State) (p : Port) : State × Reply := (s.setSlot p .empty, say .gone)

/-- GET past decoding (R183, R190). -/
def State.getField (s : State) (p : Port) (id idx : Nat) : State × Reply :=
  match s.slot p with
  | .empty => refuse s .notOpen
  | .lost _ _ => s.gone p
  | .read t key => (s, s.getAnswer t key (Staging.fresh t) id idx)
  | .write key st => (s, s.getAnswer st.table key st id idx)

/-- The answer to GET: exactly a field identifier and an index (R202). -/
def answerGet (p : Port) (ops : List Byte) (s : State) : State × Reply :=
  match ops with
  | [id, idx] => s.getField p id.toNat idx.toNat
  | _ => refuse s .outOfRange

/-- PUT past decoding (R183, R191). -/
def State.putField (s : State) (p : Port) (id idx : Nat) (bs : List Byte) : State × Reply :=
  match s.slot p with
  | .empty => refuse s .notOpen
  | .lost _ _ => s.gone p
  | .read _ _ => refuse s .notOpen
  | .write key st =>
    match s.putAnswer p key st id idx bs with
    | .error e => refuse s e
    | .ok st1 => done (s.setSlot p (.write key st1))

/-- The answer to PUT: at least a field identifier and an index (R202). -/
def answerPut (p : Port) (ops : List Byte) (s : State) : State × Reply :=
  match ops with
  | id :: idx :: bs => s.putField p id.toNat idx.toNat bs
  | _ => refuse s .outOfRange

/-! ### CLOSE, NEXT, DISCARD (R192–R194) -/

/-- The first part of CLOSE and NEXT on an open slot: the open ended, a staging copy committed; or the refusal (R192). -/
def State.closeSlot (s : State) (p : Port) : Except Reply State :=
  match s.slot p with
  | .write key st =>
    if st.isEmpty then .ok (s.endOpen p)
    else
      match s.commit p key st with
      | .error r => .error r
      | .ok s1 => .ok (s1.setSlot p .empty)
  | .read _ _ => .ok (s.endOpen p)
  | .empty => .ok s
  | .lost _ _ => .ok s

/-- CLOSE past decoding (R183, R192). -/
def State.close (s : State) (p : Port) : State × Reply :=
  match s.slot p with
  | .empty => refuse s .notOpen
  | .lost _ _ => s.gone p
  | .read _ _ => done (s.endOpen p)
  | .write _ _ =>
    match s.closeSlot p with
    | .error r => (s, r)
    | .ok s1 => done s1.endAct

/-- The answer to CLOSE. -/
def answerClose (p : Port) (ops : List Byte) (s : State) : State × Reply :=
  if ops.isEmpty then s.close p else refuse s .outOfRange

/-- The key that follows another in a listing. -/
def keyAfter (key : Nat) : List Nat → Option Nat
  | [] => none
  | k :: ks => if k = key then ks.head? else keyAfter key ks

/-- The next record after the one just closed: by the listing after the first part, or by the one before it where the
record has left the listing (R193). -/
def nextAfter (before after : List Nat) (key : Nat) : Option Nat :=
  if after.contains key then keyAfter key after else keyAfter key before

/-- The second part of NEXT (R193). -/
def State.openNext (s : State) (p : Port) (t : Table) (next : Option Nat) (write : Bool) : State × Reply :=
  match next.filter (s.recordExists t) with
  | none => refuse s .end_
  | some k =>
    if write && s.claims p.other t k then (s, { status := .held, payload := nameRecord t k })
    else s.openAs p t k write

/-- NEXT past decoding (R183, R193). -/
def State.next (s : State) (p : Port) : State × Reply :=
  match s.slot p with
  | .empty => refuse s .notOpen
  | .lost _ _ => s.gone p
  | .read t key => (s.endOpen p).openNext p t (keyAfter key (s.listing t)) false
  | .write key st =>
    match s.closeSlot p with
    | .error r => (s, r)
    | .ok s1 => s1.endAct.openNext p st.table (nextAfter (s.listing st.table) (s1.listing st.table) key) true

/-- The answer to NEXT. -/
def answerNext (p : Port) (ops : List Byte) (s : State) : State × Reply :=
  if ops.isEmpty then s.next p else refuse s .outOfRange

/-- DISCARD past decoding (R183, R194). -/
def State.discard (s : State) (p : Port) : State × Reply :=
  match s.slot p with
  | .empty => refuse s .notOpen
  | .lost _ _ => s.gone p
  | .read _ _ => done (s.endOpen p)
  | .write _ _ => done (s.endOpen p)

/-- The answer to DISCARD. -/
def answerDiscard (p : Port) (ops : List Byte) (s : State) : State × Reply :=
  if ops.isEmpty then s.discard p else refuse s .outOfRange

/-! ### RETIRE (R29, R42, R51, R90, R195) -/

/-- A pattern removed: its blocks released (R19, R29). -/
def State.freePattern (s : State) (p : Pattern) : State :=
  (({ s with rst := { s.rst with pool := poolRelease p.blockMap s.rst.pool } }).dropRecord .pattern p.number).sweep

/-- RETIRE of a pattern (R29). -/
def State.retirePattern (s : State) (n : Nat) : State × Reply :=
  if Config.patternCount < n then refuse s .outOfRange
  else
    match s.pattern? n with
    | none => refuse s .noSuchRecord
    | some p =>
      match p.state with
      | .edit => refuse s .held
      | .retiring => refuse s .wrongState
      | .ready => if p.refCount = 0 then done (s.freePattern p) else done (s.putPattern { p with state := .retiring })

/-- RETIRE of a class (R42). -/
def State.retireClass (s : State) (n : Nat) : State × Reply :=
  if Config.classCount < n then refuse s .outOfRange
  else
    match s.class? n with
    | none => refuse s .noSuchRecord
    | some c =>
      match c.state with
      | .new => refuse s .held
      | .defined =>
        if c.refCount ≠ 0 ∨ s.rst.panels.any (fun p => p.cls == n) = true then refuse s .inUse
        else done (((s.dropRecord .cls n).sweep.classFreed n).endAct)

/-- RETIRE of a roll (R51). -/
def State.retireRoll (s : State) (tag : Nat) : State × Reply :=
  match s.roll? tag with
  | none => refuse s .noSuchRecord
  | some r =>
    match r.state with
    | .new => refuse s .held
    | .declared => done (s.dropRecord .roll tag).settleCounts
    | .spent => if r.station = none then done (s.dropRecord .roll tag).settleCounts else refuse s .wrongState
    | .mounted => refuse s .wrongState
    | .prepared => refuse s .wrongState
    | .active => refuse s .wrongState

/-- RETIRE of a lot (R90, R91). -/
def State.retireLot (s : State) (n : Nat) : State × Reply :=
  match s.lot? n with
  | none => refuse s .noSuchRecord
  | some l =>
    match l.state with
    | .new => refuse s .held
    | .queued => done (s.dropRecord .lot n).settleCounts
    | .feeding => done (s.cancelLot l).endAct
    | .fed => refuse s .wrongState
    | .done => done (s.dropRecord .lot n).settleCounts

/-- RETIRE past the checks of R180 (R195). -/
def State.retireIn (s : State) (t : Table) (key : Nat) : State × Reply :=
  if t = .panel ∨ t = .line then refuse s .readOnly
  else if key = 0 then refuse s .outOfRange
  else if s.claims .sup t key || s.claims .pen t key then refuse s .held
  else
    match t with
    | .pattern => s.retirePattern key
    | .cls => s.retireClass key
    | .roll => s.retireRoll key
    | .lot => s.retireLot key
    | .panel => refuse s .readOnly
    | .line => refuse s .readOnly

/-- The answer to RETIRE (R180, R182, R195). -/
def answerRetire (p : Port) (ops : List Byte) (s : State) : State × Reply :=
  match readNamed ops with
  | none => refuse s .outOfRange
  | some n =>
    if n.rest.isEmpty then
      match tableOf n.table with
      | none => refuse s .badTable
      | some t => if p = .pen ∧ t ≠ .roll then refuse s .privilege else s.retireIn t n.key
    else refuse s .outOfRange

/-! ### FIND (R196) -/

/-- The name of a panel, where there is one. -/
def namePanel (p : Option Panel) : Option (List Byte) := p.map fun q => nameRecord .panel q.key.toKey

/-- The lot of the forming panel, while the lot table has it (R196). -/
def State.bladeLot? (s : State) : Option Lot :=
  (s.pfm.forming.filter fun f => f.kind == .product).bind fun f => s.lot? f.key.lot

/-- The record at a place of FIND: none where the place has none; the place must be 0x01–0x09 (R196, R201). -/
def State.findAt (s : State) : Nat → Option (List Byte)
  | 0x01 => s.feedingLot?.map fun l => nameRecord .lot l.number
  | 0x02 => s.bladeLot?.map fun l => nameRecord .lot l.number
  | 0x03 => namePanel (s.pfm.forming.bind fun f => s.panel? f.key)
  | 0x04 => namePanel (s.leadPanel .z1)
  | 0x05 => namePanel (s.leadPanel .z2)
  | 0x06 => namePanel (s.leadPanel .z3)
  | 0x07 => namePanel (s.leadPanel .z4)
  | 0x08 => namePanel (farthest s.exu.b (s.rst.panels.filter fun p => p.inCooling s.exu.b))
  | 0x09 => namePanel (s.rst.panels.find? fun p => p.atCutter s.exu.b)
  | _ => none

/-- The answer to FIND (R196, R202). -/
def answerFind (_p : Port) (ops : List Byte) (s : State) : State × Reply :=
  match ops with
  | [place] =>
    if 1 ≤ place.toNat ∧ place.toNat ≤ 9 then
      match s.findAt place.toNat with
      | none => refuse s .noSuchRecord
      | some bs => (s, { status := .ok, payload := bs })
    else refuse s .outOfRange
  | _ => refuse s .outOfRange

end Sys2Proof.Machine
end

