-- ==== Sys2Proof/Machine/LineCommands.lean ====
section
/-! DEFINITION. The line commands as answers: START, STOP, HOLD, RESUME, TRIP_RESET (R162–R165), STEP (R113), SPLICE (R60),
PERMIT (R130), CLEAR (R198), LINE_RESET (R175, R176, R95, R115, R134, R152, R186), STATUS and IDENT (R197). -/

namespace Sys2Proof.Machine

/-- A line command that carries no operand (section 11.1, R202). -/
def bare (ops : List Byte) (s : State) (g : State × Reply) : State × Reply := if ops.isEmpty then g else refuse s .outOfRange

/-- Whether the KEY input admits a motion command from a port: the supervisor at REMOTE, the pendant at LOCAL (R181). -/
def State.keyAdmits (s : State) (p : Port) : Bool :=
  match p with
  | .sup => !s.keyLocal
  | .pen => s.keyLocal

/-- A motion command with no operand, past the key check of R181. -/
def motion (p : Port) (ops : List Byte) (s : State) (g : State × Reply) : State × Reply :=
  bare ops s (if s.keyAdmits p then g else refuse s .keyPosition)

/-! ### START (R162) -/

/-- The first segment and the first panel start of a run: at the current W, and at W − 20,000 (R84, R103). -/
def State.firstSegment (s : State) : State :=
  if s.ltr.segment = .none then (s.entryDecision s.fsu.w).panelStart (s.fsu.w - 20000#40) else s

/-- FSU's auto-splice test and LTR's first decision at a START: where both act, in an order the spec leaves free (R162,
log entry 11). -/
def State.startUnits (s : State) : State :=
  if s.autoSpliceReady && s.ltr.segment == .none then
    if Config.startSpliceFirst s.freeIdx then s.takeFree.autoSpliceTest.firstSegment
    else s.takeFree.firstSegment.autoSpliceTest
  else s.autoSpliceTest.firstSegment

/-- The set-once window closes (R171). -/
def State.closeWindow (s : State) : State :=
  { s with rst := { s.rst with line := { s.rst.line with windowOpen := false } } }

/-- An accepted START (R162). -/
def State.startLine (s : State) : State :=
  let s1 := { s with sgv := { s.sgv with gov := .creep, intent := true } }
  ((s1.closeWindow.clearTension.startUnits).zonesToWarming).endAct

/-- START past the port checks (R162). -/
def State.tryStart (s : State) : State × Reply :=
  if s.rst.line.configured = false then refuse s .notConfigured
  else if s.sgv.gov = .stopped then
    if s.activeStation = none then refuse s .notReady
    else if s.sgv.stops ≠ 0#5 then refuse s .notReady
    else done s.startLine
  else if (s.running && s.sgv.intent) = true then done s
  else refuse s .wrongState

/-- The answer to START. -/
def answerStart (p : Port) (ops : List Byte) (s : State) : State × Reply := motion p ops s s.tryStart

/-! ### STOP, HOLD, RESUME, TRIP_RESET (R163–R165) -/

/-- The answer to STOP (R163). -/
def answerStop (_p : Port) (ops : List Byte) (s : State) : State × Reply := bare ops s (done s.stopLine.endAct)

/-- The answer to HOLD (R164). -/
def answerHold (_p : Port) (ops : List Byte) (s : State) : State × Reply := bare ops s (done (s.setHold .host).endAct)

/-- The answer to RESUME (R164). -/
def answerResume (p : Port) (ops : List Byte) (s : State) : State × Reply :=
  motion p ops s (done (s.dropHold .host).endAct)

/-- TRIP_RESET past the port checks (R165). -/
def State.resetTrip (s : State) : State × Reply :=
  if s.sgv.gov ≠ .tripped then refuse s .wrongState
  else if s.asserted .eStop = true then refuse s .notReady
  else if s.sgv.trips ≠ 0#3 then refuse s .notReady
  else if s.sgv.standstill = false then refuse s .notReady
  else done s.enterStopped.endAct

/-- The answer to TRIP_RESET. -/
def answerTripReset (p : Port) (ops : List Byte) (s : State) : State × Reply := motion p ops s s.resetTrip

/-! ### STEP (R113) -/

/-- The first panel of a step with no panel forming: at W − 20,000 (R113). -/
def State.firstStepPanel (s : State) : State :=
  match s.pfm.forming with
  | none => s.panelStart (s.fsu.w - 20000#40)
  | some _ => s

/-- The step target: the forming PRODUCT panel's next strike point at the blade, else W + 1,000 (R113). -/
def State.stepTargetNow (s : State) : Coord :=
  match s.pfm.forming, s.pfm.nextStrike with
  | some f, some (c, _) => if f.kind = .product then advance c 20000 else advance s.fsu.w 1000
  | _, _ => advance s.fsu.w 1000

/-- An accepted STEP (R113, R171). -/
def State.beginStep (s : State) : State :=
  let s1 := s.firstStepPanel
  let s2 := { s1 with
    pfm := { s1.pfm with stepTarget := some (s1.stepTargetNow, false) }
    sgv := { s1.sgv with gov := .stepping } }
  (s2.closeWindow.zonesToStandby).endAct

/-- STEP past the port checks (R113). -/
def State.tryStep (s : State) : State × Reply :=
  if s.rst.line.configured = false then refuse s .notConfigured
  else if s.sgv.gov ≠ .stopped then refuse s .wrongState
  else if s.activeStation = none then refuse s .notReady
  else if s.sgv.stops ≠ 0#5 ∨ s.sgv.trips ≠ 0#3 then refuse s .notReady
  else if s.pfm.cycle ≠ .idle then refuse s .notReady
  else done s.beginStep

/-- The answer to STEP. -/
def answerStep (p : Port) (ops : List Byte) (s : State) : State × Reply := motion p ops s s.tryStep

/-! ### SPLICE (R60), PERMIT (R130) -/

/-- SPLICE past the port checks (R60): a refusal sets the last outcome. -/
def State.splice (s : State) : State × Reply :=
  match s.spliceRefusal with
  | some e => (s.setOutcome .refused, say e)
  | none => done s.beginSplice.endAct

/-- The answer to SPLICE. -/
def answerSplice (p : Port) (ops : List Byte) (s : State) : State × Reply := motion p ops s s.splice

/-- A line command refused to the pendant (R182). -/
def supervisorOnly (p : Port) (ops : List Byte) (s : State) (g : State × Reply) : State × Reply :=
  bare ops s (if p = .pen then refuse s .privilege else g)

/-- PERMIT past the port checks (R130). -/
def State.permitHeat (s : State) : State × Reply :=
  match s.hsu.permit with
  | none => refuse s .wrongState
  | some _ => done { s with hsu := { s.hsu with permit := some (s.rst.line.permitPeriod.getD 0) } }

/-- The answer to PERMIT. -/
def answerPermit (p : Port) (ops : List Byte) (s : State) : State × Reply := supervisorOnly p ops s s.permitHeat

/-! ### CLEAR (R198) -/

/-- The cause or hold reason tied to an alert kind withdrawn (R198). -/
def State.withdrawTied (s : State) (a : Alert) : State :=
  match a with
  | .rollOut => s.dropStop .rollOut
  | .spliceSensor => s.dropStop .spliceSensor
  | .bladeJam => s.dropStop .bladeJam
  | .cutterJam => s.dropStop .cutterJam
  | .permitExpired => s.dropStop .permitExpired
  | .webBreak => s.dropTrip .webBreak
  | .rollUnseated => s.dropTrip .rollUnseated
  | .eStop => s.dropTrip .eStop
  | .strikeSaturated => s.dropHold .strikeSaturated
  | .rollUnknown => s
  | .rollLow => s
  | .spliceFailed => s
  | .tensionLost => s
  | .steamLow => s
  | .zoneSensor => s
  | .cutOverrun => s
  | .lotStarved => s

/-- One kind cleared: ignored where it is not in the set; ESTOP raised again while E_STOP is asserted (R160, R198). -/
def State.clearKind (s : State) (a : Alert) : State :=
  if s.hasAlert a = false then s
  else if a = .eStop ∧ s.asserted .eStop = true then s
  else (s.dropAlert a).withdrawTied a

/-- The alert kinds of a CLEAR: a count n of 1–17 and n codes, each of a kind (R198, R202). -/
def clearList : List Byte → Option (List Alert)
  | [] => none
  | n :: codes =>
    if 1 ≤ n.toNat ∧ n.toNat ≤ 17 ∧ codes.length = n.toNat then codes.mapM fun b => Alert.ofCode b.toNat else none

/-- The answer to CLEAR (R198). -/
def answerClear (_p : Port) (ops : List Byte) (s : State) : State × Reply :=
  match clearList ops with
  | none => refuse s .outOfRange
  | some kinds => done (kinds.foldl State.clearKind s).endAct

/-! ### LINE_RESET (R175, R176) -/

/-- The number of panel records of a lot (R94). -/
def State.panelsOf (s : State) (n : Nat) : Nat :=
  s.rst.panels.countP fun p => p.kind == .product && p.key.lot == n

/-- A lot on the web made DONE by LINE RESET: its records lost, its unstarted panels cancelled (R95). -/
def Lot.lineReset (l : Lot) (records : Nat) : Lot :=
  if l.onWeb then
    { l with
      state := .done, lost := l.lost + records, cancelled := l.cancelled + (l.planned - l.started),
      planned := l.started }
  else l

/-- A pattern that has been committed (R14, R31). -/
def Pattern.committed (p : Pattern) : Bool := p.state != .edit

/-- A class that has been committed (R33, R43). -/
def FabricClass.committed (c : FabricClass) : Bool := c.state != .new

/-- A roll that has been committed (R45, R51). -/
def Roll.committed (r : Roll) : Bool := r.state != .new

/-- A lot that has been committed (R76, R79). -/
def Lot.committed (l : Lot) : Bool := l.state != .new

/-- RST at LINE RESET: lots on the web DONE, panels gone, records never committed gone, counts lowered, the window OPEN,
HEAT OFF (R14, R33, R45, R95, R152, R175). -/
def State.resetRecords (s : State) : State :=
  let lots := (s.rst.lots.filter Lot.committed).map fun l => l.lineReset (s.panelsOf l.number)
  (({ s with rst := { s.rst with
      patterns := s.rst.patterns.filter Pattern.committed
      classes := s.rst.classes.filter FabricClass.committed
      rolls := s.rst.rolls.filter Roll.committed
      lots := lots
      order := s.rst.order.filter fun n => lots.any fun l => l.number == n && l.waiting
      panels := []
      line := { s.rst.line with windowOpen := true, heat := false } } }).recount).freeRetired

/-- A slot after LINE RESET: LOST where the reset removed its record, else EMPTY (R186). -/
def State.resetSlot (s : State) (v : Slot) : Slot :=
  match v with
  | .empty => .empty
  | .read t k => if s.recordExists t k then .empty else .lost t k
  | .write k st => if s.recordExists st.table k then .empty else .lost st.table k
  | .lost _ _ => .empty

/-- A port after LINE RESET: its receiver as it stands, no inactivity timer (R177, R186). -/
def State.resetPort (s : State) (v : PortState) : PortState := { v with slot := s.resetSlot v.slot, inactivity := none }

/-- LNK at LINE RESET, by the records that remain (R186, R198). -/
def State.resetLink (s : State) : State :=
  { s with lnk := { sup := s.resetPort s.lnk.sup, pen := s.resetPort s.lnk.pen, alerts := 0#17 } }

/-- FSU and LTR at LINE RESET (R72, R75, R95). -/
def State.resetFeed (s : State) : State := { s.clearTension with ltr := Ltr.reset }

/-- PFM at LINE RESET (R115). -/
def State.resetFormer (s : State) : State :=
  { s with pfm := { Pfm.reset with cycle := cycleAt (s.asserted .home), nextWaste := s.pfm.nextWaste } }

/-- HSU at LINE RESET, HEAT apart (R134). -/
def State.resetHeat (s : State) : State :=
  let s1 := s.zonesOff
  ({ s1 with hsu := { s1.hsu with permit := none } }).handClasses

/-- EXU at LINE RESET (R152). -/
def State.resetExit (s : State) : State :=
  { s with exu := { s.exu with
      cut := false, limit := none, divert := true, cycle := cycleAt (s.asserted .cutHome), cutSerial := none,
      pendingFault := false, last := none } }

/-- The hold reasons that stand after LINE RESET: STEAM_LOW where HSU still holds it (R134, R176). -/
def holdsAfterReset (p : PressureState) : BitVec 6 :=
  match p with
  | .unknown => 0b100000#6
  | .low => 0b100000#6
  | .normal => 0#6

/-- SGV at LINE RESET: TRIPPED passes to STOPPED where E_STOP is released, else the cause and its alert are raised again
(R176). No threading follows: every roll and every station keeps its state (R45, R75, R175; log entry 25). -/
def State.resetGovernor (s : State) : State :=
  let s1 := { s with sgv := { s.sgv with
    intent := false, holds := holdsAfterReset s.hsu.pressure, stops := 0#5, trips := 0#3, stopPending := false } }
  if s1.sgv.gov = .tripped then
    if s1.asserted .eStop then (s1.raiseAlert .eStop).addTrip .eStop
    else { s1 with sgv := { s1.sgv with gov := .stopped } }
  else s1

/-- An accepted LINE_RESET (R175). -/
def State.resetLine (s : State) : State :=
  ((((((s.resetRecords.resetLink).resetFeed).resetFormer).resetHeat).resetExit).resetGovernor).endAct

/-- LINE_RESET past the port checks (R175). -/
def State.lineReset (s : State) : State × Reply :=
  if (s.sgv.gov = .stopped ∨ s.sgv.gov = .tripped) ∧ s.sgv.standstill = true then done s.resetLine
  else refuse s .wrongState

/-- The answer to LINE_RESET. -/
def answerLineReset (p : Port) (ops : List Byte) (s : State) : State × Reply := supervisorOnly p ops s s.lineReset

/-! ### STATUS and IDENT (R197) -/

/-- The answer to STATUS. -/
def answerStatus (_p : Port) (ops : List Byte) (s : State) : State × Reply :=
  bare ops s (s, { status := .ok, payload := s.statusPayload })

/-- The answer to IDENT. -/
def answerIdent (_p : Port) (ops : List Byte) (s : State) : State × Reply :=
  bare ops s (s, { status := .ok, payload := identPayload })

/-- The answer to a command code that names no command (R180, check 1). -/
def answerUnknown (s : State) : State × Reply := refuse s .unknownCommand

end Sys2Proof.Machine
end

