-- ==== Sys2Proof/Machine/Wire.lean ====
section
/-! DEFINITION. The wire (R177–R180, R184): the receivers, the taking of a request, BYTE_RECEIVED, FRAME_ABANDONED,
INTER_BYTE_GAP_EXPIRY, RESPONSE_SENT, INACTIVITY_EXPIRY, and the request commands, one meaning each. -/

namespace Sys2Proof.Machine

/-- A port's receiver replaced. -/
def State.setReceiver (s : State) (p : Port) (v : Receiver) : State := s.setPort p { s.port p with receiver := v }

/-- A running inactivity timer started again (R184). -/
def State.restartInactivity (s : State) (p : Port) : State := s.setPort p { s.port p with inactivity := (s.slot p).timer }

/-- Whether a port takes a request that arrives: its receiver hears (HUNTING or RECEIVING), not ANSWERING and not waiting
for the first levels (R177, R179; log entry 3). -/
def Receiver.hears : Receiver → Bool
  | .waiting => false
  | .hunting => true
  | .receiving _ => true
  | .answering _ => false

/-- A request taken whole: the inactivity timer restarted, the request acted on, the response formed, the receiver
ANSWERING (R179, R180, R184). A request to a port that does not hear is lost (R179). -/
def State.takeRequest (s : State) (p : Port) (answer : State → State × Reply) : State :=
  if (s.port p).receiver.hears then
    let r := answer (s.restartInactivity p)
    r.1.setReceiver p (.answering r.2.body)
  else s

/-- A frame abandoned: BAD_FRAME is answered; nothing else changes, the inactivity timer not restarted (R177, R184). -/
def State.abandonFrame (s : State) (p : Port) : State := s.setReceiver p (.answering (say .badFrame).body)

/-- The answer to a request body by its command code (section 11.1, R180 check 1). -/
def answerBody (p : Port) (body : List Byte) (s : State) : State × Reply :=
  match body with
  | [] => answerUnknown s
  | code :: ops =>
    match code.toNat with
    | 0x10 => answerCreate p ops s
    | 0x11 => answerOpen p ops s
    | 0x12 => answerGet p ops s
    | 0x13 => answerPut p ops s
    | 0x14 => answerClose p ops s
    | 0x15 => answerNext p ops s
    | 0x16 => answerDiscard p ops s
    | 0x17 => answerRetire p ops s
    | 0x18 => answerFind p ops s
    | 0x40 => answerStart p ops s
    | 0x41 => answerStop p ops s
    | 0x42 => answerHold p ops s
    | 0x43 => answerResume p ops s
    | 0x44 => answerStep p ops s
    | 0x45 => answerSplice p ops s
    | 0x46 => answerPermit p ops s
    | 0x47 => answerClear p ops s
    | 0x48 => answerTripReset p ops s
    | 0x49 => answerLineReset p ops s
    | 0x4A => answerStatus p ops s
    | 0x4B => answerIdent p ops s
    | _ => answerUnknown s

/-- A length byte that is taken: 1–250 (R177). -/
def lengthOk (n : Nat) : Bool := decide (1 ≤ n) && decide (n ≤ 250)

/-- A complete frame, from the length byte on: its body where the CRC is right (R178). -/
def checkedBody (got : List Byte) (n : Nat) : Option (List Byte) :=
  if bytesOf 2 (crc (got.take (n + 1))).toNat = got.drop (n + 1) then some ((got.take (n + 1)).drop 1) else none

/-- A byte taken in RECEIVING, with the bytes before it: the length byte, a body byte, or a CRC byte (R177). -/
def State.takeByte (s : State) (p : Port) (got : List Byte) (b : Byte) : State :=
  match got with
  | [] => if lengthOk b.toNat then s.setReceiver p (.receiving [b]) else s.abandonFrame p
  | n :: rest =>
    let all := n :: rest ++ [b]
    if all.length < n.toNat + 3 then s.setReceiver p (.receiving all)
    else
      match checkedBody all n.toNat with
      | none => s.abandonFrame p
      | some body => s.takeRequest p (answerBody p body)

/-- BYTE_RECEIVED (R177–R180): a byte that completes a frame brings the request or the abandoned frame in the same act (log
entry 4). -/
def execByteReceived (p : Port) (b : Byte) (framingError : Bool) (s : State) : Host.Outcome State Fault Refusal :=
  .next (match (s.port p).receiver with
    | .waiting => s
    | .hunting => if b = 0xA5#8 ∧ framingError = false then s.setReceiver p (.receiving []) else s
    | .receiving got => if framingError then s.abandonFrame p else s.takeByte p got b
    | .answering _ => s)

/-- A frame abandoned where one is being received (R177). -/
def State.abandonIfReceiving (s : State) (p : Port) : State :=
  match (s.port p).receiver with
  | .receiving _ => s.abandonFrame p
  | .waiting => s
  | .hunting => s
  | .answering _ => s

/-- INTER_BYTE_GAP_EXPIRY (R177): the gap timer runs exactly in RECEIVING. -/
def execInterByteGapExpiry (p : Port) (s : State) : Host.Outcome State Fault Refusal := .next (s.abandonIfReceiving p)

/-- FRAME_ABANDONED (R177–R179): whatever the cause, the answer is BAD_FRAME. -/
def execFrameAbandoned (p : Port) (_cause : AbandonCause) (s : State) : Host.Outcome State Fault Refusal :=
  .next (s.abandonIfReceiving p)

/-- RESPONSE_SENT (R179): the receiver enters HUNTING. -/
def execResponseSent (p : Port) (s : State) : Host.Outcome State Fault Refusal :=
  .next (match (s.port p).receiver with
    | .answering _ => s.setReceiver p .hunting
    | .waiting => s
    | .hunting => s
    | .receiving _ => s)

/-- INACTIVITY_EXPIRY (R184): the claim ended. -/
def execInactivityExpiry (p : Port) (s : State) : Host.Outcome State Fault Refusal :=
  .next (if (s.port p).inactivity.isSome then s.endOpen p else s)

/-- The frame being sent on a port's transmit line, from the start byte on; none while nothing is sent (R179). -/
def State.txFrame (s : State) (p : Port) : Option (List Byte) :=
  match (s.port p).receiver with
  | .answering body => some (frameOf body)
  | .waiting => none
  | .hunting => none
  | .receiving _ => none

/-! ### The request commands -/

/-- UNKNOWN_COMMAND (R180, check 1). -/
def execUnknownCommand (p : Port) (_code : Byte) (_operands : List Byte) (s : State) : Host.Outcome State Fault Refusal :=
  .next (s.takeRequest p answerUnknown)

/-- CREATE (R188). -/
def execCreate (p : Port) (ops : List Byte) (s : State) : Host.Outcome State Fault Refusal :=
  .next (s.takeRequest p (answerCreate p ops))

/-- OPEN (R189). -/
def execOpen (p : Port) (ops : List Byte) (s : State) : Host.Outcome State Fault Refusal :=
  .next (s.takeRequest p (answerOpen p ops))

/-- GET (R190). -/
def execGet (p : Port) (ops : List Byte) (s : State) : Host.Outcome State Fault Refusal :=
  .next (s.takeRequest p (answerGet p ops))

/-- PUT (R191). -/
def execPut (p : Port) (ops : List Byte) (s : State) : Host.Outcome State Fault Refusal :=
  .next (s.takeRequest p (answerPut p ops))

/-- CLOSE (R192). -/
def execClose (p : Port) (ops : List Byte) (s : State) : Host.Outcome State Fault Refusal :=
  .next (s.takeRequest p (answerClose p ops))

/-- NEXT (R193). -/
def execNext (p : Port) (ops : List Byte) (s : State) : Host.Outcome State Fault Refusal :=
  .next (s.takeRequest p (answerNext p ops))

/-- DISCARD (R194). -/
def execDiscard (p : Port) (ops : List Byte) (s : State) : Host.Outcome State Fault Refusal :=
  .next (s.takeRequest p (answerDiscard p ops))

/-- RETIRE (R195). -/
def execRetire (p : Port) (ops : List Byte) (s : State) : Host.Outcome State Fault Refusal :=
  .next (s.takeRequest p (answerRetire p ops))

/-- FIND (R196). -/
def execFind (p : Port) (ops : List Byte) (s : State) : Host.Outcome State Fault Refusal :=
  .next (s.takeRequest p (answerFind p ops))

/-- START (R162). -/
def execStart (p : Port) (ops : List Byte) (s : State) : Host.Outcome State Fault Refusal :=
  .next (s.takeRequest p (answerStart p ops))

/-- STOP (R163). -/
def execStop (p : Port) (ops : List Byte) (s : State) : Host.Outcome State Fault Refusal :=
  .next (s.takeRequest p (answerStop p ops))

/-- HOLD (R164). -/
def execHold (p : Port) (ops : List Byte) (s : State) : Host.Outcome State Fault Refusal :=
  .next (s.takeRequest p (answerHold p ops))

/-- RESUME (R164). -/
def execResume (p : Port) (ops : List Byte) (s : State) : Host.Outcome State Fault Refusal :=
  .next (s.takeRequest p (answerResume p ops))

/-- STEP (R113). -/
def execStepLine (p : Port) (ops : List Byte) (s : State) : Host.Outcome State Fault Refusal :=
  .next (s.takeRequest p (answerStep p ops))

/-- SPLICE (R60). -/
def execSplice (p : Port) (ops : List Byte) (s : State) : Host.Outcome State Fault Refusal :=
  .next (s.takeRequest p (answerSplice p ops))

/-- PERMIT (R130). -/
def execPermit (p : Port) (ops : List Byte) (s : State) : Host.Outcome State Fault Refusal :=
  .next (s.takeRequest p (answerPermit p ops))

/-- CLEAR (R198). -/
def execClear (p : Port) (ops : List Byte) (s : State) : Host.Outcome State Fault Refusal :=
  .next (s.takeRequest p (answerClear p ops))

/-- TRIP_RESET (R165). -/
def execTripReset (p : Port) (ops : List Byte) (s : State) : Host.Outcome State Fault Refusal :=
  .next (s.takeRequest p (answerTripReset p ops))

/-- LINE_RESET (R175). -/
def execLineReset (p : Port) (ops : List Byte) (s : State) : Host.Outcome State Fault Refusal :=
  .next (s.takeRequest p (answerLineReset p ops))

/-- STATUS (R197). -/
def execStatus (p : Port) (ops : List Byte) (s : State) : Host.Outcome State Fault Refusal :=
  .next (s.takeRequest p (answerStatus p ops))

/-- IDENT (R197). -/
def execIdent (p : Port) (ops : List Byte) (s : State) : Host.Outcome State Fault Refusal :=
  .next (s.takeRequest p (answerIdent p ops))

end Sys2Proof.Machine
end

