-- ==== Sys2Proof/Machine/Dispatch.lean ====
section
/-! DEFINITION. Each command's meaning: one arm for each constructor of `Instr`. -/

namespace Sys2Proof.Machine

def exec (i : Instr) (s : State) : Host.Outcome State Fault Refusal :=
  match i with
  | .resetPin => Sys2Proof.Machine.execResetPin s
  | .feedCount dir => Sys2Proof.Machine.execFeedCount dir s
  | .beltCount dir => Sys2Proof.Machine.execBeltCount dir s
  | .speedRefresh surfA surfB => Sys2Proof.Machine.execSpeedRefresh surfA surfB s
  | .debounceSettle inp => Sys2Proof.Machine.execDebounceSettle inp s
  | .senseReading kind value faulted => Sys2Proof.Machine.execSenseReading kind value faulted s
  | .dancerTimeout => Sys2Proof.Machine.execDancerTimeout s
  | .tensionLockCount => Sys2Proof.Machine.execTensionLockCount s
  | .tensionWatchCount => Sys2Proof.Machine.execTensionWatchCount s
  | .matchCount => Sys2Proof.Machine.execMatchCount s
  | .matchLimitExpiry => Sys2Proof.Machine.execMatchLimitExpiry s
  | .headLimitExpiry => Sys2Proof.Machine.execHeadLimitExpiry s
  | .knifeLimitExpiry => Sys2Proof.Machine.execKnifeLimitExpiry s
  | .retractLimitExpiry => Sys2Proof.Machine.execRetractLimitExpiry s
  | .webBreakExpiry => Sys2Proof.Machine.execWebBreakExpiry s
  | .bladeLimitExpiry => Sys2Proof.Machine.execBladeLimitExpiry s
  | .cutterLimitExpiry => Sys2Proof.Machine.execCutterLimitExpiry s
  | .doseIntervalExpiry => Sys2Proof.Machine.execDoseIntervalExpiry s
  | .zoneSettleExpiry z => Sys2Proof.Machine.execZoneSettleExpiry z s
  | .readingStale z => Sys2Proof.Machine.execReadingStale z s
  | .heatPermitExpiry => Sys2Proof.Machine.execHeatPermitExpiry s
  | .rampIntervalExpiry => Sys2Proof.Machine.execRampIntervalExpiry s
  | .standstillExpiry => Sys2Proof.Machine.execStandstillExpiry s
  | .interByteGapExpiry p => Sys2Proof.Machine.execInterByteGapExpiry p s
  | .frameAbandoned p cause => Sys2Proof.Machine.execFrameAbandoned p cause s
  | .responseSent p => Sys2Proof.Machine.execResponseSent p s
  | .inactivityExpiry p => Sys2Proof.Machine.execInactivityExpiry p s
  | .unknownCommand p code operands => Sys2Proof.Machine.execUnknownCommand p code operands s
  | .create p operands => Sys2Proof.Machine.execCreate p operands s
  | .openRecord p operands => Sys2Proof.Machine.execOpen p operands s
  | .getField p operands => Sys2Proof.Machine.execGet p operands s
  | .putField p operands => Sys2Proof.Machine.execPut p operands s
  | .closeRecord p operands => Sys2Proof.Machine.execClose p operands s
  | .nextRecord p operands => Sys2Proof.Machine.execNext p operands s
  | .discard p operands => Sys2Proof.Machine.execDiscard p operands s
  | .retire p operands => Sys2Proof.Machine.execRetire p operands s
  | .find p operands => Sys2Proof.Machine.execFind p operands s
  | .start p operands => Sys2Proof.Machine.execStart p operands s
  | .stop p operands => Sys2Proof.Machine.execStop p operands s
  | .hold p operands => Sys2Proof.Machine.execHold p operands s
  | .resume p operands => Sys2Proof.Machine.execResume p operands s
  | .stepLine p operands => Sys2Proof.Machine.execStepLine p operands s
  | .splice p operands => Sys2Proof.Machine.execSplice p operands s
  | .permit p operands => Sys2Proof.Machine.execPermit p operands s
  | .clear p operands => Sys2Proof.Machine.execClear p operands s
  | .tripReset p operands => Sys2Proof.Machine.execTripReset p operands s
  | .lineReset p operands => Sys2Proof.Machine.execLineReset p operands s
  | .status p operands => Sys2Proof.Machine.execStatus p operands s
  | .ident p operands => Sys2Proof.Machine.execIdent p operands s
  | .byteReceived p b framingError => Sys2Proof.Machine.execByteReceived p b framingError s
  | .rawInputChange inp level => Sys2Proof.Machine.execRawInputChange inp level s

end Sys2Proof.Machine
end

