-- ==== Sys2Proof/Machine/Step.lean ====
section
/-! DEFINITION. One step: the command at the front of the queue is taken and acts on the state with the queue's rest; with
nothing waiting the part idles (log entry 2). -/

namespace Sys2Proof.Machine

/-- The state with another queue. -/
def State.withPending (s : State) (cs : List Instr) : State := { s with pending := cs }

/-- One step of the part. -/
def step (s : State) : Host.Outcome State Fault Refusal :=
  match s.pending with
  | [] => .next s
  | c :: cs => exec c (s.withPending cs)

/-- The state with the command that a word spells put at the front of its queue; unchanged where the word spells none (log
entry 34). -/
def State.withFetchWord (s : State) (nbits w : Nat) : State :=
  match decodeTableWord nbits w with
  | none => s
  | some c => s.withPending (c :: s.pending)

end Sys2Proof.Machine
end

