-- ==== Sys2Proof/Safety.lean ====
section
/-! DEFINITION. What the statements about the machine are made of: what a command leaves behind (`Completes`, with the
values that SGV, PFM and FSU recompute at the end of an act set apart), and the laws of the part that every step keeps. -/

namespace Sys2Proof.Machine

/-! ### Saying what a command does -/

/-- The state with the values recomputed at the end of an act set apart: the ceiling, the two references, the strike
ceiling, the web-break window, the hold reason ZONE_UNSETTLED, and which of CREEP and RUN the governor is in. What these are
is said by `GovernorLaw` and `HeatLaw`; every other part of the state stands in full. -/
def State.unregulated (s : State) : State :=
  { s with
    sgv := { s.sgv with
      gov := if s.sgv.gov = .run then .creep else s.sgv.gov
      holds := clearBit s.sgv.holds HoldReason.zoneUnsettled.bit
      ceiling := 0, flatRef := 0, beltRef := 0 }
    pfm := { s.pfm with strikeCeiling := none }
    fsu := { s.fsu with webBreak := none } }

/-- The command answers a next state, and that is the state `e`, the recomputed values apart. -/
def Completes (c : Instr) (s e : State) : Prop := ∃ t, exec c s = .next t ∧ t.unregulated = e.unregulated

/-- The command answers a next state, and that is the state `e` in every part. -/
def Yields (c : Instr) (s e : State) : Prop := exec c s = .next e

/-- A port takes requests: its receiver is HUNTING or RECEIVING (R177, R179). -/
def State.hears (s : State) (p : Port) : Bool := (s.port p).receiver.hears

/-- The state with a request of a port answered and nothing else done: the port's inactivity timer restarted where it runs,
and the port ANSWERING with the response (R179, R184). -/
def State.answered (s : State) (p : Port) (r : Reply) : State :=
  (s.restartInactivity p).setReceiver p (.answering r.body)

/-- A request of a port is answered with a status alone, and nothing else changes but the restart of its inactivity timer
(R180, R184, R200). -/
def Refuses (c : Instr) (s : State) (p : Port) (st : Status) : Prop := Yields c s (s.answered p (say st))

/-- A port is answering with a status alone. -/
def State.says (t : State) (p : Port) (st : Status) : Prop := (t.port p).receiver = .answering [st.code]

/-- The bytes of a list received on a port one after another, none with a framing error (R177). -/
def receiveAll (p : Port) : List Byte → State → Host.Outcome State Fault Refusal
  | [], s => .next s
  | b :: bs, s =>
    match exec (.byteReceived p b false) s with
    | .next t => receiveAll p bs t
    | .fault f => .fault f
    | .refused r => .refused r

/-- The request that a command code and the operand bytes after it stand for (section 11.1). -/
def requestOf (p : Port) (code : Byte) (ops : List Byte) : Instr :=
  match code.toNat with
  | 0x10 => .create p ops
  | 0x11 => .openRecord p ops
  | 0x12 => .getField p ops
  | 0x13 => .putField p ops
  | 0x14 => .closeRecord p ops
  | 0x15 => .nextRecord p ops
  | 0x16 => .discard p ops
  | 0x17 => .retire p ops
  | 0x18 => .find p ops
  | 0x40 => .start p ops
  | 0x41 => .stop p ops
  | 0x42 => .hold p ops
  | 0x43 => .resume p ops
  | 0x44 => .stepLine p ops
  | 0x45 => .splice p ops
  | 0x46 => .permit p ops
  | 0x47 => .clear p ops
  | 0x48 => .tripReset p ops
  | 0x49 => .lineReset p ops
  | 0x4A => .status p ops
  | 0x4B => .ident p ops
  | _ => .unknownCommand p code ops

/-- What a panel's zone dose takes at one expiry of the dose interval: nothing with the midpoint outside the zone, with the zone
OFF or its reading STALE; else the latest reading less 950, no more than the dose's room below 999,999,999 (R127, R128). -/
def State.doseGain (s : State) (p : Panel) (z : ZoneId) : Nat :=
  let v := s.hsu.zones.get z
  if p.inZone s.exu.b z = true ∧ v.mode ≠ .off ∧ v.fresh = true
  then min (v.reading.getD 0 - 950) (999999999 - p.doses.get z)
  else 0

/-- A panel record is, of those with a property, the one whose midpoint lies farthest past the blade bank, and of those at its
distance the one created first (R117). -/
def State.farthestWith (s : State) (has : Panel → Prop) (q : Panel) : Prop :=
  ∃ before after, s.rst.panels = before ++ q :: after ∧ has q ∧
    (∀ x ∈ before, has x → x.midDistance s.exu.b < q.midDistance s.exu.b) ∧
    ∀ x ∈ after, has x → x.midDistance s.exu.b ≤ q.midDistance s.exu.b

/-- A class is the one a zone takes its class target from: its lead panel's, else its next panel's, else the ACTIVE roll's (R118). -/
def State.targets (s : State) (z : ZoneId) (c : Nat) : Prop :=
  let lies := fun x : Panel => x.inZone s.exu.b z = true
  let short := fun x : Panel => x.midDistance s.exu.b < Config.zoneStart z
  (∃ q, s.farthestWith lies q ∧ q.cls = c) ∨
    (∀ x ∈ s.rst.panels, ¬ lies x) ∧
      ((∃ q, s.farthestWith short q ∧ q.cls = c) ∨
        (∀ x ∈ s.rst.panels, ¬ short x) ∧ ∃ r, s.activeRoll? = some r ∧ r.cls = some c)

/-- A governor state after a stop cause, by the splice phase it finds (R157, R158). -/
def Governor.afterStop (g : Governor) (phase : SplicePhase) : Governor :=
  match g with
  | .stepping => .halting
  | .creep => if phase.headOn then .creep else .halting
  | .run => if phase.headOn then .creep else .halting
  | .stopped => .stopped
  | .halting => .halting
  | .tripped => .tripped

/-- An input is about to rise: its settle runs, its debounced level is deasserted and its raw level asserted (R11). -/
def State.rising (s : State) (i : Input) : Prop :=
  (s.inputs.get i).settle.isSome = true ∧ (s.inputs.get i).level = some false ∧ (s.inputs.get i).raw = true

/-- An input is about to fall (R11). -/
def State.falling (s : State) (i : Input) : Prop :=
  (s.inputs.get i).settle.isSome = true ∧ (s.inputs.get i).level = some true ∧ (s.inputs.get i).raw = false

/-- The stop causes. -/
def allStopCauses : List StopCause := [.rollOut, .spliceSensor, .bladeJam, .cutterJam, .permitExpired]

/-- The trip causes. -/
def allTripCauses : List TripCause := [.eStop, .webBreak, .rollUnseated]

/-- The two ports. -/
def allPorts : List Port := [.sup, .pen]

/-- The lot with a joint in its list and make-up judged in the same act; a fifth joint is dropped (R88). -/
def Lot.withJoint (l : Lot) (j : Coord) (flatLen : Nat) : Lot :=
  if 4 ≤ l.joints.length then l
  else if l.makeupUsed < l.makeupAllowance.getD 0 then
    let planned := l.ordered.getD 0 + (l.makeupUsed + 1) - l.cancelled
    { l with
      joints := l.joints ++ [j], makeupUsed := l.makeupUsed + 1, planned := planned
      tail := l.head.map fun h => h + BitVec.ofNat 40 (planned * flatLen) }
  else { l with joints := l.joints ++ [j] }

/-- The state with an input settled at a level and nothing else done (R11). -/
def State.settled (s : State) (i : Input) (v : Bool) : State := s.setPin i { raw := v, level := some v, settle := none }

/-- The governor's states in which the line is at rest or coming to rest (R168). -/
def Governor.atRest (g : Governor) : Bool := g == .stopped || g == .halting || g == .tripped

/-! ### Laws of the part, kept by every step -/

/-- The flat reference never exceeds the ceiling nor the ceiling 600 mm/s, it is 0 whenever the governor is STOPPED, HALTING
or TRIPPED, and the governor is in RUN only while run intent is SET and no hold reason stands (R154, R166, R168). -/
def GovernorLaw (s : State) : Prop :=
  s.sgv.flatRef ≤ s.sgv.ceiling * 100 ∧ s.sgv.ceiling ≤ 600 ∧
    (s.sgv.gov.atRest = true → s.sgv.flatRef = 0) ∧
    (s.sgv.gov = .run → s.sgv.intent = true ∧ s.sgv.holds = 0#6)

/-- The flat reference in CREEP is min(creep speed, ceiling), in STEPPING the same until the target is reached and then 0; the
belt reference is floor(flat reference × P / F) of the forming panel; the web-break window runs exactly while the flat
reference is at or above the creep speed (R74, R153, R169). -/
def ReferenceLaw (s : State) : Prop :=
  (s.sgv.gov = .creep → s.sgv.flatRef = min (s.rst.line.creep.getD 0) s.sgv.ceiling * 100) ∧
    (s.sgv.gov = .stepping →
      s.sgv.flatRef =
        match s.pfm.stepTarget with
        | some (_, true) => 0
        | _ => min (s.rst.line.creep.getD 0) s.sgv.ceiling * 100) ∧
    s.sgv.beltRef = s.sgv.flatRef * s.formingRatio.2 / s.formingRatio.1 ∧
    (s.fsu.webBreak.isSome = true ↔ ∃ c, s.rst.line.creep = some c ∧ c * 100 ≤ s.sgv.flatRef)

/-- Run intent is CLEAR in STOPPED, STEPPING, HALTING and TRIPPED, SET in CREEP and RUN but for CREEP with stop pending, and
stop pending stands in CREEP alone, while a splice has its head on the web (R155, R158). -/
def IntentLaw (s : State) : Prop :=
  match s.sgv.gov with
  | .stopped => s.sgv.intent = false ∧ s.sgv.stopPending = false
  | .stepping => s.sgv.intent = false ∧ s.sgv.stopPending = false
  | .halting => s.sgv.intent = false ∧ s.sgv.stopPending = false
  | .tripped => s.sgv.intent = false ∧ s.sgv.stopPending = false
  | .creep => s.sgv.intent = !s.sgv.stopPending ∧ (s.sgv.stopPending = true → s.fsu.phase.headOn = true)
  | .run => s.sgv.intent = true ∧ s.sgv.stopPending = false

/-- While E_STOP is asserted the governor is TRIPPED, the trip cause E_STOP and its alert stand, HEAT is OFF and every zone
is OFF (R132, R160); with `IntentLaw`, on which the first of these rests. -/
def EmergencyStopLaw (s : State) : Prop :=
  IntentLaw s ∧
    (s.asserted .eStop = true →
      s.sgv.gov = .tripped ∧ s.hasTrip .eStop = true ∧ s.hasAlert .eStop = true ∧ s.rst.line.heat = false ∧
        ∀ z ∈ allZones, (s.hsu.zones.get z).mode = .off)

/-- A zone is OFF exactly while HEAT is OFF, WARMING or SETTLED only with the governor in CREEP or RUN, and its settle timer
runs only in WARMING; the permit timer runs exactly while HEAT is ON; ZONE_UNSETTLED is held exactly while HEAT is ON and a
zone is WARMING (R120, R121, R124, R130). -/
def HeatLaw (s : State) : Prop :=
  (∀ z ∈ allZones,
      ((s.hsu.zones.get z).mode = .off ↔ s.rst.line.heat = false) ∧
        ((s.hsu.zones.get z).heating = true → s.running = true) ∧
        ((s.hsu.zones.get z).settle.isSome = true → (s.hsu.zones.get z).mode = .warming)) ∧
    s.hsu.permit.isSome = s.rst.line.heat ∧
    (s.hasHold .zoneUnsettled = true ↔
      s.rst.line.heat = true ∧ ∃ z ∈ allZones, (s.hsu.zones.get z).mode = .warming)

/-- A stop cause or a trip cause stands exactly while the alert of its name is in the alert set (R157, R159, R198). -/
def CauseLaw (s : State) : Prop :=
  (∀ c ∈ allStopCauses, s.hasStop c = s.hasAlert c.alert) ∧ ∀ c ∈ allTripCauses, s.hasTrip c = s.hasAlert c.alert

/-- The outputs of the splice head, the blade bank and the cutter are what the phase and the two cycles say, and while the
governor is TRIPPED no splice is under way, STRIKE and CUT are deasserted and DIVERT stands asserted, the reject position
(R64–R68, R105, R111, R142, R148, R151). -/
def ActuatorLaw (s : State) : Prop :=
  (s.fsu.extend = true ↔ s.fsu.phase = .press ∨ s.fsu.phase = .cut) ∧
    (s.fsu.knife = true ↔ s.fsu.phase = .cut) ∧
    (s.pfm.strike = true ↔ s.pfm.cycle = .stroke) ∧
    (s.pfm.bladeLimit.isSome = true ↔ s.pfm.cycle = .stroke ∨ s.pfm.cycle = .back) ∧
    (s.pfm.cycle = .idle ∨ s.pfm.cycle = .away → s.pfm.depths = depthsAtRest) ∧
    (s.exu.cut = true ↔ s.exu.cycle = .stroke) ∧
    (s.exu.limit.isSome = true ↔ s.exu.cycle = .stroke ∨ s.exu.cycle = .back) ∧
    (s.sgv.gov = .tripped →
      s.fsu.phase = .idle ∧ s.pfm.strike = false ∧ s.exu.cut = false ∧ s.exu.divert = true)

/-- At most 39 panel records exist (R139). -/
def PanelLaw (s : State) : Prop := s.rst.panels.length ≤ Config.panelsInUse

/-- Every panel's total dose is the sum of its four zone doses, and each of those lies in 0–999,999,999 (R128). -/
def DoseLaw (s : State) : Prop :=
  ∀ p ∈ s.rst.panels,
    p.totalDose = p.doses.z1 + p.doses.z2 + p.doses.z3 + p.doses.z4 ∧
      ∀ z ∈ allZones, p.doses.get z ≤ doseLimit

/-- Each record is write-claimed by at most one port, a slot in WRITE names a record that exists, and an inactivity timer runs
exactly in WRITE (R183–R185). -/
def ClaimLaw (s : State) : Prop :=
  (∀ t key, ¬ (s.claims .sup t key = true ∧ s.claims .pen t key = true)) ∧
    (∀ p t key, s.claims p t key = true → s.recordExists t key = true) ∧
    ∀ p, (s.port p).inactivity = (s.slot p).timer

/-- Keys that rise strictly. -/
def risingKeys (keys : List Nat) : Prop := keys.Pairwise (· < ·)

/-- The tables keep their listing order, each key once and in its range, within their capacities (R14, R33, R45, R76). -/
def TablesLaw (s : State) : Prop :=
  risingKeys (s.rst.patterns.map (·.number)) ∧ (∀ q ∈ s.rst.patterns, 1 ≤ q.number ∧ q.number ≤ 40) ∧
    risingKeys (s.rst.classes.map (·.number)) ∧ (∀ c ∈ s.rst.classes, 1 ≤ c.number ∧ c.number ≤ 16) ∧
    risingKeys (s.rst.rolls.map (·.tag)) ∧ s.rst.rolls.length ≤ 12 ∧
    risingKeys (s.rst.lots.map (·.number)) ∧ s.rst.lots.length ≤ 32

/-- The blocks held by all patterns (R23). -/
def State.heldBlocks (s : State) : List Nat := s.rst.patterns.flatMap (·.blockMap)

/-- The blocks held by no pattern, lowest first (R23). -/
def State.freeBlocks (s : State) : List Nat := (List.range 128).filter fun b => !s.heldBlocks.contains b

/-- The law of the step pool: no block stands twice in the block maps; the held blocks and the free ones are 128; a READY or
RETIRING pattern of n steps holds ceil(n / 8) blocks and each of its steps reads, an EDIT pattern holds none; a released block
holds no step (R23). The pool's list itself stands strictly rising, which is the model's storage of it. -/
def PoolLaw (s : State) : Prop :=
  poolWf s.rst.pool = true ∧ risingKeys (s.rst.patterns.map (·.number)) ∧
    s.heldBlocks.Nodup ∧ (∀ b ∈ s.heldBlocks, b < 128) ∧ s.heldBlocks.length + s.freeBlocks.length = 128 ∧
    (∀ q ∈ s.rst.patterns,
      q.blockMap.length = (if q.state = .edit then 0 else (q.stepCount + 7) / 8) ∧
        (q.state ≠ .edit → (s.patternSteps q).length = q.stepCount)) ∧
    ∀ e ∈ s.rst.pool, e.1 / 8 ∈ s.heldBlocks

/-- Every reference count equals the number it stands for, and what it counts names a record that may be named: a lot not DONE a
READY or RETIRING pattern and a DEFINED class, a roll a DEFINED class; a record never committed names none (R26, R38). -/
def CountLaw (s : State) : Prop :=
  TablesLaw s ∧
    (∀ q ∈ s.rst.patterns, q.refCount = s.rst.lots.countP fun l => decide (l.state ≠ .done ∧ l.pattern = some q.number)) ∧
    (∀ c ∈ s.rst.classes,
      c.refCount =
        (s.rst.rolls.countP fun r => decide (r.cls = some c.number)) +
          s.rst.lots.countP fun l => decide (l.state ≠ .done ∧ l.cls = some c.number)) ∧
    (∀ l ∈ s.rst.lots,
      (l.state = .new → l.pattern = none ∧ l.cls = none) ∧
        (l.state ≠ .new → l.state ≠ .done →
          (∃ q ∈ s.rst.patterns, l.pattern = some q.number ∧ q.state ≠ .edit) ∧
            ∃ c ∈ s.rst.classes, l.cls = some c.number ∧ c.state = .defined)) ∧
    ∀ r ∈ s.rst.rolls,
      (r.state = .new → r.cls = none) ∧
        (r.state ≠ .new → ∃ c ∈ s.rst.classes, r.cls = some c.number ∧ c.state = .defined)

/-- What a station's state says of the roll bound to it (R52). -/
def StationState.fits (v : StationState) (r : Option RollState) : Bool :=
  match v with
  | .empty => r == none
  | .seated => r == none || r == some .mounted || r == some .spent
  | .prepared => r == some .prepared
  | .matching => r == some .prepared
  | .matched => r == some .prepared
  | .feeding => r == some .active
  | .joined => r == some .spent
  | .rundown => r == some .spent

/-- What a roll's state says of its station and its leader (R45, R50, R54). -/
def Roll.placed (r : Roll) : Bool :=
  match r.state with
  | .new => r.station == none && !r.leaderReady
  | .declared => r.station == none && !r.leaderReady
  | .mounted => r.station != none && !r.leaderReady
  | .prepared => r.station != none && r.leaderReady
  | .active => r.station != none && r.leaderReady
  | .spent => r.leaderReady

/-- The two stations. -/
def allStations : List Station := [.a, .b]

/-- The stations, the rolls and the splice go together: a station is EMPTY exactly while its SEATED input is not asserted; each
station's state fits the one roll bound to it, so that the roll bound to the FEEDING station is the ACTIVE one; at most one station
is FEEDING; a station is MATCHING or MATCHED exactly as the incoming one of a splice before its joint, whose outgoing station is the
other, FEEDING; and a splice is under way only in CREEP or RUN (R45, R50, R52, R54, R55, R62, R69). -/
def StationLaw (s : State) : Prop :=
  risingKeys (s.rst.rolls.map (·.tag)) ∧ (∀ r ∈ s.rst.rolls, r.placed = true) ∧
    (∀ x ∈ allStations,
      (s.station x = .empty ↔ s.asserted x.seatedPin = false) ∧
        (s.rst.rolls.countP fun r => decide (r.station = some x)) ≤ 1 ∧
        (s.station x).fits ((s.boundRoll? x).map (·.state)) = true ∧
        (s.station x = .matching ∨ s.station x = .matched ↔
          (s.fsu.phase = .matching ∨ s.fsu.phase = .press) ∧ s.fsu.incoming = some x)) ∧
    ¬ (s.fsu.staA = .feeding ∧ s.fsu.staB = .feeding) ∧
    (s.fsu.phase = .matching ∨ s.fsu.phase = .press →
      ∃ x ∈ allStations, s.fsu.incoming = some x ∧ s.fsu.outgoing = some x.other ∧ s.station x.other = .feeding) ∧
    (s.fsu.phase ≠ .idle → s.running = true)

/-- The lot a segment names, as a list of one or none (R83). -/
def Segment.lots : Segment → List Nat
  | .none => []
  | .lot n => [n]
  | .waste _ _ => []

/-- The line order holds each lot that is not DONE exactly once, the lots on the web before every waiting one; at most one lot is
FEEDING, the one the current segment names, and it is the last on the web; a lot on the web has its extent and its pattern, a waiting
lot neither extent, joint, make-up used nor cancelled panel; planned is ordered + make-up used − cancelled until the lot is DONE; with
no segment no lot is on the web (R78, R81, R83). -/
def LineOrderLaw (s : State) : Prop :=
  risingKeys (s.rst.lots.map (·.number)) ∧ s.rst.lots.length ≤ 32 ∧ s.rst.order.Nodup ∧
    (∀ l ∈ s.rst.lots, l.number ∈ s.rst.order ↔ l.state ≠ .done) ∧
    (∀ n ∈ s.rst.order, (s.lot? n).isSome = true) ∧
    s.rst.order = s.rst.order.filter s.numberOnWeb ++ s.rst.order.filter (fun n => !s.numberOnWeb n) ∧
    (∀ l ∈ s.rst.lots, l.state = .feeding ↔ s.ltr.segment = .lot l.number) ∧
    (∀ n ∈ s.ltr.segment.lots, (s.rst.order.filter s.numberOnWeb).getLast? = some n) ∧
    (s.ltr.segment = .none → s.webLots = []) ∧
    ∀ l ∈ s.rst.lots,
      (l.onWeb = true → l.head.isSome = true ∧ l.tail.isSome = true ∧ l.pattern.isSome = true) ∧
        (l.waiting = true → l.head = none ∧ l.tail = none ∧ l.joints = [] ∧ l.makeupUsed = 0 ∧ l.cancelled = 0) ∧
        (l.state ≠ .done → l.planned + l.cancelled = l.ordered.getD 0 + l.makeupUsed)

/-- A coordinate lies at or past another, where both are present (R3). -/
def notBefore (x y : Option Coord) : Bool := x.all fun c => y.all fun d => reaches c d

/-- Each lot on the web has a flat head no less than the flat tail of every lot on the web before it, and so has the current segment
(R81). -/
def WebExtentLaw (s : State) : Prop :=
  (s.webLots.Pairwise fun x y => notBefore y.head x.tail = true) ∧
    ∀ l ∈ s.webLots, l.state = .fed → notBefore (s.segmentExtent.map (·.1)) l.tail = true

/-- A coordinate of the web, where present, lies within 2^37 counts of W (R3). -/
def State.nearW (s : State) (c : Option Coord) : Bool := c.all fun d => decide ((coordDiff s.fsu.w d).natAbs < 2 ^ 37)

/-- The coordinates of the web lie close enough to be compared (R3): every head and tail on the web and both ends of the current
segment near W, every lot shorter than that, and the waste length no greater than R171's. -/
def State.nearWeb (s : State) : Prop :=
  (∀ l ∈ s.webLots, s.nearW l.head = true ∧ s.nearW l.tail = true ∧ l.planned * s.lotFlatLen l < 2 ^ 37) ∧
    s.nearW (s.segmentExtent.map (·.1)) = true ∧ s.nearW (s.segmentExtent.map (·.2)) = true ∧ s.wasteLength ≤ 20000

/-- For every lot, panels started is good + rejected + lost + the panel records of the lot, and make-up used is within the allowance;
every PRODUCT record's lot is on the web; each record has a serial of its own (R88, R94, R99). -/
def TallyLaw (s : State) : Prop :=
  risingKeys (s.rst.lots.map (·.number)) ∧ (s.rst.panels.map (·.serial)).Nodup ∧
    (∀ p ∈ s.rst.panels, p.serial < s.rst.panelSerial ∧
      (p.kind = .product → ∃ l ∈ s.rst.lots, l.number = p.key.lot ∧ l.onWeb = true)) ∧
    ∀ l ∈ s.rst.lots,
      l.started =
          l.good + l.rejected.total + l.lost +
            s.rst.panels.countP (fun p => decide (p.kind = .product ∧ p.key.lot = l.number)) ∧
        l.makeupUsed ≤ l.makeupAllowance.getD 0

/-- Whether whole waste lengths lie between a flat coordinate and the first extent ahead of it, and from each extent to the next
(R86, R98). -/
def wholeWaste (len : Nat) : Coord → List (Coord × Coord) → Bool
  | _, [] => true
  | c, (h, t) :: rest =>
    (decide (coordDiff h c ≤ 0) || coordDiff h c % len == 0) && wholeWaste len (if reaches t c then t else c) rest

/-- The extents on the web in order, and after them the end of a current waste segment (R83, R96). -/
def State.webExtents (s : State) : List (Coord × Coord) :=
  (s.webLots.filterMap fun l => l.head.bind fun h => l.tail.map fun t => (h, t)) ++
    match s.ltr.segment with
    | .waste _ t => [(t, t)]
    | .lot _ => []
    | .none => []

/-- The waste lengths of the Line record (R171). -/
def wasteLengths : List Nat := [2500, 5000, 10000, 20000]

/-- A staging copy holds no waste length and no panels ordered outside its range (R78, R171). -/
def Staging.lengthsInRange : Staging → Bool
  | .line st => st.wasteLen.all wasteLengths.contains
  | .lot st => st.ordered.all (1 ≤ ·)
  | .pattern _ => true
  | .cls _ => true
  | .roll _ => true
  | .panel _ => true

/-- The staging copy of a slot, where it holds one, has its lengths in range. -/
def Slot.lengthsInRange : Slot → Bool
  | .write _ st => st.lengthsInRange
  | .empty => true
  | .read _ _ => true
  | .lost _ _ => true

/-- How many counts of a lot's extent lie before a flat coordinate (R96). -/
def countsBefore (c head : Coord) (length : Nat) : Nat := min (coordDiff c head).toNat length

/-- A lot on the web has its tail at head + planned × F, and its panels started are those whose flat start lies before the next
panel start, which thus falls on the lot's grid (R78, R96, R98). -/
def State.onGrid (s : State) (next : Coord) (l : Lot) : Prop :=
  ∃ h, l.head = some h ∧ l.tail = some (advance h (l.planned * s.lotFlatLen l)) ∧
    l.started * s.lotFlatLen l = countsBefore next h (l.planned * s.lotFlatLen l)

/-- The lengths that panels and waste are laid out by lie in their ranges: each committed pattern's F, which is that of its steps
and trailer, the waste length, which a configured line has, and what the ports hold staged (R8, R20, R78, R171). -/
def State.lengthsInRange (s : State) : Prop :=
  (∀ q ∈ s.rst.patterns, q.state ≠ .edit → 2500 ≤ q.flatLen ∧ q.flatLen = flatLength (s.patternSteps q) q.trailer) ∧
    s.rst.line.wasteLen.all wasteLengths.contains = true ∧
    (s.rst.line.configured = true → s.rst.line.wasteLen.isSome = true) ∧
    ∀ p ∈ allPorts, (s.slot p).lengthsInRange = true

/-- With a segment open: the line's lengths are fixed and a panel is forming; the segment's end lies ahead of W and not behind the
next panel start; whole waste lengths lie between the extents ahead of that, and every lot on the web is on its grid (R83, R86, R96,
R98, R103, R171). -/
def State.webOnGrid (s : State) : Prop :=
  s.rst.line.configured = true ∧ s.rst.line.windowOpen = false ∧ s.pfm.forming.isSome = true ∧
    ∃ c b e, s.pfm.nextStart = some c ∧ s.segmentExtent = some (b, e) ∧
      reaches s.fsu.w e = false ∧ reaches e c = true ∧ wholeWaste s.wasteLength c s.webExtents = true ∧
        ∀ l ∈ s.webLots, s.onGrid c l

/-- Panels started never exceeds planned, for every lot, and a waiting lot has none started and none ordered below 1 (R94); with what
this rests on: lengths in their ranges and, with a segment open, the web on its grid. -/
def PanelGridLaw (s : State) : Prop :=
  (∀ l ∈ s.rst.lots, l.started ≤ l.planned ∧ (l.waiting = true → l.started = 0 ∧ l.ordered.all (1 ≤ ·) = true)) ∧
    s.lengthsInRange ∧ (s.ltr.segment ≠ .none → s.webOnGrid)

/-- A minimum step consumption that the strike ceiling is taken over: that of a forming PRODUCT panel, or of the pattern of a lot on the
web with panels still to start (R112). -/
def State.consumes (s : State) (m : Nat) : Prop :=
  (∃ f, s.pfm.forming = some f ∧ f.kind = .product ∧ m = f.minStep) ∨
    ∃ l ∈ s.webLots, ∃ n q, l.started < l.planned ∧ l.pattern = some n ∧ s.pattern? n = some q ∧ m = q.minStep

/-- The strike ceiling is the least of floor(minimum step consumption × 100 / strike period) over that set, none with the set empty
(R112). -/
def StrikeCeilingLaw (s : State) : Prop :=
  ∀ period, s.rst.line.strikePeriod = some period →
    (∀ m, s.consumes m → ∃ x, s.pfm.strikeCeiling = some x ∧ x ≤ m * 100 / period) ∧
      ∀ x, s.pfm.strikeCeiling = some x → ∃ m, s.consumes m ∧ x = m * 100 / period

/-- The components of the ceiling that are present (R166). -/
def State.ceilingParts (s : State) : List Nat :=
  s.countedClasses.filterMap s.classCeiling ++ s.pfm.strikeCeiling.toList ++ s.spliceCeiling.toList

/-- The ceiling is the least of 600 mm/s and the components present (R166). -/
def CeilingLaw (s : State) : Prop :=
  s.sgv.ceiling ≤ 600 ∧ (∀ x ∈ s.ceilingParts, s.sgv.ceiling ≤ x) ∧
    (s.sgv.ceiling = 600 ∨ s.sgv.ceiling ∈ s.ceilingParts)

end Sys2Proof.Machine
end

