-- ==== Sys2Proof/Certificates/Slice0/Obligations.lean ====
section
/-! DEFINITION. The statements put to the provers, each a `def Obligations.<Name> : Prop`. Numbers in parentheses are the spec's
rules; where a statement rests on a choice of the model, its docstring names the log entry. -/

open Sys2Proof Sys2Proof.Machine

/-! ### The machine -/

/-- A step runs the command at the front of the queue on the state with the queue's rest; with nothing waiting the part idles, which is
the model's choice (log entry 2). -/
def Obligations.StepRunsFrontCommand : Prop :=
  (∀ (c : Instr) (cs : List Instr) (s : State), step (s.withPending (c :: cs)) = exec c (s.withPending cs)) ∧
    ∀ s : State, s.pending = [] → step s = .next s

/-- What a command leaves as it stands, whatever it does: the queue always; W but at FEED_COUNT and RESET_PIN; B but at BELT_COUNT and
RESET_PIN; the inputs but at RAW_INPUT_CHANGE, DEBOUNCE_SETTLE and RESET_PIN; the pressure state but at SENSE_READING and RESET_PIN (R1,
R2, R11, R125). -/
def Obligations.CommandsLeaveOtherUnits : Prop :=
  ∀ (c : Instr) (s t : State), exec c s = .next t →
    t.pending = s.pending ∧
      ((∀ d, c ≠ .feedCount d) → c ≠ .resetPin → t.fsu.w = s.fsu.w) ∧
      ((∀ d, c ≠ .beltCount d) → c ≠ .resetPin → t.exu.b = s.exu.b) ∧
      ((∀ i v, c ≠ .rawInputChange i v) → (∀ i, c ≠ .debounceSettle i) → c ≠ .resetPin → t.inputs = s.inputs) ∧
      ((∀ k v f, c ≠ .senseReading k v f) → c ≠ .resetPin → t.hsu.pressure = s.hsu.pressure)

/-- The state right after power-on, as far as the spec gives it: every output at rest, every unit's items, the ports, the sets and the
tables (R1, R2, R11, R13, R75, R83, R97, R116, R140, R153, R183, R199). RESET_PIN leaves every unit so; every input waits for its first
level again with the raw level that stands on its pin, and the commands waiting are kept (what is kept is log entry 27). -/
def Obligations.PowerOnAndResetPin : Prop :=
  (∀ s : State, ∃ t, exec .resetPin s = .next t ∧ t.pending = s.pending ∧
    (∀ i, t.inputs.get i = { raw := (s.inputs.get i).raw, level := none, settle := some 10 }) ∧
    t.rst = State.reset.rst ∧ t.lnk = State.reset.lnk ∧ t.fsu = State.reset.fsu ∧ t.ltr = State.reset.ltr ∧
    t.pfm = State.reset.pfm ∧ t.hsu = State.reset.hsu ∧ t.exu = State.reset.exu ∧ t.sgv = State.reset.sgv) ∧
  let s := State.reset
  (s.pfm.strike = false ∧ s.exu.cut = false ∧ s.fsu.extend = false ∧ s.fsu.knife = false ∧ s.exu.divert = true ∧
      s.pfm.depths = List.replicate 16 none ∧ s.flatRef = 0 ∧ s.beltRef = 0 ∧ (∀ x, s.staDrive x = 0) ∧ s.attn = false) ∧
    (s.fsu.w = 0 ∧ s.fsu.phase = .idle ∧ s.fsu.outcome = .none ∧ s.fsu.locked = false ∧ s.fsu.webBreak = none) ∧
    (s.ltr.segment = .none ∧ s.ltr.pendingJoint = none ∧ s.ltr.classChange = false ∧ s.ltr.starved = false) ∧
    (s.pfm.forming = none ∧ s.pfm.nextStart = none ∧ s.pfm.nextStrike = none ∧ s.pfm.bladeLimit = none ∧
      s.pfm.nextWaste = 1 ∧ s.pfm.strikeCeiling = none ∧ s.pfm.stepTarget = none) ∧
    ((∀ z ∈ allZones, s.hsu.zones.get z =
        { mode := .off, target := none, targetClass := none, settle := none, fresh := false, window := none,
          reading := none }) ∧
      s.hsu.pressure = .unknown ∧ s.hsu.permit = none) ∧
    (s.exu.b = 0 ∧ s.exu.limit = none ∧ s.exu.pendingFault = false ∧ s.exu.last = none) ∧
    (s.sgv.gov = .stopped ∧ s.sgv.intent = false ∧ (∀ h, s.hasHold h = decide (h = .steamLow)) ∧ s.sgv.stops = 0#5 ∧
      s.sgv.trips = 0#3 ∧ s.sgv.stopPending = false ∧ s.sgv.ceiling = 600 ∧ s.sgv.standstill = false ∧
      s.sgv.standWindow = some 200) ∧
    (∀ p, s.port p = { receiver := .waiting, slot := .empty, inactivity := none }) ∧
    (∀ i, (s.inputs.get i).level = none ∧ (s.inputs.get i).settle = some 10) ∧
    (s.rst.patterns = [] ∧ s.rst.pool = [] ∧ s.rst.classes = [] ∧ s.rst.rolls = [] ∧ s.rst.lots = [] ∧ s.rst.order = [] ∧
      s.rst.panels = [] ∧ s.rst.line.configured = false ∧ s.rst.line.windowOpen = true ∧ s.rst.line.heat = false ∧
      s.rst.line.setSpeed = 0 ∧ s.rst.line.requested = none ∧ s.rst.line.laneMask = 0xFFFF#16)

/-! ### The laws of the part -/

/-- Every law below holds right after power-on. -/
def Obligations.LawsHoldAtReset : Prop :=
  let s := State.reset
  GovernorLaw s ∧ ReferenceLaw s ∧ IntentLaw s ∧ EmergencyStopLaw s ∧ HeatLaw s ∧ CauseLaw s ∧ ActuatorLaw s ∧
    PanelLaw s ∧ DoseLaw s ∧ ClaimLaw s ∧ PoolLaw s ∧ TablesLaw s ∧ CountLaw s ∧ StationLaw s ∧ LineOrderLaw s ∧
    WebExtentLaw s ∧ TallyLaw s ∧ PanelGridLaw s ∧ CeilingLaw s ∧ StrikeCeilingLaw s

/-- Every step keeps: the flat reference under the ceiling, the ceiling under 600 mm/s, the reference 0 at rest, and RUN only with run
intent SET and no hold reason; and the references of CREEP and STEPPING, the belt reference's ratio and the arming of the web-break
monitor (R74, R153, R154, R166, R168, R169). -/
def Obligations.GovernorLawsKept : Prop :=
  (∀ s t : State, GovernorLaw s → step s = .next t → GovernorLaw t) ∧
    ∀ s t : State, ReferenceLaw s → step s = .next t → ReferenceLaw t

/-- Every step keeps run intent and stop pending as the governor's state has them, and with them: while E_STOP is asserted the governor
is TRIPPED, ESTOP stands and HEAT and every zone are OFF; and each stop cause and trip cause stands exactly while the alert of its name
is in the alert set (R132, R155, R157, R158, R159, R160, R198). -/
def Obligations.CauseLawsKept : Prop :=
  (∀ s t : State, IntentLaw s → step s = .next t → IntentLaw t) ∧
    (∀ s t : State, EmergencyStopLaw s → step s = .next t → EmergencyStopLaw t) ∧
    ∀ s t : State, CauseLaw s → step s = .next t → CauseLaw t

/-- Every step keeps the zones, the permit timer and ZONE_UNSETTLED in keeping with HEAT and the governor (R120, R121, R124, R130). -/
def Obligations.HeatLawKept : Prop :=
  ∀ s t : State, HeatLaw s → step s = .next t → HeatLaw t

/-- Every step keeps the actuator outputs in keeping with the splice phase, the two cycles and a trip (R64–R68, R105, R111, R142, R148,
R151). -/
def Obligations.ActuatorLawKept : Prop :=
  ∀ s t : State, ActuatorLaw s → step s = .next t → ActuatorLaw t

/-- Every step keeps at most 39 panel records, each total dose the sum of its zone doses, each zone dose at most 999,999,999; and the
law of the step pool: the held and the free blocks are 128, no block stands in two block maps, a READY or RETIRING pattern of n steps
holds ceil(n / 8) blocks and an EDIT pattern none (R23, R128, R139). -/
def Obligations.StoreLawsKept : Prop :=
  (∀ s t : State, PanelLaw s → step s = .next t → PanelLaw t) ∧
    (∀ s t : State, DoseLaw s → step s = .next t → DoseLaw t) ∧
    ∀ s t : State, PoolLaw s → step s = .next t → PoolLaw t

/-- Every step keeps the tables in their listing order and their ranges, and every reference count equal to the number it stands for: a
pattern's the lots not DONE that name it, a class's the rolls that name it and the lots not DONE that name it (R26, R38; with the laws
of the stations and of the line order, on which the second rests). -/
def Obligations.ReferenceCountsKept : Prop :=
  (∀ s t : State, TablesLaw s → step s = .next t → TablesLaw t) ∧
    ∀ s t : State, StationLaw s → LineOrderLaw s → CountLaw s → step s = .next t → CountLaw t

/-- Every step keeps at most one station FEEDING, with the ACTIVE roll bound to it, each station's state fitting its SEATED input and
the one roll bound to it, and a splice's stations with its phase (R45, R50, R52, R54, R55, R62, R69). -/
def Obligations.StationLawKept : Prop :=
  ∀ s t : State, StationLaw s → step s = .next t → StationLaw t

/-- Every step keeps the line order: each lot that is not DONE exactly once, the lots on the web before every waiting lot, at most one
lot FEEDING and that one the last on the web. While the coordinates of the web lie within R3's reach of W before and after the step, it
keeps each lot on the web with a head no less than the tails of the lots on the web before it (R3, R81, R83). -/
def Obligations.LineOrderKept : Prop :=
  (∀ s t : State, LineOrderLaw s → step s = .next t → LineOrderLaw t) ∧
    ∀ s t : State, LineOrderLaw s → WebExtentLaw s → s.nearWeb → step s = .next t → t.nearWeb → WebExtentLaw t

/-- Every step keeps, for every lot, panels started equal to good + rejected + lost + the panel records of the lot, and make-up used
within its allowance. And it keeps panels started within planned, with the web on its grid: what has started of each lot on the web is
what lies before the next panel start, which no cancel, commit or threading pulls a tail behind (R88, R94, R96, R98; with the laws of
the line order, the extents, the counts and the pool, on which it rests, and while the coordinates of the web lie within R3's reach of
W. That a tail is not pulled in behind a started panel after a long reverse run is the model's choice, log entry 37, DESIGN CHOICE). -/
def Obligations.TallyLawKept : Prop :=
  (∀ s t : State, LineOrderLaw s → TallyLaw s → step s = .next t → TallyLaw t) ∧
    ∀ s t : State, LineOrderLaw s → WebExtentLaw s → CountLaw s → PoolLaw s → PanelGridLaw s → s.nearWeb →
      s.nearW s.pfm.nextStart = true → step s = .next t → t.nearWeb → PanelGridLaw t

/-- Every step keeps each record write-claimed by at most one port, every claimed record in being, and the inactivity timer running
exactly in WRITE (R183–R185). -/
def Obligations.ClaimLawKept : Prop :=
  ∀ s t : State, ClaimLaw s → step s = .next t → ClaimLaw t

/-- Every step keeps the ceiling the least of 600 mm/s and the components present: the class ceiling of each counted class, the strike
ceiling, the splice speed (R166); and the strike ceiling the least of floor(minimum step consumption × 100 / strike period) over a
forming PRODUCT panel and the patterns of the lots on the web with panels still to start, none with neither (R112; with the law of the
counts, on which it rests). Every command that moves an encoder, counts or expires on a period leaves, from any state, the strike
ceiling so and the ceiling the least of 600, that, the splice speed during a splice, and floor(maximum belt speed × F / P) of each
DEFINED class that is in the set handed to SGV or the forming panel's, F / P being a forming PRODUCT panel's and else 1 (R166, R167). -/
def Obligations.CeilingIsTheLeastComponent : Prop :=
  (∀ s t : State, CeilingLaw s → step s = .next t → CeilingLaw t) ∧
    (∀ s t : State, CountLaw s → StrikeCeilingLaw s → step s = .next t → StrikeCeilingLaw t) ∧
    ∀ (c : Instr) (s : State), ((∃ d, c = .feedCount d) ∨ (∃ d, c = .beltCount d) ∨ (∃ a b, c = .speedRefresh a b) ∨
      c = .tensionLockCount ∨ c = .tensionWatchCount ∨ c = .matchCount ∨ c = .doseIntervalExpiry ∨ c = .rampIntervalExpiry) →
    ∃ t, exec c s = .next t ∧
      (let product := fun (f : FormContext) => t.pfm.forming = some f ∧ f.kind = .product
       let counted := fun (n : Nat) => n ∈ t.sgv.classSet ∨ ∃ f, t.pfm.forming = some f ∧ n = f.cls
       let maxBelt := fun (v : Nat) => ∃ n k, counted n ∧ t.class? n = some k ∧ k.state = .defined ∧ k.maxBelt = some v
       let classCeiling := fun (x : Nat) => ∃ v, maxBelt v ∧
         ((∃ f, product f ∧ x = v * f.flatLen / f.pleatedLen) ∨ (∀ f, ¬ product f) ∧ x = v)
       let present := fun (x : Nat) => classCeiling x ∨ t.pfm.strikeCeiling = some x ∨
         t.fsu.phase ≠ .idle ∧ t.rst.line.spliceSpeed = some x
       StrikeCeilingLaw t ∧ t.sgv.ceiling ≤ 600 ∧ (∀ x, present x → t.sgv.ceiling ≤ x) ∧ (t.sgv.ceiling = 600 ∨ present t.sgv.ceiling))

/-! ### Encoders -/

/-- A feed count moves W by one modulo 2^40, enters the web speed's window, sets standstill NO and starts its window again; it leaves B,
the cutter, DIVERT, the pressure, the permit, the receivers and the Line record's other fields as they stand. A count that finds no
ACTIVE roll, no splice, no tension count and no point arriving does nothing more (R1, R6, R10, R57, R161). A forward feed count lowers
the ACTIVE roll's remaining length by 1 unless it is 0, a reverse one raises it by 1 unless it is the initial length; from 1 to 0 the
ROLL_OUT alert and stop cause are raised; every other roll stands as it was (R57). -/
def Obligations.FeedCountMovesTheWebAndChargesTheRoll : Prop :=
  ((∀ (d : Travel) (s : State), ∃ t, exec (.feedCount d) s = .next t ∧
         t.fsu.w = d.move s.fsu.w ∧ t.fsu.web = { s.fsu.web with cur := s.fsu.web.cur + d.sign } ∧
         t.fsu.surfA = s.fsu.surfA ∧ t.fsu.surfB = s.fsu.surfB ∧
         t.sgv.standstill = false ∧ t.sgv.standWindow = some 200 ∧
         t.exu = { s.exu with pendingFault := t.exu.pendingFault, last := t.exu.last } ∧
         t.hsu.pressure = s.hsu.pressure ∧ t.hsu.permit = s.hsu.permit ∧ (∀ p, (t.port p).receiver = (s.port p).receiver) ∧
         t.rst.line = { s.rst.line with requested := t.rst.line.requested }) ∧
       ∀ (d : Travel) (s : State), s.fsu.phase = .idle → s.activeStation = none → s.fsu.lockCount = none →
         s.fsu.lossWatch = none → (∀ h e, s.segmentExtent = some (h, e) → coordDiff (d.move s.fsu.w) e < 0) →
         (∀ c, s.pfm.nextStart = some c → coordDiff (d.move s.fsu.w) c < 20000) →
         (∀ c k, s.pfm.nextStrike = some (c, k) → coordDiff (d.move s.fsu.w) c < 20000) → s.pfm.stepTarget = none →
         Completes (.feedCount d) s
           { s with
             fsu := { s.fsu with w := d.move s.fsu.w, web := { s.fsu.web with cur := s.fsu.web.cur + d.sign } }
             sgv := { s.sgv with standstill := false, standWindow := some 200 } }) ∧
  (∀ (d : Travel) (s : State) (r : Roll), s.activeRoll? = some r → ∃ t r', exec (.feedCount d) s = .next t ∧
       t.roll? r.tag = some r' ∧
       r'.remaining =
         (match d with
          | .forward => r.remaining - 1
          | .reverse => if r.remaining < r.initLen.getD 0 then r.remaining + 1 else r.remaining) ∧
       (d = .forward → r.remaining = 1 → t.hasStop .rollOut = true ∧ t.hasAlert .rollOut = true) ∧
       ∀ tag, tag ≠ r.tag → t.roll? tag = s.roll? tag)

/-- A forward feed count that brings W to the next panel start plus 20,000, with no strike point due and room in the table, creates one
panel record at the end of the table, head at B, nothing missed or dosed, the pending cut fault taken over, the record before it FORMED.
In a lot's extent it is PRODUCT: key (lot, k), k = (s − head) / F + 1, one above panels started on the lot's grid; started rises by 1;
the joint flag says whether a joint lies in [s, s + F); F, P, class, dose window, mask, trims, trim range and steps are latched; step 1
is armed. In no lot's it is WASTE: key (0, next waste index), length the waste length, class and dose window the ACTIVE roll's class's
or, with none ACTIVE, those of the context it replaces; no strike point is armed (R98–R102, R146). With 39 records standing the oldest
is retired uncut first, in the same act: its verdict is CUT, tallied into its lot and shown as the last disposition, the record created
after it takes the cut fault, CUT_OVERRUN is raised, neither CUT nor DIVERT is driven, and the count stays at 39 (R139, R146; that the
disposition shows the reject place is log entry 18). -/
def Obligations.PanelStarts : Prop :=
  (∀ (s : State) (c h e : Coord) (l : Lot) (n : Nat) (q : Pattern), s.pfm.nextStart = some c →
      20000 ≤ coordDiff (s.fsu.w + 1) c → (∀ c' k, s.pfm.nextStrike = some (c', k) → coordDiff (s.fsu.w + 1) c' < 20000) →
      (∀ h' e', s.segmentExtent = some (h', e') → coordDiff (s.fsu.w + 1) e' < 0) → s.rst.panels.length < 39 →
      l ∈ s.webLots → s.lot? l.number = some l → l.head = some h → l.tail = some e → 0 ≤ coordDiff c h → coordDiff c e < 0 →
      (∀ l' ∈ s.webLots, l'.holds c = true → l' = l) → l.pattern = some n → s.pattern? n = some q →
      let k := (coordDiff c h).toNat / q.flatLen + 1
      let cls := l.cls.getD 0
      let limits := s.class? cls
      let doseMin := (limits.bind (·.doseMin)).getD 0
      let doseMax := (limits.bind (·.doseMax)).getD 0
      ∃ t, exec (.feedCount .forward) s = .next t ∧
        t.rst.panels = s.rst.panels.map (fun x => { x with forming := false }) ++
          [{ serial := s.rst.panelSerial, key := { lot := l.number, index := k }, kind := .product, pattern := some q.number,
             cls := cls, doseMin := doseMin, doseMax := doseMax, head := s.exu.b, pleatedLen := q.pleatedLen, forming := true,
             missed := 0
             joint := l.joints.any fun j => decide (0 ≤ coordDiff j c ∧ coordDiff j (c + BitVec.ofNat 40 q.flatLen) < 0)
             doses := ⟨0, 0, 0, 0⟩, totalDose := 0, cutFault := s.exu.pendingFault, reject := false }] ∧
        (l.started * q.flatLen = (coordDiff c h).toNat → 0 < q.flatLen → k = l.started + 1) ∧
        t.lot? l.number = some { l with started := l.started + 1 } ∧
        (∀ m, m ≠ l.number → t.lot? m = s.lot? m) ∧ t.exu.pendingFault = false ∧
        t.pfm.forming = some
          { key := { lot := l.number, index := k }, kind := .product, start := c, flatLen := q.flatLen,
            pleatedLen := q.pleatedLen, pattern := some q.number, cls := cls, doseMin := doseMin, doseMax := doseMax,
            laneMask := q.laneMask.getD s.rst.line.laneMask, trims := s.rst.line.trims, trimRange := some q.trimRange,
            steps := s.patternSteps q, minStep := q.minStep, nextStep := 1 } ∧
        t.pfm.nextStart = some (c + BitVec.ofNat 40 q.flatLen) ∧
        t.pfm.nextStrike = ((s.patternSteps q).head?).map (fun st => (c + BitVec.ofNat 40 st.advance, 1)) ∧
        t.pfm.nextWaste = s.pfm.nextWaste) ∧
    (∀ (s : State) (c : Coord), s.pfm.nextStart = some c → 20000 ≤ coordDiff (s.fsu.w + 1) c →
       (∀ c' k, s.pfm.nextStrike = some (c', k) → coordDiff (s.fsu.w + 1) c' < 20000) →
       (∀ l ∈ s.webLots, l.holds c = false) →
       (∀ h e, s.segmentExtent = some (h, e) → coordDiff (s.fsu.w + 1) e < 0) → s.rst.panels.length < 39 →
       ∃ t p, exec (.feedCount .forward) s = .next t ∧
         t.rst.panels = s.rst.panels.map (fun q => { q with forming := false }) ++ [p] ∧
         p = { serial := s.rst.panelSerial, key := { lot := 0, index := s.pfm.nextWaste }, kind := .waste, pattern := none,
               cls := p.cls, doseMin := p.doseMin, doseMax := p.doseMax, head := s.exu.b,
               pleatedLen := s.rst.line.wasteLen.getD 0, forming := true, missed := 0, joint := false,
               doses := ⟨0, 0, 0, 0⟩, totalDose := 0, cutFault := s.exu.pendingFault, reject := false } ∧
         (∀ r n k, s.activeRoll? = some r → r.cls = some n → s.class? n = some k →
           p.cls = n ∧ p.doseMin = k.doseMin.getD 0 ∧ p.doseMax = k.doseMax.getD 0) ∧
         (∀ f, s.activeRoll? = none → s.pfm.forming = some f →
           p.cls = f.cls ∧ p.doseMin = f.doseMin ∧ p.doseMax = f.doseMax) ∧
         t.exu.pendingFault = false ∧ t.pfm.nextStart = some (c + BitVec.ofNat 40 (s.rst.line.wasteLen.getD 0)) ∧
         t.pfm.nextStrike = none ∧ t.pfm.nextWaste = (if 65535 ≤ s.pfm.nextWaste then 1 else s.pfm.nextWaste + 1) ∧
         t.rst.lots = s.rst.lots) ∧
    ∀ (s : State) (c : Coord) (p : Panel) (rest : List Panel), s.pfm.nextStart = some c → 20000 ≤ coordDiff (s.fsu.w + 1) c →
      (∀ c' k, s.pfm.nextStrike = some (c', k) → coordDiff (s.fsu.w + 1) c' < 20000) →
      (∀ h e, s.segmentExtent = some (h, e) → coordDiff (s.fsu.w + 1) e < 0) →
      s.rst.panels = p :: rest → rest.length = 38 → (s.rst.panels.map (·.serial)).Nodup → p.serial + 1 < s.rst.panelSerial →
      (∀ l ∈ s.webLots, l.holds c = true → ∃ n q, l.pattern = some n ∧ s.pattern? n = some q) →
      ∃ t q, exec (.feedCount .forward) s = .next t ∧
        t.rst.panels = rest.map (fun x =>
          { x with forming := false, cutFault := x.cutFault || decide (x.serial = p.serial + 1) }) ++ [q] ∧
        q = { q with
          serial := s.rst.panelSerial, head := s.exu.b, forming := true, missed := 0, doses := ⟨0, 0, 0, 0⟩, totalDose := 0
          cutFault := s.exu.pendingFault, reject := false } ∧
        ((∀ l ∈ s.webLots, l.holds c = false) → q.kind = .waste ∧ q.key = { lot := 0, index := s.pfm.nextWaste }) ∧
        (∀ l ∈ s.webLots, l.state = .feeding → l.holds c = true → (∀ l' ∈ s.webLots, l'.holds c = true → l' = l) →
          q.kind = .product ∧ q.key.lot = l.number) ∧
        (p.kind = .product → ∀ l, s.lot? p.key.lot = some l → ∃ l', t.lot? p.key.lot = some l' ∧
          l'.rejected = { l.rejected with cut := l.rejected.cut + 1 } ∧ l'.good = l.good ∧ l'.lost = l.lost) ∧
        t.exu.last = some { key := p.key, kind := p.kind, verdict := .rejected .cut, toReject := true } ∧
        t.hasAlert .cutOverrun = true ∧ t.exu.pendingFault = false ∧ t.exu.cut = s.exu.cut ∧ t.exu.limit = s.exu.limit ∧
        t.exu.cycle = s.exu.cycle ∧ t.exu.divert = s.exu.divert

/-- The forward feed count that brings W to the end e of the current segment, with no splice under way, no auto-splice asked for and no
point due at the blade bank, makes one entry decision at e. A FEEDING lot becomes FED, or DONE where every planned panel has started and
none is on the belt. With a class change pending the next segment is waste [e, e + waste length). Else the first lot in line order that
is QUEUED, not held, of the ACTIVE roll's class and of its tag or without restriction becomes FEEDING, head e, tail e + planned × F, and
stands just after the last lot on the web; starvation ends. With none, LOT_STARVED is raised, its hold reason set where the flag was NO,
and waste opens. The pending joint goes to the lot placed over it, or is dropped. A reverse count makes no decision (R6, R84–R88, R93). -/
def Obligations.SegmentEndDecides : Prop :=
  (∀ (s : State) (h e : Coord), LineOrderLaw s → s.segmentExtent = some (h, e) → 0 ≤ coordDiff (s.fsu.w + 1) e →
      s.fsu.phase = .idle → s.rst.line.autoSplice = false →
      (∀ c, s.pfm.nextStart = some c → coordDiff (s.fsu.w + 1) c < 20000) →
      (∀ c k, s.pfm.nextStrike = some (c, k) → coordDiff (s.fsu.w + 1) c < 20000) →
      let finished := fun (l : Lot) =>
        ({ l with state :=
            if l.started = l.planned ∧ ∀ p ∈ s.rst.panels, ¬ (p.kind = .product ∧ p.key.lot = l.number) then .done else .fed } :
          Lot)
      let eligible := fun (l : Lot) => l.state = .queued ∧ l.held = false ∧
        ∃ r c, s.activeRoll? = some r ∧ r.cls = some c ∧ l.cls = some c ∧ (l.restriction = none ∨ l.restriction = some r.tag)
      let order := s.rst.order.filter fun m =>
        !(decide (s.ltr.segment = .lot m) && (s.lot? m).any fun l => (finished l).state == .done)
      ∃ t, exec (.feedCount .forward) s = .next t ∧ t.fsu.w = s.fsu.w + 1 ∧ t.ltr.pendingJoint = none ∧
        t.ltr.classChange = s.ltr.classChange ∧ (s.ltr.pendingJoint = none → t.rst.panels = s.rst.panels) ∧
        (∀ n l, s.ltr.segment = .lot n → s.lot? n = some l → t.lot? n = some (finished l)) ∧
        (s.ltr.classChange = true ∨ (∀ n ∈ s.rst.order, ∀ l, s.lot? n = some l → ¬ eligible l) →
          t.ltr.segment = .waste e (e + BitVec.ofNat 40 (s.rst.line.wasteLen.getD 0)) ∧ t.rst.order = order ∧
            (∀ m, s.ltr.segment ≠ .lot m → t.lot? m = s.lot? m)) ∧
        (s.ltr.classChange = true → t.ltr.starved = s.ltr.starved ∧ t.hasHold .lotStarved = s.hasHold .lotStarved ∧
          t.hasAlert .lotStarved = s.hasAlert .lotStarved) ∧
        (s.ltr.classChange = false → (∀ n ∈ s.rst.order, ∀ l, s.lot? n = some l → ¬ eligible l) →
          t.hasAlert .lotStarved = true ∧ t.ltr.starved = true ∧
            t.hasHold .lotStarved = (!s.ltr.starved || s.hasHold .lotStarved)) ∧
        ∀ before l after, s.ltr.classChange = false → s.rst.order = before ++ l.number :: after →
          s.lot? l.number = some l → eligible l → (∀ m ∈ before, ∀ l', s.lot? m = some l' → ¬ eligible l') →
          let planned := l.ordered.getD 0 + l.makeupUsed - l.cancelled
          let tail := e + BitVec.ofNat 40 (planned * s.lotFlatLen l)
          let placed : Lot := { l with state := .feeding, head := some e, planned := planned, tail := some tail }
          t.ltr.segment = .lot l.number ∧ t.ltr.starved = false ∧
            (s.ltr.starved = true → t.hasHold .lotStarved = false ∧ t.hasAlert .lotStarved = false) ∧
            (s.ltr.starved = false → t.hasHold .lotStarved = s.hasHold .lotStarved ∧
              t.hasAlert .lotStarved = s.hasAlert .lotStarved) ∧
            t.rst.order =
              order.filter s.numberOnWeb ++ l.number :: order.filter (fun m => m != l.number && !s.numberOnWeb m) ∧
            (∀ m, s.ltr.segment ≠ .lot m → m ≠ l.number → t.lot? m = s.lot? m) ∧
            t.lot? l.number = some
              (match s.ltr.pendingJoint with
               | some j => if 0 ≤ coordDiff j e ∧ coordDiff j tail < 0 then placed.withJoint j (s.lotFlatLen l) else placed
               | none => placed)) ∧
    ∀ s : State, ∃ t, exec (.feedCount .reverse) s = .next t ∧ t.ltr = { s.ltr with classChange := t.ltr.classChange } ∧
      t.rst.lots = s.rst.lots ∧ t.rst.order = s.rst.order ∧ t.rst.panels = s.rst.panels

/-- A strike point that arrives with the cycle IDLE, no trip and a lane in the mask is struck: STRIKE asserted for the forming panel,
each lane of the mask driven to depth × 10 + trim × range step in the step's direction, every other lane to 0, the blade limit at twice
the strike period. In another cycle state or TRIPPED, with a lane in the mask, it drives nothing and raises its panel's missed count by
1 up to 15. An empty mask strikes and misses nothing. The next point is armed each time (R104–R106, R109; that an empty mask is judged
first is log entry 24). -/
def Obligations.StrikePointArrives : Prop :=
  ∀ (s : State) (c : Coord) (k : Nat) (f : FormContext), s.pfm.nextStrike = some (c, k) → s.pfm.forming = some f →
    20000 ≤ coordDiff (s.fsu.w + 1) c → (∀ c', s.pfm.nextStart = some c' → coordDiff (s.fsu.w + 1) c' < 20000) →
    ∃ t, exec (.feedCount .forward) s = .next t ∧ t.pfm.forming = some { f with nextStep := k + 1 } ∧
      t.pfm.nextStrike = (strikePoint f.steps (k + 1)).map (fun d => (f.start + BitVec.ofNat 40 d, k + 1)) ∧
      (∀ st, f.laneMask ≠ 0#16 → s.pfm.cycle = .idle → s.sgv.gov ≠ .tripped → f.steps[k - 1]? = some st →
        t.pfm.strike = true ∧ t.pfm.cycle = .stroke ∧ t.pfm.strikeFor = some f.key ∧
          t.pfm.bladeLimit = some (2 * s.rst.line.strikePeriod.getD 0) ∧
          t.pfm.depths = (List.range 16).map fun n =>
            if f.laneMask.getLsbD n = true then
              some { magnitude := st.depth * 10 + (f.trims[n]?).getD 0 * ((f.trimRange.map (·.unit)).getD 0), dir := st.dir }
            else none) ∧
      (f.laneMask = 0#16 ∨ s.pfm.cycle ≠ .idle ∨ s.sgv.gov = .tripped →
        t.pfm.strike = s.pfm.strike ∧ t.pfm.cycle = s.pfm.cycle ∧ t.pfm.strikeFor = s.pfm.strikeFor ∧
          t.pfm.bladeLimit = s.pfm.bladeLimit ∧
          t.pfm.depths = s.pfm.depths) ∧
      ∀ p, s.panel? f.key = some p → p.missed ≤ 15 → ∃ p', t.panel? f.key = some p' ∧
        p'.missed =
          if f.laneMask ≠ 0#16 ∧ (s.pfm.cycle ≠ .idle ∨ s.sgv.gov = .tripped) then min 15 (p.missed + 1) else p.missed

/-- A belt count at which no tail arrives, or a reverse one, moves B by one modulo 2^40, enters the belt speed's window and does nothing
more (R2, R6, R10). The one that brings one panel's tail 95,000 counts past the blade judges it and removes its record. With the cutter
IDLE and no trip it is cut: CUT, the 250 ms limit, STROKE, the cut remembered as this record's. Else the cutter stands as it was, the
verdict is CUT, the record created next takes the cut fault, and CUT_OVERRUN is raised unless TRIPPED. DIVERT and the last disposition
follow the verdict, and a PRODUCT panel is tallied into its lot (R141, R145–R149). The verdict is the first reason present in the order
CUT, OPERATOR, JOINT, STRIKE, OVER_DOSE, SHORT_DOSE, and GOOD with none; a total equal to a limit of the dose window is inside it
(R147). -/
def Obligations.BeltCountBringsTailsToTheCutter : Prop :=
  (∀ (d : Travel) (s : State),
       (d = .reverse ∨ ∀ p ∈ s.rst.panels, coordDiff (d.move s.exu.b) p.head - (p.pleatedLen : Int) < 95000) →
       Completes (.beltCount d) s
         { s with exu := { s.exu with
             b := d.move s.exu.b, belt := { s.exu.belt with cur := s.exu.belt.cur + d.sign } } }) ∧
  (∀ (s : State) (p : Panel),
       s.rst.panels.filter (fun q => decide (95000 ≤ coordDiff (s.exu.b + 1) q.head - (q.pleatedLen : Int))) = [p] →
       let made := decide (s.exu.cycle = .idle) && decide (s.sgv.gov ≠ .tripped)
       let v := p.verdict (!made)
       let toReject := !(decide (p.kind = .product) && decide (v = .good))
       ∃ t, exec (.beltCount .forward) s = .next t ∧ t.exu.divert = toReject ∧
         t.exu.last = some { key := p.key, kind := p.kind, verdict := v, toReject := toReject } ∧
         (∀ l, p.kind = .product → s.lot? p.key.lot = some l →
           ∃ l', t.lot? p.key.lot = some l' ∧ l'.good = (l.tally v).good ∧ l'.rejected = (l.tally v).rejected) ∧
         (p.kind = .waste → t.rst.lots = s.rst.lots) ∧
         (made = true →
           t.exu.cut = true ∧ t.exu.limit = some 250 ∧ t.exu.cycle = .stroke ∧ t.exu.cutSerial = some p.serial ∧
             t.exu.pendingFault = s.exu.pendingFault ∧
             t.rst.panels = s.rst.panels.filter (fun q => q.serial != p.serial)) ∧
         (made = false →
           t.exu.cut = s.exu.cut ∧ t.exu.limit = s.exu.limit ∧ t.exu.cycle = s.exu.cycle ∧ t.exu.cutSerial = s.exu.cutSerial ∧
             t.rst.panels =
               (s.rst.panels.map fun q => if q.serial = p.serial + 1 then { q with cutFault := true } else q).filter
                 (fun q => q.serial != p.serial) ∧
             (s.rst.panelSerial = p.serial + 1 → s.hasSerial (p.serial + 1) = false → t.exu.pendingFault = true) ∧
             (s.sgv.gov ≠ .tripped → t.hasAlert .cutOverrun = true) ∧
             (s.sgv.gov = .tripped → t.lnk.alerts = s.lnk.alerts))) ∧
  (∀ (p : Panel) (uncut : Bool),
       (p.verdict uncut = .rejected .cut ↔ uncut = true ∨ p.cutFault = true) ∧
         (p.verdict uncut = .rejected .operator ↔ uncut = false ∧ p.cutFault = false ∧ p.reject = true) ∧
         (p.verdict uncut = .rejected .joint ↔ uncut = false ∧ p.cutFault = false ∧ p.reject = false ∧ p.joint = true) ∧
         (p.verdict uncut = .rejected .strike ↔
           uncut = false ∧ p.cutFault = false ∧ p.reject = false ∧ p.joint = false ∧ 0 < p.missed) ∧
         (p.verdict uncut = .rejected .overDose ↔
           uncut = false ∧ p.cutFault = false ∧ p.reject = false ∧ p.joint = false ∧ p.missed = 0 ∧ p.doseMax < p.totalDose) ∧
         (p.verdict uncut = .rejected .shortDose ↔
           uncut = false ∧ p.cutFault = false ∧ p.reject = false ∧ p.joint = false ∧ p.missed = 0 ∧
             p.totalDose ≤ p.doseMax ∧ p.totalDose < p.doseMin) ∧
         (p.verdict uncut = .good ↔
           uncut = false ∧ p.cutFault = false ∧ p.reject = false ∧ p.joint = false ∧ p.missed = 0 ∧
             p.totalDose ≤ p.doseMax ∧ p.doseMin ≤ p.totalDose))

/-- A refresh slides each of the four windows by 10 ms and reads each speed as the net counts of the last ten, within ±5,000; a RUNDOWN
station whose surface speed reads 0 becomes SEATED; W and B stand (R10, R67; the surface encoders' counts come with the command, log
entry 6). -/
def Obligations.SpeedRefreshReadsTheWindows : Prop :=
  ∀ (a b : Int) (s : State), ∃ t, exec (.speedRefresh a b) s = .next t ∧
    (let slid := fun (v : SpeedWindow) (n : Int) =>
       ({ cur := 0, past := ((v.cur + n) :: v.past).take 10,
          speed := max (-5000) (min 5000 (((v.cur + n) :: v.past).take 10).sum) } : SpeedWindow)
     t.fsu.web = slid s.fsu.web 0 ∧ t.fsu.surfA = slid s.fsu.surfA a ∧ t.fsu.surfB = slid s.fsu.surfB b ∧
       t.exu.belt = slid s.exu.belt 0) ∧
    (∀ x, s.station x = .rundown → t.station x = if t.surfSpeed x = 0 then .seated else .rundown) ∧
    t.fsu.w = s.fsu.w ∧ t.exu.b = s.exu.b ∧ t.rst = s.rst ∧ t.lnk = s.lnk ∧ t.hsu = s.hsu ∧ t.ltr = s.ltr

/-! ### Inputs -/

/-- A raw change away from the debounced level starts the 10 ms settle, one back to it ends the settle, no change is none. A settle that
runs out sets the debounced level to the raw one and changes no other input; an expiry with no settle running is no arrival (the model's
reading, log entry 1). A port that waits hears from the act that gives the last input its first level. A first level gives its owner its
starting state and raises no alert: a station SEATED or EMPTY, the strike and the cutter cycle IDLE or AWAY by HOME and CUT_HOME (R11,
R52, R97, R140, R177). -/
def Obligations.InputsAreDebounced : Prop :=
  (∀ (i : Input) (v : Bool) (s : State),
      let pin := s.inputs.get i
      ((pin.raw = v → Yields (.rawInputChange i v) s s) ∧
        (pin.raw ≠ v → pin.level = some v →
          Yields (.rawInputChange i v) s (s.setPin i { pin with raw := v, settle := none })) ∧
        (pin.raw ≠ v → pin.level ≠ some v →
          Yields (.rawInputChange i v) s (s.setPin i { pin with raw := v, settle := some 10 })))) ∧
    (∀ (i : Input) (s : State),
      ((s.inputs.get i).settle = none → Yields (.debounceSettle i) s s) ∧
        ((s.inputs.get i).settle.isSome = true → ∃ t, exec (.debounceSettle i) s = .next t ∧
          t.inputs.get i = { raw := (s.inputs.get i).raw, level := some (s.inputs.get i).raw, settle := none } ∧
          (∀ j, j ≠ i → t.inputs.get j = s.inputs.get j) ∧
          ∀ p, (s.port p).receiver = .waiting → (s.inputs.get i).level = none →
            (t.port p).receiver = if t.inputs.allKnown = true then .hunting else .waiting)) ∧
    ∀ (i : Input) (s : State), (s.inputs.get i).settle.isSome = true → (s.inputs.get i).level = none →
      i ≠ .eStop ∨ (s.inputs.get i).raw = false →
      let v := (s.inputs.get i).raw
      ∃ t, exec (.debounceSettle i) s = .next t ∧
        (∀ x : Station, i = x.seatedPin →
          t.station x = (if v = true then .seated else .empty) ∧ t.station x.other = s.station x.other) ∧
        ((∀ x : Station, i ≠ x.seatedPin) → t.fsu.staA = s.fsu.staA ∧ t.fsu.staB = s.fsu.staB) ∧
        (i = .home →
          t.pfm.cycle = (if v = true then .idle else .away) ∧ t.pfm.strike = false ∧ t.pfm.bladeLimit = none ∧
            t.pfm.depths = List.replicate 16 none) ∧
        (i ≠ .home → t.unregulated.pfm = s.unregulated.pfm) ∧
        (i = .cutHome → t.exu.cycle = (if v = true then .idle else .away) ∧ t.exu.cut = false ∧ t.exu.limit = none) ∧
        (i ≠ .cutHome → t.exu = s.exu) ∧
        t.lnk.alerts = s.lnk.alerts ∧ t.rst = s.rst ∧ t.hsu = s.hsu ∧ t.ltr = s.ltr ∧ t.fsu.w = s.fsu.w

/-- A rise of a station's SEATED makes it SEATED: the first DECLARED roll that intends it becomes MOUNTED there, else ROLL_UNKNOWN is
raised (R53). A fall makes it EMPTY: a SPENT roll leaves it; a MOUNTED or PREPARED one returns to DECLARED, leader NOT_READY, without
its intended station where another DECLARED roll has it; in MATCHING or MATCHED the splice is abandoned first; the ACTIVE roll of a
FEEDING station becomes SPENT, its length frozen, and ROLL_UNSEATED trips the line (R54, R71). A rise of CORE_NEAR on the FEEDING
station sets Expiring with ROLL_LOW, and with auto-splice on and the other station PREPARED the attempt follows; otherwise it sets
nothing, and a fall nothing (R58, R61). KEY moves nothing but its level (R181). (In states of `StationLaw`, which every step keeps.) -/
def Obligations.StationInputs : Prop :=
  (∀ (s : State) (x : Station), s.rising x.seatedPin →
      let s1 := (s.settled x.seatedPin true).setStation x .seated
      (∀ r, (s.rst.rolls.find? fun r => decide (r.state = .declared ∧ r.intended = some x)) = some r →
        Completes (.debounceSettle x.seatedPin) s (s1.putRoll { r with state := .mounted, station := some x })) ∧
        ((∀ r ∈ s.rst.rolls, ¬ (r.state = .declared ∧ r.intended = some x)) →
          Completes (.debounceSettle x.seatedPin) s (s1.raiseAlert .rollUnknown))) ∧
    (∀ (s : State) (x : Station), StationLaw s → s.falling x.seatedPin →
      let c := Instr.debounceSettle x.seatedPin
      let s1 := (s.settled x.seatedPin false).setStation x .empty
      (s.station x = .seated → s.boundRoll? x = none → Completes c s s1) ∧
        ∀ r, s.boundRoll? x = some r →
          let returned : Roll := { r with
            state := .declared, station := none, leaderReady := false
            intended :=
              if ∃ q ∈ s.rst.rolls, q.tag ≠ r.tag ∧ q.state = .declared ∧ q.intended = r.intended then none else r.intended }
          (s.station x = .seated ∨ s.station x = .joined ∨ s.station x = .rundown → r.state = .spent →
            Completes c s (s1.putRoll { r with station := none })) ∧
            (s.station x = .seated ∨ s.station x = .prepared → r.state ≠ .spent → Completes c s (s1.putRoll returned)) ∧
            (s.station x = .matching ∨ s.station x = .matched → ∃ t, exec c s = .next t ∧ t.station x = .empty ∧
              t.station x.other = s.station x.other ∧ t.roll? r.tag = some returned ∧
              (∀ tag, tag ≠ r.tag → t.roll? tag = s.roll? tag) ∧ t.fsu.phase = .idle ∧ t.fsu.outcome = .abandoned ∧
              t.fsu.extend = false ∧ t.fsu.knife = false ∧ t.ltr = { s.ltr with classChange := false } ∧
              (s.sgv.stopPending = true → t.sgv.gov = .halting ∧ t.sgv.stopPending = false) ∧
              t.rst.lots = s.rst.lots ∧ t.rst.panels = s.rst.panels ∧ t.rst.line = s.rst.line ∧ t.fsu.w = s.fsu.w) ∧
            (s.station x = .feeding → ∃ t, exec c s = .next t ∧ t.station x = .empty ∧
              t.roll? r.tag = some { r with state := .spent, station := none } ∧
              (∀ tag, tag ≠ r.tag → t.roll? tag = s.roll? tag) ∧ t.hasAlert .rollUnseated = true ∧
              t.hasTrip .rollUnseated = true ∧ t.sgv.gov = .tripped ∧ t.sgv.flatRef = 0 ∧ t.fsu.phase = .idle ∧
              (s.fsu.phase ≠ .idle → t.fsu.outcome = .abandoned) ∧
              (∀ y, (s.fsu.phase = .matching ∨ s.fsu.phase = .press) → s.fsu.incoming = some y → t.station y = .prepared) ∧
              t.rst.line = s.rst.line ∧ t.fsu.w = s.fsu.w)) ∧
    (∀ (s : State) (x : Station),
      let s1 := s.settled x.coreNear true
      (s.rising x.coreNear →
        (∀ r, s.activeStation = some x → s.boundRoll? x = some r → r.expiring = false →
          (s.rst.line.autoSplice = false →
            Completes (.debounceSettle x.coreNear) s ((s1.putRoll { r with expiring := true }).raiseAlert .rollLow)) ∧
            (s.rst.line.autoSplice = true → s.running = true → s.fsu.phase = .idle → r.attemptSpent = false →
              s.station x.other = .prepared → ∃ t r', exec (.debounceSettle x.coreNear) s = .next t ∧
                t.rst.line.requested = some x.other ∧ t.roll? r.tag = some r' ∧ r'.expiring = true ∧
                r'.attemptSpent = true ∧ t.hasAlert .rollLow = true ∧
                (t.fsu.phase = .matching ∧ t.station x.other = .matching ∨
                  t.fsu.phase = .idle ∧ t.fsu.outcome = .refused ∧ t.hasAlert .spliceFailed = true))) ∧
          (s.activeStation ≠ some x ∨ (∃ r, s.boundRoll? x = some r ∧ r.expiring = true) →
            Completes (.debounceSettle x.coreNear) s s1)) ∧
        (s.falling x.coreNear → Completes (.debounceSettle x.coreNear) s (s.settled x.coreNear false))) ∧
    ∀ s : State,
      (s.rising .key → Completes (.debounceSettle .key) s (s.settled .key true)) ∧
        (s.falling .key → Completes (.debounceSettle .key) s (s.settled .key false))

/-- Changes of the splice head's inputs. The rise of EXTENDED in PRESS makes the joint at W: outgoing JOINED and its roll SPENT,
incoming FEEDING and its roll ACTIVE with its initial length and Expiring judged, class change withdrawn, the joint assigned to the
FEEDING lot whose extent holds W, held pending at or past the segment's end, else dropped; CUT, KNIFE, 300 ms (R65, R87, R88). A change
that leaves both asserted raises the SPLICE_SENSOR alert and stop cause, abandons a splice before its joint and lets one after it go on
(R70; that a rise of EXTENDED in PRESS with RETRACTED asserted makes no joint, where R65 makes one, is the model's reading, log entry
15, and so is the cause raised before the abandoning, by which ABANDONED stands and no auto-splice follows, log entry 31, both DEDUCED).
The rise of RETRACTED in RETRACT ends the splice COMPLETED: a JOINED outgoing station RUNDOWN, the lock cleared, a pending stop taken
(R67; stated where no auto-splice can follow in the same act; that the stop comes before the auto-splice test is the model's choice, log
entry 41, DESIGN CHOICE). A fall of EXTENDED in CUT raises SPLICE_SENSOR; any other change of the three inputs does nothing more (R70).
(In states of `StationLaw` where it is named.) -/
def Obligations.SpliceHeadInputs : Prop :=
  (∀ (s : State) (x : Station) (ro ri : Roll), StationLaw s → s.rising .extended → s.asserted .retracted = false →
      s.fsu.phase = .press → s.fsu.incoming = some x → s.boundRoll? x.other = some ro → s.boundRoll? x = some ri →
      let w := s.fsu.w
      let low := (s.rst.line.configured && decide (ri.initLen.getD 0 ≤ s.rst.line.spliceReserve.getD 0)) || s.asserted x.coreNear
      ∃ t, exec (.debounceSettle .extended) s = .next t ∧
        t.fsu.phase = .cut ∧ t.fsu.knife = true ∧ t.fsu.extend = s.fsu.extend ∧ t.fsu.limit = some 300 ∧
        t.fsu.outcome = s.fsu.outcome ∧ t.fsu.incoming = some x ∧ t.fsu.outgoing = some x.other ∧ t.fsu.w = w ∧
        t.station x.other = .joined ∧ t.station x = .feeding ∧
        t.roll? ro.tag = some { ro with state := .spent } ∧
        t.roll? ri.tag = some
          { ri with state := .active, remaining := ri.initLen.getD 0, expiring := ri.expiring || low } ∧
        (∀ tag, tag ≠ ro.tag → tag ≠ ri.tag → t.roll? tag = s.roll? tag) ∧
        (∀ a, t.hasAlert a = (s.hasAlert a || (decide (a = .rollLow) && low && !ri.expiring))) ∧
        t.ltr.classChange = false ∧ t.ltr.segment = s.ltr.segment ∧ t.ltr.starved = s.ltr.starved ∧
        (match s.segmentExtent with
         | none => t.rst.lots = s.rst.lots ∧ t.ltr.pendingJoint = s.ltr.pendingJoint
         | some (h, e) =>
           if 0 ≤ coordDiff w h ∧ coordDiff w e < 0 then
             t.ltr.pendingJoint = s.ltr.pendingJoint ∧
               (∀ n l, s.ltr.segment = .lot n → s.lot? n = some l → t.lot? n = some (l.withJoint w (s.lotFlatLen l))) ∧
               ∀ m, s.ltr.segment ≠ .lot m → t.lot? m = s.lot? m
           else
             t.rst.lots = s.rst.lots ∧
               t.ltr.pendingJoint =
                 (if 0 ≤ coordDiff w e ∧ s.ltr.pendingJoint = none then some w else s.ltr.pendingJoint))) ∧
    (∀ (s : State) (i : Input), StationLaw s → s.rising i →
      i = .extended ∧ s.asserted .retracted = true ∨ i = .retracted ∧ s.asserted .extended = true →
      ∃ t, exec (.debounceSettle i) s = .next t ∧ t.hasAlert .spliceSensor = true ∧ t.hasStop .spliceSensor = true ∧
        (s.fsu.phase = .matching ∨ s.fsu.phase = .press →
          t.fsu.phase = .idle ∧ t.fsu.outcome = .abandoned ∧ t.fsu.extend = false ∧ t.fsu.knife = false ∧
            (∀ x, s.fsu.incoming = some x → t.station x = .prepared ∧ t.station x.other = .feeding) ∧
            t.sgv.gov = .halting ∧ t.sgv.intent = false ∧ t.sgv.stopPending = false) ∧
        (s.fsu.phase = .idle ∨ s.fsu.phase = .cut ∨ s.fsu.phase = .retract ∧ i = .extended →
          t.fsu.phase = s.fsu.phase ∧ t.fsu.outcome = s.fsu.outcome ∧ t.fsu.extend = s.fsu.extend ∧
            t.fsu.knife = s.fsu.knife ∧ t.fsu.limit = s.fsu.limit ∧ t.sgv.gov = s.sgv.gov.afterStop s.fsu.phase) ∧
        (s.fsu.phase = .retract → i = .retracted →
          t.fsu.phase = .idle ∧ t.fsu.outcome = .completed ∧ t.fsu.limit = none ∧ t.sgv.gov = .halting) ∧
        t.rst = s.rst ∧ t.exu = s.exu ∧ t.fsu.w = s.fsu.w) ∧
    (∀ (s : State) (y : Station), s.rising .retracted → s.asserted .extended = false → s.fsu.phase = .retract →
      s.fsu.outgoing = some y → s.rst.line.autoSplice = false ∨ s.sgv.stopPending = true →
      ∃ t, exec (.debounceSettle .retracted) s = .next t ∧ t.fsu.phase = .idle ∧ t.fsu.outcome = .completed ∧
        t.fsu.limit = none ∧ t.fsu.extend = false ∧ t.fsu.knife = false ∧ t.fsu.locked = false ∧ t.fsu.lossWatch = none ∧
        t.station y = (if s.station y = .joined then .rundown else s.station y) ∧ t.station y.other = s.station y.other ∧
        (s.sgv.stopPending = true → t.sgv.gov = .halting ∧ t.sgv.stopPending = false) ∧
        t.rst = s.rst ∧ t.lnk = s.lnk ∧ t.exu = s.exu ∧ t.fsu.w = s.fsu.w) ∧
    (∀ s : State, s.falling .extended → s.fsu.phase = .cut → ∃ t, exec (.debounceSettle .extended) s = .next t ∧
      t.hasAlert .spliceSensor = true ∧ t.hasStop .spliceSensor = true ∧ t.sgv.gov = s.sgv.gov.afterStop .cut ∧
      t.fsu.phase = .cut ∧ t.fsu.knife = s.fsu.knife ∧ t.fsu.extend = s.fsu.extend ∧ t.fsu.limit = s.fsu.limit ∧ t.rst = s.rst) ∧
    ∀ s : State,
      (s.rising .extended → s.asserted .retracted = false → s.fsu.phase ≠ .press →
        Completes (.debounceSettle .extended) s (s.settled .extended true)) ∧
        (s.rising .retracted → s.asserted .extended = false → s.fsu.phase ≠ .retract →
          Completes (.debounceSettle .retracted) s (s.settled .retracted true)) ∧
        (s.rising .knifeDone → s.fsu.phase ≠ .cut → Completes (.debounceSettle .knifeDone) s (s.settled .knifeDone true)) ∧
        (s.falling .extended → s.fsu.phase ≠ .cut → Completes (.debounceSettle .extended) s (s.settled .extended false)) ∧
        (s.falling .retracted → Completes (.debounceSettle .retracted) s (s.settled .retracted false)) ∧
        (s.falling .knifeDone → Completes (.debounceSettle .knifeDone) s (s.settled .knifeDone false))

/-- The debounced rise of KNIFE_DONE in CUT deasserts KNIFE and moves the phase to RETRACT, and so does the 300 ms limit, which raises
the SPLICE_SENSOR alert and stop cause too (R66); EXTEND goes and the 400 ms limit starts with RETRACT. -/
def Obligations.KnifeEndsInRetract : Prop :=
  (∀ s : State, s.rising .knifeDone → s.fsu.phase = .cut →
      Completes (.debounceSettle .knifeDone) s
        { (s.setPin .knifeDone { raw := true, level := some true, settle := none }) with
          fsu := { s.fsu with phase := .retract, knife := false, extend := false, limit := some 400 } }) ∧
    ∀ s : State, s.fsu.phase = .cut → s.fsu.limit.isSome = true → ∃ t, exec .knifeLimitExpiry s = .next t ∧
      t.fsu.knife = false ∧ t.fsu.extend = false ∧ t.fsu.phase = .retract ∧ t.fsu.limit = some 400 ∧
      t.hasAlert .spliceSensor = true ∧ t.hasStop .spliceSensor = true ∧
      t.sgv.gov = s.sgv.gov.afterStop .cut ∧ t.fsu.w = s.fsu.w ∧ t.fsu.outcome = s.fsu.outcome ∧
      t.fsu.staA = s.fsu.staA ∧ t.fsu.staB = s.fsu.staB ∧ t.rst = s.rst ∧ t.exu = s.exu

/-- Debounced changes of HOME move the strike cycle: a fall in IDLE is a jam (AWAY, BLADE_JAM alert and stop cause), in STROKE it
deasserts STRIKE and leads to RETURN with limit and depths as they were; a rise in RETURN or AWAY leads to IDLE with the limit stopped
and every depth 0; in the other states nothing of the cycle moves (R107, R105). Debounced changes of CUT_HOME move the cutter cycle: a
fall in IDLE is a jam (AWAY, CUTTER_JAM alert and stop cause), in STROKE it deasserts CUT and leads to RETURN with the limit running on;
a rise in RETURN or AWAY leads to IDLE with the limit stopped; in the other states the cutter stands (R143). -/
def Obligations.HomeInputsMoveTheCycles : Prop :=
  ((∀ s : State, s.falling .home → ∃ t, exec (.debounceSettle .home) s = .next t ∧
         match s.pfm.cycle with
         | .idle =>
           t.pfm.cycle = .away ∧ t.pfm.strike = false ∧ t.pfm.bladeLimit = none ∧ t.pfm.depths = List.replicate 16 none ∧
             t.hasAlert .bladeJam = true ∧ t.hasStop .bladeJam = true ∧ t.sgv.gov = s.sgv.gov.afterStop s.fsu.phase
         | .stroke =>
           t.pfm.cycle = .back ∧ t.pfm.strike = false ∧ t.pfm.bladeLimit = s.pfm.bladeLimit ∧ t.pfm.depths = s.pfm.depths ∧
             t.lnk = s.lnk ∧ t.sgv.stops = s.sgv.stops
         | .back => t.unregulated.pfm = s.unregulated.pfm ∧ t.lnk = s.lnk ∧ t.sgv.stops = s.sgv.stops
         | .away => t.unregulated.pfm = s.unregulated.pfm ∧ t.lnk = s.lnk ∧ t.sgv.stops = s.sgv.stops) ∧
       ∀ s : State, s.rising .home → ∃ t, exec (.debounceSettle .home) s = .next t ∧
         if s.pfm.cycle = .back ∨ s.pfm.cycle = .away then
           t.pfm.cycle = .idle ∧ t.pfm.strike = false ∧ t.pfm.bladeLimit = none ∧ t.pfm.depths = List.replicate 16 none
         else t.unregulated.pfm = s.unregulated.pfm) ∧
  ((∀ s : State, s.falling .cutHome → ∃ t, exec (.debounceSettle .cutHome) s = .next t ∧
         t.exu.b = s.exu.b ∧ t.exu.divert = s.exu.divert ∧ t.exu.pendingFault = s.exu.pendingFault ∧ t.exu.last = s.exu.last ∧
         match s.exu.cycle with
         | .idle =>
           t.exu.cycle = .away ∧ t.exu.cut = false ∧ t.exu.limit = none ∧ t.hasAlert .cutterJam = true ∧
             t.hasStop .cutterJam = true ∧ t.sgv.gov = s.sgv.gov.afterStop s.fsu.phase
         | .stroke => t.exu.cycle = .back ∧ t.exu.cut = false ∧ t.exu.limit = s.exu.limit ∧ t.lnk = s.lnk
         | .back => t.exu = s.exu ∧ t.lnk = s.lnk
         | .away => t.exu = s.exu ∧ t.lnk = s.lnk) ∧
       ∀ s : State, s.rising .cutHome →
         Completes (.debounceSettle .cutHome) s
           { (s.setPin .cutHome { raw := true, level := some true, settle := none }) with
             exu := if s.exu.cycle = .back ∨ s.exu.cycle = .away
               then { s.exu with cycle := .idle, cut := false, limit := none, cutSerial := none } else s.exu })

/-- An assertion of E_STOP, by a debounced rise or by the first level, raises the ESTOP alert and the trip cause, stops the permit, puts
HEAT and every zone OFF, and leaves the governor TRIPPED with the references 0; the web-break window's expiry raises the WEB_BREAK alert
and trip cause and leaves it TRIPPED so too, HEAT and the permit as they stood (R74, R132, R151, R159, R160). Where either is an entry
into TRIPPED, run intent is CLEAR, no stop pending, a splice abandoned, and the actuators go to rest, DIVERT to reject, an unfinished
cycle AWAY but for one in STROKE (R111, R151). In a line TRIPPED already run intent is CLEAR and no stop pending by `IntentLaw`, which
every step keeps. -/
def Obligations.TripsBringTheLineToRest : Prop :=
  (∀ s : State, (s.inputs.get .eStop).settle.isSome = true → (s.inputs.get .eStop).raw = true →
       (s.inputs.get .eStop).level ≠ some true → ∃ t, exec (.debounceSettle .eStop) s = .next t ∧
         t.sgv.gov = .tripped ∧ t.hasTrip .eStop = true ∧ t.hasAlert .eStop = true ∧ t.rst.line.heat = false ∧
         t.hsu.permit = none ∧ (∀ z ∈ allZones, (t.hsu.zones.get z).mode = .off ∧ (t.hsu.zones.get z).settle = none) ∧
         t.hasHold .zoneUnsettled = false ∧ t.sgv.flatRef = 0 ∧ t.sgv.beltRef = 0 ∧ t.sgv.stops = s.sgv.stops ∧
         t.fsu.w = s.fsu.w ∧ t.exu.b = s.exu.b ∧
         (IntentLaw s → t.sgv.intent = false ∧ t.sgv.stopPending = false) ∧
         (s.sgv.gov ≠ .tripped →
           t.sgv.intent = false ∧ t.sgv.stopPending = false ∧ t.fsu.phase = .idle ∧
             (s.fsu.phase ≠ .idle → t.fsu.extend = false ∧ t.fsu.knife = false ∧ t.fsu.outcome = .abandoned) ∧
             t.pfm.strike = false ∧ t.pfm.depths = List.replicate 16 none ∧ t.pfm.bladeLimit = none ∧
             t.pfm.cycle = (match s.pfm.cycle with
               | .idle => .idle
               | .stroke => .idle
               | .back => .away
               | .away => .away) ∧
             t.exu.cut = false ∧ t.exu.limit = none ∧ t.exu.divert = true ∧
             t.exu.cycle = (match s.exu.cycle with
               | .idle => .idle
               | .stroke => .idle
               | .back => .away
               | .away => .away))) ∧
  (∀ s : State, s.fsu.webBreak.isSome = true → ∃ t, exec .webBreakExpiry s = .next t ∧
       t.hasAlert .webBreak = true ∧ t.hasTrip .webBreak = true ∧ t.sgv.gov = .tripped ∧ t.sgv.flatRef = 0 ∧
       t.sgv.beltRef = 0 ∧ t.rst.line = s.rst.line ∧ t.hsu.permit = s.hsu.permit ∧ t.fsu.w = s.fsu.w ∧ t.exu.b = s.exu.b ∧
       t.sgv.stops = s.sgv.stops ∧ t.inputs = s.inputs ∧
       (IntentLaw s → t.sgv.intent = false ∧ t.sgv.stopPending = false) ∧
       (s.sgv.gov ≠ .tripped →
         t.sgv.intent = false ∧ t.sgv.stopPending = false ∧ t.fsu.phase = .idle ∧
           (s.fsu.phase ≠ .idle → t.fsu.extend = false ∧ t.fsu.knife = false ∧ t.fsu.outcome = .abandoned) ∧
           t.pfm.strike = false ∧ t.pfm.depths = List.replicate 16 none ∧ t.pfm.bladeLimit = none ∧
           t.pfm.cycle = (match s.pfm.cycle with
             | .idle => .idle
             | .stroke => .idle
             | .back => .away
             | .away => .away) ∧
           t.exu.cut = false ∧ t.exu.limit = none ∧ t.exu.divert = true ∧
           t.exu.cycle = (match s.exu.cycle with
             | .idle => .idle
             | .stroke => .idle
             | .back => .away
             | .away => .away)))

/-! ### Readings, counts and limits -/

/-- A valid pressure reading moves the pressure state by its table: below 300 LOW, above 330 NORMAL, between them LOW stays LOW and the
others read NORMAL; with it STEAM_LOW is held in LOW, raised as an alert at the entry into LOW, and withdrawn in NORMAL (R126). Power-on
and the RESET pin set UNKNOWN; LINE_RESET and every other command but a valid pressure reading leaves the state (R125). -/
def Obligations.PressureReadingMovesThePressureState : Prop :=
  (∀ (n : Nat) (s : State), n ≤ 2000 →
      let p := if n < 300 then PressureState.low
        else if 330 < n then PressureState.normal
        else if s.hsu.pressure = .low then PressureState.low else PressureState.normal
      let s1 := { s with hsu := { s.hsu with pressure := p, pressureReading := some n } }
      (∃ t, exec (.senseReading .pressure (n : Int) false) s = .next t ∧ t.hsu.pressure = p) ∧
      Completes (.senseReading .pressure (n : Int) false) s
        (if p = .normal then s1.dropHold .steamLow
         else if s.hsu.pressure = .low then s1.setHold .steamLow
         else (s1.raiseAlert .steamLow).setHold .steamLow)) ∧
    State.reset.hsu.pressure = .unknown ∧
    (∀ s : State, ∃ t, exec .resetPin s = .next t ∧ t.hsu.pressure = .unknown) ∧
    (∀ (p : Port) (ops : List Byte) (s : State), ∃ t, exec (.lineReset p ops) s = .next t ∧ t.hsu.pressure = s.hsu.pressure) ∧
    ∀ (c : Instr) (s t : State), exec c s = .next t → c ≠ .resetPin →
      (∀ n : Nat, n ≤ 2000 → c ≠ .senseReading .pressure (n : Int) false) → t.hsu.pressure = s.hsu.pressure

/-- A valid reading of a zone makes it FRESH with a new 500 ms window. In WARMING a reading within the target ± 20 starts the 5 s settle
or lets it run on and any other stops it; in SETTLED one outside ± 40 makes the zone WARMING; OFF and STANDBY stay. A reading that is
faulted, out of the range of its kind or of no kind is discarded (R12, R121–R123). -/
def Obligations.ZoneReadingIsJudged : Prop :=
  (∀ (z : ZoneId) (n : Nat) (s : State), n ≤ 4000 →
      let v := s.hsu.zones.get z
      let near := fun (band : Nat) => ∃ t, v.target = some t ∧ t ≤ n + band ∧ n ≤ t + band
      ∃ v', Completes (.senseReading (.zone z) (n : Int) false) s (s.setZone z v') ∧
        v'.target = v.target ∧ v'.targetClass = v.targetClass ∧ v'.reading = some n ∧ v'.fresh = true ∧
        v'.window = some 500 ∧
        (v.mode = .off ∨ v.mode = .standby → v'.mode = v.mode ∧ v'.settle = v.settle) ∧
        (v.mode = .warming → near 20 → v'.mode = .warming ∧ v'.settle = some (v.settle.getD 5000)) ∧
        (v.mode = .warming → ¬ near 20 → v'.mode = .warming ∧ v'.settle = none) ∧
        (v.mode = .settled → near 40 → v'.mode = .settled ∧ v'.settle = v.settle) ∧
        (v.mode = .settled → ¬ near 40 → v'.mode = .warming ∧ v'.settle = none)) ∧
    ∀ (k : SenseKind) (v : Int) (f : Bool) (s : State),
      f = true ∨ k = .unnamed ∨ v < 0 ∨ (k = .pressure ∧ 2000 < v) ∨ (k = .dancer ∧ 1000 < v) ∨
        (∃ z, k = .zone z ∧ 4000 < v) →
      Yields (.senseReading k v f) s s

/-- On a configured line a dancer reading within 500 ± the half-width starts or continues the lock count; one outside it, or 50 ms
without a reading, ends the count and takes a LOCKED lock to UNLOCKED, which raises TENSION_LOST and starts a loss watch where none
runs. A forward feed count counts in the lock count, and in the loss watch while the governor is in RUN; the 3,000th in band makes the
lock LOCKED, ends the watch and withdraws the TENSION hold reason; the 20,000th watched with the lock UNLOCKED sets it, and RUN is left.
A reverse count counts in neither (R72, R73). The feed count takes these effects itself, so that the rows TENSION_LOCK_COUNT and
TENSION_WATCH_COUNT, which are the same arrivals named alone, find them done (log entry 5); what the rows do is stated too. That one
count completing both takes the lock first is the model's choice (log entry 39, DESIGN CHOICE), and that a watched count is judged by
the governor as the count finds it its reading (log entry 32, DEDUCED). -/
def Obligations.TensionLockFollowsTheDancer : Prop :=
  (∀ (n : Nat) (s : State), n ≤ 1000 → s.rst.line.configured = true →
      let half := s.rst.line.tensionBand.getD 0
      let inBand := 500 ≤ n + half ∧ n ≤ 500 + half
      let f := { s.fsu with dancer := some n, dancerWindow := some 50 }
      (inBand → Completes (.senseReading .dancer (n : Int) false) s
          { s with fsu := { f with lockCount := some (s.fsu.lockCount.getD 0) } }) ∧
        (¬ inBand → s.fsu.locked = false → Completes (.senseReading .dancer (n : Int) false) s
          { s with fsu := { f with lockCount := none } }) ∧
        (¬ inBand → s.fsu.locked = true → Completes (.senseReading .dancer (n : Int) false) s
          (({ s with fsu := { f with lockCount := none, locked := false, lossWatch := some (s.fsu.lossWatch.getD 0) } } :
            State).raiseAlert .tensionLost))) ∧
    (∀ s : State, s.fsu.dancerWindow.isSome = true →
      (s.fsu.locked = false → Completes .dancerTimeout s
          { s with fsu := { s.fsu with dancerWindow := none, lockCount := none } }) ∧
        (s.fsu.locked = true → Completes .dancerTimeout s
          (({ s with fsu := { s.fsu with
              dancerWindow := none, lockCount := none, locked := false, lossWatch := some (s.fsu.lossWatch.getD 0) } } :
            State).raiseAlert .tensionLost))) ∧
    (∀ s : State, ∃ t, exec (.feedCount .forward) s = .next t ∧
      (let due := s.fsu.locked = false ∧ ∃ n, s.fsu.lockCount = some n ∧ 2999 ≤ n
       (due → t.fsu.locked = true ∧ t.fsu.lossWatch = none ∧ t.hasHold .tension = false) ∧
         (¬ due → t.fsu.locked = s.fsu.locked ∧
           (s.sgv.gov = .run → t.fsu.lossWatch = s.fsu.lossWatch.map fun n => min 20000 (n + 1)) ∧
           (s.sgv.gov ≠ .run → t.fsu.lossWatch = s.fsu.lossWatch) ∧
           (∀ n, s.fsu.locked = false → s.fsu.lossWatch = some n → s.sgv.gov = .run → 19999 ≤ n →
             t.hasHold .tension = true ∧ t.sgv.gov ≠ .run) ∧
           (s.fsu.locked = true ∨ (∀ n, s.fsu.lossWatch = some n → n < 19999) → t.hasHold .tension = s.hasHold .tension)) ∧
         t.fsu.lockCount = s.fsu.lockCount.map fun n => min 3000 (n + 1))) ∧
    (∀ s : State, ∃ t, exec (.feedCount .reverse) s = .next t ∧ t.fsu.locked = s.fsu.locked ∧
      t.fsu.lockCount = s.fsu.lockCount ∧ t.fsu.lossWatch = s.fsu.lossWatch ∧ t.hasHold .tension = s.hasHold .tension) ∧
    (∀ (n : Nat) (s : State), s.fsu.lockCount = some n → 3000 ≤ n → s.fsu.locked = false →
      Completes .tensionLockCount s
        (({ s with fsu := { s.fsu with locked := true, lossWatch := none } } : State).dropHold .tension)) ∧
    ∀ (n : Nat) (s : State), s.fsu.lossWatch = some n → 20000 ≤ n → s.fsu.locked = false →
      Completes .tensionWatchCount s (s.setHold .tension)

/-- In MATCHING a speed refresh judges the incoming station in band where its surface speed lies within 10 ‰ of the web speed: in band
the match count starts at 0 or goes on; out of band it ends, and a MATCHED station goes back to MATCHING. The 2,000th forward feed count
in band makes the station MATCHED. At the feed count or the refresh that finds it MATCHED with the web at or below the splice speed the
splice passes to PRESS in the same act, EXTEND driven and its 400 ms limit started (R63, R64; the feed count stated with the ACTIVE roll
not running out on it, which R69 rules). The feed count takes the effect itself, so that the row MATCH_COUNT, the same arrival named
alone, finds it done (log entry 5); what the row does is stated too. -/
def Obligations.MatchCountPressesTheHead : Prop :=
  (∀ (s : State) (x : Station) (n : Nat), s.fsu.phase = .matching → s.fsu.incoming = some x → s.fsu.matchCount = some n →
    2000 ≤ n → s.station x = .matching →
    ((s.rst.line.spliceSpeed.getD 0 : Nat) < s.fsu.web.speed → Completes .matchCount s (s.setStation x .matched)) ∧
      (s.fsu.web.speed ≤ (s.rst.line.spliceSpeed.getD 0 : Nat) →
        Completes .matchCount s
          (let s1 := s.setStation x .matched
           { s1 with fsu := { s1.fsu with phase := .press, extend := true, limit := some 400 } }))) ∧
    (∀ (s : State) (x : Station), s.fsu.phase = .matching → s.fsu.incoming = some x →
      (∀ r, s.activeRoll? = some r → r.remaining ≠ 1) → ∃ t, exec (.feedCount .forward) s = .next t ∧
        (let reached := s.station x = .matching ∧ ∃ n, s.fsu.matchCount = some n ∧ 1999 ≤ n
         let matched := reached ∨ s.station x = .matched
         t.fsu.matchCount = s.fsu.matchCount.map (fun n => min 2000 (n + 1)) ∧
           (matched → t.station x = .matched ∧
             ((s.rst.line.spliceSpeed.getD 0 : Nat) < s.fsu.web.speed →
               t.fsu.phase = .matching ∧ t.fsu.extend = s.fsu.extend ∧ t.fsu.limit = s.fsu.limit) ∧
             (s.fsu.web.speed ≤ (s.rst.line.spliceSpeed.getD 0 : Nat) →
               t.fsu.phase = .press ∧ t.fsu.extend = true ∧ t.fsu.limit = some 400)) ∧
           (¬ matched → t.station x = s.station x ∧ t.fsu.phase = .matching ∧ t.fsu.extend = s.fsu.extend ∧
             t.fsu.limit = s.fsu.limit))) ∧
    ∀ (a b : Int) (s : State) (x : Station), s.fsu.phase = .matching → s.fsu.incoming = some x →
      s.station x = .matching ∨ s.station x = .matched → ∃ t, exec (.speedRefresh a b) s = .next t ∧
        (let inBand := ((t.surfSpeed x - t.fsu.web.speed).natAbs : Int) * 1000 ≤ 10 * t.fsu.web.speed
         (inBand → t.fsu.matchCount = some (s.fsu.matchCount.getD 0) ∧ t.station x = s.station x ∧
           (s.station x = .matched ∧ t.fsu.web.speed ≤ (s.rst.line.spliceSpeed.getD 0 : Nat) →
             t.fsu.phase = .press ∧ t.fsu.extend = true ∧ t.fsu.limit = some 400) ∧
           (s.station x = .matching ∨ (s.rst.line.spliceSpeed.getD 0 : Nat) < t.fsu.web.speed →
             t.fsu.phase = .matching ∧ t.fsu.extend = s.fsu.extend ∧ t.fsu.limit = s.fsu.limit)) ∧
           (¬ inBand → t.fsu.matchCount = none ∧ t.station x = .matching ∧ t.fsu.phase = .matching ∧
             t.fsu.extend = s.fsu.extend ∧ t.fsu.limit = s.fsu.limit))

/-- The match limit in MATCHING and the head limit in PRESS end the splice before its joint with their outcome: EXTEND and KNIFE
deasserted, the incoming station back to PREPARED, no class change pending, SPLICE_FAILED raised, and a pending stop takes the line to
HALTING (stated where no auto-splice can follow in the same act; that the pending stop comes before the auto-splice test is the model's
choice, log entry 41, DESIGN CHOICE). The retract limit ends it after its joint: SPLICE_SENSOR alert and stop cause, the tension lock
cleared, the stations as they were (R63, R64, R67, R68, R158). R158 lets the cause or the phase change come first; that the cause does,
so that no auto-splice follows and the stations and rolls stand, is the model's choice (log entry 40, DESIGN CHOICE). -/
def Obligations.SpliceLimitsEndTheSplice : Prop :=
  (∀ (s : State) (c : Instr) (o : SpliceOutcome), s.fsu.limit.isSome = true →
      (c = .matchLimitExpiry ∧ s.fsu.phase = .matching ∧ o = .matchTimeout ∨
        c = .headLimitExpiry ∧ s.fsu.phase = .press ∧ o = .headTimeout) →
      s.rst.line.autoSplice = false ∨ s.sgv.stopPending = true → ∃ t, exec c s = .next t ∧
        t.fsu.phase = .idle ∧ t.fsu.outcome = o ∧ t.fsu.extend = false ∧ t.fsu.knife = false ∧ t.fsu.limit = none ∧
        t.ltr = { s.ltr with classChange := false } ∧ t.hasAlert .spliceFailed = true ∧
        (∀ x, s.fsu.incoming = some x → s.station x = .matching ∨ s.station x = .matched →
          t.station x = .prepared ∧ t.station x.other = s.station x.other) ∧
        (s.sgv.stopPending = true → t.sgv.gov = .halting ∧ t.sgv.stopPending = false) ∧
        t.fsu.w = s.fsu.w ∧ t.fsu.locked = s.fsu.locked ∧ t.rst = s.rst ∧ t.exu = s.exu) ∧
    ∀ s : State, s.fsu.limit.isSome = true → s.fsu.phase = .retract → ∃ t, exec .retractLimitExpiry s = .next t ∧
      t.fsu.phase = .idle ∧ t.fsu.outcome = .retractTimeout ∧ t.fsu.extend = false ∧ t.fsu.knife = false ∧
      t.fsu.limit = none ∧ t.fsu.locked = false ∧ t.fsu.lossWatch = none ∧ t.fsu.staA = s.fsu.staA ∧
      t.fsu.staB = s.fsu.staB ∧ t.hasAlert .spliceSensor = true ∧ t.hasStop .spliceSensor = true ∧
      (s.running = true → t.sgv.gov = .halting ∧ t.sgv.stopPending = false ∧ t.sgv.intent = false) ∧
      t.fsu.w = s.fsu.w ∧ t.rst = s.rst ∧ t.exu = s.exu

/-- The blade limit's expiry in STROKE or RETURN ends the strike as a jam: STRIKE deasserted, every depth 0, AWAY, the BLADE_JAM alert
and stop cause, and a missed strike on the panel it was made for. The cutter limit's ends the cut cycle as a jam: CUT deasserted, AWAY,
the CUTTER_JAM alert and stop cause; one in STROKE gives the record created next the cut fault, one in RETURN gives none. The stop cause
moves the governor (R108–R110, R144, R146, R157). -/
def Obligations.ActuatorLimitsAreJams : Prop :=
  (∀ s : State, s.pfm.bladeLimit.isSome = true → s.pfm.cycle = .stroke ∨ s.pfm.cycle = .back →
    ∃ t, exec .bladeLimitExpiry s = .next t ∧
      t.pfm.strike = false ∧ t.pfm.depths = List.replicate 16 none ∧ t.pfm.cycle = .away ∧ t.pfm.bladeLimit = none ∧
      t.hasAlert .bladeJam = true ∧ t.hasStop .bladeJam = true ∧ t.sgv.gov = s.sgv.gov.afterStop s.fsu.phase ∧
      (∀ k p, s.pfm.strikeFor = some k → s.panel? k = some p → p.missed ≤ 15 →
        ∃ p', t.panel? k = some p' ∧ p'.missed = min 15 (p.missed + 1) ∧
          (p.missed = 14 → t.hasAlert .strikeSaturated = true ∧ t.hasHold .strikeSaturated = true)) ∧
      t.fsu.w = s.fsu.w ∧ t.exu = s.exu ∧ t.rst.lots = s.rst.lots ∧ t.rst.line = s.rst.line ∧ t.inputs = s.inputs) ∧
  ∀ s : State, s.exu.limit.isSome = true → s.exu.cycle = .stroke ∨ s.exu.cycle = .back →
    ∃ t, exec .cutterLimitExpiry s = .next t ∧
      t.exu.cut = false ∧ t.exu.cycle = .away ∧ t.exu.limit = none ∧ t.exu.divert = s.exu.divert ∧ t.exu.b = s.exu.b ∧
      t.hasAlert .cutterJam = true ∧ t.hasStop .cutterJam = true ∧ t.sgv.gov = s.sgv.gov.afterStop s.fsu.phase ∧
      (s.exu.cycle = .back → t.rst = s.rst ∧ t.exu.pendingFault = s.exu.pendingFault) ∧
      (∀ n, s.exu.cycle = .stroke → s.exu.cutSerial = some n →
        t.rst.panels = (s.rst.panels.map fun q => if q.serial = n + 1 then { q with cutFault := true } else q) ∧
          t.exu.pendingFault =
            (s.exu.pendingFault || (!s.hasSerial (n + 1) && decide (s.rst.panelSerial = n + 1)))) ∧
      t.fsu.w = s.fsu.w ∧ t.rst.lots = s.rst.lots ∧ t.rst.line = s.rst.line ∧ t.inputs = s.inputs

/-! ### Heat and the governor's timers -/

/-- At an expiry of the dose interval every panel takes, from each zone its midpoint lies in, the latest reading less 950 where the zone
is not OFF and its reading is FRESH, up to 999,999,999, and its total rises by the same; nothing else of any record changes; the classes
of the panels in the zones are handed to SGV (R119, R127, R128). With HEAT ON and the governor in CREEP or RUN every zone WARMING or
SETTLED is retargeted: to the setpoint for it of its lead panel's class, else of its next panel's, else of the ACTIVE roll's; a new
temperature makes it WARMING with its settling stopped, the same one moves the target class alone; with none of the three it keeps its
target, or takes the standby temperature where it has none. Any other zone stands as it was (R117–R119; a class with no setpoint to read
is log entry 13). -/
def Obligations.DoseIntervalAddsDoses : Prop :=
  ∀ s : State, ∃ t, exec .doseIntervalExpiry s = .next t ∧
    t.rst = { s.rst with panels := s.rst.panels.map fun p =>
      { p with
        doses := ⟨p.doses.z1 + s.doseGain p .z1, p.doses.z2 + s.doseGain p .z2, p.doses.z3 + s.doseGain p .z3,
          p.doses.z4 + s.doseGain p .z4⟩
        totalDose := p.totalDose + s.doseGain p .z1 + s.doseGain p .z2 + s.doseGain p .z3 + s.doseGain p .z4 } } ∧
    (∀ z ∈ allZones,
      let v := s.hsu.zones.get z
      let heated := s.rst.line.heat = true ∧ s.running = true ∧ (v.mode = .warming ∨ v.mode = .settled)
      (¬ heated → t.hsu.zones.get z = v) ∧
        (heated → ∀ c k n, s.targets z c → s.class? c = some k → k.setpoints.get z = some n →
          t.hsu.zones.get z =
            if v.target = some n then { v with targetClass := some c }
            else { v with mode := .warming, target := some n, targetClass := some c, settle := none }) ∧
        (heated → (∀ c, ¬ s.targets z c) →
          (v.target ≠ none → t.hsu.zones.get z = v) ∧
            ∀ n, v.target = none → s.rst.line.standby = some n →
              t.hsu.zones.get z = { v with mode := .warming, target := some n, targetClass := none, settle := none })) ∧
    (∀ n, n ∈ t.sgv.classSet ↔ ∃ p ∈ s.rst.panels, p.cls = n ∧ ∃ z ∈ allZones, p.inZone s.exu.b z = true) ∧
    t.exu = s.exu ∧ t.lnk = s.lnk ∧ t.ltr = s.ltr ∧ t.inputs = s.inputs ∧ t.fsu.w = s.fsu.w ∧
    t.hsu.permit = s.hsu.permit

/-- A settle timer that runs out in WARMING makes the zone SETTLED. A reading gone STALE takes a SETTLED zone to WARMING, stops the
settling of a WARMING one, leaves OFF and STANDBY, and raises ZONE_SENSOR while HEAT is ON (R121–R123). The heat permit's expiry writes
HEAT OFF, stops the permit, moves every zone to OFF, withdraws ZONE_UNSETTLED and raises the PERMIT_EXPIRED alert and stop cause, which
moves the governor (R131, R157). -/
def Obligations.HeatTimersExpire : Prop :=
  ((∀ (z : ZoneId) (s : State), (s.hsu.zones.get z).settle.isSome = true → (s.hsu.zones.get z).mode = .warming →
         Completes (.zoneSettleExpiry z) s
           (s.setZone z { s.hsu.zones.get z with mode := .settled, settle := none })) ∧
       ∀ (z : ZoneId) (s : State), (s.hsu.zones.get z).window.isSome = true →
         let v := s.hsu.zones.get z
         let v' : Zone := { v with
           fresh := false, window := none
           mode := if v.mode = .settled then .warming else v.mode
           settle := if v.mode = .settled ∨ v.mode = .warming then none else v.settle }
         (s.rst.line.heat = true → Completes (.readingStale z) s ((s.setZone z v').raiseAlert .zoneSensor)) ∧
           (s.rst.line.heat = false → Completes (.readingStale z) s (s.setZone z v'))) ∧
  (∀ s : State, s.hsu.permit.isSome = true → ∃ t, exec .heatPermitExpiry s = .next t ∧
       t.rst = { s.rst with line := { s.rst.line with heat := false } } ∧ t.hsu.permit = none ∧
       (∀ z ∈ allZones, t.hsu.zones.get z = { s.hsu.zones.get z with mode := .off, settle := none }) ∧
       t.hasHold .zoneUnsettled = false ∧ t.hasAlert .permitExpired = true ∧ t.hasStop .permitExpired = true ∧
       t.sgv.gov = s.sgv.gov.afterStop s.fsu.phase ∧ t.exu = s.exu ∧ t.fsu.w = s.fsu.w ∧ t.inputs = s.inputs)

/-- At a ramp interval's expiry a governor in CREEP with run intent SET, no hold reason and no stop pending enters RUN, its reference
carried over under the ceiling. In RUN the reference rises by the acceleration towards min(set speed, ceiling) with the lock LOCKED,
stays with it UNLOCKED, falls by the same step from above, and never passes the target. In the other states nothing moves. (Stated with
no zone WARMING, which would hold the line: R124.) (R154, R156, R168) The standstill window's expiry sets standstill YES; a governor in
HALTING enters STOPPED in the same act, and so does one in STEPPING whose target is reached and whose strike cycle is IDLE; any other
governor stays where it is (R114, R161). -/
def Obligations.GovernorTimersExpire : Prop :=
  ((∀ s : State, s.sgv.gov = .creep → s.sgv.intent = true → s.sgv.holds = 0#6 → s.sgv.stopPending = false →
         (∀ z ∈ allZones, (s.hsu.zones.get z).mode ≠ .warming) → ∃ t, exec .rampIntervalExpiry s = .next t ∧
           t.sgv.gov = .run ∧ t.sgv.flatRef = min s.sgv.flatRef (t.sgv.ceiling * 100) ∧ t.sgv.intent = true ∧
           t.fsu.w = s.fsu.w ∧ t.exu = s.exu ∧ t.hsu = s.hsu) ∧
       (∀ s : State, s.sgv.gov = .run → s.sgv.intent = true → s.sgv.holds = 0#6 →
         (∀ z ∈ allZones, (s.hsu.zones.get z).mode ≠ .warming) →
         let target := min s.rst.line.setSpeed s.sgv.ceiling * 100
         let step := s.rst.line.accel.getD 0
         ∃ t, exec .rampIntervalExpiry s = .next t ∧ t.sgv.gov = .run ∧
           t.sgv.flatRef = min (t.sgv.ceiling * 100)
             (if s.sgv.flatRef < target ∧ s.fsu.locked = true then min target (s.sgv.flatRef + step)
              else if s.sgv.flatRef < target then s.sgv.flatRef
              else max target (s.sgv.flatRef - step)) ∧
           t.rst = s.rst ∧ t.exu = s.exu ∧ t.hsu = s.hsu ∧ t.lnk = s.lnk) ∧
       ∀ s : State, s.sgv.gov ≠ .creep → s.sgv.gov ≠ .run → Completes .rampIntervalExpiry s s) ∧
  (∀ s : State, s.sgv.standWindow.isSome = true → ∃ t, exec .standstillExpiry s = .next t ∧
       t.sgv.standstill = true ∧ t.sgv.standWindow = none ∧
       (let complete := ∃ c, s.pfm.stepTarget = some (c, true) ∧ s.pfm.cycle = .idle
        (s.sgv.gov = .halting ∨ (s.sgv.gov = .stepping ∧ complete) →
           t.sgv.gov = .stopped ∧ t.sgv.intent = false ∧ t.pfm.stepTarget = none ∧ t.sgv.flatRef = 0) ∧
         (s.sgv.gov ≠ .halting → ¬ (s.sgv.gov = .stepping ∧ complete) →
           t.unregulated = ({ s with sgv := { s.sgv with standstill := true, standWindow := none } } : State).unregulated)) ∧
       t.fsu.w = s.fsu.w ∧ t.exu.b = s.exu.b ∧ t.exu.cycle = s.exu.cycle ∧ t.inputs = s.inputs)

/-! ### The wire -/

/-- A frame abandoned in RECEIVING, by its own row, by the gap's expiry or by a framing error, is answered BAD_FRAME and changes nothing
else, the inactivity timer included. A response sent leads to HUNTING. In HUNTING only 0xA5 without a framing error begins a frame;
ANSWERING and a port that waits discard every byte. A whole frame with a wrong CRC is abandoned (R177–R179, R184). That FRAME_ABANDONED
and the gap's expiry outside RECEIVING are no arrivals is the model's choice (log entry 1, DESIGN CHOICE); that a framing error on any
byte of the frame, the length byte among them, abandons it and that the last byte brings the abandonment in its own act is the model's
reading (log entry 4, DEDUCED). -/
def Obligations.ReceiverAbandonsAndAnswers : Prop :=
  (∀ (p : Port) (s : State) (got : List Byte), (s.port p).receiver = .receiving got →
      Yields (.interByteGapExpiry p) s (s.setReceiver p (.answering [0x01#8])) ∧
        (∀ c, Yields (.frameAbandoned p c) s (s.setReceiver p (.answering [0x01#8]))) ∧
        ∀ b, Yields (.byteReceived p b true) s (s.setReceiver p (.answering [0x01#8]))) ∧
    (∀ (p : Port) (s : State), (∀ got, (s.port p).receiver ≠ .receiving got) →
      Yields (.interByteGapExpiry p) s s ∧ ∀ c, Yields (.frameAbandoned p c) s s) ∧
    (∀ (p : Port) (s : State) (body : List Byte), (s.port p).receiver = .answering body →
      Yields (.responseSent p) s (s.setReceiver p .hunting) ∧ ∀ b e, Yields (.byteReceived p b e) s s) ∧
    (∀ (p : Port) (s : State) (b : Byte), (s.port p).receiver = .waiting → ∀ e, Yields (.byteReceived p b e) s s) ∧
    (∀ (p : Port) (s : State), (s.port p).receiver = .hunting →
      Yields (.byteReceived p 0xA5#8 false) s (s.setReceiver p (.receiving [])) ∧
        ∀ b e, b ≠ 0xA5#8 ∨ e = true → Yields (.byteReceived p b e) s s) ∧
    ∀ (p : Port) (s : State) (body : List Byte) (x y : Byte), (s.port p).receiver = .hunting → 1 ≤ body.length →
      body.length ≤ 250 → [x, y] ≠ bytesOf 2 (crc (BitVec.ofNat 8 body.length :: body)).toNat →
      receiveAll p (0xA5#8 :: BitVec.ofNat 8 body.length :: (body ++ [x, y])) s =
        .next (s.setReceiver p (.answering [0x01#8]))

/-- Every request body of 1–250 bytes, sent as a frame byte by byte to a port in HUNTING, is taken as the request it spells: the part
does what the request's own row does on the state in which the frame's last byte is awaited (R177, R178, R180). That the completing byte
brings the request in its own act is the model's reading (log entry 4, DEDUCED). -/
def Obligations.FramesAreTakenAsTheirRequests : Prop :=
  ∀ (p : Port) (code : Byte) (ops : List Byte) (s : State), (s.port p).receiver = .hunting → ops.length ≤ 249 →
    ∃ got, receiveAll p (frameOf (code :: ops)) s = exec (requestOf p code ops) (s.setReceiver p (.receiving got))

/-- The inactivity timer's expiry ends the claim: the slot EMPTY, no timer, a record that was never committed removed from its table, a
committed one as it was (R184). That an expiry with no timer running is no arrival is the model's choice (log entry 1, DESIGN CHOICE). -/
def Obligations.InactivityEndsTheClaim : Prop :=
  (∀ (p : Port) (s : State), (s.port p).inactivity = none → Yields (.inactivityExpiry p) s s) ∧
    (∀ (p : Port) (key : Nat) (st : Staging) (s : State), (s.port p).inactivity.isSome = true →
      s.slot p = .write key st → s.neverCommitted st.table key = false →
      Yields (.inactivityExpiry p) s (s.setSlot p .empty)) ∧
    ∀ (p : Port) (key : Nat) (st : Staging) (s : State), (s.port p).inactivity.isSome = true →
      s.slot p = .write key st → s.neverCommitted st.table key = true → ∃ t, exec (.inactivityExpiry p) s = .next t ∧
        t.slot p = .empty ∧ (t.port p).inactivity = none ∧ t.recordExists st.table key = false ∧
        (st.table = .lot → t.rst.order = s.rst.order.filter (· != key)) ∧ (t.port p).receiver = (s.port p).receiver ∧
        t.fsu = s.fsu ∧ t.ltr = s.ltr ∧ t.pfm = s.pfm ∧ t.hsu = s.hsu ∧ t.exu = s.exu ∧ t.sgv = s.sgv ∧
        t.rst.line = s.rst.line ∧ t.rst.panels = s.rst.panels ∧ t.lnk.alerts = s.lnk.alerts

/-- A request to a port that is ANSWERING or waits is lost: nothing changes. What the pendant may not send is refused with PRIVILEGE, a
motion command the key does not admit with KEY_POSITION, a code of no command with UNKNOWN_COMMAND, and nothing changes (R179–R182,
R200; log entry 3). The key admits the supervisor at REMOTE and the pendant at LOCAL (R181); that KEY asserted is LOCAL is the model's
choice (log entry 7, DESIGN CHOICE). -/
def Obligations.RequestsTurnedAway : Prop :=
  (∀ (p : Port) (code : Byte) (ops : List Byte) (s : State), s.hears p = false → Yields (requestOf p code ops) s s) ∧
    (∀ (p : Port) (s : State), s.hears p = true → s.keyAdmits p = false →
      Refuses (.start p []) s p .keyPosition ∧ Refuses (.resume p []) s p .keyPosition ∧
        Refuses (.stepLine p []) s p .keyPosition ∧ Refuses (.splice p []) s p .keyPosition ∧
        Refuses (.tripReset p []) s p .keyPosition) ∧
    (∀ s : State, (s.keyAdmits .sup = true ↔ s.asserted .key = false) ∧
      (s.keyAdmits .pen = true ↔ s.asserted .key = true)) ∧
    (∀ (s : State) (t : Table) (k : Nat), s.hears .pen = true →
      Refuses (.permit .pen []) s .pen .privilege ∧ Refuses (.lineReset .pen []) s .pen .privilege ∧
        (t ≠ .roll → Refuses (.create .pen (nameRecord t k)) s .pen .privilege ∧
          Refuses (.retire .pen (nameRecord t k)) s .pen .privilege) ∧
        (t = .pattern ∨ t = .cls →
          Refuses (.openRecord .pen (nameRecord t k ++ [0x01#8])) s .pen .privilege)) ∧
    ∀ (p : Port) (code : Byte) (ops : List Byte) (s : State), s.hears p = true →
      Refuses (.unknownCommand p code ops) s p .unknownCommand

/-! ### Line commands -/

/-- START checks in order that the line is configured, STOPPED (CREEP or RUN with run intent SET answers OK and changes nothing), fed
and without a stop cause. Accepted, it enters CREEP with run intent SET, clears the tension lock, closes the set-once window, sets every
STANDBY zone WARMING with its class target (R118, R120), and leaves an open segment as it is. Where there is none it opens the first
segment at W and takes the first panel start in the same act: a WASTE panel at W − 20,000, its head at B, a panel forming before it
FORMED, the next start a waste length on (R103, R162). -/
def Obligations.StartEntersCreep : Prop :=
  ∀ (p : Port) (s : State), s.hears p = true → s.keyAdmits p = true →
    (s.rst.line.configured = false → Refuses (.start p []) s p .notConfigured) ∧
      (s.rst.line.configured = true → s.sgv.gov ≠ .stopped →
        ((s.sgv.gov = .creep ∨ s.sgv.gov = .run) ∧ s.sgv.intent = true →
          Yields (.start p []) s (s.answered p (say .ok))) ∧
          (¬ ((s.sgv.gov = .creep ∨ s.sgv.gov = .run) ∧ s.sgv.intent = true) →
            Refuses (.start p []) s p .wrongState)) ∧
      (s.rst.line.configured = true → s.sgv.gov = .stopped →
        (s.activeStation = none ∨ s.sgv.stops ≠ 0#5 → Refuses (.start p []) s p .notReady) ∧
          (s.activeStation ≠ none → s.sgv.stops = 0#5 → ∃ t, exec (.start p []) s = .next t ∧ t.says p .ok ∧
            t.sgv.gov = .creep ∧ t.sgv.intent = true ∧ t.fsu.locked = false ∧ t.fsu.lossWatch = none ∧
            t.rst.line.windowOpen = false ∧ t.ltr.segment ≠ .none ∧
            (s.ltr.segment ≠ .none → t.ltr.segment = s.ltr.segment ∧ t.rst.panels = s.rst.panels ∧ t.rst.lots = s.rst.lots) ∧
            (s.ltr.segment = .none → s.webLots = [] → s.rst.panels.length < 39 → ∃ f q,
              t.segmentExtent.map (·.1) = some s.fsu.w ∧ t.pfm.forming = some f ∧ f.kind = .waste ∧
              f.key = { lot := 0, index := s.pfm.nextWaste } ∧ f.start = s.fsu.w - 20000 ∧ q.key = f.key ∧ q.kind = .waste ∧
              q.head = s.exu.b ∧ q.pleatedLen = s.rst.line.wasteLen.getD 0 ∧ q.forming = true ∧
              t.rst.panels = s.rst.panels.map (fun y => { y with forming := false }) ++ [q] ∧ t.pfm.nextStrike = none ∧
              t.pfm.nextStart = some (s.fsu.w - 20000 + BitVec.ofNat 40 (s.rst.line.wasteLen.getD 0))) ∧
            (∀ z ∈ allZones, (s.hsu.zones.get z).mode = .standby → (t.hsu.zones.get z).mode = .warming ∧
              ∀ c k n, t.targets z c → t.class? c = some k → k.setpoints.get z = some n →
                t.hsu.zones.get z =
                  { s.hsu.zones.get z with mode := .warming, target := some n, targetClass := some c, settle := none }) ∧
            t.sgv.stops = 0#5 ∧ t.sgv.trips = s.sgv.trips ∧ t.fsu.w = s.fsu.w ∧ t.exu.b = s.exu.b ∧
            t.exu.cycle = s.exu.cycle ∧ t.inputs = s.inputs))

/-- STOP is taken from either port in either key position, answers OK in every governor state and leaves no cause. STEPPING goes to
HALTING with the step abandoned; CREEP and RUN go to HALTING with run intent CLEAR, or defer the stop while the splice has its head on
the web; a deferred stop, STOPPED, HALTING and TRIPPED change nothing (R163, in states of `IntentLaw`, which every step keeps). HOLD,
from either port in either key position, sets the HOST hold reason and answers OK, and a governor in RUN is in CREEP in the same act.
RESUME, past the key check, withdraws HOST and answers OK. Neither changes anything else, run intent included (R164). -/
def Obligations.StopHoldAndResume : Prop :=
  (∀ (p : Port) (s : State), IntentLaw s → s.hears p = true → ∃ t, exec (.stop p []) s = .next t ∧ t.says p .ok ∧
       t.sgv.stops = s.sgv.stops ∧ t.sgv.trips = s.sgv.trips ∧ t.lnk.alerts = s.lnk.alerts ∧ t.fsu.w = s.fsu.w ∧
       t.exu = s.exu ∧ t.rst = s.rst ∧
       (s.sgv.gov = .stepping → t.sgv.gov = .halting ∧ t.sgv.flatRef = 0 ∧ t.pfm.stepTarget = none) ∧
       (s.sgv.gov = .creep ∨ s.sgv.gov = .run → s.fsu.phase = .idle ∨ s.fsu.phase = .matching →
         t.sgv.intent = false ∧ t.sgv.gov = .halting ∧ t.sgv.flatRef = 0 ∧ t.fsu.phase = .idle ∧
           (s.fsu.phase = .matching → t.fsu.outcome = .abandoned)) ∧
       (s.sgv.gov = .creep ∨ s.sgv.gov = .run → s.sgv.stopPending = false →
         s.fsu.phase = .press ∨ s.fsu.phase = .cut ∨ s.fsu.phase = .retract →
         t.sgv.intent = false ∧ t.sgv.stopPending = true ∧ t.sgv.gov = .creep ∧ t.fsu.phase = s.fsu.phase ∧
           t.sgv.flatRef = min (s.rst.line.creep.getD 0) t.sgv.ceiling * 100) ∧
       (s.sgv.stopPending = true ∨ s.sgv.gov = .stopped ∨ s.sgv.gov = .halting ∨ s.sgv.gov = .tripped →
         t.unregulated = (s.answered p (say .ok)).unregulated)) ∧
  ((∀ (p : Port) (s : State), s.hears p = true →
         Completes (.hold p []) s ((s.setHold .host).answered p (say .ok)) ∧
           ∀ t, exec (.hold p []) s = .next t → t.hasHold .host = true ∧ t.sgv.gov ≠ .run ∧
             (s.sgv.gov = .run → t.sgv.gov = .creep)) ∧
       ∀ (p : Port) (s : State), s.hears p = true → s.keyAdmits p = true →
         Completes (.resume p []) s ((s.dropHold .host).answered p (say .ok)) ∧
           ∀ t, exec (.resume p []) s = .next t → t.hasHold .host = false)

/-- STEP checks in order that the line is configured, STOPPED, fed, without stop or trip cause, and the strike cycle IDLE. Accepted, it
enters STEPPING with a target: the forming PRODUCT panel's next strike point at the blade, else W + 1,000; the set-once window closes
(R113, R171; with no panel forming it starts a WASTE panel first, no lot being on the web then). -/
def Obligations.StepSetsATarget : Prop :=
  ∀ (p : Port) (s : State), s.hears p = true → s.keyAdmits p = true →
    (s.rst.line.configured = false → Refuses (.stepLine p []) s p .notConfigured) ∧
      (s.rst.line.configured = true → s.sgv.gov ≠ .stopped → Refuses (.stepLine p []) s p .wrongState) ∧
      (s.rst.line.configured = true → s.sgv.gov = .stopped →
        (s.activeStation = none ∨ s.sgv.stops ≠ 0#5 ∨ s.sgv.trips ≠ 0#3 ∨ s.pfm.cycle ≠ .idle →
          Refuses (.stepLine p []) s p .notReady) ∧
          (s.activeStation ≠ none → s.sgv.stops = 0#5 → s.sgv.trips = 0#3 → s.pfm.cycle = .idle →
            (s.pfm.forming = none → s.webLots = [] ∧ s.rst.panels.length < 39) → ∃ t, exec (.stepLine p []) s = .next t ∧ t.says p .ok ∧
              t.sgv.gov = .stepping ∧ t.rst.line.windowOpen = false ∧
              t.pfm.stepTarget = some
                ((match s.pfm.forming, s.pfm.nextStrike with
                  | some f, some (c, _) => if f.kind = .product then c + 20000 else s.fsu.w + 1000
                  | _, _ => s.fsu.w + 1000), false) ∧
              (∀ f, s.pfm.forming = some f → t.pfm.forming = some f ∧ t.rst.panels = s.rst.panels) ∧
              (s.pfm.forming = none → ∃ f, t.pfm.forming = some f ∧ f.kind = .waste ∧ f.start = s.fsu.w - 20000 ∧
                t.pfm.nextStart = some (s.fsu.w - 20000 + BitVec.ofNat 40 (s.rst.line.wasteLen.getD 0))) ∧
              t.sgv.intent = s.sgv.intent ∧ t.fsu.w = s.fsu.w ∧ t.exu.b = s.exu.b ∧ t.rst.lots = s.rst.lots ∧
              t.inputs = s.inputs))

/-- SPLICE, past the key check, is judged by its seven conditions in order; refused, it changes the last outcome to REFUSED and nothing
else. Accepted, the phase and the requested station become MATCHING, the two stations are latched, the 20 s limit starts, and a class
change is reported where the two rolls' classes differ (R44, R60, R62). -/
def Obligations.SpliceBeginsMatching : Prop :=
  ∀ (p : Port) (s : State), s.hears p = true → s.keyAdmits p = true →
    let incoming := fun (x : Station) => (s.boundRoll? x).bind (·.cls)
    let active := s.activeRoll?.bind (·.cls)
    let ready := fun (x : Station) => s.running = true ∧ s.fsu.phase = .idle ∧ s.rst.line.requested = some x ∧
      s.station x = .prepared ∧ s.asserted .retracted = true ∧ s.asserted .extended = false ∧
      ∃ a b ca cb, incoming x = some a ∧ active = some b ∧ s.class? a = some ca ∧ s.class? b = some cb ∧
        ∀ z ∈ allZones, ∃ u v, ca.setpoints.get z = some u ∧ cb.setpoints.get z = some v ∧ u ≤ v + 150 ∧ v ≤ u + 150
    let refused := fun (e : Status) => Yields (.splice p []) s ((s.setOutcome .refused).answered p (say e))
    ((¬ ∃ x, ready x) → refused .notReady) ∧
      (∀ x l, ready x → s.feedingLot? = some l → incoming x ≠ l.cls → refused .classStep) ∧
      (∀ x l, ready x → s.feedingLot? = some l → incoming x = l.cls → 4 ≤ l.joints.length → refused .notReady) ∧
      ∀ x, ready x → (∀ l, s.feedingLot? = some l → incoming x = l.cls ∧ l.joints.length < 4) →
        Completes (.splice p []) s
          (let s1 := s.setStation x .matching
           ({ s1 with
              fsu := { s1.fsu with
                phase := .matching, incoming := some x, outgoing := s.activeStation, limit := some 20000, matchCount := none }
              ltr := { s1.ltr with classChange := s1.ltr.classChange || incoming x != active } } : State).answered p (say .ok))

/-- PERMIT from the supervisor starts a running permit timer again for the whole period and answers OK; with the timer stopped it
answers WRONG_STATE and changes nothing. CLEAR removes each named kind that is in the alert set and withdraws in the same act the stop
cause, trip cause or STRIKE_SATURATED hold reason tied to it, and nothing else; ESTOP and its cause stay while E_STOP is asserted; a
list that does not decode answers OUT_OF_RANGE (R130, R160, R198). -/
def Obligations.PermitAndClearAct : Prop :=
  (∀ s : State, s.hears .sup = true →
      (s.hsu.permit = none → Refuses (.permit .sup []) s .sup .wrongState) ∧
        (s.hsu.permit.isSome = true → Yields (.permit .sup []) s
          (({ s with hsu := { s.hsu with permit := some (s.rst.line.permitPeriod.getD 0) } } : State).answered .sup
            (say .ok)))) ∧
    (∀ (p : Port) (ops : List Byte) (s : State), s.hears p = true → clearList ops = none →
      Refuses (.clear p ops) s p .outOfRange) ∧
    ∀ (p : Port) (ops : List Byte) (kinds : List Alert) (s : State), s.hears p = true → clearList ops = some kinds →
      ∃ t, exec (.clear p ops) s = .next t ∧ t.says p .ok ∧
        (let goes := fun (a : Alert) => a ∈ kinds ∧ s.hasAlert a = true ∧ ¬ (a = .eStop ∧ s.asserted .eStop = true)
         (∀ a, t.hasAlert a = true ↔ s.hasAlert a = true ∧ ¬ goes a) ∧
           (∀ c : StopCause, t.hasStop c = true ↔ s.hasStop c = true ∧ ¬ goes c.alert) ∧
           (∀ c : TripCause, t.hasTrip c = true ↔ s.hasTrip c = true ∧ ¬ goes c.alert) ∧
           ∀ h, h ≠ .zoneUnsettled →
             (t.hasHold h = true ↔ s.hasHold h = true ∧ ¬ (h = .strikeSaturated ∧ goes .strikeSaturated))) ∧
        t.rst = s.rst ∧ t.exu = s.exu ∧ t.hsu = s.hsu ∧ t.ltr = s.ltr ∧ t.inputs = s.inputs ∧ t.fsu.w = s.fsu.w

/-- TRIP_RESET, past the key check, requires TRIPPED, then E_STOP released, no trip cause and standstill; accepted, the governor is
STOPPED, and the stop causes and the actuators stand as they were (R165). -/
def Obligations.TripResetReturnsToStopped : Prop :=
  ∀ (p : Port) (s : State), s.hears p = true → s.keyAdmits p = true →
    (s.sgv.gov ≠ .tripped → Refuses (.tripReset p []) s p .wrongState) ∧
      (s.sgv.gov = .tripped → s.asserted .eStop = true ∨ s.sgv.trips ≠ 0#3 ∨ s.sgv.standstill = false →
        Refuses (.tripReset p []) s p .notReady) ∧
      (s.sgv.gov = .tripped → s.asserted .eStop = false → s.sgv.trips = 0#3 → s.sgv.standstill = true →
        ∃ t, exec (.tripReset p []) s = .next t ∧ t.says p .ok ∧ t.sgv.gov = .stopped ∧ t.sgv.intent = false ∧
          t.sgv.trips = 0#3 ∧ t.sgv.stops = s.sgv.stops ∧ t.sgv.flatRef = 0 ∧ t.pfm.strike = s.pfm.strike ∧
          t.pfm.cycle = s.pfm.cycle ∧ t.exu.cut = s.exu.cut ∧ t.exu.divert = s.exu.divert ∧ t.exu.cycle = s.exu.cycle ∧
          t.fsu.w = s.fsu.w ∧ t.exu.b = s.exu.b ∧ t.inputs = s.inputs)

/-- LINE_RESET from the supervisor requires STOPPED or TRIPPED at standstill, else WRONG_STATE. Accepted, it acts on every unit at once:
claims and slots ended, panel table and web lots gone from the line, every committed roll and both stations as they were (no station is
threaded, log entry 25), window OPEN, HEAT OFF, LTR, PFM, HSU and EXU at rest, the lock UNLOCKED, causes and hold reasons emptied but
for a STEAM_LOW that HSU holds, W and B kept; TRIPPED passes to STOPPED with E_STOP released, else ESTOP is raised again alone (R45,
R75, R95, R115, R134, R152, R175, R176, R186). -/
def Obligations.LineResetActsOnEveryUnit : Prop :=
  ∀ s : State, s.hears .sup = true →
    (¬ ((s.sgv.gov = .stopped ∨ s.sgv.gov = .tripped) ∧ s.sgv.standstill = true) →
      Refuses (.lineReset .sup []) s .sup .wrongState) ∧
      ((s.sgv.gov = .stopped ∨ s.sgv.gov = .tripped) → s.sgv.standstill = true →
        ∃ t, exec (.lineReset .sup []) s = .next t ∧ t.says .sup .ok ∧
          t.rst.panels = [] ∧ (∀ l ∈ t.rst.lots, l.onWeb = false) ∧ t.rst.line.windowOpen = true ∧
          t.rst.line.heat = false ∧ t.rst.line.configured = s.rst.line.configured ∧
          t.ltr = { segment := .none, pendingJoint := none, classChange := false, starved := false } ∧
          t.fsu = { s.fsu with locked := false, lossWatch := none, lockCount := t.fsu.lockCount, webBreak := t.fsu.webBreak } ∧
          t.rst.rolls = s.rst.rolls.filter (fun r => decide (r.state ≠ .new)) ∧
          t.pfm.forming = none ∧ t.pfm.nextStart = none ∧ t.pfm.nextStrike = none ∧ t.pfm.stepTarget = none ∧
          t.pfm.strike = false ∧ t.pfm.cycle = (if s.asserted .home = true then .idle else .away) ∧
          t.pfm.nextWaste = s.pfm.nextWaste ∧
          (∀ z ∈ allZones, (t.hsu.zones.get z).mode = .off) ∧ t.hsu.permit = none ∧ t.hsu.pressure = s.hsu.pressure ∧
          t.exu = { s.exu with cut := false, limit := none, divert := true, cutSerial := none, pendingFault := false,
                               last := none, cycle := if s.asserted .cutHome = true then .idle else .away } ∧
          (∀ h, t.hasHold h = true ↔ h = .steamLow ∧ s.hsu.pressure ≠ .normal) ∧ t.sgv.stops = 0#5 ∧
          t.sgv.intent = false ∧ t.sgv.stopPending = false ∧ t.sgv.flatRef = 0 ∧ t.sgv.beltRef = 0 ∧
          (s.sgv.gov = .stopped ∨ s.asserted .eStop = false → t.sgv.gov = .stopped ∧ t.sgv.trips = 0#3) ∧
          (s.sgv.gov = .stopped → t.lnk.alerts = 0#17) ∧
          (s.sgv.gov = .tripped → s.asserted .eStop = true →
            t.sgv.gov = .tripped ∧ (∀ c, t.hasTrip c = decide (c = .eStop)) ∧ ∀ a, t.hasAlert a = decide (a = .eStop)) ∧
          ∀ q, (t.port q).inactivity = none ∧ (t.slot q = .empty ∨ ∃ tb k, t.slot q = .lost tb k))

/-- STATUS answers OK with the 78 bytes of the status fields as they stand, IDENT with the 14 bytes of the part's identity and
capacities; neither changes anything else. With operand bytes a command that carries none answers OUT_OF_RANGE (R197, R202). -/
def Obligations.StatusAndIdentAnswer : Prop :=
  (∀ (p : Port) (s : State), s.hears p = true →
      Yields (.status p []) s (s.answered p { status := .ok, payload := s.statusPayload }) ∧ s.statusPayload.length = 78 ∧
        Yields (.ident p []) s (s.answered p { status := .ok, payload :=
          [0x42#8, 0x5A#8, 0x2D#8, 0x34#8, 0x31#8, 0x36#8, 1#8, 40#8, 128#8, 8#8, 16#8, 12#8, 32#8, 48#8] })) ∧
    ∀ (p : Port) (b : Byte) (bs : List Byte) (s : State), s.hears p = true →
      Refuses (.status p (b :: bs)) s p .outOfRange ∧ Refuses (.ident p (b :: bs)) s p .outOfRange ∧
        Refuses (.start p (b :: bs)) s p .outOfRange ∧ Refuses (.stop p (b :: bs)) s p .outOfRange ∧
        Refuses (.hold p (b :: bs)) s p .outOfRange ∧ Refuses (.resume p (b :: bs)) s p .outOfRange ∧
        Refuses (.stepLine p (b :: bs)) s p .outOfRange ∧ Refuses (.splice p (b :: bs)) s p .outOfRange ∧
        Refuses (.permit p (b :: bs)) s p .outOfRange ∧ Refuses (.tripReset p (b :: bs)) s p .outOfRange ∧
        Refuses (.lineReset p (b :: bs)) s p .outOfRange

/-! ### Record commands -/

/-- CREATE with a free number or tag in range, room in the table and no record open makes the record with its CREATE values, opens it
for writing with an empty staging copy and answers OK; a lot's number joins the end of the line order. A number in use answers EXISTS
and changes nothing (R18, R36, R48, R79, R188; that it does so in a full roll or lot table too is the model's choice, log entry 42,
DESIGN CHOICE). -/
def Obligations.CreateMakesTheRecord : Prop :=
  ∀ (p : Port) (n : Nat) (s : State), s.hears p = true → 1 ≤ n → s.slot p = .empty ∨ (∃ t k, s.slot p = .lost t k) →
    let opened := fun (s1 : State) (st : Staging) => (s1.setSlot p (.write n st)).setReceiver p (.answering [0x00#8])
    (p = .sup → n ≤ 40 → s.pattern? n = none → Yields (.create p (nameRecord .pattern n)) s
        (opened (s.putPattern
          { number := n, state := .edit, name := List.replicate 8 0x20#8, style := .knife, trailer := 0, trimRange := .normal,
            laneMask := none, stepCount := 1, refCount := 0, revision := 0, flatLen := 0, pleatedLen := 0, minStep := 0,
            blockMap := [] }) (.pattern {}))) ∧
      (p = .sup → n ≤ 16 → s.class? n = none → Yields (.create p (nameRecord .cls n)) s
        (opened (s.putClass
          { number := n, state := .new, name := List.replicate 8 0x20#8, setpoints := ⟨none, none, none, none⟩,
            maxBelt := none, doseMin := none, doseMax := none, refCount := 0, revision := 0 }) (.cls {}))) ∧
      (n < 2 ^ 32 → s.roll? n = none → s.rst.rolls.length < 12 → Yields (.create p (nameRecord .roll n)) s
        (opened (s.putRoll
          { tag := n, state := .new, cls := none, initLen := none, intended := none, leaderReady := false, station := none,
            remaining := 0, expiring := false, attemptSpent := false }) (.roll {}))) ∧
      (p = .sup → n ≤ 65535 → s.lot? n = none → s.rst.lots.length < 32 → Yields (.create p (nameRecord .lot n)) s
        (opened
          (let s1 := s.putLot
             { number := n, state := .new, pattern := none, cls := none, ordered := none, makeupAllowance := none,
               restriction := none, held := false, head := none, tail := none, joints := [], makeupUsed := 0,
               cancelled := 0, planned := 0, started := 0, good := 0, rejected := ⟨0, 0, 0, 0, 0, 0⟩, lost := 0 }
           { s1 with rst := { s1.rst with order := s1.rst.order ++ [n] } }) (.lot {}))) ∧
      (s.slot p = .empty →
        (p = .sup → n ≤ 40 → (s.pattern? n).isSome = true →
          Refuses (.create p (nameRecord .pattern n)) s p .exists_) ∧
          (p = .sup → n ≤ 16 → (s.class? n).isSome = true → Refuses (.create p (nameRecord .cls n)) s p .exists_) ∧
          (n < 2 ^ 32 → (s.roll? n).isSome = true → Refuses (.create p (nameRecord .roll n)) s p .exists_) ∧
          (p = .sup → n ≤ 65535 → (s.lot? n).isSome = true → Refuses (.create p (nameRecord .lot n)) s p .exists_))

/-- OPEN of a record that exists opens it for reading whoever claims it, and for writing unless the other port claims it (HELD); the
first key opens the first of the listing by the same rules, END with none; a key of no record answers NO_SUCH_RECORD, a port with a
record open ALREADY_OPEN; the answer names the record (R187, R189). Each is said of both modes; the pendant writes no pattern and no
class, which is refused elsewhere (R182). -/
def Obligations.OpenTakesTheRecord : Prop :=
  ∀ (p : Port) (t : Table) (k : Nat) (s : State), s.hears p = true → k < 2 ^ 32 →
    let opened := fun (v : Slot) (key : Nat) => (s.setSlot p v).setReceiver p (.answering (0x00#8 :: nameRecord t key))
    let read := Instr.openRecord p (nameRecord t k ++ [0x00#8])
    let write := Instr.openRecord p (nameRecord t k ++ [0x01#8])
    let mayWrite := p = .sup ∨ (t ≠ .pattern ∧ t ≠ .cls)
    (s.slot p = .empty → k ≠ 0 ∨ t = .line →
        (s.recordExists t k = true → Yields read s (opened (.read t k) k)) ∧
          (s.recordExists t k = false → Refuses read s p .noSuchRecord ∧ (mayWrite → Refuses write s p .noSuchRecord)) ∧
          (mayWrite → s.recordExists t k = true →
            (s.claims p.other t k = false → Yields write s (opened (.write k (Staging.fresh t)) k)) ∧
              (s.claims p.other t k = true → Refuses write s p .held))) ∧
      (s.slot p = .empty → k = 0 → t ≠ .line →
        (s.listing t = [] → Refuses read s p .end_ ∧ (mayWrite → Refuses write s p .end_)) ∧
          ∀ k1 ks, s.listing t = k1 :: ks → Yields read s (opened (.read t k1) k1) ∧
            (mayWrite → s.claims p.other t k1 = false → Yields write s (opened (.write k1 (Staging.fresh t)) k1)) ∧
            (mayWrite → s.claims p.other t k1 = true → Refuses write s p .held)) ∧
      ((∃ t1 k1, s.slot p = .read t1 k1) ∨ (∃ k1 st, s.slot p = .write k1 st) →
        Refuses read s p .alreadyOpen ∧ (mayWrite → Refuses write s p .alreadyOpen))

/-- GET and PUT find no open record: NOT_OPEN from EMPTY, GONE from LOST, which empties the slot; PUT on a READ slot NOT_OPEN. GET
answers OK with the field's value in view, WRONG_STATE where it is unset, OUT_OF_RANGE where the table or the record has no such field
or index, and changes nothing: the Line record's set speed reads as staged, else as it stands. PUT on a record of any table is checked
in order: OUT_OF_RANGE for no such field or index; READ_ONLY for every maintained field; PRIVILEGE for a field the pendant may not write
(it may the leader, the hold, the reject flag and the set speed); KEY_POSITION for its set speed at REMOTE (KEY asserted is LOCAL, log
entry 7); FIXED for a set-once field with the window CLOSED; LOCKED for a pattern's or class's locked field with references, a roll's
past DECLARED, a lot's by its state; OUT_OF_RANGE for a value the field does not take. One that passes is staged, answered OK, and
nothing else changes; a set speed in 0–600 is taken, one above is not (R27, R39, R46, R77, R171, R181, R182, R183, R190, R191). -/
def Obligations.GetReadsAndPutStages : Prop :=
  (∀ (p : Port) (id idx : Byte) (bs : List Byte) (s : State), s.hears p = true →
      (s.slot p = .empty →
        Refuses (.getField p [id, idx]) s p .notOpen ∧ Refuses (.putField p (id :: idx :: bs)) s p .notOpen) ∧
        (∀ t k, s.slot p = .lost t k →
          Yields (.getField p [id, idx]) s ((s.setSlot p .empty).setReceiver p (.answering [0x14#8])) ∧
            Yields (.putField p (id :: idx :: bs)) s ((s.setSlot p .empty).setReceiver p (.answering [0x14#8]))) ∧
        (∀ t k, s.slot p = .read t k → Refuses (.putField p (id :: idx :: bs)) s p .notOpen)) ∧
    (∀ (p : Port) (id idx : Byte) (t : Table) (k : Nat) (st : Staging) (s : State), s.hears p = true →
      (s.slot p = .read t k ∧ st = Staging.fresh t ∨ s.slot p = .write k st ∧ t = st.table) →
      (fieldRow? t id.toNat = none → Refuses (.getField p [id, idx]) s p .outOfRange) ∧
        ∀ row, fieldRow? t id.toNat = some row →
          (row.elements.admitsGet idx.toNat = false → Refuses (.getField p [id, idx]) s p .outOfRange) ∧
            (row.elements.admitsGet idx.toNat = true →
              (∀ bs, s.see t k st id.toNat idx.toNat = .value bs →
                Yields (.getField p [id, idx]) s (s.answered p { status := .ok, payload := id :: idx :: bs })) ∧
                (s.see t k st id.toNat idx.toNat = .unset → Refuses (.getField p [id, idx]) s p .wrongState) ∧
                (s.see t k st id.toNat idx.toNat = .beyond → Refuses (.getField p [id, idx]) s p .outOfRange))) ∧
    (∀ (p : Port) (st : LineStage) (s : State), s.hears p = true →
      (s.slot p = .read .line 0 → Yields (.getField p [0x10#8, 0#8]) s
        (s.answered p { status := .ok, payload := 0x10#8 :: 0#8 :: bytesOf 2 s.rst.line.setSpeed })) ∧
        (s.slot p = .write 0 (.line st) → Yields (.getField p [0x10#8, 0#8]) s
          (s.answered p { status := .ok, payload := 0x10#8 :: 0#8 :: bytesOf 2 (st.setSpeed.getD s.rst.line.setSpeed) }))) ∧
    (∀ (p : Port) (st : LineStage) (x y : Byte) (s : State), s.hears p = true → s.slot p = .write 0 (.line st) →
      (p = .pen → s.asserted .key = false → Refuses (.putField p [0x10#8, 0#8, x, y]) s p .keyPosition) ∧
        (p = .sup ∨ s.asserted .key = true →
          (x.toNat * 256 + y.toNat ≤ 600 → Yields (.putField p [0x10#8, 0#8, x, y]) s
            ((s.setSlot p (.write 0 (.line { st with setSpeed := some (x.toNat * 256 + y.toNat) }))).setReceiver p
              (.answering [0x00#8]))) ∧
            (600 < x.toNat * 256 + y.toNat → Refuses (.putField p [0x10#8, 0#8, x, y]) s p .outOfRange))) ∧
    ∀ (p : Port) (id idx : Byte) (bs : List Byte) (k : Nat) (st : Staging) (s : State), s.hears p = true →
      s.slot p = .write k st →
      let refused := fun (e : Status) => Refuses (.putField p (id :: idx :: bs)) s p e
      let tb := st.table
      let f := id.toNat
      let pendant := (tb = .roll ∧ f = 0x04) ∨ (tb = .lot ∧ f = 0x06) ∨ (tb = .panel ∧ f = 0x01) ∨ (tb = .line ∧ f = 0x10)
      let locked :=
        (tb = .pattern ∧ f ≠ 0x01 ∧ ∀ q, s.pattern? k = some q → q.refCount ≠ 0) ∨
          (tb = .cls ∧ (f = 0x04 ∨ f = 0x05) ∧ ∀ c, s.class? k = some c → c.refCount ≠ 0) ∨
          (tb = .roll ∧ f ≠ 0x04 ∧ ∀ r, s.roll? k = some r → r.state ≠ .new ∧ r.state ≠ .declared) ∨
          (tb = .lot ∧ f ≠ 0x06 ∧
            ∀ l, s.lot? k = some l → l.state ≠ .new ∧ l.state ≠ .queued ∧ ¬ (f = 0x03 ∧ l.state = .feeding))
      (fieldRow? tb f = none → refused .outOfRange) ∧
        ∀ row, fieldRow? tb f = some row →
          (row.elements.admits idx.toNat = false → refused .outOfRange) ∧
            (row.elements.admits idx.toNat = true →
              (0x20 ≤ f → refused .readOnly) ∧
                (f < 0x20 → p = .pen → ¬ pendant → refused .privilege) ∧
                (f < 0x20 → p = .pen → tb = .line → f = 0x10 → s.asserted .key = false → refused .keyPosition) ∧
                (f < 0x20 → p = .sup ∨ (pendant ∧ (tb = .line → s.asserted .key = true)) →
                  (tb = .line → f ≤ 0x09 → s.rst.line.windowOpen = false → refused .fixed) ∧
                    (¬ (tb = .line ∧ f ≤ 0x09 ∧ s.rst.line.windowOpen = false) →
                      (locked → refused .locked) ∧
                        (¬ locked →
                          (s.stage k st f idx.toNat bs = none → refused .outOfRange) ∧
                            ∀ st1, s.stage k st f idx.toNat bs = some st1 →
                              Yields (.putField p (id :: idx :: bs)) s
                                ((s.setSlot p (.write k st1)).setReceiver p (.answering [0x00#8]))))))

/-- CLOSE ends a read open, and a write open with nothing staged of a committed record, with OK and nothing else; one of a record never
committed removes the record. A refused commit is answered with its refusal and changes nothing. An accepted one is applied whole and
ends the claim: a panel's reject flag is written; the Line record's set speed is written, and a change of it clears the tension lock; a
lot's hold is written in any state of the lot but NEW. EMPTY answers NOT_OPEN, LOST GONE (R72, R80, R137, R174, R183, R192). That the
clear at a changed set speed puts a running lock count to 0 at once and leaves an ended count ended is the model's reading (log entry
16, DEDUCED). That KEY asserted is LOCAL, by which a pendant's set speed is admitted, is the model's choice (log entry 7, DESIGN
CHOICE). -/
def Obligations.CloseCommitsTheStagedFields : Prop :=
  ∀ (p : Port) (s : State), s.hears p = true →
    let ended := fun (s1 : State) => (s1.setSlot p .empty).setReceiver p (.answering [0x00#8])
    (s.slot p = .empty → Refuses (.closeRecord p []) s p .notOpen) ∧
      (∀ t k, s.slot p = .lost t k →
        Yields (.closeRecord p []) s ((s.setSlot p .empty).setReceiver p (.answering [0x14#8]))) ∧
      (∀ t k, s.slot p = .read t k → Yields (.closeRecord p []) s (ended s)) ∧
      (∀ k st, s.slot p = .write k st → st.isEmpty = true → s.neverCommitted st.table k = false →
        Completes (.closeRecord p []) s (ended s)) ∧
      (∀ k st, s.slot p = .write k st → st.isEmpty = true → s.neverCommitted st.table k = true → ∃ t,
        exec (.closeRecord p []) s = .next t ∧ t.says p .ok ∧ t.slot p = .empty ∧ (t.port p).inactivity = none ∧
          t.recordExists st.table k = false ∧ t.rst.panels = s.rst.panels ∧ t.rst.line = s.rst.line ∧ t.fsu.w = s.fsu.w ∧
          t.exu = s.exu ∧ t.ltr = s.ltr) ∧
      (∀ k st r, s.slot p = .write k st → st.isEmpty = false → s.commit p k st = .error r →
        Yields (.closeRecord p []) s (s.answered p r)) ∧
      (∀ k v q, s.slot p = .write k (.panel { reject := some v }) → s.panel? (panelKeyOf k) = some q →
        Completes (.closeRecord p []) s (ended (s.changePanel q.key fun x => { x with reject := v }))) ∧
      (∀ k n, s.slot p = .write k (.line { setSpeed := some n }) → p = .sup ∨ s.asserted .key = true →
        Completes (.closeRecord p []) s
          (let s1 := { s with rst := { s.rst with line := { s.rst.line with setSpeed := n } } }
           ended (if n = s.rst.line.setSpeed then s1
             else { s1 with fsu := { s.fsu with
               locked := false, lockCount := s.fsu.lockCount.map fun _ => 0, lossWatch := none } }))) ∧
      ∀ k v l, s.slot p = .write k (.lot { held := some v }) → s.lot? k = some l → l.state ≠ .new → l.pattern.isSome = true →
        l.cls.isSome = true → l.ordered.isSome = true → ∃ t l', exec (.closeRecord p []) s = .next t ∧ t.says p .ok ∧
          t.slot p = .empty ∧ t.lot? k = some l' ∧ l'.held = v ∧ l'.state = l.state ∧ t.rst.order = s.rst.order ∧
          t.rst.panels = s.rst.panels ∧ t.rst.rolls = s.rst.rolls ∧ t.fsu.w = s.fsu.w ∧ t.exu = s.exu ∧ t.ltr = s.ltr

/-- CLOSE commits a class whose fields are all set in view, dose minimum below maximum and no dose field locked: DEFINED, the staged
fields written, revision + 1, and each staged setpoint given at once to a zone in WARMING or SETTLED that targets the class, which a
different value takes to WARMING (R37, R40; that the name tag counts as set from CREATE on is log entry 38). CLOSE commits a pattern in
EDIT, READY or RETIRING that has no locked field staged with references, every step set in view, its directions as its style asks, P at
least 2,500, F at most 60,000 and blocks enough: F, P and the least consumption computed, revision + 1; with a step count or a step
staged its block map is the lowest free blocks, its own among them, ceil(n / 8) in ascending order, and its steps read as those in view;
else block map and steps stand, and no other pattern changes (R7, R8, R17, R20–R25). Both answer OK with the slot EMPTY. -/
def Obligations.CommitsDefineClassesAndPatterns : Prop :=
  (∀ (s : State) (p : Port) (k : Nat) (c : FabricClass) (st : ClassStage), s.hears p = true →
      s.slot p = .write k (.cls st) → (Staging.cls st).isEmpty = false → s.class? k = some c →
      c.refCount = 0 ∨ (st.doseMin = none ∧ st.doseMax = none) →
      (∀ z ∈ allZones, ((st.setpoints.get z <|> c.setpoints.get z) : Option Nat).isSome = true) →
      ((st.maxBelt <|> c.maxBelt) : Option Nat).isSome = true →
      ((st.doseMin <|> c.doseMin) : Option Nat).isSome = true →
      ((st.doseMax <|> c.doseMax) : Option Nat).isSome = true →
      ((st.doseMin <|> c.doseMin) : Option Nat).getD 0 < ((st.doseMax <|> c.doseMax) : Option Nat).getD 0 →
      ∃ t c', exec (.closeRecord p []) s = .next t ∧ t.says p .ok ∧ t.slot p = .empty ∧ t.class? k = some c' ∧
        c'.state = .defined ∧ c'.revision = c.revision + 1 ∧ c'.name = st.name.getD c.name ∧ c'.refCount = c.refCount ∧
        (∀ z ∈ allZones, c'.setpoints.get z = (st.setpoints.get z <|> c.setpoints.get z)) ∧
        c'.maxBelt = (st.maxBelt <|> c.maxBelt) ∧ c'.doseMin = (st.doseMin <|> c.doseMin) ∧
        c'.doseMax = (st.doseMax <|> c.doseMax) ∧ (∀ m, m ≠ k → t.class? m = s.class? m) ∧
        (∀ z ∈ allZones,
          let v := s.hsu.zones.get z
          (∀ n, st.setpoints.get z = some n → v.mode = .warming ∨ v.mode = .settled → v.targetClass = some k →
            v.target ≠ some n →
            t.hsu.zones.get z = { v with mode := .warming, target := some n, settle := none }) ∧
            (st.setpoints.get z = none ∨ v.mode = .off ∨ v.mode = .standby ∨ v.targetClass ≠ some k ∨
              v.target = st.setpoints.get z → t.hsu.zones.get z = v)) ∧
        t.rst.panels = s.rst.panels ∧ t.rst.lots = s.rst.lots ∧ t.rst.rolls = s.rst.rolls ∧ t.fsu.w = s.fsu.w ∧
        t.exu = s.exu ∧ t.ltr = s.ltr) ∧
    ∀ (s : State) (p : Port) (k : Nat) (q : Pattern) (st : PatternStage), s.hears p = true →
      s.slot p = .write k (.pattern st) → (Staging.pattern st).isEmpty = false → s.pattern? k = some q →
      let n := st.stepCount.getD q.stepCount
      let steps := s.stepsInView q st
      let trailer := st.trailer.getD q.trailer
      let style := st.style.getD q.style
      let dirs := steps.map (·.dir)
      let flat := (steps.map fun x => x.advance + 2 * x.depth).sum + trailer
      let pleated := (steps.map (·.advance)).sum + trailer
      let moves := st.stepCount ≠ none ∨ st.steps ≠ []
      let others := (s.rst.patterns.filter fun x => x.number != k).flatMap (·.blockMap)
      let blocks := (List.range 128).filter fun b => !others.contains b
      q.refCount = 0 ∨ st = { name := st.name } → steps.length = n → 1 ≤ n →
      (style = .knife → ∀ d ∈ dirs, dirs.head? = some d) →
      (style = .accordion → ∀ i d, dirs[i]? = some d → dirs[i + 1]? ≠ some d) →
      (style = .box → n % 2 = 0 ∧
        ∀ i d, dirs[i]? = some d → d = (if i % 2 = 0 then .right else .left)) →
      2500 ≤ pleated → flat ≤ 60000 → (moves → (n + 7) / 8 ≤ blocks.length) →
      ∃ t q', exec (.closeRecord p []) s = .next t ∧ t.says p .ok ∧ t.slot p = .empty ∧ t.pattern? k = some q' ∧
        q'.state = (if q.state = .edit then .ready else q.state) ∧ q'.revision = q.revision + 1 ∧
        q'.name = st.name.getD q.name ∧ q'.style = style ∧ q'.trimRange = st.trimRange.getD q.trimRange ∧
        q'.laneMask = st.laneMask.getD q.laneMask ∧ q'.trailer = trailer ∧ q'.stepCount = n ∧ q'.flatLen = flat ∧
        q'.pleatedLen = pleated ∧ q'.refCount = q.refCount ∧
        q'.minStep ∈ steps.map (fun x => x.advance + 2 * x.depth) ∧
        (∀ x ∈ steps, q'.minStep ≤ x.advance + 2 * x.depth) ∧
        (moves → q'.blockMap = blocks.take ((n + 7) / 8)) ∧
        (¬ moves → q'.blockMap = q.blockMap ∧ t.rst.pool = s.rst.pool) ∧
        (PoolLaw s → t.patternSteps q' = steps) ∧
        (∀ m, m ≠ k → t.pattern? m = s.pattern? m ∧
          (PoolLaw s → ∀ x, s.pattern? m = some x → t.patternSteps x = s.patternSteps x)) ∧
        t.rst.panels = s.rst.panels ∧ t.rst.lots = s.rst.lots ∧ t.fsu.w = s.fsu.w ∧ t.exu = s.exu ∧ t.ltr = s.ltr

/-- The commit of a roll by CLOSE (R49, R50; the slot in WRITE with something staged). In order: LOCKED for class, length or intended
station on a roll past DECLARED; WRONG_STATE for a leader value its state refuses; INVALID naming the first unset of class and length;
INVALID naming the class that is not DEFINED; INVALID naming the intended station another DECLARED roll has. Accepted, the answer is OK
and the slot EMPTY: the fields are written and a NEW roll is DECLARED, or MOUNTED where its intended station is SEATED with no roll
bound; leader READY on a MOUNTED roll prepares roll and station, and threads the station where it is requested, none is FEEDING and the
line is STOPPED (R56); NOT_READY on a PREPARED roll makes roll MOUNTED and station SEATED, a splice onto it in MATCHING being abandoned
(R71). -/
def Obligations.CloseCommitsARoll : Prop :=
  ∀ (s : State) (p : Port) (k : Nat) (st : RollStage) (r : Roll), s.hears p = true → s.slot p = .write k (.roll st) →
    (Staging.roll st).isEmpty = false → s.roll? k = some r →
    let close := Instr.closeRecord p []
    let answers := fun (e : Reply) => Yields close s (s.answered p e)
    let early := r.state = .new ∨ r.state = .declared
    let locked := ¬ early ∧ (st.cls ≠ none ∨ st.initLen ≠ none ∨ st.intended ≠ none)
    let wrong := st.leaderReady = some true ∧ early ∨
      st.leaderReady ≠ none ∧ (r.state = .active ∨ r.state = .spent) ∨
      st.leaderReady = some false ∧ r.state = .prepared ∧ s.fsu.phase = .press ∧
        ∃ x, r.station = some x ∧ (s.station x = .matching ∨ s.station x = .matched)
    let cls := st.cls <|> r.cls
    let len := st.initLen <|> r.initLen
    let intended := st.intended.getD r.intended
    let defined := ∃ c d, cls = some c ∧ s.class? c = some d ∧ d.state = .defined
    let taken := ∃ x, intended = some x ∧ ∃ q ∈ s.rst.rolls, q.tag ≠ r.tag ∧ q.state = .declared ∧ q.intended = some x
    (locked → answers (say .locked)) ∧
      (¬ locked → wrong → answers (say .wrongState)) ∧
      (¬ locked → ¬ wrong → cls = none → answers { status := .invalid, payload := [0x01#8, 0#8] }) ∧
      (¬ locked → ¬ wrong → cls ≠ none → len = none → answers { status := .invalid, payload := [0x02#8, 0#8] }) ∧
      (¬ locked → ¬ wrong → cls ≠ none → len ≠ none → ¬ defined →
        answers { status := .invalid, payload := [0x01#8, 0#8] }) ∧
      (¬ locked → ¬ wrong → len ≠ none → defined → taken → answers { status := .invalid, payload := [0x03#8, 0#8] }) ∧
      (¬ locked → ¬ wrong → len ≠ none → defined → ¬ taken → StationLaw s →
        ∃ t r', exec close s = .next t ∧ t.says p .ok ∧ t.slot p = .empty ∧ t.roll? k = some r' ∧ r'.cls = cls ∧
          r'.initLen = len ∧ r'.intended = intended ∧ r'.leaderReady = st.leaderReady.getD r.leaderReady ∧
          (∀ tag, tag ≠ k → (t.roll? tag).map (fun q => (q.state, q.station, q.cls, q.remaining)) =
            (s.roll? tag).map fun q => (q.state, q.station, q.cls, q.remaining)) ∧
          t.fsu.w = s.fsu.w ∧ t.exu = s.exu ∧ t.inputs = s.inputs ∧
          (early → r'.remaining = len.getD 0 ∧ t.fsu.staA = s.fsu.staA ∧ t.fsu.staB = s.fsu.staB ∧
            ((∃ x, intended = some x ∧ s.station x = .seated ∧ s.boundRoll? x = none ∧ r'.state = .mounted ∧
                r'.station = some x) ∨
              (∀ x, intended = some x → ¬ (s.station x = .seated ∧ s.boundRoll? x = none)) ∧ r'.state = .declared ∧
                r'.station = none)) ∧
          (∀ x, r.state = .mounted → st.leaderReady = some true → r.station = some x →
            r'.remaining = len.getD 0 ∧ r'.station = some x ∧
              (s.rst.line.requested = some x ∧ s.activeStation = none ∧ s.sgv.gov = .stopped →
                r'.state = .active ∧ t.station x = .feeding ∧ t.fsu.locked = false) ∧
              (¬ (s.rst.line.requested = some x ∧ s.activeStation = none ∧ s.sgv.gov = .stopped) →
                r'.state = .prepared ∧
                  (t.station x = .prepared ∨ s.rst.line.autoSplice = true ∧ t.station x = .matching))) ∧
          (∀ x, r.state = .prepared → st.leaderReady = some false → r.station = some x →
            r'.state = .mounted ∧ r'.station = some x ∧ t.station x = .seated ∧
              (s.station x = .matching ∨ s.station x = .matched → t.fsu.phase = .idle ∧ t.fsu.outcome = .abandoned)) ∧
          (¬ early → ¬ (r.state = .mounted ∧ st.leaderReady = some true) →
            ¬ (r.state = .prepared ∧ st.leaderReady = some false) → r'.state = r.state ∧ r'.station = r.station))

/-- The commit of a lot by CLOSE (R80; the slot in WRITE with something staged). In order: LOCKED for what its state does not admit;
INVALID naming the first unset of pattern, class and panels ordered; INVALID naming the pattern that is not READY, the class that is not
DEFINED, panels ordered that would leave a FEEDING lot's planned count below its entered count, the place that is no waiting lot.
Accepted, the answer is OK and the slot EMPTY: the fields are written, planned follows, a NEW lot is QUEUED, and a staged place puts the
lot at the end, directly before the lot it names, or leaves it where it stands (R78, R82). On a FEEDING lot the entered count is 0 with
W at or behind the head, else the least n with head + n × F ≥ W, capped at planned and never below panels started; the tail moves to
head + planned × F, and where that is not ahead of W the lot is FED or DONE and the next segment begins at it (R84, R89). That the last
clause binds the formula after a long reverse run too is the model's choice (log entry 37, DESIGN CHOICE). -/
def Obligations.CloseCommitsALot : Prop :=
  ∀ (s : State) (p : Port) (k : Nat) (st : LotStage) (l : Lot), s.hears p = true → s.slot p = .write k (.lot st) →
    (Staging.lot st).isEmpty = false → s.lot? k = some l →
    let close := Instr.closeRecord p []
    let answers := fun (e : Reply) => Yields close s (s.answered p e)
    let names := fun (id : Byte) => answers { status := .invalid, payload := [id, 0#8] }
    let waits := l.state = .new ∨ l.state = .queued
    let locked :=
      (¬ waits ∧ (st.pattern ≠ none ∨ st.cls ≠ none ∨ st.makeupAllowance ≠ none ∨ st.restriction ≠ none ∨ st.place ≠ none)) ∨
        ((l.state = .fed ∨ l.state = .done) ∧ st.ordered ≠ none)
    let pattern := st.pattern <|> l.pattern
    let cls := st.cls <|> l.cls
    let ordered := st.ordered <|> l.ordered
    let whole := ¬ locked ∧ pattern ≠ none ∧ cls ≠ none ∧ ordered ≠ none
    let badPattern := ∃ n, st.pattern = some n ∧ ∀ q, s.pattern? n = some q → q.state ≠ .ready
    let badClass := ∃ n, st.cls = some n ∧ ∀ c, s.class? n = some c → c.state ≠ .defined
    let badPlace := ∃ n, st.place = some n ∧ n ≠ 0 ∧ ∀ m, s.lot? n = some m → m.state ≠ .new ∧ m.state ≠ .queued
    let len := s.lotFlatLen l
    let d := coordDiff s.fsu.w (l.head.getD 0)
    let entered := fun (n : Nat) =>
      n ≤ l.planned ∧ (d ≤ (n * len : Nat) ∧ l.started ≤ n ∨ n = l.planned) ∧ ∀ m < n, ((m * len : Nat) : Int) < d ∨ m < l.started
    let below := ∃ n m, l.state = .feeding ∧ st.ordered = some n ∧ entered m ∧ n + l.makeupUsed < m + l.cancelled
    (l.state = .feeding → l.head.isSome = true ∧ 0 < len) →
    (locked → answers (say .locked)) ∧
      (¬ locked → pattern = none → names 0x01#8) ∧
      (¬ locked → pattern ≠ none → cls = none → names 0x02#8) ∧
      (¬ locked → pattern ≠ none → cls ≠ none → ordered = none → names 0x03#8) ∧
      (whole → badPattern → names 0x01#8) ∧
      (whole → ¬ badPattern → badClass → names 0x02#8) ∧
      (whole → ¬ badPattern → ¬ badClass → below → names 0x03#8) ∧
      (whole → ¬ badPattern → ¬ badClass → ¬ below → badPlace → names 0x07#8) ∧
      (whole → ¬ badPattern → ¬ badClass → ¬ below → ¬ badPlace → LineOrderLaw s →
        let l1 : Lot := { l with
          state := if l.state = .new then .queued else l.state
          pattern := pattern, cls := cls, ordered := ordered, makeupAllowance := st.makeupAllowance.getD l.makeupAllowance
          restriction := st.restriction.getD l.restriction, held := st.held.getD l.held
          planned := ordered.getD 0 + l.makeupUsed - l.cancelled }
        ∃ t, exec close s = .next t ∧ t.says p .ok ∧ t.slot p = .empty ∧ t.fsu.w = s.fsu.w ∧ t.exu = s.exu ∧
          t.rst.rolls = s.rst.rolls ∧ t.inputs = s.inputs ∧
          (l.state ≠ .feeding ∨ st.ordered = none →
            t.lot? k = some l1 ∧ (∀ m, m ≠ k → t.lot? m = s.lot? m) ∧ t.ltr = s.ltr ∧ t.rst.panels = s.rst.panels ∧
              (st.place = none ∨ st.place = some k → t.rst.order = s.rst.order) ∧
              (st.place = some 0 → k ≠ 0 → t.rst.order = s.rst.order.filter (· != k) ++ [k]) ∧
              ∀ n before after, st.place = some n → n ≠ 0 → n ≠ k → s.rst.order.filter (· != k) = before ++ n :: after →
                n ∉ before → t.rst.order = before ++ k :: n :: after) ∧
          ∀ h, l.state = .feeding → st.ordered ≠ none → l.head = some h →
            let tail := h + BitVec.ofNat 40 (l1.planned * len)
            (coordDiff s.fsu.w tail < 0 →
              t.lot? k = some { l1 with tail := some tail } ∧ (∀ m, m ≠ k → t.lot? m = s.lot? m) ∧ t.ltr = s.ltr ∧
                t.rst.order = s.rst.order) ∧
              (0 ≤ coordDiff s.fsu.w tail →
                (∃ l', t.lot? k = some l' ∧ (l'.state = .fed ∨ l'.state = .done) ∧ l'.tail = some tail ∧
                  l'.planned = l1.planned) ∧
                  t.ltr.segment ≠ .lot k ∧ t.segmentExtent.map (·.1) = some tail))

/-- The commit of the Line record by CLOSE (R174; something staged, and the key admitting a pendant's set speed). In order: FIXED for a
set-once field with the window CLOSED; INVALID naming the first of the nine unset in view; NOT_READY for HEAT ON with E_STOP asserted;
NOT_CONFIGURED for it on a line neither configured nor configured by this commit. Accepted, the answer is OK and the slot EMPTY: the
fields are written, a set-once field makes the line CONFIGURED and closes the window (R171), and the units act on what changed: HEAT
from OFF to ON starts the permit, moves the zones out of OFF and raises ZONE_SENSOR for a STALE zone; to OFF it stops the permit and
moves every zone to OFF; the same value changes neither (R118, R120, R129, R130); a changed request threads a PREPARED station at rest
(R56). That KEY asserted is LOCAL, by which the key admits the pendant, is the model's choice (log entry 7, DESIGN CHOICE). -/
def Obligations.CloseCommitsTheLineRecord : Prop :=
  ∀ (s : State) (p : Port) (st : LineStage), s.hears p = true → s.slot p = .write 0 (.line st) →
    (Staging.line st).isEmpty = false → (p = .pen → st.setSpeed = none ∨ s.asserted .key = true) →
    let close := Instr.closeRecord p []
    let answers := fun (e : Reply) => Yields close s (s.answered p e)
    let l := s.rst.line
    let fields : List (Byte × Option Nat × Option Nat) :=
      [(0x01#8, st.strikePeriod, l.strikePeriod), (0x02#8, st.creep, l.creep), (0x03#8, st.spliceSpeed, l.spliceSpeed),
        (0x04#8, st.accel, l.accel), (0x05#8, st.permitPeriod, l.permitPeriod), (0x06#8, st.spliceReserve, l.spliceReserve),
        (0x07#8, st.tensionBand, l.tensionBand), (0x08#8, st.standby, l.standby), (0x09#8, st.wasteLen, l.wasteLen)]
    let once := ∃ f ∈ fields, f.2.1 ≠ none
    let set := fun (f : Byte × Option Nat × Option Nat) => f.2.1 ≠ none ∨ f.2.2 ≠ none
    let passes := once → l.windowOpen = true ∧ ∀ f ∈ fields, set f
    let on := st.heat = some true
    (once → l.windowOpen = false → answers (say .fixed)) ∧
      (∀ before f after, once → l.windowOpen = true → fields = before ++ f :: after → (∀ g ∈ before, set g) → ¬ set f →
        answers { status := .invalid, payload := [f.1, 0#8] }) ∧
      (passes → on → s.asserted .eStop = true → answers (say .notReady)) ∧
      (passes → on → s.asserted .eStop = false → l.configured = false → ¬ once → answers (say .notConfigured)) ∧
      (passes → (on → s.asserted .eStop = false ∧ (l.configured = true ∨ once)) → ∃ t, exec close s = .next t ∧ t.says p .ok ∧
        t.slot p = .empty ∧
        (let n := t.rst.line
         (n.strikePeriod = (st.strikePeriod <|> l.strikePeriod) ∧ n.creep = (st.creep <|> l.creep) ∧
            n.spliceSpeed = (st.spliceSpeed <|> l.spliceSpeed) ∧ n.accel = (st.accel <|> l.accel) ∧
            n.permitPeriod = (st.permitPeriod <|> l.permitPeriod) ∧ n.spliceReserve = (st.spliceReserve <|> l.spliceReserve) ∧
            n.tensionBand = (st.tensionBand <|> l.tensionBand) ∧ n.standby = (st.standby <|> l.standby) ∧
            n.wasteLen = (st.wasteLen <|> l.wasteLen)) ∧
           n.setSpeed = st.setSpeed.getD l.setSpeed ∧ n.autoSplice = st.autoSplice.getD l.autoSplice ∧
           n.heat = st.heat.getD l.heat ∧ n.laneMask = st.laneMask.getD l.laneMask ∧
           (n.autoSplice = false → n.requested = st.requested.getD l.requested) ∧
           (st.trims = [] → n.trims = l.trims) ∧
           (∀ lane v, st.trims = [(lane + 1, v)] → n.trims = l.trims.set lane v) ∧
           (once → n.configured = true ∧ n.windowOpen = false) ∧
           (¬ once → n.configured = l.configured ∧ n.windowOpen = l.windowOpen) ∧
           (on → l.heat = false →
             t.hsu.permit = some (n.permitPeriod.getD 0) ∧
               ((∃ z ∈ allZones, (s.hsu.zones.get z).fresh = false) → t.hasAlert .zoneSensor = true) ∧
               ∀ z ∈ allZones, (s.hsu.zones.get z).mode = .off →
                 (s.running = true → (t.hsu.zones.get z).mode = .warming) ∧
                   (s.running = false →
                     t.hsu.zones.get z =
                       { s.hsu.zones.get z with mode := .standby, target := n.standby, targetClass := none, settle := none })) ∧
           (st.heat = some false → l.heat = true → t.hsu.permit = none ∧ t.hasHold .zoneUnsettled = false ∧
             ∀ z ∈ allZones, (t.hsu.zones.get z).mode = .off ∧ (t.hsu.zones.get z).settle = none) ∧
           (st.heat = none ∨ st.heat = some l.heat → t.hsu.permit = s.hsu.permit) ∧
           ∀ x r, StationLaw s → st.requested = some (some x) → l.requested ≠ some x → s.activeStation = none →
             s.sgv.gov = .stopped → s.station x = .prepared → s.boundRoll? x = some r →
             t.station x = .feeding ∧
               (t.roll? r.tag).map (fun q => (q.state, q.remaining)) = some (.active, r.initLen.getD 0)) ∧
        t.fsu.w = s.fsu.w ∧ t.exu = s.exu ∧ t.inputs = s.inputs ∧
        (st.requested = none ∨ s.activeStation ≠ none → t.rst.lots = s.rst.lots ∧ t.rst.panels = s.rst.panels ∧
          t.ltr.segment = s.ltr.segment))

/-- NEXT on a READ slot opens the record after this one in the listing for reading and answers with its name, or empties the slot and
answers END after the last. On a WRITE slot it first acts as CLOSE does: a refused commit is its answer and nothing changes. After an
accepted commit or empty staging the next record is the one after this one in the listing as it then stands, or, where this one has left
the listing, the one that followed it before: opened for writing with an empty staging copy, OK with its name; claimed by the other
port, HELD with its name and the slot EMPTY; with none, END and the slot EMPTY, as always on the Line record (R193). -/
def Obligations.NextMovesAlongTheListing : Prop :=
  ∀ (p : Port) (s : State), s.hears p = true →
    (s.slot p = .empty → Refuses (.nextRecord p []) s p .notOpen) ∧
      (∀ t k, s.slot p = .lost t k →
        Yields (.nextRecord p []) s ((s.setSlot p .empty).setReceiver p (.answering [0x14#8]))) ∧
      (∀ t k before k1 after, s.slot p = .read t k → s.listing t = before ++ k :: k1 :: after → k ∉ before →
        Yields (.nextRecord p []) s ((s.setSlot p (.read t k1)).setReceiver p (.answering (0x00#8 :: nameRecord t k1)))) ∧
      (∀ t k before, s.slot p = .read t k → s.listing t = before ++ [k] → k ∉ before →
        Yields (.nextRecord p []) s ((s.setSlot p .empty).setReceiver p (.answering [0x18#8]))) ∧
      (s.slot p = .write 0 (.line {}) →
        Completes (.nextRecord p []) s ((s.setSlot p .empty).setReceiver p (.answering [0x18#8]))) ∧
      (∀ k st r, s.slot p = .write k st → st.isEmpty = false → s.commit p k st = .error r →
        Yields (.nextRecord p []) s (s.answered p r)) ∧
      ∀ k st t, s.slot p = .write k st → exec (.closeRecord p []) s = .next t → t.says p .ok →
        let tb := st.table
        let follows := fun (k1 : Nat) =>
          (∃ before after, t.listing tb = before ++ k :: k1 :: after ∧ k ∉ before) ∨
            (k ∉ t.listing tb ∧ k1 ∈ t.listing tb ∧ ∃ before after, s.listing tb = before ++ k :: k1 :: after ∧ k ∉ before)
        (∀ k1, follows k1 →
          (t.claims p.other tb k1 = false → Yields (.nextRecord p []) s
            ((t.setSlot p (.write k1 (Staging.fresh tb))).setReceiver p (.answering (0x00#8 :: nameRecord tb k1)))) ∧
            (t.claims p.other tb k1 = true → Yields (.nextRecord p []) s
              (t.setReceiver p (.answering (0x07#8 :: nameRecord tb k1))))) ∧
          ((∃ before, t.listing tb = before ++ [k] ∧ k ∉ before) ∨
              (k ∉ t.listing tb ∧ ∃ before, s.listing tb = before ++ [k] ∧ k ∉ before) →
            Yields (.nextRecord p []) s (t.setReceiver p (.answering [0x18#8])))

/-- DISCARD needs the slot in READ or WRITE: EMPTY answers NOT_OPEN and LOST GONE. In READ it ends the open, in WRITE it drops the
staging copy and ends the claim, and a record never committed is removed in the same act; the slot becomes EMPTY, the answer is OK, and
no field of a committed record changes (R194). -/
def Obligations.DiscardDropsTheStaging : Prop :=
  ∀ (p : Port) (s : State), s.hears p = true →
    let ended := (s.setSlot p .empty).setReceiver p (.answering [0x00#8])
    (s.slot p = .empty → Refuses (.discard p []) s p .notOpen) ∧
      (∀ t k, s.slot p = .lost t k →
        Yields (.discard p []) s ((s.setSlot p .empty).setReceiver p (.answering [0x14#8]))) ∧
      (∀ t k, s.slot p = .read t k → Yields (.discard p []) s ended) ∧
      (∀ k st, s.slot p = .write k st → s.neverCommitted st.table k = false → Yields (.discard p []) s ended) ∧
      ∀ k st, s.slot p = .write k st → s.neverCommitted st.table k = true → ∃ t, exec (.discard p []) s = .next t ∧
        t.says p .ok ∧ t.slot p = .empty ∧ (t.port p).inactivity = none ∧ t.recordExists st.table k = false ∧
        (∀ k',
          t.pattern? k' = (if st.table = .pattern ∧ k' = k then none else s.pattern? k') ∧
            t.class? k' = (if st.table = .cls ∧ k' = k then none else s.class? k') ∧
            t.roll? k' = (if st.table = .roll ∧ k' = k then none else s.roll? k') ∧
            t.lot? k' = (if st.table = .lot ∧ k' = k then none else s.lot? k')) ∧
        t.rst.pool = s.rst.pool ∧
        t.rst.panels = s.rst.panels ∧ t.rst.line = s.rst.line ∧ t.fsu = s.fsu ∧ t.ltr = s.ltr ∧ t.pfm = s.pfm ∧
        t.hsu = s.hsu ∧ t.exu = s.exu ∧ t.sgv = s.sgv

/-- RETIRE answers READ_ONLY on PANEL and LINE, OUT_OF_RANGE for the first key, HELD for a claimed record, NO_SUCH_RECORD where none of
the key stands. Past that it removes a DECLARED roll or a SPENT one off its station, and a QUEUED or DONE lot; refuses a MOUNTED,
PREPARED or ACTIVE roll and a FED lot with WRONG_STATE; cancels a FEEDING lot down to the panel W lies in, or to none with W behind its
head, but never below panels started, the lot FEEDING on to its new tail (R91, R94; the bound after a long reverse run is the model's
choice, log entry 37); makes a READY pattern in use RETIRING, frees one that is not, and refuses a RETIRING one with WRONG_STATE;
refuses a class in use with IN_USE and frees one that is not, a zone that targets it keeping its temperature without a class (R29, R42,
R51, R90, R91, R133, R195). -/
def Obligations.RetireRemovesTheRecord : Prop :=
  ∀ (k : Nat) (s : State), s.hears .sup = true → k < 2 ^ 32 →
    let retire := fun (t : Table) => Instr.retire .sup (nameRecord t k)
    let free := fun (t : Table) => k ≠ 0 ∧ s.claims .sup t k = false ∧ s.claims .pen t k = false
    Refuses (retire .panel) s .sup .readOnly ∧ Refuses (retire .line) s .sup .readOnly ∧
      (∀ t, t ≠ .panel → t ≠ .line → k = 0 → Refuses (retire t) s .sup .outOfRange) ∧
      (∀ t, t ≠ .panel → t ≠ .line → k ≠ 0 → s.claims .sup t k = true ∨ s.claims .pen t k = true →
        Refuses (retire t) s .sup .held) ∧
      (∀ t, t ≠ .panel → t ≠ .line → free t → (t = .pattern → k ≤ 40) → (t = .cls → k ≤ 16) → s.recordExists t k = false →
        Refuses (retire t) s .sup .noSuchRecord) ∧
      (∀ r, free .roll → s.roll? k = some r →
        (r.state = .declared ∨ r.state = .spent ∧ r.station = none → ∃ t, exec (retire .roll) s = .next t ∧ t.says .sup .ok ∧
          t.roll? k = none ∧ (∀ k', k' ≠ k → t.roll? k' = s.roll? k') ∧ t.rst.lots = s.rst.lots ∧
          t.rst.panels = s.rst.panels ∧ t.fsu = s.fsu ∧ t.sgv = s.sgv) ∧
          (r.state = .mounted ∨ r.state = .prepared ∨ r.state = .active ∨ r.state = .spent ∧ r.station ≠ none →
            Refuses (retire .roll) s .sup .wrongState)) ∧
      (∀ l, free .lot → s.lot? k = some l →
        (l.state = .queued ∨ l.state = .done → ∃ t, exec (retire .lot) s = .next t ∧ t.says .sup .ok ∧ t.lot? k = none ∧
          (∀ k', k' ≠ k → t.lot? k' = s.lot? k') ∧ t.rst.order = s.rst.order.filter (· != k) ∧
          t.rst.panels = s.rst.panels ∧ t.rst.rolls = s.rst.rolls ∧ t.fsu = s.fsu ∧ t.sgv = s.sgv) ∧
          (l.state = .fed → Refuses (retire .lot) s .sup .wrongState) ∧
          ∀ h kept, l.state = .feeding → l.head = some h → 0 < s.lotFlatLen l →
            l.planned + l.cancelled = l.ordered.getD 0 + l.makeupUsed →
            (let d := coordDiff s.fsu.w h
             let len := s.lotFlatLen l
             kept ≤ l.planned ∧ (d < (kept * len : Nat) ∧ l.started ≤ kept ∨ kept = l.planned) ∧
               ∀ m < kept, ((m * len : Nat) : Int) ≤ d ∨ m < l.started) →
            ∃ t, exec (retire .lot) s = .next t ∧ t.says .sup .ok ∧
              t.lot? k = some { l with
                planned := kept, cancelled := l.cancelled + (l.planned - kept)
                tail := some (h + BitVec.ofNat 40 (kept * s.lotFlatLen l)) } ∧
              (∀ k', k' ≠ k → t.lot? k' = s.lot? k') ∧ t.rst.order = s.rst.order ∧ t.ltr = s.ltr ∧
              t.rst.panels = s.rst.panels ∧ t.rst.rolls = s.rst.rolls ∧ t.fsu.w = s.fsu.w ∧ t.exu = s.exu) ∧
      (∀ q, free .pattern → k ≤ 40 → s.pattern? k = some q →
        (q.state = .ready → q.refCount = 0 → ∃ t, exec (retire .pattern) s = .next t ∧ t.says .sup .ok ∧ t.pattern? k = none ∧
          (∀ k', k' ≠ k → t.pattern? k' = s.pattern? k') ∧ t.rst.lots = s.rst.lots ∧ t.fsu = s.fsu) ∧
          (q.state = .ready → q.refCount ≠ 0 → Yields (retire .pattern) s
            ((s.putPattern { q with state := .retiring }).answered .sup (say .ok))) ∧
          (q.state = .retiring → Refuses (retire .pattern) s .sup .wrongState)) ∧
      ∀ c, free .cls → k ≤ 16 → s.class? k = some c → c.state = .defined →
        (c.refCount ≠ 0 ∨ (∃ x ∈ s.rst.panels, x.cls = k) → Refuses (retire .cls) s .sup .inUse) ∧
          (c.refCount = 0 → (∀ x ∈ s.rst.panels, x.cls ≠ k) → ∃ t, exec (retire .cls) s = .next t ∧ t.says .sup .ok ∧
            t.class? k = none ∧ (∀ k', k' ≠ k → t.class? k' = s.class? k') ∧
            (s.rst.line.heat = false ∨ s.running = false → ∀ z ∈ allZones,
              let v := s.hsu.zones.get z
              t.hsu.zones.get z = { v with targetClass := if v.targetClass = some k then none else v.targetClass }) ∧
            t.rst.lots = s.rst.lots ∧ t.rst.rolls = s.rst.rolls ∧ t.rst.panels = s.rst.panels ∧ t.fsu.w = s.fsu.w ∧
            t.exu = s.exu)

/-- FIND names the record at a place and changes nothing, NO_SUCH_RECORD where none stands there: the FEEDING lot at the splice point;
the lot and the record of the forming panel at the blade; in each zone, and in the cooling bed, of the panels whose midpoint lies in it
one that lies farthest past the blade; the oldest panel across the cutter. A place out of the list answers OUT_OF_RANGE (R5, R9, R117,
R196). -/
def Obligations.FindNamesTheRecordAtAPlace : Prop :=
  (∀ (p : Port) (s : State), s.hears p = true →
      let found := fun (place : Byte) (t : Table) (k : Nat) =>
        Yields (.find p [place]) s (s.answered p { status := .ok, payload := nameRecord t k })
      let nothing := fun (place : Byte) => Refuses (.find p [place]) s p .noSuchRecord
      (∀ l, s.feedingLot? = some l → found 0x01#8 .lot l.number) ∧ (s.feedingLot? = none → nothing 0x01#8) ∧
        (∀ f l, s.pfm.forming = some f → f.kind = .product → s.lot? f.key.lot = some l → found 0x02#8 .lot l.number) ∧
        (∀ f q, s.pfm.forming = some f → s.panel? f.key = some q → found 0x03#8 .panel q.key.toKey) ∧
        (s.pfm.forming = none → nothing 0x02#8 ∧ nothing 0x03#8) ∧
        (∀ place, place = 0#8 ∨ 9 < place.toNat → Refuses (.find p [place]) s p .outOfRange)) ∧
    (∀ (p : Port) (s : State) (place : Byte) (a b : Int), s.hears p = true →
      (place, a, b) ∈ [(0x04#8, (10000 : Int), (25000 : Int)), (0x05#8, 25000, 40000), (0x06#8, 40000, 55000),
        (0x07#8, 55000, 70000), (0x08#8, 70000, 90000)] →
      let mid := fun (q : Panel) => coordDiff s.exu.b q.head - (q.pleatedLen / 2 : Nat)
      ((∀ q ∈ s.rst.panels, ¬ (a ≤ mid q ∧ mid q < b)) → Refuses (.find p [place]) s p .noSuchRecord) ∧
        ((∃ q ∈ s.rst.panels, a ≤ mid q ∧ mid q < b) → ∃ q ∈ s.rst.panels, a ≤ mid q ∧ mid q < b ∧
          (∀ x ∈ s.rst.panels, a ≤ mid x → mid x < b → mid x ≤ mid q) ∧
          Yields (.find p [place]) s (s.answered p { status := .ok, payload := nameRecord .panel q.key.toKey }))) ∧
    ∀ (p : Port) (s : State), s.hears p = true →
      let across := fun (q : Panel) =>
        95000 ≤ coordDiff s.exu.b q.head ∧ coordDiff s.exu.b q.head - (q.pleatedLen : Int) < 95000
      ((∀ q ∈ s.rst.panels, ¬ across q) → Refuses (.find p [0x09#8]) s p .noSuchRecord) ∧
        ∀ before q after, s.rst.panels = before ++ q :: after → (∀ x ∈ before, ¬ across x) → across q →
          Yields (.find p [0x09#8]) s (s.answered p { status := .ok, payload := nameRecord .panel q.key.toKey })
end

