-- ==== Sys2Proof/Laws/State.lean ====
section
/-! SUPPORT. What each plain update of the state changes and what it leaves: the lemmas that later proofs cite in place of
unfolding a record update. -/

namespace Sys2Proof.Machine

/-! ### Sets of kinds -/

@[simp] theorem hasBit_setBit {n : Nat} (s : BitVec n) (j k : Nat) :
    hasBit (setBit s k) j = (hasBit s j || (decide (j = k) && decide (j < n))) := by
  unfold hasBit setBit
  rw [BitVec.getLsbD_or, BitVec.getLsbD_twoPow]
  by_cases h : j < n <;> by_cases h2 : k = j <;> simp_all [eq_comm]

@[simp] theorem hasBit_clearBit {n : Nat} (s : BitVec n) (j k : Nat) :
    hasBit (clearBit s k) j = (hasBit s j && !decide (j = k)) := by
  unfold hasBit clearBit
  rw [BitVec.getLsbD_and, BitVec.getLsbD_not, BitVec.getLsbD_twoPow]
  by_cases h : j < n
  · by_cases h2 : k = j <;> simp_all [eq_comm]
  · simp [h, BitVec.getLsbD_of_ge _ _ (Nat.le_of_not_lt h)]

/-! ### Four zones, the inputs, the stations, the ports -/

@[simp] theorem Four.get_set_self {α : Type} (f : Four α) (z : ZoneId) (x : α) : (f.set z x).get z = x := by
  cases z <;> rfl

theorem Four.get_set_ne {α : Type} (f : Four α) {z y : ZoneId} (x : α) (h : y ≠ z) : (f.set z x).get y = f.get y := by
  cases z <;> cases y <;> simp_all [Four.set, Four.get]

@[simp] theorem Four.get_map {α β : Type} (g : ZoneId → α → β) (f : Four α) (z : ZoneId) :
    (Four.map g f).get z = g z (f.get z) := by
  cases z <;> rfl

theorem Four.any_iff {α : Type} (g : ZoneId → α → Bool) (f : Four α) :
    Four.any g f = true ↔ ∃ z, g z (f.get z) = true := by
  constructor
  · intro h
    simp only [Four.any, Bool.or_eq_true] at h
    rcases h with ((h | h) | h) | h
    · exact ⟨.z1, h⟩
    · exact ⟨.z2, h⟩
    · exact ⟨.z3, h⟩
    · exact ⟨.z4, h⟩
  · rintro ⟨z, h⟩
    cases z <;> simp_all [Four.any, Four.get]

@[simp] theorem mem_allZones (z : ZoneId) : z ∈ allZones := by cases z <;> simp [allZones]

@[simp] theorem mem_allInputs (i : Input) : i ∈ allInputs := by cases i <;> simp [allInputs]

@[simp] theorem Inputs.get_set_self (v : Inputs) (i : Input) (x : Pin) : (v.set i x).get i = x := by cases i <;> rfl

theorem Inputs.get_set_ne (v : Inputs) {i j : Input} (x : Pin) (h : j ≠ i) : (v.set i x).get j = v.get j := by
  cases i <;> cases j <;> first | rfl | exact absurd rfl h

@[simp] theorem station_setStation_self (s : State) (x : Station) (v : StationState) :
    (s.setStation x v).station x = v := by
  cases x <;> rfl

@[simp] theorem station_setStation_other (s : State) (x : Station) (v : StationState) :
    (s.setStation x v).station x.other = s.station x.other := by
  cases x <;> rfl

@[simp] theorem port_setPort_self (s : State) (p : Port) (v : PortState) : (s.setPort p v).port p = v := by
  cases p <;> rfl

@[simp] theorem port_setPort_other (s : State) (p : Port) (v : PortState) :
    (s.setPort p v).port p.other = s.port p.other := by
  cases p <;> rfl

@[simp] theorem slot_setSlot_self (s : State) (p : Port) (v : Slot) : (s.setSlot p v).slot p = v := by
  cases p <;> rfl

@[simp] theorem slot_setSlot_other (s : State) (p : Port) (v : Slot) :
    (s.setSlot p v).slot p.other = s.slot p.other := by
  cases p <;> rfl

/-! ### Tables in key order -/

theorem find?_upsert_self {α : Type} (key : α → Nat) (x : α) (l : List α) :
    (upsert key x l).find? (fun y => key y == key x) = some x := by
  induction l with
  | nil => simp [upsert]
  | cons y ys ih =>
    unfold upsert
    split
    · simp
    · split
      · simp
      · rename_i h1 h2
        rw [List.find?_cons_of_neg (by simp; omega)]
        exact ih

theorem find?_upsert_ne {α : Type} (key : α → Nat) (x : α) (l : List α) {k : Nat} (h : k ≠ key x) :
    (upsert key x l).find? (fun y => key y == k) = l.find? (fun y => key y == k) := by
  induction l with
  | nil => simp [upsert, Ne.symm h]
  | cons y ys ih =>
    unfold upsert
    split
    · rw [List.find?_cons_of_neg (by simpa using Ne.symm h)]
    · split
      · rename_i h1 h2
        rw [List.find?_cons_of_neg (by simpa using Ne.symm h), List.find?_cons_of_neg (by simp; omega)]
      · by_cases hy : key y = k
        · simp [hy]
        · rw [List.find?_cons_of_neg (by simpa using hy), List.find?_cons_of_neg (by simpa using hy)]
          exact ih

theorem mem_upsert {α : Type} (key : α → Nat) (x y : α) (l : List α) (h : y ∈ upsert key x l) : y = x ∨ y ∈ l := by
  induction l with
  | nil => simp_all [upsert]
  | cons z zs ih =>
    unfold upsert at h
    split at h
    · simpa using h
    · split at h
      · simp only [List.mem_cons] at h ⊢
        tauto
      · simp only [List.mem_cons] at h ⊢
        rcases h with h | h
        · exact Or.inr (Or.inl h)
        · rcases ih h with h | h
          · exact Or.inl h
          · exact Or.inr (Or.inr h)

@[simp] theorem pattern?_putPattern_self (s : State) (p : Pattern) : (s.putPattern p).pattern? p.number = some p :=
  find?_upsert_self Pattern.number p s.rst.patterns

@[simp] theorem class?_putClass_self (s : State) (c : FabricClass) : (s.putClass c).class? c.number = some c :=
  find?_upsert_self FabricClass.number c s.rst.classes

@[simp] theorem roll?_putRoll_self (s : State) (r : Roll) : (s.putRoll r).roll? r.tag = some r :=
  find?_upsert_self Roll.tag r s.rst.rolls

@[simp] theorem lot?_putLot_self (s : State) (l : Lot) : (s.putLot l).lot? l.number = some l :=
  find?_upsert_self Lot.number l s.rst.lots

theorem roll?_putRoll_ne (s : State) (r : Roll) {tag : Nat} (h : tag ≠ r.tag) : (s.putRoll r).roll? tag = s.roll? tag :=
  find?_upsert_ne Roll.tag r s.rst.rolls h

theorem lot?_putLot_ne (s : State) (l : Lot) {n : Nat} (h : n ≠ l.number) : (s.putLot l).lot? n = s.lot? n :=
  find?_upsert_ne Lot.number l s.rst.lots h

/-! ### The step pool: every operation keeps its canonical form (R23) -/

theorem poolWf_cons (e : Nat × Step) (es : List (Nat × Step)) :
    poolWf (e :: es) = true ↔ (∀ x ∈ es, e.1 < x.1) ∧ poolWf es = true := by
  simp [poolWf, List.all_eq_true]

theorem poolWrite_wf (pool : List (Nat × Step)) (slot : Nat) (st : Step) (h : poolWf pool = true) :
    poolWf (poolWrite pool slot st) = true := by
  unfold poolWrite
  induction pool with
  | nil => simp [upsert, poolWf]
  | cons e es ih =>
    rw [poolWf_cons] at h
    unfold upsert
    split
    · rename_i h1
      rw [poolWf_cons, poolWf_cons]
      refine ⟨?_, h⟩
      intro x hx
      rcases List.mem_cons.mp hx with rfl | hx
      · exact h1
      · exact Nat.lt_trans h1 (h.1 x hx)
    · split
      · rename_i h1 h2
        rw [poolWf_cons]
        exact ⟨fun x hx => by have := h.1 x hx; simp only at h2; omega, h.2⟩
      · rename_i h1 h2
        rw [poolWf_cons]
        refine ⟨fun x hx => ?_, ih h.2⟩
        rcases mem_upsert _ _ _ _ hx with rfl | hx
        · simp only at h1 h2 ⊢
          omega
        · exact h.1 x hx

theorem poolRelease_wf (blocks : List Nat) (pool : List (Nat × Step)) (h : poolWf pool = true) :
    poolWf (poolRelease blocks pool) = true := by
  unfold poolRelease
  induction pool with
  | nil => rfl
  | cons e es ih =>
    rw [poolWf_cons] at h
    rw [List.filter_cons]
    split
    · rw [poolWf_cons]
      exact ⟨fun x hx => h.1 x (List.mem_of_mem_filter hx), ih h.2⟩
    · exact ih h.2

theorem poolRead_poolWrite_self (pool : List (Nat × Step)) (slot : Nat) (st : Step) :
    poolRead (poolWrite pool slot st) slot = some st := by
  have h := find?_upsert_self (fun e : Nat × Step => e.1) (slot, st) pool
  simp [poolRead, poolWrite, h]

theorem poolRead_poolWrite_ne (pool : List (Nat × Step)) {slot other : Nat} (st : Step) (h : other ≠ slot) :
    poolRead (poolWrite pool slot st) other = poolRead pool other := by
  have h := find?_upsert_ne (fun e : Nat × Step => e.1) (slot, st) pool h
  simp [poolRead, poolWrite, h]

/-! ### What each plain update leaves as it was -/

@[simp] theorem State.raiseAlert_frame (s : State) (a : Alert) :
    (s.raiseAlert a).pending = s.pending ∧ (s.raiseAlert a).freeIdx = s.freeIdx ∧ (s.raiseAlert a).inputs = s.inputs ∧
    (s.raiseAlert a).rst = s.rst ∧ (s.raiseAlert a).lnk.sup = s.lnk.sup ∧ (s.raiseAlert a).lnk.pen = s.lnk.pen ∧
    (s.raiseAlert a).fsu = s.fsu ∧ (s.raiseAlert a).ltr = s.ltr ∧ (s.raiseAlert a).pfm = s.pfm ∧
    (s.raiseAlert a).hsu = s.hsu ∧ (s.raiseAlert a).exu = s.exu ∧ (s.raiseAlert a).sgv = s.sgv := by
  simp [State.raiseAlert]

@[simp] theorem State.dropAlert_frame (s : State) (a : Alert) :
    (s.dropAlert a).pending = s.pending ∧ (s.dropAlert a).freeIdx = s.freeIdx ∧ (s.dropAlert a).inputs = s.inputs ∧
    (s.dropAlert a).rst = s.rst ∧ (s.dropAlert a).lnk.sup = s.lnk.sup ∧ (s.dropAlert a).lnk.pen = s.lnk.pen ∧
    (s.dropAlert a).fsu = s.fsu ∧ (s.dropAlert a).ltr = s.ltr ∧ (s.dropAlert a).pfm = s.pfm ∧
    (s.dropAlert a).hsu = s.hsu ∧ (s.dropAlert a).exu = s.exu ∧ (s.dropAlert a).sgv = s.sgv := by
  simp [State.dropAlert]

@[simp] theorem State.setHold_frame (s : State) (h : HoldReason) :
    (s.setHold h).pending = s.pending ∧ (s.setHold h).freeIdx = s.freeIdx ∧ (s.setHold h).inputs = s.inputs ∧
    (s.setHold h).rst = s.rst ∧ (s.setHold h).lnk = s.lnk ∧ (s.setHold h).fsu = s.fsu ∧ (s.setHold h).ltr = s.ltr ∧
    (s.setHold h).pfm = s.pfm ∧ (s.setHold h).hsu = s.hsu ∧ (s.setHold h).exu = s.exu ∧
    (s.setHold h).sgv.gov = s.sgv.gov ∧ (s.setHold h).sgv.intent = s.sgv.intent ∧
    (s.setHold h).sgv.stops = s.sgv.stops ∧ (s.setHold h).sgv.trips = s.sgv.trips ∧
    (s.setHold h).sgv.stopPending = s.sgv.stopPending ∧ (s.setHold h).sgv.flatRef = s.sgv.flatRef ∧
    (s.setHold h).sgv.beltRef = s.sgv.beltRef ∧ (s.setHold h).sgv.ceiling = s.sgv.ceiling ∧
    (s.setHold h).sgv.standstill = s.sgv.standstill ∧ (s.setHold h).sgv.standWindow = s.sgv.standWindow ∧
    (s.setHold h).sgv.classSet = s.sgv.classSet := by
  simp [State.setHold]

@[simp] theorem State.dropHold_frame (s : State) (h : HoldReason) :
    (s.dropHold h).pending = s.pending ∧ (s.dropHold h).freeIdx = s.freeIdx ∧ (s.dropHold h).inputs = s.inputs ∧
    (s.dropHold h).rst = s.rst ∧ (s.dropHold h).lnk = s.lnk ∧ (s.dropHold h).fsu = s.fsu ∧
    (s.dropHold h).ltr = s.ltr ∧ (s.dropHold h).pfm = s.pfm ∧ (s.dropHold h).hsu = s.hsu ∧
    (s.dropHold h).exu = s.exu ∧ (s.dropHold h).sgv.gov = s.sgv.gov ∧ (s.dropHold h).sgv.intent = s.sgv.intent ∧
    (s.dropHold h).sgv.stops = s.sgv.stops ∧ (s.dropHold h).sgv.trips = s.sgv.trips ∧
    (s.dropHold h).sgv.stopPending = s.sgv.stopPending ∧ (s.dropHold h).sgv.flatRef = s.sgv.flatRef ∧
    (s.dropHold h).sgv.beltRef = s.sgv.beltRef ∧ (s.dropHold h).sgv.ceiling = s.sgv.ceiling ∧
    (s.dropHold h).sgv.standstill = s.sgv.standstill ∧ (s.dropHold h).sgv.standWindow = s.sgv.standWindow ∧
    (s.dropHold h).sgv.classSet = s.sgv.classSet := by
  simp [State.dropHold]

@[simp] theorem State.addStop_frame (s : State) (c : StopCause) :
    (s.addStop c).pending = s.pending ∧ (s.addStop c).freeIdx = s.freeIdx ∧ (s.addStop c).inputs = s.inputs ∧
    (s.addStop c).rst = s.rst ∧ (s.addStop c).lnk = s.lnk ∧ (s.addStop c).fsu = s.fsu ∧ (s.addStop c).ltr = s.ltr ∧
    (s.addStop c).pfm = s.pfm ∧ (s.addStop c).hsu = s.hsu ∧ (s.addStop c).exu = s.exu ∧
    (s.addStop c).sgv.gov = s.sgv.gov ∧ (s.addStop c).sgv.intent = s.sgv.intent ∧
    (s.addStop c).sgv.holds = s.sgv.holds ∧ (s.addStop c).sgv.trips = s.sgv.trips ∧
    (s.addStop c).sgv.stopPending = s.sgv.stopPending ∧ (s.addStop c).sgv.flatRef = s.sgv.flatRef ∧
    (s.addStop c).sgv.beltRef = s.sgv.beltRef ∧ (s.addStop c).sgv.ceiling = s.sgv.ceiling ∧
    (s.addStop c).sgv.standstill = s.sgv.standstill ∧ (s.addStop c).sgv.standWindow = s.sgv.standWindow ∧
    (s.addStop c).sgv.classSet = s.sgv.classSet := by
  simp [State.addStop]

@[simp] theorem State.dropStop_frame (s : State) (c : StopCause) :
    (s.dropStop c).pending = s.pending ∧ (s.dropStop c).freeIdx = s.freeIdx ∧ (s.dropStop c).inputs = s.inputs ∧
    (s.dropStop c).rst = s.rst ∧ (s.dropStop c).lnk = s.lnk ∧ (s.dropStop c).fsu = s.fsu ∧
    (s.dropStop c).ltr = s.ltr ∧ (s.dropStop c).pfm = s.pfm ∧ (s.dropStop c).hsu = s.hsu ∧
    (s.dropStop c).exu = s.exu ∧ (s.dropStop c).sgv.gov = s.sgv.gov ∧ (s.dropStop c).sgv.intent = s.sgv.intent ∧
    (s.dropStop c).sgv.holds = s.sgv.holds ∧ (s.dropStop c).sgv.trips = s.sgv.trips ∧
    (s.dropStop c).sgv.stopPending = s.sgv.stopPending ∧ (s.dropStop c).sgv.flatRef = s.sgv.flatRef ∧
    (s.dropStop c).sgv.beltRef = s.sgv.beltRef ∧ (s.dropStop c).sgv.ceiling = s.sgv.ceiling ∧
    (s.dropStop c).sgv.standstill = s.sgv.standstill ∧ (s.dropStop c).sgv.standWindow = s.sgv.standWindow ∧
    (s.dropStop c).sgv.classSet = s.sgv.classSet := by
  simp [State.dropStop]

@[simp] theorem State.addTrip_frame (s : State) (c : TripCause) :
    (s.addTrip c).pending = s.pending ∧ (s.addTrip c).freeIdx = s.freeIdx ∧ (s.addTrip c).inputs = s.inputs ∧
    (s.addTrip c).rst = s.rst ∧ (s.addTrip c).lnk = s.lnk ∧ (s.addTrip c).fsu = s.fsu ∧ (s.addTrip c).ltr = s.ltr ∧
    (s.addTrip c).pfm = s.pfm ∧ (s.addTrip c).hsu = s.hsu ∧ (s.addTrip c).exu = s.exu ∧
    (s.addTrip c).sgv.gov = s.sgv.gov ∧ (s.addTrip c).sgv.intent = s.sgv.intent ∧
    (s.addTrip c).sgv.holds = s.sgv.holds ∧ (s.addTrip c).sgv.stops = s.sgv.stops ∧
    (s.addTrip c).sgv.stopPending = s.sgv.stopPending ∧ (s.addTrip c).sgv.flatRef = s.sgv.flatRef ∧
    (s.addTrip c).sgv.beltRef = s.sgv.beltRef ∧ (s.addTrip c).sgv.ceiling = s.sgv.ceiling ∧
    (s.addTrip c).sgv.standstill = s.sgv.standstill ∧ (s.addTrip c).sgv.standWindow = s.sgv.standWindow ∧
    (s.addTrip c).sgv.classSet = s.sgv.classSet := by
  simp [State.addTrip]

@[simp] theorem State.dropTrip_frame (s : State) (c : TripCause) :
    (s.dropTrip c).pending = s.pending ∧ (s.dropTrip c).freeIdx = s.freeIdx ∧ (s.dropTrip c).inputs = s.inputs ∧
    (s.dropTrip c).rst = s.rst ∧ (s.dropTrip c).lnk = s.lnk ∧ (s.dropTrip c).fsu = s.fsu ∧
    (s.dropTrip c).ltr = s.ltr ∧ (s.dropTrip c).pfm = s.pfm ∧ (s.dropTrip c).hsu = s.hsu ∧
    (s.dropTrip c).exu = s.exu ∧ (s.dropTrip c).sgv.gov = s.sgv.gov ∧ (s.dropTrip c).sgv.intent = s.sgv.intent ∧
    (s.dropTrip c).sgv.holds = s.sgv.holds ∧ (s.dropTrip c).sgv.stops = s.sgv.stops ∧
    (s.dropTrip c).sgv.stopPending = s.sgv.stopPending ∧ (s.dropTrip c).sgv.flatRef = s.sgv.flatRef ∧
    (s.dropTrip c).sgv.beltRef = s.sgv.beltRef ∧ (s.dropTrip c).sgv.ceiling = s.sgv.ceiling ∧
    (s.dropTrip c).sgv.standstill = s.sgv.standstill ∧ (s.dropTrip c).sgv.standWindow = s.sgv.standWindow ∧
    (s.dropTrip c).sgv.classSet = s.sgv.classSet := by
  simp [State.dropTrip]

@[simp] theorem State.putPattern_frame (s : State) (p : Pattern) :
    (s.putPattern p).pending = s.pending ∧ (s.putPattern p).freeIdx = s.freeIdx ∧ (s.putPattern p).inputs = s.inputs ∧
    (s.putPattern p).rst.pool = s.rst.pool ∧ (s.putPattern p).rst.classes = s.rst.classes ∧
    (s.putPattern p).rst.rolls = s.rst.rolls ∧ (s.putPattern p).rst.lots = s.rst.lots ∧
    (s.putPattern p).rst.order = s.rst.order ∧ (s.putPattern p).rst.panels = s.rst.panels ∧
    (s.putPattern p).rst.panelSerial = s.rst.panelSerial ∧ (s.putPattern p).rst.line = s.rst.line ∧
    (s.putPattern p).lnk = s.lnk ∧ (s.putPattern p).fsu = s.fsu ∧ (s.putPattern p).ltr = s.ltr ∧
    (s.putPattern p).pfm = s.pfm ∧ (s.putPattern p).hsu = s.hsu ∧ (s.putPattern p).exu = s.exu ∧
    (s.putPattern p).sgv = s.sgv := by
  simp [State.putPattern]

@[simp] theorem State.putClass_frame (s : State) (c : FabricClass) :
    (s.putClass c).pending = s.pending ∧ (s.putClass c).freeIdx = s.freeIdx ∧ (s.putClass c).inputs = s.inputs ∧
    (s.putClass c).rst.patterns = s.rst.patterns ∧ (s.putClass c).rst.pool = s.rst.pool ∧
    (s.putClass c).rst.rolls = s.rst.rolls ∧ (s.putClass c).rst.lots = s.rst.lots ∧
    (s.putClass c).rst.order = s.rst.order ∧ (s.putClass c).rst.panels = s.rst.panels ∧
    (s.putClass c).rst.panelSerial = s.rst.panelSerial ∧ (s.putClass c).rst.line = s.rst.line ∧
    (s.putClass c).lnk = s.lnk ∧ (s.putClass c).fsu = s.fsu ∧ (s.putClass c).ltr = s.ltr ∧
    (s.putClass c).pfm = s.pfm ∧ (s.putClass c).hsu = s.hsu ∧ (s.putClass c).exu = s.exu ∧
    (s.putClass c).sgv = s.sgv := by
  simp [State.putClass]

@[simp] theorem State.putRoll_frame (s : State) (r : Roll) :
    (s.putRoll r).pending = s.pending ∧ (s.putRoll r).freeIdx = s.freeIdx ∧ (s.putRoll r).inputs = s.inputs ∧
    (s.putRoll r).rst.patterns = s.rst.patterns ∧ (s.putRoll r).rst.pool = s.rst.pool ∧
    (s.putRoll r).rst.classes = s.rst.classes ∧ (s.putRoll r).rst.lots = s.rst.lots ∧
    (s.putRoll r).rst.order = s.rst.order ∧ (s.putRoll r).rst.panels = s.rst.panels ∧
    (s.putRoll r).rst.panelSerial = s.rst.panelSerial ∧ (s.putRoll r).rst.line = s.rst.line ∧
    (s.putRoll r).lnk = s.lnk ∧ (s.putRoll r).fsu = s.fsu ∧ (s.putRoll r).ltr = s.ltr ∧ (s.putRoll r).pfm = s.pfm ∧
    (s.putRoll r).hsu = s.hsu ∧ (s.putRoll r).exu = s.exu ∧ (s.putRoll r).sgv = s.sgv := by
  simp [State.putRoll]

@[simp] theorem State.putLot_frame (s : State) (l : Lot) :
    (s.putLot l).pending = s.pending ∧ (s.putLot l).freeIdx = s.freeIdx ∧ (s.putLot l).inputs = s.inputs ∧
    (s.putLot l).rst.patterns = s.rst.patterns ∧ (s.putLot l).rst.pool = s.rst.pool ∧
    (s.putLot l).rst.classes = s.rst.classes ∧ (s.putLot l).rst.rolls = s.rst.rolls ∧
    (s.putLot l).rst.order = s.rst.order ∧ (s.putLot l).rst.panels = s.rst.panels ∧
    (s.putLot l).rst.panelSerial = s.rst.panelSerial ∧ (s.putLot l).rst.line = s.rst.line ∧ (s.putLot l).lnk = s.lnk ∧
    (s.putLot l).fsu = s.fsu ∧ (s.putLot l).ltr = s.ltr ∧ (s.putLot l).pfm = s.pfm ∧ (s.putLot l).hsu = s.hsu ∧
    (s.putLot l).exu = s.exu ∧ (s.putLot l).sgv = s.sgv := by
  simp [State.putLot]

@[simp] theorem State.changePanel_frame (s : State) (k : PanelKey) (g : Panel → Panel) :
    (s.changePanel k g).pending = s.pending ∧ (s.changePanel k g).freeIdx = s.freeIdx ∧
    (s.changePanel k g).inputs = s.inputs ∧ (s.changePanel k g).rst.patterns = s.rst.patterns ∧
    (s.changePanel k g).rst.pool = s.rst.pool ∧ (s.changePanel k g).rst.classes = s.rst.classes ∧
    (s.changePanel k g).rst.rolls = s.rst.rolls ∧ (s.changePanel k g).rst.lots = s.rst.lots ∧
    (s.changePanel k g).rst.order = s.rst.order ∧ (s.changePanel k g).rst.panelSerial = s.rst.panelSerial ∧
    (s.changePanel k g).rst.line = s.rst.line ∧ (s.changePanel k g).lnk = s.lnk ∧ (s.changePanel k g).fsu = s.fsu ∧
    (s.changePanel k g).ltr = s.ltr ∧ (s.changePanel k g).pfm = s.pfm ∧ (s.changePanel k g).hsu = s.hsu ∧
    (s.changePanel k g).exu = s.exu ∧ (s.changePanel k g).sgv = s.sgv := by
  simp [State.changePanel]

@[simp] theorem State.setStation_frame (s : State) (x : Station) (v : StationState) :
    (s.setStation x v).pending = s.pending ∧ (s.setStation x v).freeIdx = s.freeIdx ∧
    (s.setStation x v).inputs = s.inputs ∧ (s.setStation x v).rst = s.rst ∧ (s.setStation x v).lnk = s.lnk ∧
    (s.setStation x v).fsu.w = s.fsu.w ∧ (s.setStation x v).fsu.web = s.fsu.web ∧
    (s.setStation x v).fsu.surfA = s.fsu.surfA ∧ (s.setStation x v).fsu.surfB = s.fsu.surfB ∧
    (s.setStation x v).fsu.phase = s.fsu.phase ∧ (s.setStation x v).fsu.outcome = s.fsu.outcome ∧
    (s.setStation x v).fsu.incoming = s.fsu.incoming ∧ (s.setStation x v).fsu.outgoing = s.fsu.outgoing ∧
    (s.setStation x v).fsu.limit = s.fsu.limit ∧ (s.setStation x v).fsu.matchCount = s.fsu.matchCount ∧
    (s.setStation x v).fsu.extend = s.fsu.extend ∧ (s.setStation x v).fsu.knife = s.fsu.knife ∧
    (s.setStation x v).fsu.locked = s.fsu.locked ∧ (s.setStation x v).fsu.lockCount = s.fsu.lockCount ∧
    (s.setStation x v).fsu.lossWatch = s.fsu.lossWatch ∧ (s.setStation x v).fsu.dancer = s.fsu.dancer ∧
    (s.setStation x v).fsu.dancerWindow = s.fsu.dancerWindow ∧ (s.setStation x v).fsu.webBreak = s.fsu.webBreak ∧
    (s.setStation x v).ltr = s.ltr ∧ (s.setStation x v).pfm = s.pfm ∧ (s.setStation x v).hsu = s.hsu ∧
    (s.setStation x v).exu = s.exu ∧ (s.setStation x v).sgv = s.sgv := by
  unfold State.setStation
  split <;> simp

@[simp] theorem State.setPort_frame (s : State) (p : Port) (v : PortState) :
    (s.setPort p v).pending = s.pending ∧ (s.setPort p v).freeIdx = s.freeIdx ∧ (s.setPort p v).inputs = s.inputs ∧
    (s.setPort p v).rst = s.rst ∧ (s.setPort p v).lnk.alerts = s.lnk.alerts ∧ (s.setPort p v).fsu = s.fsu ∧
    (s.setPort p v).ltr = s.ltr ∧ (s.setPort p v).pfm = s.pfm ∧ (s.setPort p v).hsu = s.hsu ∧
    (s.setPort p v).exu = s.exu ∧ (s.setPort p v).sgv = s.sgv := by
  unfold State.setPort
  split <;> simp

@[simp] theorem State.setSlot_frame (s : State) (p : Port) (v : Slot) :
    (s.setSlot p v).pending = s.pending ∧ (s.setSlot p v).freeIdx = s.freeIdx ∧ (s.setSlot p v).inputs = s.inputs ∧
    (s.setSlot p v).rst = s.rst ∧ (s.setSlot p v).lnk.alerts = s.lnk.alerts ∧ (s.setSlot p v).fsu = s.fsu ∧
    (s.setSlot p v).ltr = s.ltr ∧ (s.setSlot p v).pfm = s.pfm ∧ (s.setSlot p v).hsu = s.hsu ∧
    (s.setSlot p v).exu = s.exu ∧ (s.setSlot p v).sgv = s.sgv := by
  simp [State.setSlot]

@[simp] theorem State.sweep_frame (s : State) :
    s.sweep.pending = s.pending ∧ s.sweep.freeIdx = s.freeIdx ∧ s.sweep.inputs = s.inputs ∧ s.sweep.rst = s.rst ∧
    s.sweep.lnk.alerts = s.lnk.alerts ∧ s.sweep.fsu = s.fsu ∧ s.sweep.ltr = s.ltr ∧ s.sweep.pfm = s.pfm ∧
    s.sweep.hsu = s.hsu ∧ s.sweep.exu = s.exu ∧ s.sweep.sgv = s.sgv := by
  simp [State.sweep]

@[simp] theorem State.recount_frame (s : State) :
    s.recount.pending = s.pending ∧ s.recount.freeIdx = s.freeIdx ∧ s.recount.inputs = s.inputs ∧
    s.recount.rst.pool = s.rst.pool ∧ s.recount.rst.rolls = s.rst.rolls ∧ s.recount.rst.lots = s.rst.lots ∧
    s.recount.rst.order = s.rst.order ∧ s.recount.rst.panels = s.rst.panels ∧
    s.recount.rst.panelSerial = s.rst.panelSerial ∧ s.recount.rst.line = s.rst.line ∧ s.recount.lnk = s.lnk ∧
    s.recount.fsu = s.fsu ∧ s.recount.ltr = s.ltr ∧ s.recount.pfm = s.pfm ∧ s.recount.hsu = s.hsu ∧
    s.recount.exu = s.exu ∧ s.recount.sgv = s.sgv := by
  simp [State.recount]

@[simp] theorem State.freeRetired_frame (s : State) :
    s.freeRetired.pending = s.pending ∧ s.freeRetired.freeIdx = s.freeIdx ∧ s.freeRetired.inputs = s.inputs ∧
    s.freeRetired.rst.classes = s.rst.classes ∧ s.freeRetired.rst.rolls = s.rst.rolls ∧
    s.freeRetired.rst.lots = s.rst.lots ∧ s.freeRetired.rst.order = s.rst.order ∧
    s.freeRetired.rst.panels = s.rst.panels ∧ s.freeRetired.rst.panelSerial = s.rst.panelSerial ∧
    s.freeRetired.rst.line = s.rst.line ∧ s.freeRetired.lnk = s.lnk ∧ s.freeRetired.fsu = s.fsu ∧
    s.freeRetired.ltr = s.ltr ∧ s.freeRetired.pfm = s.pfm ∧ s.freeRetired.hsu = s.hsu ∧ s.freeRetired.exu = s.exu ∧
    s.freeRetired.sgv = s.sgv := by
  simp [State.freeRetired]

@[simp] theorem State.settleCounts_frame (s : State) :
    s.settleCounts.pending = s.pending ∧ s.settleCounts.freeIdx = s.freeIdx ∧ s.settleCounts.inputs = s.inputs ∧
    s.settleCounts.rst.rolls = s.rst.rolls ∧ s.settleCounts.rst.lots = s.rst.lots ∧
    s.settleCounts.rst.order = s.rst.order ∧ s.settleCounts.rst.panels = s.rst.panels ∧
    s.settleCounts.rst.panelSerial = s.rst.panelSerial ∧ s.settleCounts.rst.line = s.rst.line ∧
    s.settleCounts.lnk.alerts = s.lnk.alerts ∧ s.settleCounts.fsu = s.fsu ∧ s.settleCounts.ltr = s.ltr ∧
    s.settleCounts.pfm = s.pfm ∧ s.settleCounts.hsu = s.hsu ∧ s.settleCounts.exu = s.exu ∧
    s.settleCounts.sgv = s.sgv := by
  simp [State.settleCounts]

@[simp] theorem State.takeFree_frame (s : State) :
    s.takeFree.pending = s.pending ∧ s.takeFree.inputs = s.inputs ∧ s.takeFree.rst = s.rst ∧ s.takeFree.lnk = s.lnk ∧
    s.takeFree.fsu = s.fsu ∧ s.takeFree.ltr = s.ltr ∧ s.takeFree.pfm = s.pfm ∧ s.takeFree.hsu = s.hsu ∧
    s.takeFree.exu = s.exu ∧ s.takeFree.sgv = s.sgv := by
  simp [State.takeFree]

end Sys2Proof.Machine
end

