-- ==== Sys2Proof/Laws/Units.lean ====
section
/-! SUPPORT. What the units' operations leave as it was, one lemma for each operation, and what the end of an act
establishes. -/

namespace Sys2Proof.Machine

@[simp] theorem State.syncUnsettled_frame (s : State) :
    s.syncUnsettled.pending = s.pending ∧ s.syncUnsettled.freeIdx = s.freeIdx ∧ s.syncUnsettled.inputs = s.inputs ∧
    s.syncUnsettled.rst = s.rst ∧ s.syncUnsettled.lnk = s.lnk ∧ s.syncUnsettled.fsu = s.fsu ∧
    s.syncUnsettled.ltr = s.ltr ∧ s.syncUnsettled.pfm = s.pfm ∧ s.syncUnsettled.hsu = s.hsu ∧
    s.syncUnsettled.exu = s.exu ∧ s.syncUnsettled.sgv.gov = s.sgv.gov ∧ s.syncUnsettled.sgv.intent = s.sgv.intent ∧
    s.syncUnsettled.sgv.stops = s.sgv.stops ∧ s.syncUnsettled.sgv.trips = s.sgv.trips ∧
    s.syncUnsettled.sgv.stopPending = s.sgv.stopPending ∧ s.syncUnsettled.sgv.flatRef = s.sgv.flatRef ∧
    s.syncUnsettled.sgv.beltRef = s.sgv.beltRef ∧ s.syncUnsettled.sgv.ceiling = s.sgv.ceiling ∧
    s.syncUnsettled.sgv.standstill = s.sgv.standstill ∧ s.syncUnsettled.sgv.standWindow = s.sgv.standWindow ∧
    s.syncUnsettled.sgv.classSet = s.sgv.classSet := by
  unfold State.syncUnsettled
  split <;> simp

@[simp] theorem State.leaveRun_frame (s : State) :
    s.leaveRun.pending = s.pending ∧ s.leaveRun.freeIdx = s.freeIdx ∧ s.leaveRun.inputs = s.inputs ∧
    s.leaveRun.rst = s.rst ∧ s.leaveRun.lnk = s.lnk ∧ s.leaveRun.fsu = s.fsu ∧ s.leaveRun.ltr = s.ltr ∧
    s.leaveRun.pfm = s.pfm ∧ s.leaveRun.hsu = s.hsu ∧ s.leaveRun.exu = s.exu ∧ s.leaveRun.sgv.intent = s.sgv.intent ∧
    s.leaveRun.sgv.holds = s.sgv.holds ∧ s.leaveRun.sgv.stops = s.sgv.stops ∧ s.leaveRun.sgv.trips = s.sgv.trips ∧
    s.leaveRun.sgv.stopPending = s.sgv.stopPending ∧ s.leaveRun.sgv.flatRef = s.sgv.flatRef ∧
    s.leaveRun.sgv.beltRef = s.sgv.beltRef ∧ s.leaveRun.sgv.ceiling = s.sgv.ceiling ∧
    s.leaveRun.sgv.standstill = s.sgv.standstill ∧ s.leaveRun.sgv.standWindow = s.sgv.standWindow ∧
    s.leaveRun.sgv.classSet = s.sgv.classSet := by
  unfold State.leaveRun
  split <;> simp

@[simp] theorem State.syncStrikeCeiling_frame (s : State) :
    s.syncStrikeCeiling.pending = s.pending ∧ s.syncStrikeCeiling.freeIdx = s.freeIdx ∧
    s.syncStrikeCeiling.inputs = s.inputs ∧ s.syncStrikeCeiling.rst = s.rst ∧ s.syncStrikeCeiling.lnk = s.lnk ∧
    s.syncStrikeCeiling.fsu = s.fsu ∧ s.syncStrikeCeiling.ltr = s.ltr ∧
    s.syncStrikeCeiling.pfm.forming = s.pfm.forming ∧ s.syncStrikeCeiling.pfm.nextStart = s.pfm.nextStart ∧
    s.syncStrikeCeiling.pfm.nextStrike = s.pfm.nextStrike ∧ s.syncStrikeCeiling.pfm.cycle = s.pfm.cycle ∧
    s.syncStrikeCeiling.pfm.bladeLimit = s.pfm.bladeLimit ∧ s.syncStrikeCeiling.pfm.strikeFor = s.pfm.strikeFor ∧
    s.syncStrikeCeiling.pfm.nextWaste = s.pfm.nextWaste ∧ s.syncStrikeCeiling.pfm.stepTarget = s.pfm.stepTarget ∧
    s.syncStrikeCeiling.pfm.strike = s.pfm.strike ∧ s.syncStrikeCeiling.pfm.depths = s.pfm.depths ∧
    s.syncStrikeCeiling.hsu = s.hsu ∧ s.syncStrikeCeiling.exu = s.exu ∧ s.syncStrikeCeiling.sgv = s.sgv := by
  simp [State.syncStrikeCeiling]

@[simp] theorem State.regulate_frame (s : State) :
    s.regulate.pending = s.pending ∧ s.regulate.freeIdx = s.freeIdx ∧ s.regulate.inputs = s.inputs ∧
    s.regulate.rst = s.rst ∧ s.regulate.lnk = s.lnk ∧ s.regulate.fsu.w = s.fsu.w ∧ s.regulate.fsu.web = s.fsu.web ∧
    s.regulate.fsu.surfA = s.fsu.surfA ∧ s.regulate.fsu.surfB = s.fsu.surfB ∧ s.regulate.fsu.staA = s.fsu.staA ∧
    s.regulate.fsu.staB = s.fsu.staB ∧ s.regulate.fsu.phase = s.fsu.phase ∧ s.regulate.fsu.outcome = s.fsu.outcome ∧
    s.regulate.fsu.incoming = s.fsu.incoming ∧ s.regulate.fsu.outgoing = s.fsu.outgoing ∧
    s.regulate.fsu.limit = s.fsu.limit ∧ s.regulate.fsu.matchCount = s.fsu.matchCount ∧
    s.regulate.fsu.extend = s.fsu.extend ∧ s.regulate.fsu.knife = s.fsu.knife ∧ s.regulate.fsu.locked = s.fsu.locked ∧
    s.regulate.fsu.lockCount = s.fsu.lockCount ∧ s.regulate.fsu.lossWatch = s.fsu.lossWatch ∧
    s.regulate.fsu.dancer = s.fsu.dancer ∧ s.regulate.fsu.dancerWindow = s.fsu.dancerWindow ∧ s.regulate.ltr = s.ltr ∧
    s.regulate.pfm = s.pfm ∧ s.regulate.hsu = s.hsu ∧ s.regulate.exu = s.exu ∧ s.regulate.sgv.gov = s.sgv.gov ∧
    s.regulate.sgv.intent = s.sgv.intent ∧ s.regulate.sgv.holds = s.sgv.holds ∧ s.regulate.sgv.stops = s.sgv.stops ∧
    s.regulate.sgv.trips = s.sgv.trips ∧ s.regulate.sgv.stopPending = s.sgv.stopPending ∧
    s.regulate.sgv.standstill = s.sgv.standstill ∧ s.regulate.sgv.standWindow = s.sgv.standWindow ∧
    s.regulate.sgv.classSet = s.sgv.classSet := by
  simp [State.regulate]

@[simp] theorem State.endAct_frame (s : State) :
    s.endAct.pending = s.pending ∧ s.endAct.freeIdx = s.freeIdx ∧ s.endAct.inputs = s.inputs ∧ s.endAct.rst = s.rst ∧
    s.endAct.lnk = s.lnk ∧ s.endAct.fsu.w = s.fsu.w ∧ s.endAct.fsu.web = s.fsu.web ∧
    s.endAct.fsu.surfA = s.fsu.surfA ∧ s.endAct.fsu.surfB = s.fsu.surfB ∧ s.endAct.fsu.staA = s.fsu.staA ∧
    s.endAct.fsu.staB = s.fsu.staB ∧ s.endAct.fsu.phase = s.fsu.phase ∧ s.endAct.fsu.outcome = s.fsu.outcome ∧
    s.endAct.fsu.incoming = s.fsu.incoming ∧ s.endAct.fsu.outgoing = s.fsu.outgoing ∧
    s.endAct.fsu.limit = s.fsu.limit ∧ s.endAct.fsu.matchCount = s.fsu.matchCount ∧
    s.endAct.fsu.extend = s.fsu.extend ∧ s.endAct.fsu.knife = s.fsu.knife ∧ s.endAct.fsu.locked = s.fsu.locked ∧
    s.endAct.fsu.lockCount = s.fsu.lockCount ∧ s.endAct.fsu.lossWatch = s.fsu.lossWatch ∧
    s.endAct.fsu.dancer = s.fsu.dancer ∧ s.endAct.fsu.dancerWindow = s.fsu.dancerWindow ∧ s.endAct.ltr = s.ltr ∧
    s.endAct.pfm.forming = s.pfm.forming ∧ s.endAct.pfm.nextStart = s.pfm.nextStart ∧
    s.endAct.pfm.nextStrike = s.pfm.nextStrike ∧ s.endAct.pfm.cycle = s.pfm.cycle ∧
    s.endAct.pfm.bladeLimit = s.pfm.bladeLimit ∧ s.endAct.pfm.strikeFor = s.pfm.strikeFor ∧
    s.endAct.pfm.nextWaste = s.pfm.nextWaste ∧ s.endAct.pfm.stepTarget = s.pfm.stepTarget ∧
    s.endAct.pfm.strike = s.pfm.strike ∧ s.endAct.pfm.depths = s.pfm.depths ∧ s.endAct.hsu = s.hsu ∧
    s.endAct.exu = s.exu ∧ s.endAct.sgv.intent = s.sgv.intent ∧ s.endAct.sgv.stops = s.sgv.stops ∧
    s.endAct.sgv.trips = s.sgv.trips ∧ s.endAct.sgv.stopPending = s.sgv.stopPending ∧
    s.endAct.sgv.standstill = s.sgv.standstill ∧ s.endAct.sgv.standWindow = s.sgv.standWindow ∧
    s.endAct.sgv.classSet = s.sgv.classSet := by
  simp [State.endAct]

@[simp] theorem State.setZone_frame (s : State) (z : ZoneId) (v : Zone) :
    (s.setZone z v).pending = s.pending ∧ (s.setZone z v).freeIdx = s.freeIdx ∧ (s.setZone z v).inputs = s.inputs ∧
    (s.setZone z v).rst = s.rst ∧ (s.setZone z v).lnk = s.lnk ∧ (s.setZone z v).fsu = s.fsu ∧
    (s.setZone z v).ltr = s.ltr ∧ (s.setZone z v).pfm = s.pfm ∧ (s.setZone z v).hsu.pressure = s.hsu.pressure ∧
    (s.setZone z v).hsu.pressureReading = s.hsu.pressureReading ∧ (s.setZone z v).hsu.permit = s.hsu.permit ∧
    (s.setZone z v).exu = s.exu ∧ (s.setZone z v).sgv = s.sgv := by
  simp [State.setZone]

@[simp] theorem State.mapZones_frame (s : State) (g : ZoneId → Zone → Zone) :
    (s.mapZones g).pending = s.pending ∧ (s.mapZones g).freeIdx = s.freeIdx ∧ (s.mapZones g).inputs = s.inputs ∧
    (s.mapZones g).rst = s.rst ∧ (s.mapZones g).lnk = s.lnk ∧ (s.mapZones g).fsu = s.fsu ∧
    (s.mapZones g).ltr = s.ltr ∧ (s.mapZones g).pfm = s.pfm ∧ (s.mapZones g).hsu.pressure = s.hsu.pressure ∧
    (s.mapZones g).hsu.pressureReading = s.hsu.pressureReading ∧ (s.mapZones g).hsu.permit = s.hsu.permit ∧
    (s.mapZones g).exu = s.exu ∧ (s.mapZones g).sgv = s.sgv := by
  simp [State.mapZones]

@[simp] theorem State.takeFreeIf_frame (s : State) (c : Bool) :
    (s.takeFreeIf c).pending = s.pending ∧ (s.takeFreeIf c).inputs = s.inputs ∧ (s.takeFreeIf c).rst = s.rst ∧
    (s.takeFreeIf c).lnk = s.lnk ∧ (s.takeFreeIf c).fsu = s.fsu ∧ (s.takeFreeIf c).ltr = s.ltr ∧
    (s.takeFreeIf c).pfm = s.pfm ∧ (s.takeFreeIf c).hsu = s.hsu ∧ (s.takeFreeIf c).exu = s.exu ∧
    (s.takeFreeIf c).sgv = s.sgv := by
  unfold State.takeFreeIf
  split <;> simp

@[simp] theorem State.handClasses_frame (s : State) :
    s.handClasses.pending = s.pending ∧ s.handClasses.freeIdx = s.freeIdx ∧ s.handClasses.inputs = s.inputs ∧
    s.handClasses.rst = s.rst ∧ s.handClasses.lnk = s.lnk ∧ s.handClasses.fsu = s.fsu ∧ s.handClasses.ltr = s.ltr ∧
    s.handClasses.pfm = s.pfm ∧ s.handClasses.hsu = s.hsu ∧ s.handClasses.exu = s.exu ∧
    s.handClasses.sgv.gov = s.sgv.gov ∧ s.handClasses.sgv.intent = s.sgv.intent ∧
    s.handClasses.sgv.holds = s.sgv.holds ∧ s.handClasses.sgv.stops = s.sgv.stops ∧
    s.handClasses.sgv.trips = s.sgv.trips ∧ s.handClasses.sgv.stopPending = s.sgv.stopPending ∧
    s.handClasses.sgv.flatRef = s.sgv.flatRef ∧ s.handClasses.sgv.beltRef = s.sgv.beltRef ∧
    s.handClasses.sgv.ceiling = s.sgv.ceiling ∧ s.handClasses.sgv.standstill = s.sgv.standstill ∧
    s.handClasses.sgv.standWindow = s.sgv.standWindow := by
  simp [State.handClasses]

@[simp] theorem State.retarget_frame (s : State) :
    s.retarget.pending = s.pending ∧ s.retarget.inputs = s.inputs ∧ s.retarget.rst = s.rst ∧ s.retarget.lnk = s.lnk ∧
    s.retarget.fsu = s.fsu ∧ s.retarget.ltr = s.ltr ∧ s.retarget.pfm = s.pfm ∧
    s.retarget.hsu.pressure = s.hsu.pressure ∧ s.retarget.hsu.pressureReading = s.hsu.pressureReading ∧
    s.retarget.hsu.permit = s.hsu.permit ∧ s.retarget.exu = s.exu ∧ s.retarget.sgv.gov = s.sgv.gov ∧
    s.retarget.sgv.intent = s.sgv.intent ∧ s.retarget.sgv.holds = s.sgv.holds ∧ s.retarget.sgv.stops = s.sgv.stops ∧
    s.retarget.sgv.trips = s.sgv.trips ∧ s.retarget.sgv.stopPending = s.sgv.stopPending ∧
    s.retarget.sgv.flatRef = s.sgv.flatRef ∧ s.retarget.sgv.beltRef = s.sgv.beltRef ∧
    s.retarget.sgv.ceiling = s.sgv.ceiling ∧ s.retarget.sgv.standstill = s.sgv.standstill ∧
    s.retarget.sgv.standWindow = s.sgv.standWindow := by
  unfold State.retarget
  split <;> simp

@[simp] theorem State.zonesToStandby_frame (s : State) :
    s.zonesToStandby.pending = s.pending ∧ s.zonesToStandby.freeIdx = s.freeIdx ∧ s.zonesToStandby.inputs = s.inputs ∧
    s.zonesToStandby.rst = s.rst ∧ s.zonesToStandby.lnk = s.lnk ∧ s.zonesToStandby.fsu = s.fsu ∧
    s.zonesToStandby.ltr = s.ltr ∧ s.zonesToStandby.pfm = s.pfm ∧ s.zonesToStandby.hsu.pressure = s.hsu.pressure ∧
    s.zonesToStandby.hsu.pressureReading = s.hsu.pressureReading ∧ s.zonesToStandby.hsu.permit = s.hsu.permit ∧
    s.zonesToStandby.exu = s.exu ∧ s.zonesToStandby.sgv = s.sgv := by
  simp [State.zonesToStandby]

@[simp] theorem State.zonesToWarming_frame (s : State) :
    s.zonesToWarming.pending = s.pending ∧ s.zonesToWarming.inputs = s.inputs ∧ s.zonesToWarming.rst = s.rst ∧
    s.zonesToWarming.lnk = s.lnk ∧ s.zonesToWarming.fsu = s.fsu ∧ s.zonesToWarming.ltr = s.ltr ∧
    s.zonesToWarming.pfm = s.pfm ∧ s.zonesToWarming.hsu.pressure = s.hsu.pressure ∧
    s.zonesToWarming.hsu.pressureReading = s.hsu.pressureReading ∧ s.zonesToWarming.hsu.permit = s.hsu.permit ∧
    s.zonesToWarming.exu = s.exu ∧ s.zonesToWarming.sgv = s.sgv := by
  simp [State.zonesToWarming]

@[simp] theorem State.zonesOff_frame (s : State) :
    s.zonesOff.pending = s.pending ∧ s.zonesOff.freeIdx = s.freeIdx ∧ s.zonesOff.inputs = s.inputs ∧
    s.zonesOff.rst = s.rst ∧ s.zonesOff.lnk = s.lnk ∧ s.zonesOff.fsu = s.fsu ∧ s.zonesOff.ltr = s.ltr ∧
    s.zonesOff.pfm = s.pfm ∧ s.zonesOff.hsu.pressure = s.hsu.pressure ∧
    s.zonesOff.hsu.pressureReading = s.hsu.pressureReading ∧ s.zonesOff.hsu.permit = s.hsu.permit ∧
    s.zonesOff.exu = s.exu ∧ s.zonesOff.sgv = s.sgv := by
  simp [State.zonesOff]

@[simp] theorem State.heatOff_frame (s : State) :
    s.heatOff.pending = s.pending ∧ s.heatOff.freeIdx = s.freeIdx ∧ s.heatOff.inputs = s.inputs ∧
    s.heatOff.rst.patterns = s.rst.patterns ∧ s.heatOff.rst.pool = s.rst.pool ∧
    s.heatOff.rst.classes = s.rst.classes ∧ s.heatOff.rst.rolls = s.rst.rolls ∧ s.heatOff.rst.lots = s.rst.lots ∧
    s.heatOff.rst.order = s.rst.order ∧ s.heatOff.rst.panels = s.rst.panels ∧
    s.heatOff.rst.panelSerial = s.rst.panelSerial ∧ s.heatOff.lnk = s.lnk ∧ s.heatOff.fsu = s.fsu ∧
    s.heatOff.ltr = s.ltr ∧ s.heatOff.pfm = s.pfm ∧ s.heatOff.hsu.pressure = s.hsu.pressure ∧
    s.heatOff.hsu.pressureReading = s.hsu.pressureReading ∧ s.heatOff.exu = s.exu ∧ s.heatOff.sgv = s.sgv := by
  simp [State.heatOff]

@[simp] theorem State.heatOn_frame (s : State) :
    s.heatOn.pending = s.pending ∧ s.heatOn.inputs = s.inputs ∧ s.heatOn.rst.patterns = s.rst.patterns ∧
    s.heatOn.rst.pool = s.rst.pool ∧ s.heatOn.rst.classes = s.rst.classes ∧ s.heatOn.rst.rolls = s.rst.rolls ∧
    s.heatOn.rst.lots = s.rst.lots ∧ s.heatOn.rst.order = s.rst.order ∧ s.heatOn.rst.panels = s.rst.panels ∧
    s.heatOn.rst.panelSerial = s.rst.panelSerial ∧ s.heatOn.lnk.sup = s.lnk.sup ∧ s.heatOn.lnk.pen = s.lnk.pen ∧
    s.heatOn.fsu = s.fsu ∧ s.heatOn.ltr = s.ltr ∧ s.heatOn.pfm = s.pfm ∧ s.heatOn.hsu.pressure = s.hsu.pressure ∧
    s.heatOn.hsu.pressureReading = s.hsu.pressureReading ∧ s.heatOn.exu = s.exu ∧ s.heatOn.sgv = s.sgv := by
  unfold State.heatOn
  dsimp only
  (repeat' split) <;> simp

@[simp] theorem State.heatEStop_frame (s : State) :
    s.heatEStop.pending = s.pending ∧ s.heatEStop.freeIdx = s.freeIdx ∧ s.heatEStop.inputs = s.inputs ∧
    s.heatEStop.rst.patterns = s.rst.patterns ∧ s.heatEStop.rst.pool = s.rst.pool ∧
    s.heatEStop.rst.classes = s.rst.classes ∧ s.heatEStop.rst.rolls = s.rst.rolls ∧
    s.heatEStop.rst.lots = s.rst.lots ∧ s.heatEStop.rst.order = s.rst.order ∧ s.heatEStop.rst.panels = s.rst.panels ∧
    s.heatEStop.rst.panelSerial = s.rst.panelSerial ∧ s.heatEStop.lnk = s.lnk ∧ s.heatEStop.fsu = s.fsu ∧
    s.heatEStop.ltr = s.ltr ∧ s.heatEStop.pfm = s.pfm ∧ s.heatEStop.hsu.pressure = s.hsu.pressure ∧
    s.heatEStop.hsu.pressureReading = s.hsu.pressureReading ∧ s.heatEStop.exu = s.exu ∧ s.heatEStop.sgv = s.sgv := by
  simp [State.heatEStop]

@[simp] theorem State.takePressure_frame (s : State) (n : ℕ) :
    (s.takePressure n).pending = s.pending ∧ (s.takePressure n).freeIdx = s.freeIdx ∧
    (s.takePressure n).inputs = s.inputs ∧ (s.takePressure n).rst = s.rst ∧ (s.takePressure n).lnk.sup = s.lnk.sup ∧
    (s.takePressure n).lnk.pen = s.lnk.pen ∧ (s.takePressure n).fsu = s.fsu ∧ (s.takePressure n).ltr = s.ltr ∧
    (s.takePressure n).pfm = s.pfm ∧ (s.takePressure n).hsu.zones = s.hsu.zones ∧
    (s.takePressure n).hsu.permit = s.hsu.permit ∧ (s.takePressure n).exu = s.exu ∧
    (s.takePressure n).sgv.gov = s.sgv.gov ∧ (s.takePressure n).sgv.intent = s.sgv.intent ∧
    (s.takePressure n).sgv.stops = s.sgv.stops ∧ (s.takePressure n).sgv.trips = s.sgv.trips ∧
    (s.takePressure n).sgv.stopPending = s.sgv.stopPending ∧ (s.takePressure n).sgv.flatRef = s.sgv.flatRef ∧
    (s.takePressure n).sgv.beltRef = s.sgv.beltRef ∧ (s.takePressure n).sgv.ceiling = s.sgv.ceiling ∧
    (s.takePressure n).sgv.standstill = s.sgv.standstill ∧ (s.takePressure n).sgv.standWindow = s.sgv.standWindow ∧
    (s.takePressure n).sgv.classSet = s.sgv.classSet := by
  unfold State.takePressure
  dsimp only
  (repeat' split) <;> simp

@[simp] theorem State.accrue_frame (s : State) :
    s.accrue.pending = s.pending ∧ s.accrue.freeIdx = s.freeIdx ∧ s.accrue.inputs = s.inputs ∧
    s.accrue.rst.patterns = s.rst.patterns ∧ s.accrue.rst.pool = s.rst.pool ∧ s.accrue.rst.classes = s.rst.classes ∧
    s.accrue.rst.rolls = s.rst.rolls ∧ s.accrue.rst.lots = s.rst.lots ∧ s.accrue.rst.order = s.rst.order ∧
    s.accrue.rst.panelSerial = s.rst.panelSerial ∧ s.accrue.rst.line = s.rst.line ∧ s.accrue.lnk = s.lnk ∧
    s.accrue.fsu = s.fsu ∧ s.accrue.ltr = s.ltr ∧ s.accrue.pfm = s.pfm ∧ s.accrue.hsu = s.hsu ∧ s.accrue.exu = s.exu ∧
    s.accrue.sgv = s.sgv := by
  simp [State.accrue]

@[simp] theorem State.setpointCommitted_frame (s : State) (c : ℕ) (z : ZoneId) (t : ℕ) :
    (s.setpointCommitted c z t).pending = s.pending ∧ (s.setpointCommitted c z t).freeIdx = s.freeIdx ∧
    (s.setpointCommitted c z t).inputs = s.inputs ∧ (s.setpointCommitted c z t).rst = s.rst ∧
    (s.setpointCommitted c z t).lnk = s.lnk ∧ (s.setpointCommitted c z t).fsu = s.fsu ∧
    (s.setpointCommitted c z t).ltr = s.ltr ∧ (s.setpointCommitted c z t).pfm = s.pfm ∧
    (s.setpointCommitted c z t).hsu.pressure = s.hsu.pressure ∧
    (s.setpointCommitted c z t).hsu.pressureReading = s.hsu.pressureReading ∧
    (s.setpointCommitted c z t).hsu.permit = s.hsu.permit ∧ (s.setpointCommitted c z t).exu = s.exu ∧
    (s.setpointCommitted c z t).sgv = s.sgv := by
  unfold State.setpointCommitted
  dsimp only
  (repeat' split) <;> simp

@[simp] theorem State.classFreed_frame (s : State) (c : ℕ) :
    (s.classFreed c).pending = s.pending ∧ (s.classFreed c).inputs = s.inputs ∧ (s.classFreed c).rst = s.rst ∧
    (s.classFreed c).lnk = s.lnk ∧ (s.classFreed c).fsu = s.fsu ∧ (s.classFreed c).ltr = s.ltr ∧
    (s.classFreed c).pfm = s.pfm ∧ (s.classFreed c).hsu.pressure = s.hsu.pressure ∧
    (s.classFreed c).hsu.pressureReading = s.hsu.pressureReading ∧ (s.classFreed c).hsu.permit = s.hsu.permit ∧
    (s.classFreed c).exu = s.exu ∧ (s.classFreed c).sgv.gov = s.sgv.gov ∧ (s.classFreed c).sgv.intent = s.sgv.intent ∧
    (s.classFreed c).sgv.holds = s.sgv.holds ∧ (s.classFreed c).sgv.stops = s.sgv.stops ∧
    (s.classFreed c).sgv.trips = s.sgv.trips ∧ (s.classFreed c).sgv.stopPending = s.sgv.stopPending ∧
    (s.classFreed c).sgv.flatRef = s.sgv.flatRef ∧ (s.classFreed c).sgv.beltRef = s.sgv.beltRef ∧
    (s.classFreed c).sgv.ceiling = s.sgv.ceiling ∧ (s.classFreed c).sgv.standstill = s.sgv.standstill ∧
    (s.classFreed c).sgv.standWindow = s.sgv.standWindow := by
  simp [State.classFreed]

@[simp] theorem State.leaveOrder_frame (s : State) (n : ℕ) :
    (s.leaveOrder n).pending = s.pending ∧ (s.leaveOrder n).freeIdx = s.freeIdx ∧ (s.leaveOrder n).inputs = s.inputs ∧
    (s.leaveOrder n).rst.patterns = s.rst.patterns ∧ (s.leaveOrder n).rst.pool = s.rst.pool ∧
    (s.leaveOrder n).rst.classes = s.rst.classes ∧ (s.leaveOrder n).rst.rolls = s.rst.rolls ∧
    (s.leaveOrder n).rst.lots = s.rst.lots ∧ (s.leaveOrder n).rst.panels = s.rst.panels ∧
    (s.leaveOrder n).rst.panelSerial = s.rst.panelSerial ∧ (s.leaveOrder n).rst.line = s.rst.line ∧
    (s.leaveOrder n).lnk = s.lnk ∧ (s.leaveOrder n).fsu = s.fsu ∧ (s.leaveOrder n).ltr = s.ltr ∧
    (s.leaveOrder n).pfm = s.pfm ∧ (s.leaveOrder n).hsu = s.hsu ∧ (s.leaveOrder n).exu = s.exu ∧
    (s.leaveOrder n).sgv = s.sgv := by
  simp [State.leaveOrder]

@[simp] theorem State.placeInOrder_frame (s : State) (n : ℕ) :
    (s.placeInOrder n).pending = s.pending ∧ (s.placeInOrder n).freeIdx = s.freeIdx ∧
    (s.placeInOrder n).inputs = s.inputs ∧ (s.placeInOrder n).rst.patterns = s.rst.patterns ∧
    (s.placeInOrder n).rst.pool = s.rst.pool ∧ (s.placeInOrder n).rst.classes = s.rst.classes ∧
    (s.placeInOrder n).rst.rolls = s.rst.rolls ∧ (s.placeInOrder n).rst.lots = s.rst.lots ∧
    (s.placeInOrder n).rst.panels = s.rst.panels ∧ (s.placeInOrder n).rst.panelSerial = s.rst.panelSerial ∧
    (s.placeInOrder n).rst.line = s.rst.line ∧ (s.placeInOrder n).lnk = s.lnk ∧ (s.placeInOrder n).fsu = s.fsu ∧
    (s.placeInOrder n).ltr = s.ltr ∧ (s.placeInOrder n).pfm = s.pfm ∧ (s.placeInOrder n).hsu = s.hsu ∧
    (s.placeInOrder n).exu = s.exu ∧ (s.placeInOrder n).sgv = s.sgv := by
  simp [State.placeInOrder]

@[simp] theorem State.moveInOrder_frame (s : State) (n : ℕ) (place : ℕ) :
    (s.moveInOrder n place).pending = s.pending ∧ (s.moveInOrder n place).freeIdx = s.freeIdx ∧
    (s.moveInOrder n place).inputs = s.inputs ∧ (s.moveInOrder n place).rst.patterns = s.rst.patterns ∧
    (s.moveInOrder n place).rst.pool = s.rst.pool ∧ (s.moveInOrder n place).rst.classes = s.rst.classes ∧
    (s.moveInOrder n place).rst.rolls = s.rst.rolls ∧ (s.moveInOrder n place).rst.lots = s.rst.lots ∧
    (s.moveInOrder n place).rst.panels = s.rst.panels ∧ (s.moveInOrder n place).rst.panelSerial = s.rst.panelSerial ∧
    (s.moveInOrder n place).rst.line = s.rst.line ∧ (s.moveInOrder n place).lnk = s.lnk ∧
    (s.moveInOrder n place).fsu = s.fsu ∧ (s.moveInOrder n place).ltr = s.ltr ∧ (s.moveInOrder n place).pfm = s.pfm ∧
    (s.moveInOrder n place).hsu = s.hsu ∧ (s.moveInOrder n place).exu = s.exu ∧
    (s.moveInOrder n place).sgv = s.sgv := by
  unfold State.moveInOrder
  split <;> simp

@[simp] theorem State.testCompletion_frame (s : State) (n : ℕ) :
    (s.testCompletion n).pending = s.pending ∧ (s.testCompletion n).freeIdx = s.freeIdx ∧
    (s.testCompletion n).inputs = s.inputs ∧ (s.testCompletion n).rst.rolls = s.rst.rolls ∧
    (s.testCompletion n).rst.panels = s.rst.panels ∧ (s.testCompletion n).rst.panelSerial = s.rst.panelSerial ∧
    (s.testCompletion n).rst.line = s.rst.line ∧ (s.testCompletion n).lnk.alerts = s.lnk.alerts ∧
    (s.testCompletion n).fsu = s.fsu ∧ (s.testCompletion n).ltr = s.ltr ∧ (s.testCompletion n).pfm = s.pfm ∧
    (s.testCompletion n).hsu = s.hsu ∧ (s.testCompletion n).exu = s.exu ∧ (s.testCompletion n).sgv = s.sgv := by
  unfold State.testCompletion
  (repeat' split) <;> simp

@[simp] theorem State.tallyPanel_frame (s : State) (p : Panel) (v : Verdict) :
    (s.tallyPanel p v).pending = s.pending ∧ (s.tallyPanel p v).freeIdx = s.freeIdx ∧
    (s.tallyPanel p v).inputs = s.inputs ∧ (s.tallyPanel p v).rst.patterns = s.rst.patterns ∧
    (s.tallyPanel p v).rst.pool = s.rst.pool ∧ (s.tallyPanel p v).rst.classes = s.rst.classes ∧
    (s.tallyPanel p v).rst.rolls = s.rst.rolls ∧ (s.tallyPanel p v).rst.order = s.rst.order ∧
    (s.tallyPanel p v).rst.panels = s.rst.panels ∧ (s.tallyPanel p v).rst.panelSerial = s.rst.panelSerial ∧
    (s.tallyPanel p v).rst.line = s.rst.line ∧ (s.tallyPanel p v).lnk = s.lnk ∧ (s.tallyPanel p v).fsu = s.fsu ∧
    (s.tallyPanel p v).ltr = s.ltr ∧ (s.tallyPanel p v).pfm = s.pfm ∧ (s.tallyPanel p v).hsu = s.hsu ∧
    (s.tallyPanel p v).exu = s.exu ∧ (s.tallyPanel p v).sgv = s.sgv := by
  unfold State.tallyPanel
  (repeat' split) <;> simp

/-- The least of a list: none for the empty one, else the member that no member lies below (R112). -/
theorem leastOf_spec (xs : List Nat) :
    (leastOf xs = none ↔ xs = []) ∧ ∀ x, leastOf xs = some x → x ∈ xs ∧ ∀ y ∈ xs, x ≤ y := by
  induction xs with
  | nil => exact ⟨⟨fun _ => rfl, fun _ => rfl⟩, fun x h => nomatch h⟩
  | cons a as ih =>
    rw [leastOf]
    cases h : leastOf as with
    | none =>
      obtain rfl := ih.1.mp h
      simp
    | some b =>
      obtain ⟨hb, hle⟩ := ih.2 b h
      refine ⟨by simp, fun x hx => ?_⟩
      obtain rfl : min a b = x := Option.some.inj hx
      refine ⟨?_, fun y hy => ?_⟩
      · rcases Nat.le_total a b with hab | hab
        · rw [Nat.min_eq_left hab]; exact List.mem_cons_self
        · rw [Nat.min_eq_right hab]; exact List.mem_cons_of_mem a hb
      · rcases List.mem_cons.mp hy with rfl | hy
        · exact Nat.min_le_left _ _
        · exact Nat.le_trans (Nat.min_le_right _ _) (hle y hy)

/-- The panel farthest past the blade bank: none of none, else the first of those at the greatest distance (R117). -/
theorem farthest_spec (b : Coord) (ps : List Panel) :
    (farthest b ps = none ↔ ps = []) ∧ ∀ q, farthest b ps = some q → ∃ before after, ps = before ++ q :: after ∧
      (∀ x ∈ before, x.midDistance b < q.midDistance b) ∧ ∀ x ∈ after, x.midDistance b ≤ q.midDistance b := by
  induction ps with
  | nil => exact ⟨⟨fun _ => rfl, fun _ => rfl⟩, fun q h => nomatch h⟩
  | cons p ps ih =>
    rw [farthest]
    cases h : farthest b ps with
    | none =>
      obtain rfl := ih.1.mp h
      refine ⟨by simp, fun q hq => ⟨[], [], ?_, by simp, by simp⟩⟩
      rw [Option.some.inj hq]; rfl
    | some r =>
      obtain ⟨before, after, hps, hbefore, hafter⟩ := ih.2 r h
      simp only
      split
      · next hlt =>
        refine ⟨by simp, fun q hq => ⟨p :: before, after, ?_, ?_, ?_⟩⟩ <;> obtain rfl := Option.some.inj hq
        · rw [hps]; rfl
        · intro x hx
          rcases List.mem_cons.mp hx with rfl | hx
          · exact hlt
          · exact hbefore x hx
        · exact hafter
      · next hge =>
        refine ⟨by simp, fun q hq => ⟨[], ps, ?_, by simp, ?_⟩⟩ <;> obtain rfl := Option.some.inj hq
        · rfl
        · intro x hx
          rw [hps] at hx
          rcases List.mem_append.mp hx with hx | hx
          · exact Int.le_trans (Int.le_of_lt (hbefore x hx)) (Int.not_lt.mp hge)
          · rcases List.mem_cons.mp hx with rfl | hx
            · exact Int.not_lt.mp hge
            · exact Int.le_trans (hafter x hx) (Int.not_lt.mp hge)

/-- What is kept is within what is planned (R94). -/
theorem keepStarted_le_planned (started planned n : Nat) : keepStarted started planned n ≤ planned :=
  Nat.min_le_left _ _

/-- No started panel is cut off (R94). -/
theorem started_le_keepStarted (started planned n : Nat) (h : started ≤ planned) : started ≤ keepStarted started planned n :=
  Nat.le_min.mpr ⟨h, Nat.le_max_left _ _⟩

/-- Where what has started lies within the formula's count and that within planned, the count stands (R89, R91, R92). -/
theorem keepStarted_eq (started planned n : Nat) (h : started ≤ n) (h' : n ≤ planned) : keepStarted started planned n = n := by
  unfold keepStarted; omega

/-- A lot cut to `kept` panels plans `kept`, where its counts agree (R78, R91). -/
theorem Lot.cutTo_planned (l : Lot) (kept flatLen : Nat) (h : l.planned + l.cancelled = l.ordered.getD 0 + l.makeupUsed)
    (h' : kept ≤ l.planned) : (l.cutTo kept flatLen).planned = kept := by
  show l.ordered.getD 0 + l.makeupUsed - (l.cancelled + (l.planned - kept)) = kept
  omega

@[simp] theorem State.cancelLot_frame (s : State) (l : Lot) :
    (s.cancelLot l).pending = s.pending ∧ (s.cancelLot l).freeIdx = s.freeIdx ∧ (s.cancelLot l).inputs = s.inputs ∧
    (s.cancelLot l).rst.patterns = s.rst.patterns ∧ (s.cancelLot l).rst.pool = s.rst.pool ∧
    (s.cancelLot l).rst.classes = s.rst.classes ∧ (s.cancelLot l).rst.rolls = s.rst.rolls ∧
    (s.cancelLot l).rst.order = s.rst.order ∧ (s.cancelLot l).rst.panels = s.rst.panels ∧
    (s.cancelLot l).rst.panelSerial = s.rst.panelSerial ∧ (s.cancelLot l).rst.line = s.rst.line ∧
    (s.cancelLot l).lnk = s.lnk ∧ (s.cancelLot l).fsu = s.fsu ∧ (s.cancelLot l).ltr = s.ltr ∧
    (s.cancelLot l).pfm = s.pfm ∧ (s.cancelLot l).hsu = s.hsu ∧ (s.cancelLot l).exu = s.exu ∧
    (s.cancelLot l).sgv = s.sgv := by
  unfold State.cancelLot
  split <;> simp

@[simp] theorem State.passCutFault_frame (s : State) (serial : ℕ) :
    (s.passCutFault serial).pending = s.pending ∧ (s.passCutFault serial).freeIdx = s.freeIdx ∧
    (s.passCutFault serial).inputs = s.inputs ∧ (s.passCutFault serial).rst.patterns = s.rst.patterns ∧
    (s.passCutFault serial).rst.pool = s.rst.pool ∧ (s.passCutFault serial).rst.classes = s.rst.classes ∧
    (s.passCutFault serial).rst.rolls = s.rst.rolls ∧ (s.passCutFault serial).rst.lots = s.rst.lots ∧
    (s.passCutFault serial).rst.order = s.rst.order ∧ (s.passCutFault serial).rst.panelSerial = s.rst.panelSerial ∧
    (s.passCutFault serial).rst.line = s.rst.line ∧ (s.passCutFault serial).lnk = s.lnk ∧
    (s.passCutFault serial).fsu = s.fsu ∧ (s.passCutFault serial).ltr = s.ltr ∧ (s.passCutFault serial).pfm = s.pfm ∧
    (s.passCutFault serial).hsu = s.hsu ∧ (s.passCutFault serial).exu.b = s.exu.b ∧
    (s.passCutFault serial).exu.belt = s.exu.belt ∧ (s.passCutFault serial).exu.cycle = s.exu.cycle ∧
    (s.passCutFault serial).exu.limit = s.exu.limit ∧ (s.passCutFault serial).exu.cutSerial = s.exu.cutSerial ∧
    (s.passCutFault serial).exu.last = s.exu.last ∧ (s.passCutFault serial).exu.cut = s.exu.cut ∧
    (s.passCutFault serial).exu.divert = s.exu.divert ∧ (s.passCutFault serial).sgv = s.sgv := by
  unfold State.passCutFault
  (repeat' split) <;> simp

@[simp] theorem State.removePanel_frame (s : State) (serial : ℕ) :
    (s.removePanel serial).pending = s.pending ∧ (s.removePanel serial).freeIdx = s.freeIdx ∧
    (s.removePanel serial).inputs = s.inputs ∧ (s.removePanel serial).rst.patterns = s.rst.patterns ∧
    (s.removePanel serial).rst.pool = s.rst.pool ∧ (s.removePanel serial).rst.classes = s.rst.classes ∧
    (s.removePanel serial).rst.rolls = s.rst.rolls ∧ (s.removePanel serial).rst.lots = s.rst.lots ∧
    (s.removePanel serial).rst.order = s.rst.order ∧ (s.removePanel serial).rst.panelSerial = s.rst.panelSerial ∧
    (s.removePanel serial).rst.line = s.rst.line ∧ (s.removePanel serial).lnk.alerts = s.lnk.alerts ∧
    (s.removePanel serial).fsu = s.fsu ∧ (s.removePanel serial).ltr = s.ltr ∧ (s.removePanel serial).pfm = s.pfm ∧
    (s.removePanel serial).hsu = s.hsu ∧ (s.removePanel serial).exu = s.exu ∧ (s.removePanel serial).sgv = s.sgv := by
  simp [State.removePanel]

@[simp] theorem State.setLast_frame (s : State) (d : Disposition) :
    (s.setLast d).pending = s.pending ∧ (s.setLast d).freeIdx = s.freeIdx ∧ (s.setLast d).inputs = s.inputs ∧
    (s.setLast d).rst = s.rst ∧ (s.setLast d).lnk = s.lnk ∧ (s.setLast d).fsu = s.fsu ∧ (s.setLast d).ltr = s.ltr ∧
    (s.setLast d).pfm = s.pfm ∧ (s.setLast d).hsu = s.hsu ∧ (s.setLast d).exu.b = s.exu.b ∧
    (s.setLast d).exu.belt = s.exu.belt ∧ (s.setLast d).exu.cycle = s.exu.cycle ∧
    (s.setLast d).exu.limit = s.exu.limit ∧ (s.setLast d).exu.cutSerial = s.exu.cutSerial ∧
    (s.setLast d).exu.pendingFault = s.exu.pendingFault ∧ (s.setLast d).exu.cut = s.exu.cut ∧
    (s.setLast d).exu.divert = s.exu.divert ∧ (s.setLast d).sgv = s.sgv := by
  simp [State.setLast]

@[simp] theorem State.setDivert_frame (s : State) (v : Bool) :
    (s.setDivert v).pending = s.pending ∧ (s.setDivert v).freeIdx = s.freeIdx ∧ (s.setDivert v).inputs = s.inputs ∧
    (s.setDivert v).rst = s.rst ∧ (s.setDivert v).lnk = s.lnk ∧ (s.setDivert v).fsu = s.fsu ∧
    (s.setDivert v).ltr = s.ltr ∧ (s.setDivert v).pfm = s.pfm ∧ (s.setDivert v).hsu = s.hsu ∧
    (s.setDivert v).exu.b = s.exu.b ∧ (s.setDivert v).exu.belt = s.exu.belt ∧
    (s.setDivert v).exu.cycle = s.exu.cycle ∧ (s.setDivert v).exu.limit = s.exu.limit ∧
    (s.setDivert v).exu.cutSerial = s.exu.cutSerial ∧ (s.setDivert v).exu.pendingFault = s.exu.pendingFault ∧
    (s.setDivert v).exu.last = s.exu.last ∧ (s.setDivert v).exu.cut = s.exu.cut ∧ (s.setDivert v).sgv = s.sgv := by
  simp [State.setDivert]

@[simp] theorem State.retirePanel_frame (s : State) (p : Panel) (v : Verdict) :
    (s.retirePanel p v).pending = s.pending ∧ (s.retirePanel p v).inputs = s.inputs ∧
    (s.retirePanel p v).rst.rolls = s.rst.rolls ∧ (s.retirePanel p v).rst.panelSerial = s.rst.panelSerial ∧
    (s.retirePanel p v).rst.line = s.rst.line ∧ (s.retirePanel p v).lnk.alerts = s.lnk.alerts ∧
    (s.retirePanel p v).fsu = s.fsu ∧ (s.retirePanel p v).ltr = s.ltr ∧ (s.retirePanel p v).pfm = s.pfm ∧
    (s.retirePanel p v).hsu.pressure = s.hsu.pressure ∧
    (s.retirePanel p v).hsu.pressureReading = s.hsu.pressureReading ∧ (s.retirePanel p v).hsu.permit = s.hsu.permit ∧
    (s.retirePanel p v).exu.b = s.exu.b ∧ (s.retirePanel p v).exu.belt = s.exu.belt ∧
    (s.retirePanel p v).exu.cycle = s.exu.cycle ∧ (s.retirePanel p v).exu.limit = s.exu.limit ∧
    (s.retirePanel p v).exu.cutSerial = s.exu.cutSerial ∧ (s.retirePanel p v).exu.pendingFault = s.exu.pendingFault ∧
    (s.retirePanel p v).exu.cut = s.exu.cut ∧ (s.retirePanel p v).exu.divert = s.exu.divert ∧
    (s.retirePanel p v).sgv.gov = s.sgv.gov ∧ (s.retirePanel p v).sgv.intent = s.sgv.intent ∧
    (s.retirePanel p v).sgv.holds = s.sgv.holds ∧ (s.retirePanel p v).sgv.stops = s.sgv.stops ∧
    (s.retirePanel p v).sgv.trips = s.sgv.trips ∧ (s.retirePanel p v).sgv.stopPending = s.sgv.stopPending ∧
    (s.retirePanel p v).sgv.flatRef = s.sgv.flatRef ∧ (s.retirePanel p v).sgv.beltRef = s.sgv.beltRef ∧
    (s.retirePanel p v).sgv.ceiling = s.sgv.ceiling ∧ (s.retirePanel p v).sgv.standstill = s.sgv.standstill ∧
    (s.retirePanel p v).sgv.standWindow = s.sgv.standWindow := by
  unfold State.retirePanel
  split <;> simp

@[simp] theorem State.retireEarly_frame (s : State) (p : Panel) :
    (s.retireEarly p).pending = s.pending ∧ (s.retireEarly p).inputs = s.inputs ∧
    (s.retireEarly p).rst.rolls = s.rst.rolls ∧ (s.retireEarly p).rst.panelSerial = s.rst.panelSerial ∧
    (s.retireEarly p).rst.line = s.rst.line ∧ (s.retireEarly p).fsu = s.fsu ∧ (s.retireEarly p).ltr = s.ltr ∧
    (s.retireEarly p).pfm = s.pfm ∧ (s.retireEarly p).hsu.pressure = s.hsu.pressure ∧
    (s.retireEarly p).hsu.pressureReading = s.hsu.pressureReading ∧ (s.retireEarly p).hsu.permit = s.hsu.permit ∧
    (s.retireEarly p).exu.b = s.exu.b ∧ (s.retireEarly p).exu.belt = s.exu.belt ∧
    (s.retireEarly p).exu.cycle = s.exu.cycle ∧ (s.retireEarly p).exu.limit = s.exu.limit ∧
    (s.retireEarly p).exu.cutSerial = s.exu.cutSerial ∧ (s.retireEarly p).exu.cut = s.exu.cut ∧
    (s.retireEarly p).exu.divert = s.exu.divert ∧ (s.retireEarly p).sgv.gov = s.sgv.gov ∧
    (s.retireEarly p).sgv.intent = s.sgv.intent ∧ (s.retireEarly p).sgv.holds = s.sgv.holds ∧
    (s.retireEarly p).sgv.stops = s.sgv.stops ∧ (s.retireEarly p).sgv.trips = s.sgv.trips ∧
    (s.retireEarly p).sgv.stopPending = s.sgv.stopPending ∧ (s.retireEarly p).sgv.flatRef = s.sgv.flatRef ∧
    (s.retireEarly p).sgv.beltRef = s.sgv.beltRef ∧ (s.retireEarly p).sgv.ceiling = s.sgv.ceiling ∧
    (s.retireEarly p).sgv.standstill = s.sgv.standstill ∧ (s.retireEarly p).sgv.standWindow = s.sgv.standWindow := by
  simp [State.retireEarly]

@[simp] theorem State.beginCut_frame (s : State) (serial : ℕ) :
    (s.beginCut serial).pending = s.pending ∧ (s.beginCut serial).freeIdx = s.freeIdx ∧
    (s.beginCut serial).inputs = s.inputs ∧ (s.beginCut serial).rst = s.rst ∧ (s.beginCut serial).lnk = s.lnk ∧
    (s.beginCut serial).fsu = s.fsu ∧ (s.beginCut serial).ltr = s.ltr ∧ (s.beginCut serial).pfm = s.pfm ∧
    (s.beginCut serial).hsu = s.hsu ∧ (s.beginCut serial).exu.b = s.exu.b ∧
    (s.beginCut serial).exu.belt = s.exu.belt ∧ (s.beginCut serial).exu.pendingFault = s.exu.pendingFault ∧
    (s.beginCut serial).exu.last = s.exu.last ∧ (s.beginCut serial).exu.divert = s.exu.divert ∧
    (s.beginCut serial).sgv = s.sgv := by
  simp [State.beginCut]

@[simp] theorem State.uncutTail_frame (s : State) (serial : ℕ) :
    (s.uncutTail serial).pending = s.pending ∧ (s.uncutTail serial).freeIdx = s.freeIdx ∧
    (s.uncutTail serial).inputs = s.inputs ∧ (s.uncutTail serial).rst.patterns = s.rst.patterns ∧
    (s.uncutTail serial).rst.pool = s.rst.pool ∧ (s.uncutTail serial).rst.classes = s.rst.classes ∧
    (s.uncutTail serial).rst.rolls = s.rst.rolls ∧ (s.uncutTail serial).rst.lots = s.rst.lots ∧
    (s.uncutTail serial).rst.order = s.rst.order ∧ (s.uncutTail serial).rst.panelSerial = s.rst.panelSerial ∧
    (s.uncutTail serial).rst.line = s.rst.line ∧ (s.uncutTail serial).lnk.sup = s.lnk.sup ∧
    (s.uncutTail serial).lnk.pen = s.lnk.pen ∧ (s.uncutTail serial).fsu = s.fsu ∧ (s.uncutTail serial).ltr = s.ltr ∧
    (s.uncutTail serial).pfm = s.pfm ∧ (s.uncutTail serial).hsu = s.hsu ∧ (s.uncutTail serial).exu.b = s.exu.b ∧
    (s.uncutTail serial).exu.belt = s.exu.belt ∧ (s.uncutTail serial).exu.cycle = s.exu.cycle ∧
    (s.uncutTail serial).exu.limit = s.exu.limit ∧ (s.uncutTail serial).exu.cutSerial = s.exu.cutSerial ∧
    (s.uncutTail serial).exu.last = s.exu.last ∧ (s.uncutTail serial).exu.cut = s.exu.cut ∧
    (s.uncutTail serial).exu.divert = s.exu.divert ∧ (s.uncutTail serial).sgv = s.sgv := by
  unfold State.uncutTail
  split <;> simp

@[simp] theorem State.tailArrival_frame (s : State) (p : Panel) :
    (s.tailArrival p).pending = s.pending ∧ (s.tailArrival p).inputs = s.inputs ∧
    (s.tailArrival p).rst.rolls = s.rst.rolls ∧ (s.tailArrival p).rst.panelSerial = s.rst.panelSerial ∧
    (s.tailArrival p).rst.line = s.rst.line ∧ (s.tailArrival p).fsu = s.fsu ∧ (s.tailArrival p).ltr = s.ltr ∧
    (s.tailArrival p).pfm = s.pfm ∧ (s.tailArrival p).hsu.pressure = s.hsu.pressure ∧
    (s.tailArrival p).hsu.pressureReading = s.hsu.pressureReading ∧ (s.tailArrival p).hsu.permit = s.hsu.permit ∧
    (s.tailArrival p).exu.b = s.exu.b ∧ (s.tailArrival p).exu.belt = s.exu.belt ∧
    (s.tailArrival p).sgv.gov = s.sgv.gov ∧ (s.tailArrival p).sgv.intent = s.sgv.intent ∧
    (s.tailArrival p).sgv.holds = s.sgv.holds ∧ (s.tailArrival p).sgv.stops = s.sgv.stops ∧
    (s.tailArrival p).sgv.trips = s.sgv.trips ∧ (s.tailArrival p).sgv.stopPending = s.sgv.stopPending ∧
    (s.tailArrival p).sgv.flatRef = s.sgv.flatRef ∧ (s.tailArrival p).sgv.beltRef = s.sgv.beltRef ∧
    (s.tailArrival p).sgv.ceiling = s.sgv.ceiling ∧ (s.tailArrival p).sgv.standstill = s.sgv.standstill ∧
    (s.tailArrival p).sgv.standWindow = s.sgv.standWindow := by
  unfold State.tailArrival
  dsimp only
  (repeat' split) <;> simp

@[simp] theorem State.cutterTo_frame (s : State) (c : Cycle) :
    (s.cutterTo c).pending = s.pending ∧ (s.cutterTo c).freeIdx = s.freeIdx ∧ (s.cutterTo c).inputs = s.inputs ∧
    (s.cutterTo c).rst = s.rst ∧ (s.cutterTo c).lnk = s.lnk ∧ (s.cutterTo c).fsu = s.fsu ∧
    (s.cutterTo c).ltr = s.ltr ∧ (s.cutterTo c).pfm = s.pfm ∧ (s.cutterTo c).hsu = s.hsu ∧
    (s.cutterTo c).exu.b = s.exu.b ∧ (s.cutterTo c).exu.belt = s.exu.belt ∧
    (s.cutterTo c).exu.pendingFault = s.exu.pendingFault ∧ (s.cutterTo c).exu.last = s.exu.last ∧
    (s.cutterTo c).exu.divert = s.exu.divert ∧ (s.cutterTo c).sgv = s.sgv := by
  simp [State.cutterTo]

@[simp] theorem State.failedStroke_frame (s : State) :
    s.failedStroke.pending = s.pending ∧ s.failedStroke.freeIdx = s.freeIdx ∧ s.failedStroke.inputs = s.inputs ∧
    s.failedStroke.rst.patterns = s.rst.patterns ∧ s.failedStroke.rst.pool = s.rst.pool ∧
    s.failedStroke.rst.classes = s.rst.classes ∧ s.failedStroke.rst.rolls = s.rst.rolls ∧
    s.failedStroke.rst.lots = s.rst.lots ∧ s.failedStroke.rst.order = s.rst.order ∧
    s.failedStroke.rst.panelSerial = s.rst.panelSerial ∧ s.failedStroke.rst.line = s.rst.line ∧
    s.failedStroke.lnk = s.lnk ∧ s.failedStroke.fsu = s.fsu ∧ s.failedStroke.ltr = s.ltr ∧
    s.failedStroke.pfm = s.pfm ∧ s.failedStroke.hsu = s.hsu ∧ s.failedStroke.exu.b = s.exu.b ∧
    s.failedStroke.exu.belt = s.exu.belt ∧ s.failedStroke.exu.cycle = s.exu.cycle ∧
    s.failedStroke.exu.limit = s.exu.limit ∧ s.failedStroke.exu.cutSerial = s.exu.cutSerial ∧
    s.failedStroke.exu.last = s.exu.last ∧ s.failedStroke.exu.cut = s.exu.cut ∧
    s.failedStroke.exu.divert = s.exu.divert ∧ s.failedStroke.sgv = s.sgv := by
  unfold State.failedStroke
  split <;> simp

@[simp] theorem State.cutterJam_frame (s : State) :
    s.cutterJam.pending = s.pending ∧ s.cutterJam.freeIdx = s.freeIdx ∧ s.cutterJam.inputs = s.inputs ∧
    s.cutterJam.rst.patterns = s.rst.patterns ∧ s.cutterJam.rst.pool = s.rst.pool ∧
    s.cutterJam.rst.classes = s.rst.classes ∧ s.cutterJam.rst.rolls = s.rst.rolls ∧
    s.cutterJam.rst.lots = s.rst.lots ∧ s.cutterJam.rst.order = s.rst.order ∧
    s.cutterJam.rst.panelSerial = s.rst.panelSerial ∧ s.cutterJam.rst.line = s.rst.line ∧ s.cutterJam.lnk = s.lnk ∧
    s.cutterJam.fsu = s.fsu ∧ s.cutterJam.ltr = s.ltr ∧ s.cutterJam.pfm = s.pfm ∧ s.cutterJam.hsu = s.hsu ∧
    s.cutterJam.exu.b = s.exu.b ∧ s.cutterJam.exu.belt = s.exu.belt ∧ s.cutterJam.exu.last = s.exu.last ∧
    s.cutterJam.exu.divert = s.exu.divert ∧ s.cutterJam.sgv = s.sgv := by
  unfold State.cutterJam
  split <;> simp

@[simp] theorem State.exitTrip_frame (s : State) :
    s.exitTrip.pending = s.pending ∧ s.exitTrip.freeIdx = s.freeIdx ∧ s.exitTrip.inputs = s.inputs ∧
    s.exitTrip.rst.patterns = s.rst.patterns ∧ s.exitTrip.rst.pool = s.rst.pool ∧
    s.exitTrip.rst.classes = s.rst.classes ∧ s.exitTrip.rst.rolls = s.rst.rolls ∧ s.exitTrip.rst.lots = s.rst.lots ∧
    s.exitTrip.rst.order = s.rst.order ∧ s.exitTrip.rst.panelSerial = s.rst.panelSerial ∧
    s.exitTrip.rst.line = s.rst.line ∧ s.exitTrip.lnk = s.lnk ∧ s.exitTrip.fsu = s.fsu ∧ s.exitTrip.ltr = s.ltr ∧
    s.exitTrip.pfm = s.pfm ∧ s.exitTrip.hsu = s.hsu ∧ s.exitTrip.exu.b = s.exu.b ∧ s.exitTrip.exu.belt = s.exu.belt ∧
    s.exitTrip.exu.last = s.exu.last ∧ s.exitTrip.sgv = s.sgv := by
  unfold State.exitTrip
  split <;> simp

@[simp] theorem State.missStrike_frame (s : State) (k : PanelKey) :
    (s.missStrike k).pending = s.pending ∧ (s.missStrike k).freeIdx = s.freeIdx ∧ (s.missStrike k).inputs = s.inputs ∧
    (s.missStrike k).rst.patterns = s.rst.patterns ∧ (s.missStrike k).rst.pool = s.rst.pool ∧
    (s.missStrike k).rst.classes = s.rst.classes ∧ (s.missStrike k).rst.rolls = s.rst.rolls ∧
    (s.missStrike k).rst.lots = s.rst.lots ∧ (s.missStrike k).rst.order = s.rst.order ∧
    (s.missStrike k).rst.panelSerial = s.rst.panelSerial ∧ (s.missStrike k).rst.line = s.rst.line ∧
    (s.missStrike k).lnk.sup = s.lnk.sup ∧ (s.missStrike k).lnk.pen = s.lnk.pen ∧ (s.missStrike k).fsu = s.fsu ∧
    (s.missStrike k).ltr = s.ltr ∧ (s.missStrike k).pfm = s.pfm ∧ (s.missStrike k).hsu = s.hsu ∧
    (s.missStrike k).exu = s.exu ∧ (s.missStrike k).sgv.gov = s.sgv.gov ∧ (s.missStrike k).sgv.intent = s.sgv.intent ∧
    (s.missStrike k).sgv.stops = s.sgv.stops ∧ (s.missStrike k).sgv.trips = s.sgv.trips ∧
    (s.missStrike k).sgv.stopPending = s.sgv.stopPending ∧ (s.missStrike k).sgv.flatRef = s.sgv.flatRef ∧
    (s.missStrike k).sgv.beltRef = s.sgv.beltRef ∧ (s.missStrike k).sgv.ceiling = s.sgv.ceiling ∧
    (s.missStrike k).sgv.standstill = s.sgv.standstill ∧ (s.missStrike k).sgv.standWindow = s.sgv.standWindow ∧
    (s.missStrike k).sgv.classSet = s.sgv.classSet := by
  unfold State.missStrike
  (repeat' split) <;> simp

@[simp] theorem State.createPanel_frame (s : State) (f : FormContext) (joint : Bool) :
    (s.createPanel f joint).pending = s.pending ∧ (s.createPanel f joint).freeIdx = s.freeIdx ∧
    (s.createPanel f joint).inputs = s.inputs ∧ (s.createPanel f joint).rst.patterns = s.rst.patterns ∧
    (s.createPanel f joint).rst.pool = s.rst.pool ∧ (s.createPanel f joint).rst.classes = s.rst.classes ∧
    (s.createPanel f joint).rst.rolls = s.rst.rolls ∧ (s.createPanel f joint).rst.lots = s.rst.lots ∧
    (s.createPanel f joint).rst.order = s.rst.order ∧ (s.createPanel f joint).rst.line = s.rst.line ∧
    (s.createPanel f joint).lnk = s.lnk ∧ (s.createPanel f joint).fsu = s.fsu ∧ (s.createPanel f joint).ltr = s.ltr ∧
    (s.createPanel f joint).pfm = s.pfm ∧ (s.createPanel f joint).hsu = s.hsu ∧
    (s.createPanel f joint).exu.b = s.exu.b ∧ (s.createPanel f joint).exu.belt = s.exu.belt ∧
    (s.createPanel f joint).exu.cycle = s.exu.cycle ∧ (s.createPanel f joint).exu.limit = s.exu.limit ∧
    (s.createPanel f joint).exu.cutSerial = s.exu.cutSerial ∧ (s.createPanel f joint).exu.last = s.exu.last ∧
    (s.createPanel f joint).exu.cut = s.exu.cut ∧ (s.createPanel f joint).exu.divert = s.exu.divert ∧
    (s.createPanel f joint).sgv = s.sgv := by
  simp [State.createPanel]

@[simp] theorem State.formPanel_frame (s : State) (f : FormContext) :
    (s.formPanel f).pending = s.pending ∧ (s.formPanel f).freeIdx = s.freeIdx ∧ (s.formPanel f).inputs = s.inputs ∧
    (s.formPanel f).rst = s.rst ∧ (s.formPanel f).lnk = s.lnk ∧ (s.formPanel f).fsu = s.fsu ∧
    (s.formPanel f).ltr = s.ltr ∧ (s.formPanel f).pfm.cycle = s.pfm.cycle ∧
    (s.formPanel f).pfm.bladeLimit = s.pfm.bladeLimit ∧ (s.formPanel f).pfm.strikeFor = s.pfm.strikeFor ∧
    (s.formPanel f).pfm.nextWaste = s.pfm.nextWaste ∧ (s.formPanel f).pfm.strikeCeiling = s.pfm.strikeCeiling ∧
    (s.formPanel f).pfm.stepTarget = s.pfm.stepTarget ∧ (s.formPanel f).pfm.strike = s.pfm.strike ∧
    (s.formPanel f).pfm.depths = s.pfm.depths ∧ (s.formPanel f).hsu = s.hsu ∧ (s.formPanel f).exu = s.exu ∧
    (s.formPanel f).sgv = s.sgv := by
  simp [State.formPanel]

@[simp] theorem State.makeRoom_frame (s : State) :
    s.makeRoom.pending = s.pending ∧ s.makeRoom.inputs = s.inputs ∧ s.makeRoom.rst.rolls = s.rst.rolls ∧
    s.makeRoom.rst.panelSerial = s.rst.panelSerial ∧ s.makeRoom.rst.line = s.rst.line ∧ s.makeRoom.fsu = s.fsu ∧
    s.makeRoom.ltr = s.ltr ∧ s.makeRoom.pfm = s.pfm ∧ s.makeRoom.hsu.pressure = s.hsu.pressure ∧
    s.makeRoom.hsu.pressureReading = s.hsu.pressureReading ∧ s.makeRoom.hsu.permit = s.hsu.permit ∧
    s.makeRoom.exu.b = s.exu.b ∧ s.makeRoom.exu.belt = s.exu.belt ∧ s.makeRoom.exu.cycle = s.exu.cycle ∧
    s.makeRoom.exu.limit = s.exu.limit ∧ s.makeRoom.exu.cutSerial = s.exu.cutSerial ∧ s.makeRoom.exu.cut = s.exu.cut ∧
    s.makeRoom.exu.divert = s.exu.divert ∧ s.makeRoom.sgv.gov = s.sgv.gov ∧ s.makeRoom.sgv.intent = s.sgv.intent ∧
    s.makeRoom.sgv.holds = s.sgv.holds ∧ s.makeRoom.sgv.stops = s.sgv.stops ∧ s.makeRoom.sgv.trips = s.sgv.trips ∧
    s.makeRoom.sgv.stopPending = s.sgv.stopPending ∧ s.makeRoom.sgv.flatRef = s.sgv.flatRef ∧
    s.makeRoom.sgv.beltRef = s.sgv.beltRef ∧ s.makeRoom.sgv.ceiling = s.sgv.ceiling ∧
    s.makeRoom.sgv.standstill = s.sgv.standstill ∧ s.makeRoom.sgv.standWindow = s.sgv.standWindow := by
  unfold State.makeRoom
  (repeat' split) <;> simp

@[simp] theorem State.panelStart_frame (s : State) (c : Coord) :
    (s.panelStart c).pending = s.pending ∧ (s.panelStart c).inputs = s.inputs ∧
    (s.panelStart c).rst.rolls = s.rst.rolls ∧ (s.panelStart c).rst.line = s.rst.line ∧ (s.panelStart c).fsu = s.fsu ∧
    (s.panelStart c).ltr = s.ltr ∧ (s.panelStart c).pfm.cycle = s.pfm.cycle ∧
    (s.panelStart c).pfm.bladeLimit = s.pfm.bladeLimit ∧ (s.panelStart c).pfm.strikeFor = s.pfm.strikeFor ∧
    (s.panelStart c).pfm.strikeCeiling = s.pfm.strikeCeiling ∧ (s.panelStart c).pfm.stepTarget = s.pfm.stepTarget ∧
    (s.panelStart c).pfm.strike = s.pfm.strike ∧ (s.panelStart c).pfm.depths = s.pfm.depths ∧
    (s.panelStart c).hsu.pressure = s.hsu.pressure ∧ (s.panelStart c).hsu.pressureReading = s.hsu.pressureReading ∧
    (s.panelStart c).hsu.permit = s.hsu.permit ∧ (s.panelStart c).exu.b = s.exu.b ∧
    (s.panelStart c).exu.belt = s.exu.belt ∧ (s.panelStart c).exu.cycle = s.exu.cycle ∧
    (s.panelStart c).exu.limit = s.exu.limit ∧ (s.panelStart c).exu.cutSerial = s.exu.cutSerial ∧
    (s.panelStart c).exu.cut = s.exu.cut ∧ (s.panelStart c).exu.divert = s.exu.divert ∧
    (s.panelStart c).sgv.gov = s.sgv.gov ∧ (s.panelStart c).sgv.intent = s.sgv.intent ∧
    (s.panelStart c).sgv.holds = s.sgv.holds ∧ (s.panelStart c).sgv.stops = s.sgv.stops ∧
    (s.panelStart c).sgv.trips = s.sgv.trips ∧ (s.panelStart c).sgv.stopPending = s.sgv.stopPending ∧
    (s.panelStart c).sgv.flatRef = s.sgv.flatRef ∧ (s.panelStart c).sgv.beltRef = s.sgv.beltRef ∧
    (s.panelStart c).sgv.ceiling = s.sgv.ceiling ∧ (s.panelStart c).sgv.standstill = s.sgv.standstill ∧
    (s.panelStart c).sgv.standWindow = s.sgv.standWindow := by
  unfold State.panelStart
  dsimp only
  (repeat' split) <;> simp

@[simp] theorem State.panelStartArrival_frame (s : State) :
    s.panelStartArrival.pending = s.pending ∧ s.panelStartArrival.inputs = s.inputs ∧
    s.panelStartArrival.rst.rolls = s.rst.rolls ∧ s.panelStartArrival.rst.line = s.rst.line ∧
    s.panelStartArrival.fsu = s.fsu ∧ s.panelStartArrival.ltr = s.ltr ∧ s.panelStartArrival.pfm.cycle = s.pfm.cycle ∧
    s.panelStartArrival.pfm.bladeLimit = s.pfm.bladeLimit ∧ s.panelStartArrival.pfm.strikeFor = s.pfm.strikeFor ∧
    s.panelStartArrival.pfm.strikeCeiling = s.pfm.strikeCeiling ∧
    s.panelStartArrival.pfm.stepTarget = s.pfm.stepTarget ∧ s.panelStartArrival.pfm.strike = s.pfm.strike ∧
    s.panelStartArrival.pfm.depths = s.pfm.depths ∧ s.panelStartArrival.hsu.pressure = s.hsu.pressure ∧
    s.panelStartArrival.hsu.pressureReading = s.hsu.pressureReading ∧ s.panelStartArrival.hsu.permit = s.hsu.permit ∧
    s.panelStartArrival.exu.b = s.exu.b ∧ s.panelStartArrival.exu.belt = s.exu.belt ∧
    s.panelStartArrival.exu.cycle = s.exu.cycle ∧ s.panelStartArrival.exu.limit = s.exu.limit ∧
    s.panelStartArrival.exu.cutSerial = s.exu.cutSerial ∧ s.panelStartArrival.exu.cut = s.exu.cut ∧
    s.panelStartArrival.exu.divert = s.exu.divert ∧ s.panelStartArrival.sgv.gov = s.sgv.gov ∧
    s.panelStartArrival.sgv.intent = s.sgv.intent ∧ s.panelStartArrival.sgv.holds = s.sgv.holds ∧
    s.panelStartArrival.sgv.stops = s.sgv.stops ∧ s.panelStartArrival.sgv.trips = s.sgv.trips ∧
    s.panelStartArrival.sgv.stopPending = s.sgv.stopPending ∧ s.panelStartArrival.sgv.flatRef = s.sgv.flatRef ∧
    s.panelStartArrival.sgv.beltRef = s.sgv.beltRef ∧ s.panelStartArrival.sgv.ceiling = s.sgv.ceiling ∧
    s.panelStartArrival.sgv.standstill = s.sgv.standstill ∧
    s.panelStartArrival.sgv.standWindow = s.sgv.standWindow := by
  unfold State.panelStartArrival
  (repeat' split) <;> simp

@[simp] theorem State.beginStrike_frame (s : State) (f : FormContext) (st : Step) :
    (s.beginStrike f st).pending = s.pending ∧ (s.beginStrike f st).freeIdx = s.freeIdx ∧
    (s.beginStrike f st).inputs = s.inputs ∧ (s.beginStrike f st).rst = s.rst ∧ (s.beginStrike f st).lnk = s.lnk ∧
    (s.beginStrike f st).fsu = s.fsu ∧ (s.beginStrike f st).ltr = s.ltr ∧
    (s.beginStrike f st).pfm.forming = s.pfm.forming ∧ (s.beginStrike f st).pfm.nextStart = s.pfm.nextStart ∧
    (s.beginStrike f st).pfm.nextStrike = s.pfm.nextStrike ∧ (s.beginStrike f st).pfm.nextWaste = s.pfm.nextWaste ∧
    (s.beginStrike f st).pfm.strikeCeiling = s.pfm.strikeCeiling ∧
    (s.beginStrike f st).pfm.stepTarget = s.pfm.stepTarget ∧ (s.beginStrike f st).hsu = s.hsu ∧
    (s.beginStrike f st).exu = s.exu ∧ (s.beginStrike f st).sgv = s.sgv := by
  simp [State.beginStrike]

@[simp] theorem State.strikeOrMiss_frame (s : State) (f : FormContext) (k : ℕ) :
    (s.strikeOrMiss f k).pending = s.pending ∧ (s.strikeOrMiss f k).freeIdx = s.freeIdx ∧
    (s.strikeOrMiss f k).inputs = s.inputs ∧ (s.strikeOrMiss f k).rst.patterns = s.rst.patterns ∧
    (s.strikeOrMiss f k).rst.pool = s.rst.pool ∧ (s.strikeOrMiss f k).rst.classes = s.rst.classes ∧
    (s.strikeOrMiss f k).rst.rolls = s.rst.rolls ∧ (s.strikeOrMiss f k).rst.lots = s.rst.lots ∧
    (s.strikeOrMiss f k).rst.order = s.rst.order ∧ (s.strikeOrMiss f k).rst.panelSerial = s.rst.panelSerial ∧
    (s.strikeOrMiss f k).rst.line = s.rst.line ∧ (s.strikeOrMiss f k).lnk.sup = s.lnk.sup ∧
    (s.strikeOrMiss f k).lnk.pen = s.lnk.pen ∧ (s.strikeOrMiss f k).fsu = s.fsu ∧ (s.strikeOrMiss f k).ltr = s.ltr ∧
    (s.strikeOrMiss f k).pfm.forming = s.pfm.forming ∧ (s.strikeOrMiss f k).pfm.nextStart = s.pfm.nextStart ∧
    (s.strikeOrMiss f k).pfm.nextStrike = s.pfm.nextStrike ∧ (s.strikeOrMiss f k).pfm.nextWaste = s.pfm.nextWaste ∧
    (s.strikeOrMiss f k).pfm.strikeCeiling = s.pfm.strikeCeiling ∧
    (s.strikeOrMiss f k).pfm.stepTarget = s.pfm.stepTarget ∧ (s.strikeOrMiss f k).hsu = s.hsu ∧
    (s.strikeOrMiss f k).exu = s.exu ∧ (s.strikeOrMiss f k).sgv.gov = s.sgv.gov ∧
    (s.strikeOrMiss f k).sgv.intent = s.sgv.intent ∧ (s.strikeOrMiss f k).sgv.stops = s.sgv.stops ∧
    (s.strikeOrMiss f k).sgv.trips = s.sgv.trips ∧ (s.strikeOrMiss f k).sgv.stopPending = s.sgv.stopPending ∧
    (s.strikeOrMiss f k).sgv.flatRef = s.sgv.flatRef ∧ (s.strikeOrMiss f k).sgv.beltRef = s.sgv.beltRef ∧
    (s.strikeOrMiss f k).sgv.ceiling = s.sgv.ceiling ∧ (s.strikeOrMiss f k).sgv.standstill = s.sgv.standstill ∧
    (s.strikeOrMiss f k).sgv.standWindow = s.sgv.standWindow ∧
    (s.strikeOrMiss f k).sgv.classSet = s.sgv.classSet := by
  unfold State.strikeOrMiss
  (repeat' split) <;> simp

@[simp] theorem State.armStrike_frame (s : State) (f : FormContext) (k : ℕ) :
    (s.armStrike f k).pending = s.pending ∧ (s.armStrike f k).freeIdx = s.freeIdx ∧
    (s.armStrike f k).inputs = s.inputs ∧ (s.armStrike f k).rst = s.rst ∧ (s.armStrike f k).lnk = s.lnk ∧
    (s.armStrike f k).fsu = s.fsu ∧ (s.armStrike f k).ltr = s.ltr ∧
    (s.armStrike f k).pfm.nextStart = s.pfm.nextStart ∧ (s.armStrike f k).pfm.cycle = s.pfm.cycle ∧
    (s.armStrike f k).pfm.bladeLimit = s.pfm.bladeLimit ∧ (s.armStrike f k).pfm.strikeFor = s.pfm.strikeFor ∧
    (s.armStrike f k).pfm.nextWaste = s.pfm.nextWaste ∧ (s.armStrike f k).pfm.strikeCeiling = s.pfm.strikeCeiling ∧
    (s.armStrike f k).pfm.stepTarget = s.pfm.stepTarget ∧ (s.armStrike f k).pfm.strike = s.pfm.strike ∧
    (s.armStrike f k).pfm.depths = s.pfm.depths ∧ (s.armStrike f k).hsu = s.hsu ∧ (s.armStrike f k).exu = s.exu ∧
    (s.armStrike f k).sgv = s.sgv := by
  simp [State.armStrike]

@[simp] theorem State.strikeArrival_frame (s : State) :
    s.strikeArrival.pending = s.pending ∧ s.strikeArrival.freeIdx = s.freeIdx ∧ s.strikeArrival.inputs = s.inputs ∧
    s.strikeArrival.rst.patterns = s.rst.patterns ∧ s.strikeArrival.rst.pool = s.rst.pool ∧
    s.strikeArrival.rst.classes = s.rst.classes ∧ s.strikeArrival.rst.rolls = s.rst.rolls ∧
    s.strikeArrival.rst.lots = s.rst.lots ∧ s.strikeArrival.rst.order = s.rst.order ∧
    s.strikeArrival.rst.panelSerial = s.rst.panelSerial ∧ s.strikeArrival.rst.line = s.rst.line ∧
    s.strikeArrival.lnk.sup = s.lnk.sup ∧ s.strikeArrival.lnk.pen = s.lnk.pen ∧ s.strikeArrival.fsu = s.fsu ∧
    s.strikeArrival.ltr = s.ltr ∧ s.strikeArrival.pfm.nextStart = s.pfm.nextStart ∧
    s.strikeArrival.pfm.nextWaste = s.pfm.nextWaste ∧ s.strikeArrival.pfm.strikeCeiling = s.pfm.strikeCeiling ∧
    s.strikeArrival.pfm.stepTarget = s.pfm.stepTarget ∧ s.strikeArrival.hsu = s.hsu ∧ s.strikeArrival.exu = s.exu ∧
    s.strikeArrival.sgv.gov = s.sgv.gov ∧ s.strikeArrival.sgv.intent = s.sgv.intent ∧
    s.strikeArrival.sgv.stops = s.sgv.stops ∧ s.strikeArrival.sgv.trips = s.sgv.trips ∧
    s.strikeArrival.sgv.stopPending = s.sgv.stopPending ∧ s.strikeArrival.sgv.flatRef = s.sgv.flatRef ∧
    s.strikeArrival.sgv.beltRef = s.sgv.beltRef ∧ s.strikeArrival.sgv.ceiling = s.sgv.ceiling ∧
    s.strikeArrival.sgv.standstill = s.sgv.standstill ∧ s.strikeArrival.sgv.standWindow = s.sgv.standWindow ∧
    s.strikeArrival.sgv.classSet = s.sgv.classSet := by
  unfold State.strikeArrival
  (repeat' split) <;> simp

@[simp] theorem State.targetArrival_frame (s : State) :
    s.targetArrival.pending = s.pending ∧ s.targetArrival.freeIdx = s.freeIdx ∧ s.targetArrival.inputs = s.inputs ∧
    s.targetArrival.rst = s.rst ∧ s.targetArrival.lnk = s.lnk ∧ s.targetArrival.fsu = s.fsu ∧
    s.targetArrival.ltr = s.ltr ∧ s.targetArrival.pfm.forming = s.pfm.forming ∧
    s.targetArrival.pfm.nextStart = s.pfm.nextStart ∧ s.targetArrival.pfm.nextStrike = s.pfm.nextStrike ∧
    s.targetArrival.pfm.cycle = s.pfm.cycle ∧ s.targetArrival.pfm.bladeLimit = s.pfm.bladeLimit ∧
    s.targetArrival.pfm.strikeFor = s.pfm.strikeFor ∧ s.targetArrival.pfm.nextWaste = s.pfm.nextWaste ∧
    s.targetArrival.pfm.strikeCeiling = s.pfm.strikeCeiling ∧ s.targetArrival.pfm.strike = s.pfm.strike ∧
    s.targetArrival.pfm.depths = s.pfm.depths ∧ s.targetArrival.hsu = s.hsu ∧ s.targetArrival.exu = s.exu ∧
    s.targetArrival.sgv = s.sgv := by
  unfold State.targetArrival
  (repeat' split) <;> simp

@[simp] theorem State.bladesTo_frame (s : State) (c : Cycle) :
    (s.bladesTo c).pending = s.pending ∧ (s.bladesTo c).freeIdx = s.freeIdx ∧ (s.bladesTo c).inputs = s.inputs ∧
    (s.bladesTo c).rst = s.rst ∧ (s.bladesTo c).lnk = s.lnk ∧ (s.bladesTo c).fsu = s.fsu ∧
    (s.bladesTo c).ltr = s.ltr ∧ (s.bladesTo c).pfm.forming = s.pfm.forming ∧
    (s.bladesTo c).pfm.nextStart = s.pfm.nextStart ∧ (s.bladesTo c).pfm.nextStrike = s.pfm.nextStrike ∧
    (s.bladesTo c).pfm.nextWaste = s.pfm.nextWaste ∧ (s.bladesTo c).pfm.strikeCeiling = s.pfm.strikeCeiling ∧
    (s.bladesTo c).pfm.stepTarget = s.pfm.stepTarget ∧ (s.bladesTo c).hsu = s.hsu ∧ (s.bladesTo c).exu = s.exu ∧
    (s.bladesTo c).sgv = s.sgv := by
  simp [State.bladesTo]

@[simp] theorem State.missCurrent_frame (s : State) :
    s.missCurrent.pending = s.pending ∧ s.missCurrent.freeIdx = s.freeIdx ∧ s.missCurrent.inputs = s.inputs ∧
    s.missCurrent.rst.patterns = s.rst.patterns ∧ s.missCurrent.rst.pool = s.rst.pool ∧
    s.missCurrent.rst.classes = s.rst.classes ∧ s.missCurrent.rst.rolls = s.rst.rolls ∧
    s.missCurrent.rst.lots = s.rst.lots ∧ s.missCurrent.rst.order = s.rst.order ∧
    s.missCurrent.rst.panelSerial = s.rst.panelSerial ∧ s.missCurrent.rst.line = s.rst.line ∧
    s.missCurrent.lnk.sup = s.lnk.sup ∧ s.missCurrent.lnk.pen = s.lnk.pen ∧ s.missCurrent.fsu = s.fsu ∧
    s.missCurrent.ltr = s.ltr ∧ s.missCurrent.pfm = s.pfm ∧ s.missCurrent.hsu = s.hsu ∧ s.missCurrent.exu = s.exu ∧
    s.missCurrent.sgv.gov = s.sgv.gov ∧ s.missCurrent.sgv.intent = s.sgv.intent ∧
    s.missCurrent.sgv.stops = s.sgv.stops ∧ s.missCurrent.sgv.trips = s.sgv.trips ∧
    s.missCurrent.sgv.stopPending = s.sgv.stopPending ∧ s.missCurrent.sgv.flatRef = s.sgv.flatRef ∧
    s.missCurrent.sgv.beltRef = s.sgv.beltRef ∧ s.missCurrent.sgv.ceiling = s.sgv.ceiling ∧
    s.missCurrent.sgv.standstill = s.sgv.standstill ∧ s.missCurrent.sgv.standWindow = s.sgv.standWindow ∧
    s.missCurrent.sgv.classSet = s.sgv.classSet := by
  unfold State.missCurrent
  split <;> simp

@[simp] theorem State.bladeTrip_frame (s : State) :
    s.bladeTrip.pending = s.pending ∧ s.bladeTrip.freeIdx = s.freeIdx ∧ s.bladeTrip.inputs = s.inputs ∧
    s.bladeTrip.rst.patterns = s.rst.patterns ∧ s.bladeTrip.rst.pool = s.rst.pool ∧
    s.bladeTrip.rst.classes = s.rst.classes ∧ s.bladeTrip.rst.rolls = s.rst.rolls ∧
    s.bladeTrip.rst.lots = s.rst.lots ∧ s.bladeTrip.rst.order = s.rst.order ∧
    s.bladeTrip.rst.panelSerial = s.rst.panelSerial ∧ s.bladeTrip.rst.line = s.rst.line ∧
    s.bladeTrip.lnk.sup = s.lnk.sup ∧ s.bladeTrip.lnk.pen = s.lnk.pen ∧ s.bladeTrip.fsu = s.fsu ∧
    s.bladeTrip.ltr = s.ltr ∧ s.bladeTrip.pfm.forming = s.pfm.forming ∧ s.bladeTrip.pfm.nextStart = s.pfm.nextStart ∧
    s.bladeTrip.pfm.nextStrike = s.pfm.nextStrike ∧ s.bladeTrip.pfm.nextWaste = s.pfm.nextWaste ∧
    s.bladeTrip.pfm.strikeCeiling = s.pfm.strikeCeiling ∧ s.bladeTrip.pfm.stepTarget = s.pfm.stepTarget ∧
    s.bladeTrip.hsu = s.hsu ∧ s.bladeTrip.exu = s.exu ∧ s.bladeTrip.sgv.gov = s.sgv.gov ∧
    s.bladeTrip.sgv.intent = s.sgv.intent ∧ s.bladeTrip.sgv.stops = s.sgv.stops ∧
    s.bladeTrip.sgv.trips = s.sgv.trips ∧ s.bladeTrip.sgv.stopPending = s.sgv.stopPending ∧
    s.bladeTrip.sgv.flatRef = s.sgv.flatRef ∧ s.bladeTrip.sgv.beltRef = s.sgv.beltRef ∧
    s.bladeTrip.sgv.ceiling = s.sgv.ceiling ∧ s.bladeTrip.sgv.standstill = s.sgv.standstill ∧
    s.bladeTrip.sgv.standWindow = s.sgv.standWindow ∧ s.bladeTrip.sgv.classSet = s.sgv.classSet := by
  unfold State.bladeTrip
  split <;> simp

@[simp] theorem State.clearTarget_frame (s : State) :
    s.clearTarget.pending = s.pending ∧ s.clearTarget.freeIdx = s.freeIdx ∧ s.clearTarget.inputs = s.inputs ∧
    s.clearTarget.rst = s.rst ∧ s.clearTarget.lnk = s.lnk ∧ s.clearTarget.fsu = s.fsu ∧ s.clearTarget.ltr = s.ltr ∧
    s.clearTarget.pfm.forming = s.pfm.forming ∧ s.clearTarget.pfm.nextStart = s.pfm.nextStart ∧
    s.clearTarget.pfm.nextStrike = s.pfm.nextStrike ∧ s.clearTarget.pfm.cycle = s.pfm.cycle ∧
    s.clearTarget.pfm.bladeLimit = s.pfm.bladeLimit ∧ s.clearTarget.pfm.strikeFor = s.pfm.strikeFor ∧
    s.clearTarget.pfm.nextWaste = s.pfm.nextWaste ∧ s.clearTarget.pfm.strikeCeiling = s.pfm.strikeCeiling ∧
    s.clearTarget.pfm.strike = s.pfm.strike ∧ s.clearTarget.pfm.depths = s.pfm.depths ∧ s.clearTarget.hsu = s.hsu ∧
    s.clearTarget.exu = s.exu ∧ s.clearTarget.sgv = s.sgv := by
  simp [State.clearTarget]

@[simp] theorem State.setSegment_frame (s : State) (v : Segment) :
    (s.setSegment v).pending = s.pending ∧ (s.setSegment v).freeIdx = s.freeIdx ∧ (s.setSegment v).inputs = s.inputs ∧
    (s.setSegment v).rst = s.rst ∧ (s.setSegment v).lnk = s.lnk ∧ (s.setSegment v).fsu = s.fsu ∧
    (s.setSegment v).ltr.pendingJoint = s.ltr.pendingJoint ∧ (s.setSegment v).ltr.classChange = s.ltr.classChange ∧
    (s.setSegment v).ltr.starved = s.ltr.starved ∧ (s.setSegment v).pfm = s.pfm ∧ (s.setSegment v).hsu = s.hsu ∧
    (s.setSegment v).exu = s.exu ∧ (s.setSegment v).sgv = s.sgv := by
  simp [State.setSegment]

@[simp] theorem State.setClassChange_frame (s : State) (v : Bool) :
    (s.setClassChange v).pending = s.pending ∧ (s.setClassChange v).freeIdx = s.freeIdx ∧
    (s.setClassChange v).inputs = s.inputs ∧ (s.setClassChange v).rst = s.rst ∧ (s.setClassChange v).lnk = s.lnk ∧
    (s.setClassChange v).fsu = s.fsu ∧ (s.setClassChange v).ltr.segment = s.ltr.segment ∧
    (s.setClassChange v).ltr.pendingJoint = s.ltr.pendingJoint ∧ (s.setClassChange v).ltr.starved = s.ltr.starved ∧
    (s.setClassChange v).pfm = s.pfm ∧ (s.setClassChange v).hsu = s.hsu ∧ (s.setClassChange v).exu = s.exu ∧
    (s.setClassChange v).sgv = s.sgv := by
  simp [State.setClassChange]

@[simp] theorem State.endStarvation_frame (s : State) :
    s.endStarvation.pending = s.pending ∧ s.endStarvation.freeIdx = s.freeIdx ∧ s.endStarvation.inputs = s.inputs ∧
    s.endStarvation.rst = s.rst ∧ s.endStarvation.lnk.sup = s.lnk.sup ∧ s.endStarvation.lnk.pen = s.lnk.pen ∧
    s.endStarvation.fsu = s.fsu ∧ s.endStarvation.ltr.segment = s.ltr.segment ∧
    s.endStarvation.ltr.pendingJoint = s.ltr.pendingJoint ∧ s.endStarvation.ltr.classChange = s.ltr.classChange ∧
    s.endStarvation.pfm = s.pfm ∧ s.endStarvation.hsu = s.hsu ∧ s.endStarvation.exu = s.exu ∧
    s.endStarvation.sgv.gov = s.sgv.gov ∧ s.endStarvation.sgv.intent = s.sgv.intent ∧
    s.endStarvation.sgv.stops = s.sgv.stops ∧ s.endStarvation.sgv.trips = s.sgv.trips ∧
    s.endStarvation.sgv.stopPending = s.sgv.stopPending ∧ s.endStarvation.sgv.flatRef = s.sgv.flatRef ∧
    s.endStarvation.sgv.beltRef = s.sgv.beltRef ∧ s.endStarvation.sgv.ceiling = s.sgv.ceiling ∧
    s.endStarvation.sgv.standstill = s.sgv.standstill ∧ s.endStarvation.sgv.standWindow = s.sgv.standWindow ∧
    s.endStarvation.sgv.classSet = s.sgv.classSet := by
  unfold State.endStarvation
  split <;> simp

@[simp] theorem State.placeLot_frame (s : State) (l : Lot) (c : Coord) :
    (s.placeLot l c).pending = s.pending ∧ (s.placeLot l c).freeIdx = s.freeIdx ∧ (s.placeLot l c).inputs = s.inputs ∧
    (s.placeLot l c).rst.patterns = s.rst.patterns ∧ (s.placeLot l c).rst.pool = s.rst.pool ∧
    (s.placeLot l c).rst.classes = s.rst.classes ∧ (s.placeLot l c).rst.rolls = s.rst.rolls ∧
    (s.placeLot l c).rst.panels = s.rst.panels ∧ (s.placeLot l c).rst.panelSerial = s.rst.panelSerial ∧
    (s.placeLot l c).rst.line = s.rst.line ∧ (s.placeLot l c).lnk.sup = s.lnk.sup ∧
    (s.placeLot l c).lnk.pen = s.lnk.pen ∧ (s.placeLot l c).fsu = s.fsu ∧
    (s.placeLot l c).ltr.pendingJoint = s.ltr.pendingJoint ∧ (s.placeLot l c).ltr.classChange = s.ltr.classChange ∧
    (s.placeLot l c).pfm = s.pfm ∧ (s.placeLot l c).hsu = s.hsu ∧ (s.placeLot l c).exu = s.exu ∧
    (s.placeLot l c).sgv.gov = s.sgv.gov ∧ (s.placeLot l c).sgv.intent = s.sgv.intent ∧
    (s.placeLot l c).sgv.stops = s.sgv.stops ∧ (s.placeLot l c).sgv.trips = s.sgv.trips ∧
    (s.placeLot l c).sgv.stopPending = s.sgv.stopPending ∧ (s.placeLot l c).sgv.flatRef = s.sgv.flatRef ∧
    (s.placeLot l c).sgv.beltRef = s.sgv.beltRef ∧ (s.placeLot l c).sgv.ceiling = s.sgv.ceiling ∧
    (s.placeLot l c).sgv.standstill = s.sgv.standstill ∧ (s.placeLot l c).sgv.standWindow = s.sgv.standWindow ∧
    (s.placeLot l c).sgv.classSet = s.sgv.classSet := by
  simp [State.placeLot]

@[simp] theorem State.openWaste_frame (s : State) (c : Coord) :
    (s.openWaste c).pending = s.pending ∧ (s.openWaste c).freeIdx = s.freeIdx ∧ (s.openWaste c).inputs = s.inputs ∧
    (s.openWaste c).rst = s.rst ∧ (s.openWaste c).lnk = s.lnk ∧ (s.openWaste c).fsu = s.fsu ∧
    (s.openWaste c).ltr.pendingJoint = s.ltr.pendingJoint ∧ (s.openWaste c).ltr.classChange = s.ltr.classChange ∧
    (s.openWaste c).ltr.starved = s.ltr.starved ∧ (s.openWaste c).pfm = s.pfm ∧ (s.openWaste c).hsu = s.hsu ∧
    (s.openWaste c).exu = s.exu ∧ (s.openWaste c).sgv = s.sgv := by
  simp [State.openWaste]

@[simp] theorem State.starve_frame (s : State) :
    s.starve.pending = s.pending ∧ s.starve.freeIdx = s.freeIdx ∧ s.starve.inputs = s.inputs ∧ s.starve.rst = s.rst ∧
    s.starve.lnk.sup = s.lnk.sup ∧ s.starve.lnk.pen = s.lnk.pen ∧ s.starve.fsu = s.fsu ∧
    s.starve.ltr.segment = s.ltr.segment ∧ s.starve.ltr.pendingJoint = s.ltr.pendingJoint ∧
    s.starve.ltr.classChange = s.ltr.classChange ∧ s.starve.pfm = s.pfm ∧ s.starve.hsu = s.hsu ∧
    s.starve.exu = s.exu ∧ s.starve.sgv.gov = s.sgv.gov ∧ s.starve.sgv.intent = s.sgv.intent ∧
    s.starve.sgv.stops = s.sgv.stops ∧ s.starve.sgv.trips = s.sgv.trips ∧
    s.starve.sgv.stopPending = s.sgv.stopPending ∧ s.starve.sgv.flatRef = s.sgv.flatRef ∧
    s.starve.sgv.beltRef = s.sgv.beltRef ∧ s.starve.sgv.ceiling = s.sgv.ceiling ∧
    s.starve.sgv.standstill = s.sgv.standstill ∧ s.starve.sgv.standWindow = s.sgv.standWindow ∧
    s.starve.sgv.classSet = s.sgv.classSet := by
  unfold State.starve
  dsimp only
  (repeat' split) <;> simp

@[simp] theorem State.flagForming_frame (s : State) (n : ℕ) (j : Coord) :
    (s.flagForming n j).pending = s.pending ∧ (s.flagForming n j).freeIdx = s.freeIdx ∧
    (s.flagForming n j).inputs = s.inputs ∧ (s.flagForming n j).rst.patterns = s.rst.patterns ∧
    (s.flagForming n j).rst.pool = s.rst.pool ∧ (s.flagForming n j).rst.classes = s.rst.classes ∧
    (s.flagForming n j).rst.rolls = s.rst.rolls ∧ (s.flagForming n j).rst.lots = s.rst.lots ∧
    (s.flagForming n j).rst.order = s.rst.order ∧ (s.flagForming n j).rst.panelSerial = s.rst.panelSerial ∧
    (s.flagForming n j).rst.line = s.rst.line ∧ (s.flagForming n j).lnk = s.lnk ∧ (s.flagForming n j).fsu = s.fsu ∧
    (s.flagForming n j).ltr = s.ltr ∧ (s.flagForming n j).pfm = s.pfm ∧ (s.flagForming n j).hsu = s.hsu ∧
    (s.flagForming n j).exu = s.exu ∧ (s.flagForming n j).sgv = s.sgv := by
  unfold State.flagForming
  (repeat' split) <;> simp

@[simp] theorem State.assignJoint_frame (s : State) (n : ℕ) (j : Coord) :
    (s.assignJoint n j).pending = s.pending ∧ (s.assignJoint n j).freeIdx = s.freeIdx ∧
    (s.assignJoint n j).inputs = s.inputs ∧ (s.assignJoint n j).rst.patterns = s.rst.patterns ∧
    (s.assignJoint n j).rst.pool = s.rst.pool ∧ (s.assignJoint n j).rst.classes = s.rst.classes ∧
    (s.assignJoint n j).rst.rolls = s.rst.rolls ∧ (s.assignJoint n j).rst.order = s.rst.order ∧
    (s.assignJoint n j).rst.panelSerial = s.rst.panelSerial ∧ (s.assignJoint n j).rst.line = s.rst.line ∧
    (s.assignJoint n j).lnk = s.lnk ∧ (s.assignJoint n j).fsu = s.fsu ∧ (s.assignJoint n j).ltr = s.ltr ∧
    (s.assignJoint n j).pfm = s.pfm ∧ (s.assignJoint n j).hsu = s.hsu ∧ (s.assignJoint n j).exu = s.exu ∧
    (s.assignJoint n j).sgv = s.sgv := by
  unfold State.assignJoint
  (repeat' split) <;> simp

@[simp] theorem State.settlePendingJoint_frame (s : State) :
    s.settlePendingJoint.pending = s.pending ∧ s.settlePendingJoint.freeIdx = s.freeIdx ∧
    s.settlePendingJoint.inputs = s.inputs ∧ s.settlePendingJoint.rst.patterns = s.rst.patterns ∧
    s.settlePendingJoint.rst.pool = s.rst.pool ∧ s.settlePendingJoint.rst.classes = s.rst.classes ∧
    s.settlePendingJoint.rst.rolls = s.rst.rolls ∧ s.settlePendingJoint.rst.order = s.rst.order ∧
    s.settlePendingJoint.rst.panelSerial = s.rst.panelSerial ∧ s.settlePendingJoint.rst.line = s.rst.line ∧
    s.settlePendingJoint.lnk = s.lnk ∧ s.settlePendingJoint.fsu = s.fsu ∧
    s.settlePendingJoint.ltr.segment = s.ltr.segment ∧ s.settlePendingJoint.ltr.classChange = s.ltr.classChange ∧
    s.settlePendingJoint.ltr.starved = s.ltr.starved ∧ s.settlePendingJoint.pfm = s.pfm ∧
    s.settlePendingJoint.hsu = s.hsu ∧ s.settlePendingJoint.exu = s.exu ∧ s.settlePendingJoint.sgv = s.sgv := by
  unfold State.settlePendingJoint
  dsimp only
  (repeat' split) <;> simp

@[simp] theorem State.decideNext_frame (s : State) (c : Coord) :
    (s.decideNext c).pending = s.pending ∧ (s.decideNext c).freeIdx = s.freeIdx ∧ (s.decideNext c).inputs = s.inputs ∧
    (s.decideNext c).rst.patterns = s.rst.patterns ∧ (s.decideNext c).rst.pool = s.rst.pool ∧
    (s.decideNext c).rst.classes = s.rst.classes ∧ (s.decideNext c).rst.rolls = s.rst.rolls ∧
    (s.decideNext c).rst.panels = s.rst.panels ∧ (s.decideNext c).rst.panelSerial = s.rst.panelSerial ∧
    (s.decideNext c).rst.line = s.rst.line ∧ (s.decideNext c).lnk.sup = s.lnk.sup ∧
    (s.decideNext c).lnk.pen = s.lnk.pen ∧ (s.decideNext c).fsu = s.fsu ∧
    (s.decideNext c).ltr.pendingJoint = s.ltr.pendingJoint ∧ (s.decideNext c).ltr.classChange = s.ltr.classChange ∧
    (s.decideNext c).pfm = s.pfm ∧ (s.decideNext c).hsu = s.hsu ∧ (s.decideNext c).exu = s.exu ∧
    (s.decideNext c).sgv.gov = s.sgv.gov ∧ (s.decideNext c).sgv.intent = s.sgv.intent ∧
    (s.decideNext c).sgv.stops = s.sgv.stops ∧ (s.decideNext c).sgv.trips = s.sgv.trips ∧
    (s.decideNext c).sgv.stopPending = s.sgv.stopPending ∧ (s.decideNext c).sgv.flatRef = s.sgv.flatRef ∧
    (s.decideNext c).sgv.beltRef = s.sgv.beltRef ∧ (s.decideNext c).sgv.ceiling = s.sgv.ceiling ∧
    (s.decideNext c).sgv.standstill = s.sgv.standstill ∧ (s.decideNext c).sgv.standWindow = s.sgv.standWindow ∧
    (s.decideNext c).sgv.classSet = s.sgv.classSet := by
  unfold State.decideNext
  (repeat' split) <;> simp

@[simp] theorem State.entryDecision_frame (s : State) (c : Coord) :
    (s.entryDecision c).pending = s.pending ∧ (s.entryDecision c).freeIdx = s.freeIdx ∧
    (s.entryDecision c).inputs = s.inputs ∧ (s.entryDecision c).rst.patterns = s.rst.patterns ∧
    (s.entryDecision c).rst.pool = s.rst.pool ∧ (s.entryDecision c).rst.classes = s.rst.classes ∧
    (s.entryDecision c).rst.rolls = s.rst.rolls ∧ (s.entryDecision c).rst.panelSerial = s.rst.panelSerial ∧
    (s.entryDecision c).rst.line = s.rst.line ∧ (s.entryDecision c).lnk.sup = s.lnk.sup ∧
    (s.entryDecision c).lnk.pen = s.lnk.pen ∧ (s.entryDecision c).fsu = s.fsu ∧
    (s.entryDecision c).ltr.classChange = s.ltr.classChange ∧ (s.entryDecision c).pfm = s.pfm ∧
    (s.entryDecision c).hsu = s.hsu ∧ (s.entryDecision c).exu = s.exu ∧ (s.entryDecision c).sgv.gov = s.sgv.gov ∧
    (s.entryDecision c).sgv.intent = s.sgv.intent ∧ (s.entryDecision c).sgv.stops = s.sgv.stops ∧
    (s.entryDecision c).sgv.trips = s.sgv.trips ∧ (s.entryDecision c).sgv.stopPending = s.sgv.stopPending ∧
    (s.entryDecision c).sgv.flatRef = s.sgv.flatRef ∧ (s.entryDecision c).sgv.beltRef = s.sgv.beltRef ∧
    (s.entryDecision c).sgv.ceiling = s.sgv.ceiling ∧ (s.entryDecision c).sgv.standstill = s.sgv.standstill ∧
    (s.entryDecision c).sgv.standWindow = s.sgv.standWindow ∧ (s.entryDecision c).sgv.classSet = s.sgv.classSet := by
  simp [State.entryDecision]

@[simp] theorem State.makeFed_frame (s : State) (n : ℕ) :
    (s.makeFed n).pending = s.pending ∧ (s.makeFed n).freeIdx = s.freeIdx ∧ (s.makeFed n).inputs = s.inputs ∧
    (s.makeFed n).rst.rolls = s.rst.rolls ∧ (s.makeFed n).rst.panels = s.rst.panels ∧
    (s.makeFed n).rst.panelSerial = s.rst.panelSerial ∧ (s.makeFed n).rst.line = s.rst.line ∧
    (s.makeFed n).lnk.alerts = s.lnk.alerts ∧ (s.makeFed n).fsu = s.fsu ∧ (s.makeFed n).ltr = s.ltr ∧
    (s.makeFed n).pfm = s.pfm ∧ (s.makeFed n).hsu = s.hsu ∧ (s.makeFed n).exu = s.exu ∧
    (s.makeFed n).sgv = s.sgv := by
  unfold State.makeFed
  split <;> simp

@[simp] theorem State.segmentEnd_frame (s : State) :
    s.segmentEnd.pending = s.pending ∧ s.segmentEnd.freeIdx = s.freeIdx ∧ s.segmentEnd.inputs = s.inputs ∧
    s.segmentEnd.rst.rolls = s.rst.rolls ∧ s.segmentEnd.rst.panelSerial = s.rst.panelSerial ∧
    s.segmentEnd.rst.line = s.rst.line ∧ s.segmentEnd.fsu = s.fsu ∧ s.segmentEnd.ltr.classChange = s.ltr.classChange ∧
    s.segmentEnd.pfm = s.pfm ∧ s.segmentEnd.hsu = s.hsu ∧ s.segmentEnd.exu = s.exu ∧
    s.segmentEnd.sgv.gov = s.sgv.gov ∧ s.segmentEnd.sgv.intent = s.sgv.intent ∧ s.segmentEnd.sgv.stops = s.sgv.stops ∧
    s.segmentEnd.sgv.trips = s.sgv.trips ∧ s.segmentEnd.sgv.stopPending = s.sgv.stopPending ∧
    s.segmentEnd.sgv.flatRef = s.sgv.flatRef ∧ s.segmentEnd.sgv.beltRef = s.sgv.beltRef ∧
    s.segmentEnd.sgv.ceiling = s.sgv.ceiling ∧ s.segmentEnd.sgv.standstill = s.sgv.standstill ∧
    s.segmentEnd.sgv.standWindow = s.sgv.standWindow ∧ s.segmentEnd.sgv.classSet = s.sgv.classSet := by
  unfold State.segmentEnd
  split <;> simp

@[simp] theorem State.segmentArrival_frame (s : State) :
    s.segmentArrival.pending = s.pending ∧ s.segmentArrival.freeIdx = s.freeIdx ∧ s.segmentArrival.inputs = s.inputs ∧
    s.segmentArrival.rst.rolls = s.rst.rolls ∧ s.segmentArrival.rst.panelSerial = s.rst.panelSerial ∧
    s.segmentArrival.rst.line = s.rst.line ∧ s.segmentArrival.fsu = s.fsu ∧
    s.segmentArrival.ltr.classChange = s.ltr.classChange ∧ s.segmentArrival.pfm = s.pfm ∧
    s.segmentArrival.hsu = s.hsu ∧ s.segmentArrival.exu = s.exu ∧ s.segmentArrival.sgv.gov = s.sgv.gov ∧
    s.segmentArrival.sgv.intent = s.sgv.intent ∧ s.segmentArrival.sgv.stops = s.sgv.stops ∧
    s.segmentArrival.sgv.trips = s.sgv.trips ∧ s.segmentArrival.sgv.stopPending = s.sgv.stopPending ∧
    s.segmentArrival.sgv.flatRef = s.sgv.flatRef ∧ s.segmentArrival.sgv.beltRef = s.sgv.beltRef ∧
    s.segmentArrival.sgv.ceiling = s.sgv.ceiling ∧ s.segmentArrival.sgv.standstill = s.sgv.standstill ∧
    s.segmentArrival.sgv.standWindow = s.sgv.standWindow ∧ s.segmentArrival.sgv.classSet = s.sgv.classSet := by
  unfold State.segmentArrival
  split <;> simp

@[simp] theorem State.handJoint_frame (s : State) (j : Coord) :
    (s.handJoint j).pending = s.pending ∧ (s.handJoint j).freeIdx = s.freeIdx ∧ (s.handJoint j).inputs = s.inputs ∧
    (s.handJoint j).rst.patterns = s.rst.patterns ∧ (s.handJoint j).rst.pool = s.rst.pool ∧
    (s.handJoint j).rst.classes = s.rst.classes ∧ (s.handJoint j).rst.rolls = s.rst.rolls ∧
    (s.handJoint j).rst.order = s.rst.order ∧ (s.handJoint j).rst.panelSerial = s.rst.panelSerial ∧
    (s.handJoint j).rst.line = s.rst.line ∧ (s.handJoint j).lnk = s.lnk ∧ (s.handJoint j).fsu = s.fsu ∧
    (s.handJoint j).ltr.segment = s.ltr.segment ∧ (s.handJoint j).ltr.classChange = s.ltr.classChange ∧
    (s.handJoint j).ltr.starved = s.ltr.starved ∧ (s.handJoint j).pfm = s.pfm ∧ (s.handJoint j).hsu = s.hsu ∧
    (s.handJoint j).exu = s.exu ∧ (s.handJoint j).sgv = s.sgv := by
  unfold State.handJoint
  (repeat' split) <;> simp

@[simp] theorem State.openWasteFrom_frame (s : State) (c : Coord) :
    (s.openWasteFrom c).pending = s.pending ∧ (s.openWasteFrom c).freeIdx = s.freeIdx ∧
    (s.openWasteFrom c).inputs = s.inputs ∧ (s.openWasteFrom c).rst = s.rst ∧ (s.openWasteFrom c).lnk = s.lnk ∧
    (s.openWasteFrom c).fsu = s.fsu ∧ (s.openWasteFrom c).ltr.pendingJoint = s.ltr.pendingJoint ∧
    (s.openWasteFrom c).ltr.classChange = s.ltr.classChange ∧ (s.openWasteFrom c).ltr.starved = s.ltr.starved ∧
    (s.openWasteFrom c).pfm = s.pfm ∧ (s.openWasteFrom c).hsu = s.hsu ∧ (s.openWasteFrom c).exu = s.exu ∧
    (s.openWasteFrom c).sgv = s.sgv := by
  unfold State.openWasteFrom
  dsimp only
  (repeat' split) <;> simp

@[simp] theorem State.endLotByThreading_frame (s : State) (l : Lot) :
    (s.endLotByThreading l).pending = s.pending ∧ (s.endLotByThreading l).freeIdx = s.freeIdx ∧
    (s.endLotByThreading l).inputs = s.inputs ∧ (s.endLotByThreading l).rst.rolls = s.rst.rolls ∧
    (s.endLotByThreading l).rst.panelSerial = s.rst.panelSerial ∧ (s.endLotByThreading l).rst.line = s.rst.line ∧
    (s.endLotByThreading l).lnk.alerts = s.lnk.alerts ∧ (s.endLotByThreading l).fsu = s.fsu ∧
    (s.endLotByThreading l).ltr.classChange = s.ltr.classChange ∧
    (s.endLotByThreading l).ltr.starved = s.ltr.starved ∧ (s.endLotByThreading l).pfm = s.pfm ∧
    (s.endLotByThreading l).hsu = s.hsu ∧ (s.endLotByThreading l).exu = s.exu ∧
    (s.endLotByThreading l).sgv = s.sgv := by
  unfold State.endLotByThreading
  split <;> simp

@[simp] theorem State.threadUnderLot_frame (s : State) :
    s.threadUnderLot.pending = s.pending ∧ s.threadUnderLot.freeIdx = s.freeIdx ∧ s.threadUnderLot.inputs = s.inputs ∧
    s.threadUnderLot.rst.rolls = s.rst.rolls ∧ s.threadUnderLot.rst.panelSerial = s.rst.panelSerial ∧
    s.threadUnderLot.rst.line = s.rst.line ∧ s.threadUnderLot.lnk.alerts = s.lnk.alerts ∧
    s.threadUnderLot.fsu = s.fsu ∧ s.threadUnderLot.ltr.classChange = s.ltr.classChange ∧
    s.threadUnderLot.ltr.starved = s.ltr.starved ∧ s.threadUnderLot.pfm = s.pfm ∧ s.threadUnderLot.hsu = s.hsu ∧
    s.threadUnderLot.exu = s.exu ∧ s.threadUnderLot.sgv = s.sgv := by
  unfold State.threadUnderLot
  (repeat' split) <;> simp

@[simp] theorem State.tailMoved_frame (s : State) (n : ℕ) :
    (s.tailMoved n).pending = s.pending ∧ (s.tailMoved n).freeIdx = s.freeIdx ∧ (s.tailMoved n).inputs = s.inputs ∧
    (s.tailMoved n).rst.rolls = s.rst.rolls ∧ (s.tailMoved n).rst.panelSerial = s.rst.panelSerial ∧
    (s.tailMoved n).rst.line = s.rst.line ∧ (s.tailMoved n).fsu = s.fsu ∧
    (s.tailMoved n).ltr.classChange = s.ltr.classChange ∧ (s.tailMoved n).pfm = s.pfm ∧ (s.tailMoved n).hsu = s.hsu ∧
    (s.tailMoved n).exu = s.exu ∧ (s.tailMoved n).sgv.gov = s.sgv.gov ∧ (s.tailMoved n).sgv.intent = s.sgv.intent ∧
    (s.tailMoved n).sgv.stops = s.sgv.stops ∧ (s.tailMoved n).sgv.trips = s.sgv.trips ∧
    (s.tailMoved n).sgv.stopPending = s.sgv.stopPending ∧ (s.tailMoved n).sgv.flatRef = s.sgv.flatRef ∧
    (s.tailMoved n).sgv.beltRef = s.sgv.beltRef ∧ (s.tailMoved n).sgv.ceiling = s.sgv.ceiling ∧
    (s.tailMoved n).sgv.standstill = s.sgv.standstill ∧ (s.tailMoved n).sgv.standWindow = s.sgv.standWindow ∧
    (s.tailMoved n).sgv.classSet = s.sgv.classSet := by
  unfold State.tailMoved
  (repeat' split) <;> simp

@[simp] theorem State.releaseIncoming_frame (s : State) :
    s.releaseIncoming.pending = s.pending ∧ s.releaseIncoming.freeIdx = s.freeIdx ∧
    s.releaseIncoming.inputs = s.inputs ∧ s.releaseIncoming.rst = s.rst ∧ s.releaseIncoming.lnk = s.lnk ∧
    s.releaseIncoming.fsu.w = s.fsu.w ∧ s.releaseIncoming.fsu.web = s.fsu.web ∧
    s.releaseIncoming.fsu.surfA = s.fsu.surfA ∧ s.releaseIncoming.fsu.surfB = s.fsu.surfB ∧
    s.releaseIncoming.fsu.phase = s.fsu.phase ∧ s.releaseIncoming.fsu.outcome = s.fsu.outcome ∧
    s.releaseIncoming.fsu.incoming = s.fsu.incoming ∧ s.releaseIncoming.fsu.outgoing = s.fsu.outgoing ∧
    s.releaseIncoming.fsu.limit = s.fsu.limit ∧ s.releaseIncoming.fsu.matchCount = s.fsu.matchCount ∧
    s.releaseIncoming.fsu.extend = s.fsu.extend ∧ s.releaseIncoming.fsu.knife = s.fsu.knife ∧
    s.releaseIncoming.fsu.locked = s.fsu.locked ∧ s.releaseIncoming.fsu.lockCount = s.fsu.lockCount ∧
    s.releaseIncoming.fsu.lossWatch = s.fsu.lossWatch ∧ s.releaseIncoming.fsu.dancer = s.fsu.dancer ∧
    s.releaseIncoming.fsu.dancerWindow = s.fsu.dancerWindow ∧ s.releaseIncoming.fsu.webBreak = s.fsu.webBreak ∧
    s.releaseIncoming.ltr = s.ltr ∧ s.releaseIncoming.pfm = s.pfm ∧ s.releaseIncoming.hsu = s.hsu ∧
    s.releaseIncoming.exu = s.exu ∧ s.releaseIncoming.sgv = s.sgv := by
  unfold State.releaseIncoming
  (repeat' split) <;> simp

@[simp] theorem State.spliceOver_frame (s : State) (o : SpliceOutcome) :
    (s.spliceOver o).pending = s.pending ∧ (s.spliceOver o).freeIdx = s.freeIdx ∧ (s.spliceOver o).inputs = s.inputs ∧
    (s.spliceOver o).rst = s.rst ∧ (s.spliceOver o).lnk = s.lnk ∧ (s.spliceOver o).fsu.w = s.fsu.w ∧
    (s.spliceOver o).fsu.web = s.fsu.web ∧ (s.spliceOver o).fsu.surfA = s.fsu.surfA ∧
    (s.spliceOver o).fsu.surfB = s.fsu.surfB ∧ (s.spliceOver o).fsu.staA = s.fsu.staA ∧
    (s.spliceOver o).fsu.staB = s.fsu.staB ∧ (s.spliceOver o).fsu.locked = s.fsu.locked ∧
    (s.spliceOver o).fsu.lockCount = s.fsu.lockCount ∧ (s.spliceOver o).fsu.lossWatch = s.fsu.lossWatch ∧
    (s.spliceOver o).fsu.dancer = s.fsu.dancer ∧ (s.spliceOver o).fsu.dancerWindow = s.fsu.dancerWindow ∧
    (s.spliceOver o).fsu.webBreak = s.fsu.webBreak ∧ (s.spliceOver o).ltr = s.ltr ∧ (s.spliceOver o).pfm = s.pfm ∧
    (s.spliceOver o).hsu = s.hsu ∧ (s.spliceOver o).exu = s.exu ∧ (s.spliceOver o).sgv = s.sgv := by
  simp [State.spliceOver]

@[simp] theorem State.abandonSplice_frame (s : State) (o : SpliceOutcome) :
    (s.abandonSplice o).pending = s.pending ∧ (s.abandonSplice o).freeIdx = s.freeIdx ∧
    (s.abandonSplice o).inputs = s.inputs ∧ (s.abandonSplice o).rst = s.rst ∧ (s.abandonSplice o).lnk = s.lnk ∧
    (s.abandonSplice o).fsu.w = s.fsu.w ∧ (s.abandonSplice o).fsu.web = s.fsu.web ∧
    (s.abandonSplice o).fsu.surfA = s.fsu.surfA ∧ (s.abandonSplice o).fsu.surfB = s.fsu.surfB ∧
    (s.abandonSplice o).fsu.locked = s.fsu.locked ∧ (s.abandonSplice o).fsu.lockCount = s.fsu.lockCount ∧
    (s.abandonSplice o).fsu.lossWatch = s.fsu.lossWatch ∧ (s.abandonSplice o).fsu.dancer = s.fsu.dancer ∧
    (s.abandonSplice o).fsu.dancerWindow = s.fsu.dancerWindow ∧ (s.abandonSplice o).fsu.webBreak = s.fsu.webBreak ∧
    (s.abandonSplice o).ltr.segment = s.ltr.segment ∧ (s.abandonSplice o).ltr.pendingJoint = s.ltr.pendingJoint ∧
    (s.abandonSplice o).ltr.starved = s.ltr.starved ∧ (s.abandonSplice o).pfm = s.pfm ∧
    (s.abandonSplice o).hsu = s.hsu ∧ (s.abandonSplice o).exu = s.exu ∧ (s.abandonSplice o).sgv = s.sgv := by
  unfold State.abandonSplice
  (repeat' split) <;> simp

@[simp] theorem State.clearTension_frame (s : State) :
    s.clearTension.pending = s.pending ∧ s.clearTension.freeIdx = s.freeIdx ∧ s.clearTension.inputs = s.inputs ∧
    s.clearTension.rst = s.rst ∧ s.clearTension.lnk = s.lnk ∧ s.clearTension.fsu.w = s.fsu.w ∧
    s.clearTension.fsu.web = s.fsu.web ∧ s.clearTension.fsu.surfA = s.fsu.surfA ∧
    s.clearTension.fsu.surfB = s.fsu.surfB ∧ s.clearTension.fsu.staA = s.fsu.staA ∧
    s.clearTension.fsu.staB = s.fsu.staB ∧ s.clearTension.fsu.phase = s.fsu.phase ∧
    s.clearTension.fsu.outcome = s.fsu.outcome ∧ s.clearTension.fsu.incoming = s.fsu.incoming ∧
    s.clearTension.fsu.outgoing = s.fsu.outgoing ∧ s.clearTension.fsu.limit = s.fsu.limit ∧
    s.clearTension.fsu.matchCount = s.fsu.matchCount ∧ s.clearTension.fsu.extend = s.fsu.extend ∧
    s.clearTension.fsu.knife = s.fsu.knife ∧ s.clearTension.fsu.dancer = s.fsu.dancer ∧
    s.clearTension.fsu.dancerWindow = s.fsu.dancerWindow ∧ s.clearTension.fsu.webBreak = s.fsu.webBreak ∧
    s.clearTension.ltr = s.ltr ∧ s.clearTension.pfm = s.pfm ∧ s.clearTension.hsu = s.hsu ∧
    s.clearTension.exu = s.exu ∧ s.clearTension.sgv = s.sgv := by
  simp [State.clearTension]

@[simp] theorem State.judgeExpiring_frame (s : State) :
    s.judgeExpiring.pending = s.pending ∧ s.judgeExpiring.freeIdx = s.freeIdx ∧ s.judgeExpiring.inputs = s.inputs ∧
    s.judgeExpiring.rst.patterns = s.rst.patterns ∧ s.judgeExpiring.rst.pool = s.rst.pool ∧
    s.judgeExpiring.rst.classes = s.rst.classes ∧ s.judgeExpiring.rst.lots = s.rst.lots ∧
    s.judgeExpiring.rst.order = s.rst.order ∧ s.judgeExpiring.rst.panels = s.rst.panels ∧
    s.judgeExpiring.rst.panelSerial = s.rst.panelSerial ∧ s.judgeExpiring.rst.line = s.rst.line ∧
    s.judgeExpiring.lnk.sup = s.lnk.sup ∧ s.judgeExpiring.lnk.pen = s.lnk.pen ∧ s.judgeExpiring.fsu = s.fsu ∧
    s.judgeExpiring.ltr = s.ltr ∧ s.judgeExpiring.pfm = s.pfm ∧ s.judgeExpiring.hsu = s.hsu ∧
    s.judgeExpiring.exu = s.exu ∧ s.judgeExpiring.sgv = s.sgv := by
  unfold State.judgeExpiring
  (repeat' split) <;> simp

@[simp] theorem State.thread_frame (s : State) (x : Station) :
    (s.thread x).pending = s.pending ∧ (s.thread x).inputs = s.inputs ∧
    (s.thread x).rst.panelSerial = s.rst.panelSerial ∧ (s.thread x).rst.line = s.rst.line ∧
    (s.thread x).fsu.w = s.fsu.w ∧ (s.thread x).fsu.web = s.fsu.web ∧ (s.thread x).fsu.surfA = s.fsu.surfA ∧
    (s.thread x).fsu.surfB = s.fsu.surfB ∧ (s.thread x).fsu.phase = s.fsu.phase ∧
    (s.thread x).fsu.outcome = s.fsu.outcome ∧ (s.thread x).fsu.incoming = s.fsu.incoming ∧
    (s.thread x).fsu.outgoing = s.fsu.outgoing ∧ (s.thread x).fsu.limit = s.fsu.limit ∧
    (s.thread x).fsu.matchCount = s.fsu.matchCount ∧ (s.thread x).fsu.extend = s.fsu.extend ∧
    (s.thread x).fsu.knife = s.fsu.knife ∧ (s.thread x).fsu.lossWatch = s.fsu.lossWatch ∧
    (s.thread x).fsu.dancer = s.fsu.dancer ∧ (s.thread x).fsu.dancerWindow = s.fsu.dancerWindow ∧
    (s.thread x).fsu.webBreak = s.fsu.webBreak ∧ (s.thread x).ltr.classChange = s.ltr.classChange ∧
    (s.thread x).ltr.starved = s.ltr.starved ∧ (s.thread x).pfm = s.pfm ∧ (s.thread x).hsu.pressure = s.hsu.pressure ∧
    (s.thread x).hsu.pressureReading = s.hsu.pressureReading ∧ (s.thread x).hsu.permit = s.hsu.permit ∧
    (s.thread x).exu = s.exu ∧ (s.thread x).sgv.gov = s.sgv.gov ∧ (s.thread x).sgv.intent = s.sgv.intent ∧
    (s.thread x).sgv.holds = s.sgv.holds ∧ (s.thread x).sgv.stops = s.sgv.stops ∧
    (s.thread x).sgv.trips = s.sgv.trips ∧ (s.thread x).sgv.stopPending = s.sgv.stopPending ∧
    (s.thread x).sgv.flatRef = s.sgv.flatRef ∧ (s.thread x).sgv.beltRef = s.sgv.beltRef ∧
    (s.thread x).sgv.ceiling = s.sgv.ceiling ∧ (s.thread x).sgv.standstill = s.sgv.standstill ∧
    (s.thread x).sgv.standWindow = s.sgv.standWindow := by
  unfold State.thread
  dsimp only
  (repeat' split) <;> simp

@[simp] theorem State.threadTest_frame (s : State) :
    s.threadTest.pending = s.pending ∧ s.threadTest.inputs = s.inputs ∧
    s.threadTest.rst.panelSerial = s.rst.panelSerial ∧ s.threadTest.rst.line = s.rst.line ∧
    s.threadTest.fsu.w = s.fsu.w ∧ s.threadTest.fsu.web = s.fsu.web ∧ s.threadTest.fsu.surfA = s.fsu.surfA ∧
    s.threadTest.fsu.surfB = s.fsu.surfB ∧ s.threadTest.fsu.phase = s.fsu.phase ∧
    s.threadTest.fsu.outcome = s.fsu.outcome ∧ s.threadTest.fsu.incoming = s.fsu.incoming ∧
    s.threadTest.fsu.outgoing = s.fsu.outgoing ∧ s.threadTest.fsu.limit = s.fsu.limit ∧
    s.threadTest.fsu.matchCount = s.fsu.matchCount ∧ s.threadTest.fsu.extend = s.fsu.extend ∧
    s.threadTest.fsu.knife = s.fsu.knife ∧ s.threadTest.fsu.lossWatch = s.fsu.lossWatch ∧
    s.threadTest.fsu.dancer = s.fsu.dancer ∧ s.threadTest.fsu.dancerWindow = s.fsu.dancerWindow ∧
    s.threadTest.fsu.webBreak = s.fsu.webBreak ∧ s.threadTest.ltr.classChange = s.ltr.classChange ∧
    s.threadTest.ltr.starved = s.ltr.starved ∧ s.threadTest.pfm = s.pfm ∧ s.threadTest.hsu.pressure = s.hsu.pressure ∧
    s.threadTest.hsu.pressureReading = s.hsu.pressureReading ∧ s.threadTest.hsu.permit = s.hsu.permit ∧
    s.threadTest.exu = s.exu ∧ s.threadTest.sgv.gov = s.sgv.gov ∧ s.threadTest.sgv.intent = s.sgv.intent ∧
    s.threadTest.sgv.holds = s.sgv.holds ∧ s.threadTest.sgv.stops = s.sgv.stops ∧
    s.threadTest.sgv.trips = s.sgv.trips ∧ s.threadTest.sgv.stopPending = s.sgv.stopPending ∧
    s.threadTest.sgv.flatRef = s.sgv.flatRef ∧ s.threadTest.sgv.beltRef = s.sgv.beltRef ∧
    s.threadTest.sgv.ceiling = s.sgv.ceiling ∧ s.threadTest.sgv.standstill = s.sgv.standstill ∧
    s.threadTest.sgv.standWindow = s.sgv.standWindow := by
  unfold State.threadTest
  (repeat' split) <;> simp

@[simp] theorem State.enterHalting_frame (s : State) :
    s.enterHalting.pending = s.pending ∧ s.enterHalting.freeIdx = s.freeIdx ∧ s.enterHalting.inputs = s.inputs ∧
    s.enterHalting.rst = s.rst ∧ s.enterHalting.lnk = s.lnk ∧ s.enterHalting.fsu.w = s.fsu.w ∧
    s.enterHalting.fsu.web = s.fsu.web ∧ s.enterHalting.fsu.surfA = s.fsu.surfA ∧
    s.enterHalting.fsu.surfB = s.fsu.surfB ∧ s.enterHalting.fsu.locked = s.fsu.locked ∧
    s.enterHalting.fsu.lockCount = s.fsu.lockCount ∧ s.enterHalting.fsu.lossWatch = s.fsu.lossWatch ∧
    s.enterHalting.fsu.dancer = s.fsu.dancer ∧ s.enterHalting.fsu.dancerWindow = s.fsu.dancerWindow ∧
    s.enterHalting.fsu.webBreak = s.fsu.webBreak ∧ s.enterHalting.ltr.segment = s.ltr.segment ∧
    s.enterHalting.ltr.pendingJoint = s.ltr.pendingJoint ∧ s.enterHalting.ltr.starved = s.ltr.starved ∧
    s.enterHalting.pfm.forming = s.pfm.forming ∧ s.enterHalting.pfm.nextStart = s.pfm.nextStart ∧
    s.enterHalting.pfm.nextStrike = s.pfm.nextStrike ∧ s.enterHalting.pfm.cycle = s.pfm.cycle ∧
    s.enterHalting.pfm.bladeLimit = s.pfm.bladeLimit ∧ s.enterHalting.pfm.strikeFor = s.pfm.strikeFor ∧
    s.enterHalting.pfm.nextWaste = s.pfm.nextWaste ∧ s.enterHalting.pfm.strikeCeiling = s.pfm.strikeCeiling ∧
    s.enterHalting.pfm.strike = s.pfm.strike ∧ s.enterHalting.pfm.depths = s.pfm.depths ∧
    s.enterHalting.hsu.pressure = s.hsu.pressure ∧ s.enterHalting.hsu.pressureReading = s.hsu.pressureReading ∧
    s.enterHalting.hsu.permit = s.hsu.permit ∧ s.enterHalting.exu = s.exu ∧ s.enterHalting.sgv.holds = s.sgv.holds ∧
    s.enterHalting.sgv.stops = s.sgv.stops ∧ s.enterHalting.sgv.trips = s.sgv.trips ∧
    s.enterHalting.sgv.flatRef = s.sgv.flatRef ∧ s.enterHalting.sgv.beltRef = s.sgv.beltRef ∧
    s.enterHalting.sgv.ceiling = s.sgv.ceiling ∧ s.enterHalting.sgv.classSet = s.sgv.classSet := by
  unfold State.enterHalting
  dsimp only
  (repeat' split) <;> simp

@[simp] theorem State.deferStop_frame (s : State) :
    s.deferStop.pending = s.pending ∧ s.deferStop.freeIdx = s.freeIdx ∧ s.deferStop.inputs = s.inputs ∧
    s.deferStop.rst = s.rst ∧ s.deferStop.lnk = s.lnk ∧ s.deferStop.fsu = s.fsu ∧ s.deferStop.ltr = s.ltr ∧
    s.deferStop.pfm = s.pfm ∧ s.deferStop.hsu = s.hsu ∧ s.deferStop.exu = s.exu ∧
    s.deferStop.sgv.holds = s.sgv.holds ∧ s.deferStop.sgv.stops = s.sgv.stops ∧ s.deferStop.sgv.trips = s.sgv.trips ∧
    s.deferStop.sgv.flatRef = s.sgv.flatRef ∧ s.deferStop.sgv.beltRef = s.sgv.beltRef ∧
    s.deferStop.sgv.ceiling = s.sgv.ceiling ∧ s.deferStop.sgv.standstill = s.sgv.standstill ∧
    s.deferStop.sgv.standWindow = s.sgv.standWindow ∧ s.deferStop.sgv.classSet = s.sgv.classSet := by
  simp [State.deferStop]

@[simp] theorem State.stopLine_frame (s : State) :
    s.stopLine.pending = s.pending ∧ s.stopLine.freeIdx = s.freeIdx ∧ s.stopLine.inputs = s.inputs ∧
    s.stopLine.rst = s.rst ∧ s.stopLine.lnk = s.lnk ∧ s.stopLine.fsu.w = s.fsu.w ∧ s.stopLine.fsu.web = s.fsu.web ∧
    s.stopLine.fsu.surfA = s.fsu.surfA ∧ s.stopLine.fsu.surfB = s.fsu.surfB ∧ s.stopLine.fsu.locked = s.fsu.locked ∧
    s.stopLine.fsu.lockCount = s.fsu.lockCount ∧ s.stopLine.fsu.lossWatch = s.fsu.lossWatch ∧
    s.stopLine.fsu.dancer = s.fsu.dancer ∧ s.stopLine.fsu.dancerWindow = s.fsu.dancerWindow ∧
    s.stopLine.fsu.webBreak = s.fsu.webBreak ∧ s.stopLine.ltr.segment = s.ltr.segment ∧
    s.stopLine.ltr.pendingJoint = s.ltr.pendingJoint ∧ s.stopLine.ltr.starved = s.ltr.starved ∧
    s.stopLine.pfm.forming = s.pfm.forming ∧ s.stopLine.pfm.nextStart = s.pfm.nextStart ∧
    s.stopLine.pfm.nextStrike = s.pfm.nextStrike ∧ s.stopLine.pfm.cycle = s.pfm.cycle ∧
    s.stopLine.pfm.bladeLimit = s.pfm.bladeLimit ∧ s.stopLine.pfm.strikeFor = s.pfm.strikeFor ∧
    s.stopLine.pfm.nextWaste = s.pfm.nextWaste ∧ s.stopLine.pfm.strikeCeiling = s.pfm.strikeCeiling ∧
    s.stopLine.pfm.strike = s.pfm.strike ∧ s.stopLine.pfm.depths = s.pfm.depths ∧
    s.stopLine.hsu.pressure = s.hsu.pressure ∧ s.stopLine.hsu.pressureReading = s.hsu.pressureReading ∧
    s.stopLine.hsu.permit = s.hsu.permit ∧ s.stopLine.exu = s.exu ∧ s.stopLine.sgv.holds = s.sgv.holds ∧
    s.stopLine.sgv.stops = s.sgv.stops ∧ s.stopLine.sgv.trips = s.sgv.trips ∧ s.stopLine.sgv.flatRef = s.sgv.flatRef ∧
    s.stopLine.sgv.beltRef = s.sgv.beltRef ∧ s.stopLine.sgv.ceiling = s.sgv.ceiling ∧
    s.stopLine.sgv.classSet = s.sgv.classSet := by
  unfold State.stopLine
  (repeat' split) <;> simp

@[simp] theorem State.raiseStop_frame (s : State) (c : StopCause) :
    (s.raiseStop c).pending = s.pending ∧ (s.raiseStop c).freeIdx = s.freeIdx ∧ (s.raiseStop c).inputs = s.inputs ∧
    (s.raiseStop c).rst = s.rst ∧ (s.raiseStop c).lnk.sup = s.lnk.sup ∧ (s.raiseStop c).lnk.pen = s.lnk.pen ∧
    (s.raiseStop c).fsu.w = s.fsu.w ∧ (s.raiseStop c).fsu.web = s.fsu.web ∧ (s.raiseStop c).fsu.surfA = s.fsu.surfA ∧
    (s.raiseStop c).fsu.surfB = s.fsu.surfB ∧ (s.raiseStop c).fsu.locked = s.fsu.locked ∧
    (s.raiseStop c).fsu.lockCount = s.fsu.lockCount ∧ (s.raiseStop c).fsu.lossWatch = s.fsu.lossWatch ∧
    (s.raiseStop c).fsu.dancer = s.fsu.dancer ∧ (s.raiseStop c).fsu.dancerWindow = s.fsu.dancerWindow ∧
    (s.raiseStop c).fsu.webBreak = s.fsu.webBreak ∧ (s.raiseStop c).ltr.segment = s.ltr.segment ∧
    (s.raiseStop c).ltr.pendingJoint = s.ltr.pendingJoint ∧ (s.raiseStop c).ltr.starved = s.ltr.starved ∧
    (s.raiseStop c).pfm.forming = s.pfm.forming ∧ (s.raiseStop c).pfm.nextStart = s.pfm.nextStart ∧
    (s.raiseStop c).pfm.nextStrike = s.pfm.nextStrike ∧ (s.raiseStop c).pfm.cycle = s.pfm.cycle ∧
    (s.raiseStop c).pfm.bladeLimit = s.pfm.bladeLimit ∧ (s.raiseStop c).pfm.strikeFor = s.pfm.strikeFor ∧
    (s.raiseStop c).pfm.nextWaste = s.pfm.nextWaste ∧ (s.raiseStop c).pfm.strikeCeiling = s.pfm.strikeCeiling ∧
    (s.raiseStop c).pfm.strike = s.pfm.strike ∧ (s.raiseStop c).pfm.depths = s.pfm.depths ∧
    (s.raiseStop c).hsu.pressure = s.hsu.pressure ∧ (s.raiseStop c).hsu.pressureReading = s.hsu.pressureReading ∧
    (s.raiseStop c).hsu.permit = s.hsu.permit ∧ (s.raiseStop c).exu = s.exu ∧
    (s.raiseStop c).sgv.holds = s.sgv.holds ∧ (s.raiseStop c).sgv.trips = s.sgv.trips ∧
    (s.raiseStop c).sgv.flatRef = s.sgv.flatRef ∧ (s.raiseStop c).sgv.beltRef = s.sgv.beltRef ∧
    (s.raiseStop c).sgv.ceiling = s.sgv.ceiling ∧ (s.raiseStop c).sgv.classSet = s.sgv.classSet := by
  simp [State.raiseStop]

@[simp] theorem State.enterTripped_frame (s : State) :
    s.enterTripped.pending = s.pending ∧ s.enterTripped.freeIdx = s.freeIdx ∧ s.enterTripped.inputs = s.inputs ∧
    s.enterTripped.rst.patterns = s.rst.patterns ∧ s.enterTripped.rst.pool = s.rst.pool ∧
    s.enterTripped.rst.classes = s.rst.classes ∧ s.enterTripped.rst.rolls = s.rst.rolls ∧
    s.enterTripped.rst.lots = s.rst.lots ∧ s.enterTripped.rst.order = s.rst.order ∧
    s.enterTripped.rst.panelSerial = s.rst.panelSerial ∧ s.enterTripped.rst.line = s.rst.line ∧
    s.enterTripped.lnk.sup = s.lnk.sup ∧ s.enterTripped.lnk.pen = s.lnk.pen ∧ s.enterTripped.fsu.w = s.fsu.w ∧
    s.enterTripped.fsu.web = s.fsu.web ∧ s.enterTripped.fsu.surfA = s.fsu.surfA ∧
    s.enterTripped.fsu.surfB = s.fsu.surfB ∧ s.enterTripped.fsu.locked = s.fsu.locked ∧
    s.enterTripped.fsu.lockCount = s.fsu.lockCount ∧ s.enterTripped.fsu.lossWatch = s.fsu.lossWatch ∧
    s.enterTripped.fsu.dancer = s.fsu.dancer ∧ s.enterTripped.fsu.dancerWindow = s.fsu.dancerWindow ∧
    s.enterTripped.fsu.webBreak = s.fsu.webBreak ∧ s.enterTripped.ltr.segment = s.ltr.segment ∧
    s.enterTripped.ltr.pendingJoint = s.ltr.pendingJoint ∧ s.enterTripped.ltr.starved = s.ltr.starved ∧
    s.enterTripped.pfm.forming = s.pfm.forming ∧ s.enterTripped.pfm.nextStart = s.pfm.nextStart ∧
    s.enterTripped.pfm.nextStrike = s.pfm.nextStrike ∧ s.enterTripped.pfm.nextWaste = s.pfm.nextWaste ∧
    s.enterTripped.pfm.strikeCeiling = s.pfm.strikeCeiling ∧ s.enterTripped.hsu.pressure = s.hsu.pressure ∧
    s.enterTripped.hsu.pressureReading = s.hsu.pressureReading ∧ s.enterTripped.hsu.permit = s.hsu.permit ∧
    s.enterTripped.exu.b = s.exu.b ∧ s.enterTripped.exu.belt = s.exu.belt ∧ s.enterTripped.exu.last = s.exu.last ∧
    s.enterTripped.sgv.stops = s.sgv.stops ∧ s.enterTripped.sgv.trips = s.sgv.trips ∧
    s.enterTripped.sgv.flatRef = s.sgv.flatRef ∧ s.enterTripped.sgv.beltRef = s.sgv.beltRef ∧
    s.enterTripped.sgv.ceiling = s.sgv.ceiling ∧ s.enterTripped.sgv.standstill = s.sgv.standstill ∧
    s.enterTripped.sgv.standWindow = s.sgv.standWindow ∧ s.enterTripped.sgv.classSet = s.sgv.classSet := by
  simp [State.enterTripped]

@[simp] theorem State.raiseTrip_frame (s : State) (c : TripCause) :
    (s.raiseTrip c).pending = s.pending ∧ (s.raiseTrip c).freeIdx = s.freeIdx ∧ (s.raiseTrip c).inputs = s.inputs ∧
    (s.raiseTrip c).rst.patterns = s.rst.patterns ∧ (s.raiseTrip c).rst.pool = s.rst.pool ∧
    (s.raiseTrip c).rst.classes = s.rst.classes ∧ (s.raiseTrip c).rst.rolls = s.rst.rolls ∧
    (s.raiseTrip c).rst.lots = s.rst.lots ∧ (s.raiseTrip c).rst.order = s.rst.order ∧
    (s.raiseTrip c).rst.panelSerial = s.rst.panelSerial ∧ (s.raiseTrip c).rst.line = s.rst.line ∧
    (s.raiseTrip c).lnk.sup = s.lnk.sup ∧ (s.raiseTrip c).lnk.pen = s.lnk.pen ∧ (s.raiseTrip c).fsu.w = s.fsu.w ∧
    (s.raiseTrip c).fsu.web = s.fsu.web ∧ (s.raiseTrip c).fsu.surfA = s.fsu.surfA ∧
    (s.raiseTrip c).fsu.surfB = s.fsu.surfB ∧ (s.raiseTrip c).fsu.locked = s.fsu.locked ∧
    (s.raiseTrip c).fsu.lockCount = s.fsu.lockCount ∧ (s.raiseTrip c).fsu.lossWatch = s.fsu.lossWatch ∧
    (s.raiseTrip c).fsu.dancer = s.fsu.dancer ∧ (s.raiseTrip c).fsu.dancerWindow = s.fsu.dancerWindow ∧
    (s.raiseTrip c).fsu.webBreak = s.fsu.webBreak ∧ (s.raiseTrip c).ltr.segment = s.ltr.segment ∧
    (s.raiseTrip c).ltr.pendingJoint = s.ltr.pendingJoint ∧ (s.raiseTrip c).ltr.starved = s.ltr.starved ∧
    (s.raiseTrip c).pfm.forming = s.pfm.forming ∧ (s.raiseTrip c).pfm.nextStart = s.pfm.nextStart ∧
    (s.raiseTrip c).pfm.nextStrike = s.pfm.nextStrike ∧ (s.raiseTrip c).pfm.nextWaste = s.pfm.nextWaste ∧
    (s.raiseTrip c).pfm.strikeCeiling = s.pfm.strikeCeiling ∧ (s.raiseTrip c).hsu.pressure = s.hsu.pressure ∧
    (s.raiseTrip c).hsu.pressureReading = s.hsu.pressureReading ∧ (s.raiseTrip c).hsu.permit = s.hsu.permit ∧
    (s.raiseTrip c).exu.b = s.exu.b ∧ (s.raiseTrip c).exu.belt = s.exu.belt ∧ (s.raiseTrip c).exu.last = s.exu.last ∧
    (s.raiseTrip c).sgv.stops = s.sgv.stops ∧ (s.raiseTrip c).sgv.flatRef = s.sgv.flatRef ∧
    (s.raiseTrip c).sgv.beltRef = s.sgv.beltRef ∧ (s.raiseTrip c).sgv.ceiling = s.sgv.ceiling ∧
    (s.raiseTrip c).sgv.standstill = s.sgv.standstill ∧ (s.raiseTrip c).sgv.standWindow = s.sgv.standWindow ∧
    (s.raiseTrip c).sgv.classSet = s.sgv.classSet := by
  unfold State.raiseTrip
  dsimp only
  (repeat' split) <;> simp

@[simp] theorem State.enterStopped_frame (s : State) :
    s.enterStopped.pending = s.pending ∧ s.enterStopped.inputs = s.inputs ∧
    s.enterStopped.rst.panelSerial = s.rst.panelSerial ∧ s.enterStopped.rst.line = s.rst.line ∧
    s.enterStopped.fsu.w = s.fsu.w ∧ s.enterStopped.fsu.web = s.fsu.web ∧ s.enterStopped.fsu.surfA = s.fsu.surfA ∧
    s.enterStopped.fsu.surfB = s.fsu.surfB ∧ s.enterStopped.fsu.phase = s.fsu.phase ∧
    s.enterStopped.fsu.outcome = s.fsu.outcome ∧ s.enterStopped.fsu.incoming = s.fsu.incoming ∧
    s.enterStopped.fsu.outgoing = s.fsu.outgoing ∧ s.enterStopped.fsu.limit = s.fsu.limit ∧
    s.enterStopped.fsu.matchCount = s.fsu.matchCount ∧ s.enterStopped.fsu.extend = s.fsu.extend ∧
    s.enterStopped.fsu.knife = s.fsu.knife ∧ s.enterStopped.fsu.lossWatch = s.fsu.lossWatch ∧
    s.enterStopped.fsu.dancer = s.fsu.dancer ∧ s.enterStopped.fsu.dancerWindow = s.fsu.dancerWindow ∧
    s.enterStopped.fsu.webBreak = s.fsu.webBreak ∧ s.enterStopped.ltr.classChange = s.ltr.classChange ∧
    s.enterStopped.ltr.starved = s.ltr.starved ∧ s.enterStopped.pfm.forming = s.pfm.forming ∧
    s.enterStopped.pfm.nextStart = s.pfm.nextStart ∧ s.enterStopped.pfm.nextStrike = s.pfm.nextStrike ∧
    s.enterStopped.pfm.cycle = s.pfm.cycle ∧ s.enterStopped.pfm.bladeLimit = s.pfm.bladeLimit ∧
    s.enterStopped.pfm.strikeFor = s.pfm.strikeFor ∧ s.enterStopped.pfm.nextWaste = s.pfm.nextWaste ∧
    s.enterStopped.pfm.strikeCeiling = s.pfm.strikeCeiling ∧ s.enterStopped.pfm.strike = s.pfm.strike ∧
    s.enterStopped.pfm.depths = s.pfm.depths ∧ s.enterStopped.hsu.pressure = s.hsu.pressure ∧
    s.enterStopped.hsu.pressureReading = s.hsu.pressureReading ∧ s.enterStopped.hsu.permit = s.hsu.permit ∧
    s.enterStopped.exu = s.exu ∧ s.enterStopped.sgv.holds = s.sgv.holds ∧ s.enterStopped.sgv.stops = s.sgv.stops ∧
    s.enterStopped.sgv.trips = s.sgv.trips ∧ s.enterStopped.sgv.stopPending = s.sgv.stopPending ∧
    s.enterStopped.sgv.flatRef = s.sgv.flatRef ∧ s.enterStopped.sgv.beltRef = s.sgv.beltRef ∧
    s.enterStopped.sgv.ceiling = s.sgv.ceiling ∧ s.enterStopped.sgv.standstill = s.sgv.standstill ∧
    s.enterStopped.sgv.standWindow = s.sgv.standWindow := by
  simp [State.enterStopped]

@[simp] theorem State.haltIfPending_frame (s : State) :
    s.haltIfPending.pending = s.pending ∧ s.haltIfPending.freeIdx = s.freeIdx ∧ s.haltIfPending.inputs = s.inputs ∧
    s.haltIfPending.rst = s.rst ∧ s.haltIfPending.lnk = s.lnk ∧ s.haltIfPending.fsu.w = s.fsu.w ∧
    s.haltIfPending.fsu.web = s.fsu.web ∧ s.haltIfPending.fsu.surfA = s.fsu.surfA ∧
    s.haltIfPending.fsu.surfB = s.fsu.surfB ∧ s.haltIfPending.fsu.locked = s.fsu.locked ∧
    s.haltIfPending.fsu.lockCount = s.fsu.lockCount ∧ s.haltIfPending.fsu.lossWatch = s.fsu.lossWatch ∧
    s.haltIfPending.fsu.dancer = s.fsu.dancer ∧ s.haltIfPending.fsu.dancerWindow = s.fsu.dancerWindow ∧
    s.haltIfPending.fsu.webBreak = s.fsu.webBreak ∧ s.haltIfPending.ltr.segment = s.ltr.segment ∧
    s.haltIfPending.ltr.pendingJoint = s.ltr.pendingJoint ∧ s.haltIfPending.ltr.starved = s.ltr.starved ∧
    s.haltIfPending.pfm.forming = s.pfm.forming ∧ s.haltIfPending.pfm.nextStart = s.pfm.nextStart ∧
    s.haltIfPending.pfm.nextStrike = s.pfm.nextStrike ∧ s.haltIfPending.pfm.cycle = s.pfm.cycle ∧
    s.haltIfPending.pfm.bladeLimit = s.pfm.bladeLimit ∧ s.haltIfPending.pfm.strikeFor = s.pfm.strikeFor ∧
    s.haltIfPending.pfm.nextWaste = s.pfm.nextWaste ∧ s.haltIfPending.pfm.strikeCeiling = s.pfm.strikeCeiling ∧
    s.haltIfPending.pfm.strike = s.pfm.strike ∧ s.haltIfPending.pfm.depths = s.pfm.depths ∧
    s.haltIfPending.hsu.pressure = s.hsu.pressure ∧ s.haltIfPending.hsu.pressureReading = s.hsu.pressureReading ∧
    s.haltIfPending.hsu.permit = s.hsu.permit ∧ s.haltIfPending.exu = s.exu ∧
    s.haltIfPending.sgv.holds = s.sgv.holds ∧ s.haltIfPending.sgv.stops = s.sgv.stops ∧
    s.haltIfPending.sgv.trips = s.sgv.trips ∧ s.haltIfPending.sgv.flatRef = s.sgv.flatRef ∧
    s.haltIfPending.sgv.beltRef = s.sgv.beltRef ∧ s.haltIfPending.sgv.ceiling = s.sgv.ceiling ∧
    s.haltIfPending.sgv.classSet = s.sgv.classSet := by
  unfold State.haltIfPending
  split <;> simp

@[simp] theorem State.assertEStop_frame (s : State) :
    s.assertEStop.pending = s.pending ∧ s.assertEStop.inputs = s.inputs ∧
    s.assertEStop.rst.patterns = s.rst.patterns ∧ s.assertEStop.rst.pool = s.rst.pool ∧
    s.assertEStop.rst.classes = s.rst.classes ∧ s.assertEStop.rst.rolls = s.rst.rolls ∧
    s.assertEStop.rst.lots = s.rst.lots ∧ s.assertEStop.rst.order = s.rst.order ∧
    s.assertEStop.rst.panelSerial = s.rst.panelSerial ∧ s.assertEStop.lnk.sup = s.lnk.sup ∧
    s.assertEStop.lnk.pen = s.lnk.pen ∧ s.assertEStop.fsu.w = s.fsu.w ∧ s.assertEStop.fsu.web = s.fsu.web ∧
    s.assertEStop.fsu.surfA = s.fsu.surfA ∧ s.assertEStop.fsu.surfB = s.fsu.surfB ∧
    s.assertEStop.fsu.locked = s.fsu.locked ∧ s.assertEStop.fsu.lockCount = s.fsu.lockCount ∧
    s.assertEStop.fsu.lossWatch = s.fsu.lossWatch ∧ s.assertEStop.fsu.dancer = s.fsu.dancer ∧
    s.assertEStop.fsu.dancerWindow = s.fsu.dancerWindow ∧ s.assertEStop.fsu.webBreak = s.fsu.webBreak ∧
    s.assertEStop.ltr.segment = s.ltr.segment ∧ s.assertEStop.ltr.pendingJoint = s.ltr.pendingJoint ∧
    s.assertEStop.ltr.starved = s.ltr.starved ∧ s.assertEStop.pfm.forming = s.pfm.forming ∧
    s.assertEStop.pfm.nextStart = s.pfm.nextStart ∧ s.assertEStop.pfm.nextStrike = s.pfm.nextStrike ∧
    s.assertEStop.pfm.nextWaste = s.pfm.nextWaste ∧ s.assertEStop.pfm.strikeCeiling = s.pfm.strikeCeiling ∧
    s.assertEStop.hsu.pressure = s.hsu.pressure ∧ s.assertEStop.hsu.pressureReading = s.hsu.pressureReading ∧
    s.assertEStop.exu.b = s.exu.b ∧ s.assertEStop.exu.belt = s.exu.belt ∧ s.assertEStop.exu.last = s.exu.last ∧
    s.assertEStop.sgv.stops = s.sgv.stops ∧ s.assertEStop.sgv.flatRef = s.sgv.flatRef ∧
    s.assertEStop.sgv.beltRef = s.sgv.beltRef ∧ s.assertEStop.sgv.ceiling = s.sgv.ceiling ∧
    s.assertEStop.sgv.standstill = s.sgv.standstill ∧ s.assertEStop.sgv.standWindow = s.sgv.standWindow ∧
    s.assertEStop.sgv.classSet = s.sgv.classSet := by
  unfold State.assertEStop
  (repeat' split) <;> simp

@[simp] theorem State.testStep_frame (s : State) :
    s.testStep.pending = s.pending ∧ s.testStep.inputs = s.inputs ∧ s.testStep.rst.panelSerial = s.rst.panelSerial ∧
    s.testStep.rst.line = s.rst.line ∧ s.testStep.fsu.w = s.fsu.w ∧ s.testStep.fsu.web = s.fsu.web ∧
    s.testStep.fsu.surfA = s.fsu.surfA ∧ s.testStep.fsu.surfB = s.fsu.surfB ∧ s.testStep.fsu.phase = s.fsu.phase ∧
    s.testStep.fsu.outcome = s.fsu.outcome ∧ s.testStep.fsu.incoming = s.fsu.incoming ∧
    s.testStep.fsu.outgoing = s.fsu.outgoing ∧ s.testStep.fsu.limit = s.fsu.limit ∧
    s.testStep.fsu.matchCount = s.fsu.matchCount ∧ s.testStep.fsu.extend = s.fsu.extend ∧
    s.testStep.fsu.knife = s.fsu.knife ∧ s.testStep.fsu.lossWatch = s.fsu.lossWatch ∧
    s.testStep.fsu.dancer = s.fsu.dancer ∧ s.testStep.fsu.dancerWindow = s.fsu.dancerWindow ∧
    s.testStep.fsu.webBreak = s.fsu.webBreak ∧ s.testStep.ltr.classChange = s.ltr.classChange ∧
    s.testStep.ltr.starved = s.ltr.starved ∧ s.testStep.pfm.forming = s.pfm.forming ∧
    s.testStep.pfm.nextStart = s.pfm.nextStart ∧ s.testStep.pfm.nextStrike = s.pfm.nextStrike ∧
    s.testStep.pfm.cycle = s.pfm.cycle ∧ s.testStep.pfm.bladeLimit = s.pfm.bladeLimit ∧
    s.testStep.pfm.strikeFor = s.pfm.strikeFor ∧ s.testStep.pfm.nextWaste = s.pfm.nextWaste ∧
    s.testStep.pfm.strikeCeiling = s.pfm.strikeCeiling ∧ s.testStep.pfm.strike = s.pfm.strike ∧
    s.testStep.pfm.depths = s.pfm.depths ∧ s.testStep.hsu.pressure = s.hsu.pressure ∧
    s.testStep.hsu.pressureReading = s.hsu.pressureReading ∧ s.testStep.hsu.permit = s.hsu.permit ∧
    s.testStep.exu = s.exu ∧ s.testStep.sgv.holds = s.sgv.holds ∧ s.testStep.sgv.stops = s.sgv.stops ∧
    s.testStep.sgv.trips = s.sgv.trips ∧ s.testStep.sgv.stopPending = s.sgv.stopPending ∧
    s.testStep.sgv.flatRef = s.sgv.flatRef ∧ s.testStep.sgv.beltRef = s.sgv.beltRef ∧
    s.testStep.sgv.ceiling = s.sgv.ceiling ∧ s.testStep.sgv.standstill = s.sgv.standstill ∧
    s.testStep.sgv.standWindow = s.sgv.standWindow := by
  unfold State.testStep
  split <;> simp

@[simp] theorem State.beginSplice_frame (s : State) :
    s.beginSplice.pending = s.pending ∧ s.beginSplice.freeIdx = s.freeIdx ∧ s.beginSplice.inputs = s.inputs ∧
    s.beginSplice.rst = s.rst ∧ s.beginSplice.lnk = s.lnk ∧ s.beginSplice.fsu.w = s.fsu.w ∧
    s.beginSplice.fsu.web = s.fsu.web ∧ s.beginSplice.fsu.surfA = s.fsu.surfA ∧
    s.beginSplice.fsu.surfB = s.fsu.surfB ∧ s.beginSplice.fsu.outcome = s.fsu.outcome ∧
    s.beginSplice.fsu.extend = s.fsu.extend ∧ s.beginSplice.fsu.knife = s.fsu.knife ∧
    s.beginSplice.fsu.locked = s.fsu.locked ∧ s.beginSplice.fsu.lockCount = s.fsu.lockCount ∧
    s.beginSplice.fsu.lossWatch = s.fsu.lossWatch ∧ s.beginSplice.fsu.dancer = s.fsu.dancer ∧
    s.beginSplice.fsu.dancerWindow = s.fsu.dancerWindow ∧ s.beginSplice.fsu.webBreak = s.fsu.webBreak ∧
    s.beginSplice.ltr.segment = s.ltr.segment ∧ s.beginSplice.ltr.pendingJoint = s.ltr.pendingJoint ∧
    s.beginSplice.ltr.starved = s.ltr.starved ∧ s.beginSplice.pfm = s.pfm ∧ s.beginSplice.hsu = s.hsu ∧
    s.beginSplice.exu = s.exu ∧ s.beginSplice.sgv = s.sgv := by
  unfold State.beginSplice
  dsimp only
  (repeat' split) <;> simp

@[simp] theorem State.setOutcome_frame (s : State) (o : SpliceOutcome) :
    (s.setOutcome o).pending = s.pending ∧ (s.setOutcome o).freeIdx = s.freeIdx ∧ (s.setOutcome o).inputs = s.inputs ∧
    (s.setOutcome o).rst = s.rst ∧ (s.setOutcome o).lnk = s.lnk ∧ (s.setOutcome o).fsu.w = s.fsu.w ∧
    (s.setOutcome o).fsu.web = s.fsu.web ∧ (s.setOutcome o).fsu.surfA = s.fsu.surfA ∧
    (s.setOutcome o).fsu.surfB = s.fsu.surfB ∧ (s.setOutcome o).fsu.staA = s.fsu.staA ∧
    (s.setOutcome o).fsu.staB = s.fsu.staB ∧ (s.setOutcome o).fsu.phase = s.fsu.phase ∧
    (s.setOutcome o).fsu.incoming = s.fsu.incoming ∧ (s.setOutcome o).fsu.outgoing = s.fsu.outgoing ∧
    (s.setOutcome o).fsu.limit = s.fsu.limit ∧ (s.setOutcome o).fsu.matchCount = s.fsu.matchCount ∧
    (s.setOutcome o).fsu.extend = s.fsu.extend ∧ (s.setOutcome o).fsu.knife = s.fsu.knife ∧
    (s.setOutcome o).fsu.locked = s.fsu.locked ∧ (s.setOutcome o).fsu.lockCount = s.fsu.lockCount ∧
    (s.setOutcome o).fsu.lossWatch = s.fsu.lossWatch ∧ (s.setOutcome o).fsu.dancer = s.fsu.dancer ∧
    (s.setOutcome o).fsu.dancerWindow = s.fsu.dancerWindow ∧ (s.setOutcome o).fsu.webBreak = s.fsu.webBreak ∧
    (s.setOutcome o).ltr = s.ltr ∧ (s.setOutcome o).pfm = s.pfm ∧ (s.setOutcome o).hsu = s.hsu ∧
    (s.setOutcome o).exu = s.exu ∧ (s.setOutcome o).sgv = s.sgv := by
  simp [State.setOutcome]

@[simp] theorem State.attemptAutoSplice_frame (s : State) :
    s.attemptAutoSplice.pending = s.pending ∧ s.attemptAutoSplice.freeIdx = s.freeIdx ∧
    s.attemptAutoSplice.inputs = s.inputs ∧ s.attemptAutoSplice.rst.patterns = s.rst.patterns ∧
    s.attemptAutoSplice.rst.pool = s.rst.pool ∧ s.attemptAutoSplice.rst.classes = s.rst.classes ∧
    s.attemptAutoSplice.rst.lots = s.rst.lots ∧ s.attemptAutoSplice.rst.order = s.rst.order ∧
    s.attemptAutoSplice.rst.panels = s.rst.panels ∧ s.attemptAutoSplice.rst.panelSerial = s.rst.panelSerial ∧
    s.attemptAutoSplice.lnk.sup = s.lnk.sup ∧ s.attemptAutoSplice.lnk.pen = s.lnk.pen ∧
    s.attemptAutoSplice.fsu.w = s.fsu.w ∧ s.attemptAutoSplice.fsu.web = s.fsu.web ∧
    s.attemptAutoSplice.fsu.surfA = s.fsu.surfA ∧ s.attemptAutoSplice.fsu.surfB = s.fsu.surfB ∧
    s.attemptAutoSplice.fsu.extend = s.fsu.extend ∧ s.attemptAutoSplice.fsu.knife = s.fsu.knife ∧
    s.attemptAutoSplice.fsu.locked = s.fsu.locked ∧ s.attemptAutoSplice.fsu.lockCount = s.fsu.lockCount ∧
    s.attemptAutoSplice.fsu.lossWatch = s.fsu.lossWatch ∧ s.attemptAutoSplice.fsu.dancer = s.fsu.dancer ∧
    s.attemptAutoSplice.fsu.dancerWindow = s.fsu.dancerWindow ∧ s.attemptAutoSplice.fsu.webBreak = s.fsu.webBreak ∧
    s.attemptAutoSplice.ltr.segment = s.ltr.segment ∧ s.attemptAutoSplice.ltr.pendingJoint = s.ltr.pendingJoint ∧
    s.attemptAutoSplice.ltr.starved = s.ltr.starved ∧ s.attemptAutoSplice.pfm = s.pfm ∧
    s.attemptAutoSplice.hsu = s.hsu ∧ s.attemptAutoSplice.exu = s.exu ∧ s.attemptAutoSplice.sgv = s.sgv := by
  unfold State.attemptAutoSplice
  dsimp only
  (repeat' split) <;> simp

@[simp] theorem State.autoSpliceTest_frame (s : State) :
    s.autoSpliceTest.pending = s.pending ∧ s.autoSpliceTest.freeIdx = s.freeIdx ∧ s.autoSpliceTest.inputs = s.inputs ∧
    s.autoSpliceTest.rst.patterns = s.rst.patterns ∧ s.autoSpliceTest.rst.pool = s.rst.pool ∧
    s.autoSpliceTest.rst.classes = s.rst.classes ∧ s.autoSpliceTest.rst.lots = s.rst.lots ∧
    s.autoSpliceTest.rst.order = s.rst.order ∧ s.autoSpliceTest.rst.panels = s.rst.panels ∧
    s.autoSpliceTest.rst.panelSerial = s.rst.panelSerial ∧ s.autoSpliceTest.lnk.sup = s.lnk.sup ∧
    s.autoSpliceTest.lnk.pen = s.lnk.pen ∧ s.autoSpliceTest.fsu.w = s.fsu.w ∧ s.autoSpliceTest.fsu.web = s.fsu.web ∧
    s.autoSpliceTest.fsu.surfA = s.fsu.surfA ∧ s.autoSpliceTest.fsu.surfB = s.fsu.surfB ∧
    s.autoSpliceTest.fsu.extend = s.fsu.extend ∧ s.autoSpliceTest.fsu.knife = s.fsu.knife ∧
    s.autoSpliceTest.fsu.locked = s.fsu.locked ∧ s.autoSpliceTest.fsu.lockCount = s.fsu.lockCount ∧
    s.autoSpliceTest.fsu.lossWatch = s.fsu.lossWatch ∧ s.autoSpliceTest.fsu.dancer = s.fsu.dancer ∧
    s.autoSpliceTest.fsu.dancerWindow = s.fsu.dancerWindow ∧ s.autoSpliceTest.fsu.webBreak = s.fsu.webBreak ∧
    s.autoSpliceTest.ltr.segment = s.ltr.segment ∧ s.autoSpliceTest.ltr.pendingJoint = s.ltr.pendingJoint ∧
    s.autoSpliceTest.ltr.starved = s.ltr.starved ∧ s.autoSpliceTest.pfm = s.pfm ∧ s.autoSpliceTest.hsu = s.hsu ∧
    s.autoSpliceTest.exu = s.exu ∧ s.autoSpliceTest.sgv = s.sgv := by
  unfold State.autoSpliceTest
  split <;> simp

@[simp] theorem State.afterSplice_frame (s : State) :
    s.afterSplice.pending = s.pending ∧ s.afterSplice.freeIdx = s.freeIdx ∧ s.afterSplice.inputs = s.inputs ∧
    s.afterSplice.rst.patterns = s.rst.patterns ∧ s.afterSplice.rst.pool = s.rst.pool ∧
    s.afterSplice.rst.classes = s.rst.classes ∧ s.afterSplice.rst.lots = s.rst.lots ∧
    s.afterSplice.rst.order = s.rst.order ∧ s.afterSplice.rst.panels = s.rst.panels ∧
    s.afterSplice.rst.panelSerial = s.rst.panelSerial ∧ s.afterSplice.lnk.sup = s.lnk.sup ∧
    s.afterSplice.lnk.pen = s.lnk.pen ∧ s.afterSplice.fsu.w = s.fsu.w ∧ s.afterSplice.fsu.web = s.fsu.web ∧
    s.afterSplice.fsu.surfA = s.fsu.surfA ∧ s.afterSplice.fsu.surfB = s.fsu.surfB ∧
    s.afterSplice.fsu.locked = s.fsu.locked ∧ s.afterSplice.fsu.lockCount = s.fsu.lockCount ∧
    s.afterSplice.fsu.lossWatch = s.fsu.lossWatch ∧ s.afterSplice.fsu.dancer = s.fsu.dancer ∧
    s.afterSplice.fsu.dancerWindow = s.fsu.dancerWindow ∧ s.afterSplice.fsu.webBreak = s.fsu.webBreak ∧
    s.afterSplice.ltr.segment = s.ltr.segment ∧ s.afterSplice.ltr.pendingJoint = s.ltr.pendingJoint ∧
    s.afterSplice.ltr.starved = s.ltr.starved ∧ s.afterSplice.pfm.forming = s.pfm.forming ∧
    s.afterSplice.pfm.nextStart = s.pfm.nextStart ∧ s.afterSplice.pfm.nextStrike = s.pfm.nextStrike ∧
    s.afterSplice.pfm.cycle = s.pfm.cycle ∧ s.afterSplice.pfm.bladeLimit = s.pfm.bladeLimit ∧
    s.afterSplice.pfm.strikeFor = s.pfm.strikeFor ∧ s.afterSplice.pfm.nextWaste = s.pfm.nextWaste ∧
    s.afterSplice.pfm.strikeCeiling = s.pfm.strikeCeiling ∧ s.afterSplice.pfm.strike = s.pfm.strike ∧
    s.afterSplice.pfm.depths = s.pfm.depths ∧ s.afterSplice.hsu.pressure = s.hsu.pressure ∧
    s.afterSplice.hsu.pressureReading = s.hsu.pressureReading ∧ s.afterSplice.hsu.permit = s.hsu.permit ∧
    s.afterSplice.exu = s.exu ∧ s.afterSplice.sgv.holds = s.sgv.holds ∧ s.afterSplice.sgv.stops = s.sgv.stops ∧
    s.afterSplice.sgv.trips = s.sgv.trips ∧ s.afterSplice.sgv.flatRef = s.sgv.flatRef ∧
    s.afterSplice.sgv.beltRef = s.sgv.beltRef ∧ s.afterSplice.sgv.ceiling = s.sgv.ceiling ∧
    s.afterSplice.sgv.classSet = s.sgv.classSet := by
  simp [State.afterSplice]

@[simp] theorem State.judgeBand_frame (s : State) :
    s.judgeBand.pending = s.pending ∧ s.judgeBand.freeIdx = s.freeIdx ∧ s.judgeBand.inputs = s.inputs ∧
    s.judgeBand.rst = s.rst ∧ s.judgeBand.lnk = s.lnk ∧ s.judgeBand.fsu.w = s.fsu.w ∧
    s.judgeBand.fsu.web = s.fsu.web ∧ s.judgeBand.fsu.surfA = s.fsu.surfA ∧ s.judgeBand.fsu.surfB = s.fsu.surfB ∧
    s.judgeBand.fsu.phase = s.fsu.phase ∧ s.judgeBand.fsu.outcome = s.fsu.outcome ∧
    s.judgeBand.fsu.incoming = s.fsu.incoming ∧ s.judgeBand.fsu.outgoing = s.fsu.outgoing ∧
    s.judgeBand.fsu.limit = s.fsu.limit ∧ s.judgeBand.fsu.extend = s.fsu.extend ∧
    s.judgeBand.fsu.knife = s.fsu.knife ∧ s.judgeBand.fsu.locked = s.fsu.locked ∧
    s.judgeBand.fsu.lockCount = s.fsu.lockCount ∧ s.judgeBand.fsu.lossWatch = s.fsu.lossWatch ∧
    s.judgeBand.fsu.dancer = s.fsu.dancer ∧ s.judgeBand.fsu.dancerWindow = s.fsu.dancerWindow ∧
    s.judgeBand.fsu.webBreak = s.fsu.webBreak ∧ s.judgeBand.ltr = s.ltr ∧ s.judgeBand.pfm = s.pfm ∧
    s.judgeBand.hsu = s.hsu ∧ s.judgeBand.exu = s.exu ∧ s.judgeBand.sgv = s.sgv := by
  unfold State.judgeBand
  (repeat' split) <;> simp

@[simp] theorem State.matchReached_frame (s : State) :
    s.matchReached.pending = s.pending ∧ s.matchReached.freeIdx = s.freeIdx ∧ s.matchReached.inputs = s.inputs ∧
    s.matchReached.rst = s.rst ∧ s.matchReached.lnk = s.lnk ∧ s.matchReached.fsu.w = s.fsu.w ∧
    s.matchReached.fsu.web = s.fsu.web ∧ s.matchReached.fsu.surfA = s.fsu.surfA ∧
    s.matchReached.fsu.surfB = s.fsu.surfB ∧ s.matchReached.fsu.phase = s.fsu.phase ∧
    s.matchReached.fsu.outcome = s.fsu.outcome ∧ s.matchReached.fsu.incoming = s.fsu.incoming ∧
    s.matchReached.fsu.outgoing = s.fsu.outgoing ∧ s.matchReached.fsu.limit = s.fsu.limit ∧
    s.matchReached.fsu.matchCount = s.fsu.matchCount ∧ s.matchReached.fsu.extend = s.fsu.extend ∧
    s.matchReached.fsu.knife = s.fsu.knife ∧ s.matchReached.fsu.locked = s.fsu.locked ∧
    s.matchReached.fsu.lockCount = s.fsu.lockCount ∧ s.matchReached.fsu.lossWatch = s.fsu.lossWatch ∧
    s.matchReached.fsu.dancer = s.fsu.dancer ∧ s.matchReached.fsu.dancerWindow = s.fsu.dancerWindow ∧
    s.matchReached.fsu.webBreak = s.fsu.webBreak ∧ s.matchReached.ltr = s.ltr ∧ s.matchReached.pfm = s.pfm ∧
    s.matchReached.hsu = s.hsu ∧ s.matchReached.exu = s.exu ∧ s.matchReached.sgv = s.sgv := by
  unfold State.matchReached
  (repeat' split) <;> simp

@[simp] theorem State.enterPress_frame (s : State) :
    s.enterPress.pending = s.pending ∧ s.enterPress.freeIdx = s.freeIdx ∧ s.enterPress.inputs = s.inputs ∧
    s.enterPress.rst = s.rst ∧ s.enterPress.lnk = s.lnk ∧ s.enterPress.fsu.w = s.fsu.w ∧
    s.enterPress.fsu.web = s.fsu.web ∧ s.enterPress.fsu.surfA = s.fsu.surfA ∧ s.enterPress.fsu.surfB = s.fsu.surfB ∧
    s.enterPress.fsu.staA = s.fsu.staA ∧ s.enterPress.fsu.staB = s.fsu.staB ∧
    s.enterPress.fsu.outcome = s.fsu.outcome ∧ s.enterPress.fsu.incoming = s.fsu.incoming ∧
    s.enterPress.fsu.outgoing = s.fsu.outgoing ∧ s.enterPress.fsu.matchCount = s.fsu.matchCount ∧
    s.enterPress.fsu.knife = s.fsu.knife ∧ s.enterPress.fsu.locked = s.fsu.locked ∧
    s.enterPress.fsu.lockCount = s.fsu.lockCount ∧ s.enterPress.fsu.lossWatch = s.fsu.lossWatch ∧
    s.enterPress.fsu.dancer = s.fsu.dancer ∧ s.enterPress.fsu.dancerWindow = s.fsu.dancerWindow ∧
    s.enterPress.fsu.webBreak = s.fsu.webBreak ∧ s.enterPress.ltr = s.ltr ∧ s.enterPress.pfm = s.pfm ∧
    s.enterPress.hsu = s.hsu ∧ s.enterPress.exu = s.exu ∧ s.enterPress.sgv = s.sgv := by
  simp [State.enterPress]

@[simp] theorem State.pressTest_frame (s : State) :
    s.pressTest.pending = s.pending ∧ s.pressTest.freeIdx = s.freeIdx ∧ s.pressTest.inputs = s.inputs ∧
    s.pressTest.rst = s.rst ∧ s.pressTest.lnk = s.lnk ∧ s.pressTest.fsu.w = s.fsu.w ∧
    s.pressTest.fsu.web = s.fsu.web ∧ s.pressTest.fsu.surfA = s.fsu.surfA ∧ s.pressTest.fsu.surfB = s.fsu.surfB ∧
    s.pressTest.fsu.staA = s.fsu.staA ∧ s.pressTest.fsu.staB = s.fsu.staB ∧ s.pressTest.fsu.outcome = s.fsu.outcome ∧
    s.pressTest.fsu.incoming = s.fsu.incoming ∧ s.pressTest.fsu.outgoing = s.fsu.outgoing ∧
    s.pressTest.fsu.matchCount = s.fsu.matchCount ∧ s.pressTest.fsu.knife = s.fsu.knife ∧
    s.pressTest.fsu.locked = s.fsu.locked ∧ s.pressTest.fsu.lockCount = s.fsu.lockCount ∧
    s.pressTest.fsu.lossWatch = s.fsu.lossWatch ∧ s.pressTest.fsu.dancer = s.fsu.dancer ∧
    s.pressTest.fsu.dancerWindow = s.fsu.dancerWindow ∧ s.pressTest.fsu.webBreak = s.fsu.webBreak ∧
    s.pressTest.ltr = s.ltr ∧ s.pressTest.pfm = s.pfm ∧ s.pressTest.hsu = s.hsu ∧ s.pressTest.exu = s.exu ∧
    s.pressTest.sgv = s.sgv := by
  unfold State.pressTest
  split <;> simp

@[simp] theorem State.countMatch_frame (s : State) :
    s.countMatch.pending = s.pending ∧ s.countMatch.freeIdx = s.freeIdx ∧ s.countMatch.inputs = s.inputs ∧
    s.countMatch.rst = s.rst ∧ s.countMatch.lnk = s.lnk ∧ s.countMatch.fsu.w = s.fsu.w ∧
    s.countMatch.fsu.web = s.fsu.web ∧ s.countMatch.fsu.surfA = s.fsu.surfA ∧ s.countMatch.fsu.surfB = s.fsu.surfB ∧
    s.countMatch.fsu.staA = s.fsu.staA ∧ s.countMatch.fsu.staB = s.fsu.staB ∧ s.countMatch.fsu.phase = s.fsu.phase ∧
    s.countMatch.fsu.outcome = s.fsu.outcome ∧ s.countMatch.fsu.incoming = s.fsu.incoming ∧
    s.countMatch.fsu.outgoing = s.fsu.outgoing ∧ s.countMatch.fsu.limit = s.fsu.limit ∧
    s.countMatch.fsu.extend = s.fsu.extend ∧ s.countMatch.fsu.knife = s.fsu.knife ∧
    s.countMatch.fsu.locked = s.fsu.locked ∧ s.countMatch.fsu.lockCount = s.fsu.lockCount ∧
    s.countMatch.fsu.lossWatch = s.fsu.lossWatch ∧ s.countMatch.fsu.dancer = s.fsu.dancer ∧
    s.countMatch.fsu.dancerWindow = s.fsu.dancerWindow ∧ s.countMatch.fsu.webBreak = s.fsu.webBreak ∧
    s.countMatch.ltr = s.ltr ∧ s.countMatch.pfm = s.pfm ∧ s.countMatch.hsu = s.hsu ∧ s.countMatch.exu = s.exu ∧
    s.countMatch.sgv = s.sgv := by
  unfold State.countMatch
  split <;> simp

@[simp] theorem State.spendOutgoing_frame (s : State) :
    s.spendOutgoing.pending = s.pending ∧ s.spendOutgoing.freeIdx = s.freeIdx ∧ s.spendOutgoing.inputs = s.inputs ∧
    s.spendOutgoing.rst.patterns = s.rst.patterns ∧ s.spendOutgoing.rst.pool = s.rst.pool ∧
    s.spendOutgoing.rst.classes = s.rst.classes ∧ s.spendOutgoing.rst.lots = s.rst.lots ∧
    s.spendOutgoing.rst.order = s.rst.order ∧ s.spendOutgoing.rst.panels = s.rst.panels ∧
    s.spendOutgoing.rst.panelSerial = s.rst.panelSerial ∧ s.spendOutgoing.rst.line = s.rst.line ∧
    s.spendOutgoing.lnk = s.lnk ∧ s.spendOutgoing.fsu.w = s.fsu.w ∧ s.spendOutgoing.fsu.web = s.fsu.web ∧
    s.spendOutgoing.fsu.surfA = s.fsu.surfA ∧ s.spendOutgoing.fsu.surfB = s.fsu.surfB ∧
    s.spendOutgoing.fsu.phase = s.fsu.phase ∧ s.spendOutgoing.fsu.outcome = s.fsu.outcome ∧
    s.spendOutgoing.fsu.incoming = s.fsu.incoming ∧ s.spendOutgoing.fsu.outgoing = s.fsu.outgoing ∧
    s.spendOutgoing.fsu.limit = s.fsu.limit ∧ s.spendOutgoing.fsu.matchCount = s.fsu.matchCount ∧
    s.spendOutgoing.fsu.extend = s.fsu.extend ∧ s.spendOutgoing.fsu.knife = s.fsu.knife ∧
    s.spendOutgoing.fsu.locked = s.fsu.locked ∧ s.spendOutgoing.fsu.lockCount = s.fsu.lockCount ∧
    s.spendOutgoing.fsu.lossWatch = s.fsu.lossWatch ∧ s.spendOutgoing.fsu.dancer = s.fsu.dancer ∧
    s.spendOutgoing.fsu.dancerWindow = s.fsu.dancerWindow ∧ s.spendOutgoing.fsu.webBreak = s.fsu.webBreak ∧
    s.spendOutgoing.ltr = s.ltr ∧ s.spendOutgoing.pfm = s.pfm ∧ s.spendOutgoing.hsu = s.hsu ∧
    s.spendOutgoing.exu = s.exu ∧ s.spendOutgoing.sgv = s.sgv := by
  unfold State.spendOutgoing
  (repeat' split) <;> simp

@[simp] theorem State.feedIncoming_frame (s : State) :
    s.feedIncoming.pending = s.pending ∧ s.feedIncoming.freeIdx = s.freeIdx ∧ s.feedIncoming.inputs = s.inputs ∧
    s.feedIncoming.rst.patterns = s.rst.patterns ∧ s.feedIncoming.rst.pool = s.rst.pool ∧
    s.feedIncoming.rst.classes = s.rst.classes ∧ s.feedIncoming.rst.lots = s.rst.lots ∧
    s.feedIncoming.rst.order = s.rst.order ∧ s.feedIncoming.rst.panels = s.rst.panels ∧
    s.feedIncoming.rst.panelSerial = s.rst.panelSerial ∧ s.feedIncoming.rst.line = s.rst.line ∧
    s.feedIncoming.lnk = s.lnk ∧ s.feedIncoming.fsu.w = s.fsu.w ∧ s.feedIncoming.fsu.web = s.fsu.web ∧
    s.feedIncoming.fsu.surfA = s.fsu.surfA ∧ s.feedIncoming.fsu.surfB = s.fsu.surfB ∧
    s.feedIncoming.fsu.phase = s.fsu.phase ∧ s.feedIncoming.fsu.outcome = s.fsu.outcome ∧
    s.feedIncoming.fsu.incoming = s.fsu.incoming ∧ s.feedIncoming.fsu.outgoing = s.fsu.outgoing ∧
    s.feedIncoming.fsu.limit = s.fsu.limit ∧ s.feedIncoming.fsu.matchCount = s.fsu.matchCount ∧
    s.feedIncoming.fsu.extend = s.fsu.extend ∧ s.feedIncoming.fsu.knife = s.fsu.knife ∧
    s.feedIncoming.fsu.locked = s.fsu.locked ∧ s.feedIncoming.fsu.lockCount = s.fsu.lockCount ∧
    s.feedIncoming.fsu.lossWatch = s.fsu.lossWatch ∧ s.feedIncoming.fsu.dancer = s.fsu.dancer ∧
    s.feedIncoming.fsu.dancerWindow = s.fsu.dancerWindow ∧ s.feedIncoming.fsu.webBreak = s.fsu.webBreak ∧
    s.feedIncoming.ltr = s.ltr ∧ s.feedIncoming.pfm = s.pfm ∧ s.feedIncoming.hsu = s.hsu ∧
    s.feedIncoming.exu = s.exu ∧ s.feedIncoming.sgv = s.sgv := by
  unfold State.feedIncoming
  (repeat' split) <;> simp

@[simp] theorem State.makeJoint_frame (s : State) :
    s.makeJoint.pending = s.pending ∧ s.makeJoint.inputs = s.inputs ∧ s.makeJoint.rst.patterns = s.rst.patterns ∧
    s.makeJoint.rst.pool = s.rst.pool ∧ s.makeJoint.rst.classes = s.rst.classes ∧
    s.makeJoint.rst.order = s.rst.order ∧ s.makeJoint.rst.panelSerial = s.rst.panelSerial ∧
    s.makeJoint.rst.line = s.rst.line ∧ s.makeJoint.lnk.sup = s.lnk.sup ∧ s.makeJoint.lnk.pen = s.lnk.pen ∧
    s.makeJoint.fsu.w = s.fsu.w ∧ s.makeJoint.fsu.web = s.fsu.web ∧ s.makeJoint.fsu.surfA = s.fsu.surfA ∧
    s.makeJoint.fsu.surfB = s.fsu.surfB ∧ s.makeJoint.fsu.outcome = s.fsu.outcome ∧
    s.makeJoint.fsu.incoming = s.fsu.incoming ∧ s.makeJoint.fsu.outgoing = s.fsu.outgoing ∧
    s.makeJoint.fsu.matchCount = s.fsu.matchCount ∧ s.makeJoint.fsu.extend = s.fsu.extend ∧
    s.makeJoint.fsu.locked = s.fsu.locked ∧ s.makeJoint.fsu.lockCount = s.fsu.lockCount ∧
    s.makeJoint.fsu.lossWatch = s.fsu.lossWatch ∧ s.makeJoint.fsu.dancer = s.fsu.dancer ∧
    s.makeJoint.fsu.dancerWindow = s.fsu.dancerWindow ∧ s.makeJoint.fsu.webBreak = s.fsu.webBreak ∧
    s.makeJoint.ltr.segment = s.ltr.segment ∧ s.makeJoint.ltr.starved = s.ltr.starved ∧ s.makeJoint.pfm = s.pfm ∧
    s.makeJoint.hsu.pressure = s.hsu.pressure ∧ s.makeJoint.hsu.pressureReading = s.hsu.pressureReading ∧
    s.makeJoint.hsu.permit = s.hsu.permit ∧ s.makeJoint.exu = s.exu ∧ s.makeJoint.sgv.gov = s.sgv.gov ∧
    s.makeJoint.sgv.intent = s.sgv.intent ∧ s.makeJoint.sgv.holds = s.sgv.holds ∧
    s.makeJoint.sgv.stops = s.sgv.stops ∧ s.makeJoint.sgv.trips = s.sgv.trips ∧
    s.makeJoint.sgv.stopPending = s.sgv.stopPending ∧ s.makeJoint.sgv.flatRef = s.sgv.flatRef ∧
    s.makeJoint.sgv.beltRef = s.sgv.beltRef ∧ s.makeJoint.sgv.ceiling = s.sgv.ceiling ∧
    s.makeJoint.sgv.standstill = s.sgv.standstill ∧ s.makeJoint.sgv.standWindow = s.sgv.standWindow := by
  simp [State.makeJoint]

@[simp] theorem State.enterRetract_frame (s : State) :
    s.enterRetract.pending = s.pending ∧ s.enterRetract.freeIdx = s.freeIdx ∧ s.enterRetract.inputs = s.inputs ∧
    s.enterRetract.rst = s.rst ∧ s.enterRetract.lnk = s.lnk ∧ s.enterRetract.fsu.w = s.fsu.w ∧
    s.enterRetract.fsu.web = s.fsu.web ∧ s.enterRetract.fsu.surfA = s.fsu.surfA ∧
    s.enterRetract.fsu.surfB = s.fsu.surfB ∧ s.enterRetract.fsu.staA = s.fsu.staA ∧
    s.enterRetract.fsu.staB = s.fsu.staB ∧ s.enterRetract.fsu.outcome = s.fsu.outcome ∧
    s.enterRetract.fsu.incoming = s.fsu.incoming ∧ s.enterRetract.fsu.outgoing = s.fsu.outgoing ∧
    s.enterRetract.fsu.matchCount = s.fsu.matchCount ∧ s.enterRetract.fsu.locked = s.fsu.locked ∧
    s.enterRetract.fsu.lockCount = s.fsu.lockCount ∧ s.enterRetract.fsu.lossWatch = s.fsu.lossWatch ∧
    s.enterRetract.fsu.dancer = s.fsu.dancer ∧ s.enterRetract.fsu.dancerWindow = s.fsu.dancerWindow ∧
    s.enterRetract.fsu.webBreak = s.fsu.webBreak ∧ s.enterRetract.ltr = s.ltr ∧ s.enterRetract.pfm = s.pfm ∧
    s.enterRetract.hsu = s.hsu ∧ s.enterRetract.exu = s.exu ∧ s.enterRetract.sgv = s.sgv := by
  simp [State.enterRetract]

@[simp] theorem State.runDownOutgoing_frame (s : State) :
    s.runDownOutgoing.pending = s.pending ∧ s.runDownOutgoing.freeIdx = s.freeIdx ∧
    s.runDownOutgoing.inputs = s.inputs ∧ s.runDownOutgoing.rst = s.rst ∧ s.runDownOutgoing.lnk = s.lnk ∧
    s.runDownOutgoing.fsu.w = s.fsu.w ∧ s.runDownOutgoing.fsu.web = s.fsu.web ∧
    s.runDownOutgoing.fsu.surfA = s.fsu.surfA ∧ s.runDownOutgoing.fsu.surfB = s.fsu.surfB ∧
    s.runDownOutgoing.fsu.phase = s.fsu.phase ∧ s.runDownOutgoing.fsu.outcome = s.fsu.outcome ∧
    s.runDownOutgoing.fsu.incoming = s.fsu.incoming ∧ s.runDownOutgoing.fsu.outgoing = s.fsu.outgoing ∧
    s.runDownOutgoing.fsu.limit = s.fsu.limit ∧ s.runDownOutgoing.fsu.matchCount = s.fsu.matchCount ∧
    s.runDownOutgoing.fsu.extend = s.fsu.extend ∧ s.runDownOutgoing.fsu.knife = s.fsu.knife ∧
    s.runDownOutgoing.fsu.locked = s.fsu.locked ∧ s.runDownOutgoing.fsu.lockCount = s.fsu.lockCount ∧
    s.runDownOutgoing.fsu.lossWatch = s.fsu.lossWatch ∧ s.runDownOutgoing.fsu.dancer = s.fsu.dancer ∧
    s.runDownOutgoing.fsu.dancerWindow = s.fsu.dancerWindow ∧ s.runDownOutgoing.fsu.webBreak = s.fsu.webBreak ∧
    s.runDownOutgoing.ltr = s.ltr ∧ s.runDownOutgoing.pfm = s.pfm ∧ s.runDownOutgoing.hsu = s.hsu ∧
    s.runDownOutgoing.exu = s.exu ∧ s.runDownOutgoing.sgv = s.sgv := by
  unfold State.runDownOutgoing
  (repeat' split) <;> simp

@[simp] theorem State.completeSplice_frame (s : State) :
    s.completeSplice.pending = s.pending ∧ s.completeSplice.freeIdx = s.freeIdx ∧ s.completeSplice.inputs = s.inputs ∧
    s.completeSplice.rst.patterns = s.rst.patterns ∧ s.completeSplice.rst.pool = s.rst.pool ∧
    s.completeSplice.rst.classes = s.rst.classes ∧ s.completeSplice.rst.lots = s.rst.lots ∧
    s.completeSplice.rst.order = s.rst.order ∧ s.completeSplice.rst.panels = s.rst.panels ∧
    s.completeSplice.rst.panelSerial = s.rst.panelSerial ∧ s.completeSplice.lnk.sup = s.lnk.sup ∧
    s.completeSplice.lnk.pen = s.lnk.pen ∧ s.completeSplice.fsu.w = s.fsu.w ∧ s.completeSplice.fsu.web = s.fsu.web ∧
    s.completeSplice.fsu.surfA = s.fsu.surfA ∧ s.completeSplice.fsu.surfB = s.fsu.surfB ∧
    s.completeSplice.fsu.dancer = s.fsu.dancer ∧ s.completeSplice.fsu.dancerWindow = s.fsu.dancerWindow ∧
    s.completeSplice.fsu.webBreak = s.fsu.webBreak ∧ s.completeSplice.ltr.segment = s.ltr.segment ∧
    s.completeSplice.ltr.pendingJoint = s.ltr.pendingJoint ∧ s.completeSplice.ltr.starved = s.ltr.starved ∧
    s.completeSplice.pfm.forming = s.pfm.forming ∧ s.completeSplice.pfm.nextStart = s.pfm.nextStart ∧
    s.completeSplice.pfm.nextStrike = s.pfm.nextStrike ∧ s.completeSplice.pfm.cycle = s.pfm.cycle ∧
    s.completeSplice.pfm.bladeLimit = s.pfm.bladeLimit ∧ s.completeSplice.pfm.strikeFor = s.pfm.strikeFor ∧
    s.completeSplice.pfm.nextWaste = s.pfm.nextWaste ∧ s.completeSplice.pfm.strikeCeiling = s.pfm.strikeCeiling ∧
    s.completeSplice.pfm.strike = s.pfm.strike ∧ s.completeSplice.pfm.depths = s.pfm.depths ∧
    s.completeSplice.hsu.pressure = s.hsu.pressure ∧ s.completeSplice.hsu.pressureReading = s.hsu.pressureReading ∧
    s.completeSplice.hsu.permit = s.hsu.permit ∧ s.completeSplice.exu = s.exu ∧
    s.completeSplice.sgv.holds = s.sgv.holds ∧ s.completeSplice.sgv.stops = s.sgv.stops ∧
    s.completeSplice.sgv.trips = s.sgv.trips ∧ s.completeSplice.sgv.flatRef = s.sgv.flatRef ∧
    s.completeSplice.sgv.beltRef = s.sgv.beltRef ∧ s.completeSplice.sgv.ceiling = s.sgv.ceiling ∧
    s.completeSplice.sgv.classSet = s.sgv.classSet := by
  simp [State.completeSplice]

@[simp] theorem State.retractTimeout_frame (s : State) :
    s.retractTimeout.pending = s.pending ∧ s.retractTimeout.freeIdx = s.freeIdx ∧ s.retractTimeout.inputs = s.inputs ∧
    s.retractTimeout.rst.patterns = s.rst.patterns ∧ s.retractTimeout.rst.pool = s.rst.pool ∧
    s.retractTimeout.rst.classes = s.rst.classes ∧ s.retractTimeout.rst.lots = s.rst.lots ∧
    s.retractTimeout.rst.order = s.rst.order ∧ s.retractTimeout.rst.panels = s.rst.panels ∧
    s.retractTimeout.rst.panelSerial = s.rst.panelSerial ∧ s.retractTimeout.lnk.sup = s.lnk.sup ∧
    s.retractTimeout.lnk.pen = s.lnk.pen ∧ s.retractTimeout.fsu.w = s.fsu.w ∧ s.retractTimeout.fsu.web = s.fsu.web ∧
    s.retractTimeout.fsu.surfA = s.fsu.surfA ∧ s.retractTimeout.fsu.surfB = s.fsu.surfB ∧
    s.retractTimeout.fsu.dancer = s.fsu.dancer ∧ s.retractTimeout.fsu.dancerWindow = s.fsu.dancerWindow ∧
    s.retractTimeout.fsu.webBreak = s.fsu.webBreak ∧ s.retractTimeout.ltr.segment = s.ltr.segment ∧
    s.retractTimeout.ltr.pendingJoint = s.ltr.pendingJoint ∧ s.retractTimeout.ltr.starved = s.ltr.starved ∧
    s.retractTimeout.pfm.forming = s.pfm.forming ∧ s.retractTimeout.pfm.nextStart = s.pfm.nextStart ∧
    s.retractTimeout.pfm.nextStrike = s.pfm.nextStrike ∧ s.retractTimeout.pfm.cycle = s.pfm.cycle ∧
    s.retractTimeout.pfm.bladeLimit = s.pfm.bladeLimit ∧ s.retractTimeout.pfm.strikeFor = s.pfm.strikeFor ∧
    s.retractTimeout.pfm.nextWaste = s.pfm.nextWaste ∧ s.retractTimeout.pfm.strikeCeiling = s.pfm.strikeCeiling ∧
    s.retractTimeout.pfm.strike = s.pfm.strike ∧ s.retractTimeout.pfm.depths = s.pfm.depths ∧
    s.retractTimeout.hsu.pressure = s.hsu.pressure ∧ s.retractTimeout.hsu.pressureReading = s.hsu.pressureReading ∧
    s.retractTimeout.hsu.permit = s.hsu.permit ∧ s.retractTimeout.exu = s.exu ∧
    s.retractTimeout.sgv.holds = s.sgv.holds ∧ s.retractTimeout.sgv.trips = s.sgv.trips ∧
    s.retractTimeout.sgv.flatRef = s.sgv.flatRef ∧ s.retractTimeout.sgv.beltRef = s.sgv.beltRef ∧
    s.retractTimeout.sgv.ceiling = s.sgv.ceiling ∧ s.retractTimeout.sgv.classSet = s.sgv.classSet := by
  simp [State.retractTimeout]

@[simp] theorem State.rollOut_frame (s : State) :
    s.rollOut.pending = s.pending ∧ s.rollOut.freeIdx = s.freeIdx ∧ s.rollOut.inputs = s.inputs ∧
    s.rollOut.rst = s.rst ∧ s.rollOut.lnk.sup = s.lnk.sup ∧ s.rollOut.lnk.pen = s.lnk.pen ∧
    s.rollOut.fsu.w = s.fsu.w ∧ s.rollOut.fsu.web = s.fsu.web ∧ s.rollOut.fsu.surfA = s.fsu.surfA ∧
    s.rollOut.fsu.surfB = s.fsu.surfB ∧ s.rollOut.fsu.locked = s.fsu.locked ∧
    s.rollOut.fsu.lockCount = s.fsu.lockCount ∧ s.rollOut.fsu.lossWatch = s.fsu.lossWatch ∧
    s.rollOut.fsu.dancer = s.fsu.dancer ∧ s.rollOut.fsu.dancerWindow = s.fsu.dancerWindow ∧
    s.rollOut.fsu.webBreak = s.fsu.webBreak ∧ s.rollOut.ltr.segment = s.ltr.segment ∧
    s.rollOut.ltr.pendingJoint = s.ltr.pendingJoint ∧ s.rollOut.ltr.starved = s.ltr.starved ∧
    s.rollOut.pfm.forming = s.pfm.forming ∧ s.rollOut.pfm.nextStart = s.pfm.nextStart ∧
    s.rollOut.pfm.nextStrike = s.pfm.nextStrike ∧ s.rollOut.pfm.cycle = s.pfm.cycle ∧
    s.rollOut.pfm.bladeLimit = s.pfm.bladeLimit ∧ s.rollOut.pfm.strikeFor = s.pfm.strikeFor ∧
    s.rollOut.pfm.nextWaste = s.pfm.nextWaste ∧ s.rollOut.pfm.strikeCeiling = s.pfm.strikeCeiling ∧
    s.rollOut.pfm.strike = s.pfm.strike ∧ s.rollOut.pfm.depths = s.pfm.depths ∧
    s.rollOut.hsu.pressure = s.hsu.pressure ∧ s.rollOut.hsu.pressureReading = s.hsu.pressureReading ∧
    s.rollOut.hsu.permit = s.hsu.permit ∧ s.rollOut.exu = s.exu ∧ s.rollOut.sgv.holds = s.sgv.holds ∧
    s.rollOut.sgv.trips = s.sgv.trips ∧ s.rollOut.sgv.flatRef = s.sgv.flatRef ∧
    s.rollOut.sgv.beltRef = s.sgv.beltRef ∧ s.rollOut.sgv.ceiling = s.sgv.ceiling ∧
    s.rollOut.sgv.classSet = s.sgv.classSet := by
  unfold State.rollOut
  (repeat' split) <;> simp

@[simp] theorem State.chargeRoll_frame (s : State) (d : Travel) :
    (s.chargeRoll d).pending = s.pending ∧ (s.chargeRoll d).freeIdx = s.freeIdx ∧ (s.chargeRoll d).inputs = s.inputs ∧
    (s.chargeRoll d).rst.patterns = s.rst.patterns ∧ (s.chargeRoll d).rst.pool = s.rst.pool ∧
    (s.chargeRoll d).rst.classes = s.rst.classes ∧ (s.chargeRoll d).rst.lots = s.rst.lots ∧
    (s.chargeRoll d).rst.order = s.rst.order ∧ (s.chargeRoll d).rst.panels = s.rst.panels ∧
    (s.chargeRoll d).rst.panelSerial = s.rst.panelSerial ∧ (s.chargeRoll d).rst.line = s.rst.line ∧
    (s.chargeRoll d).lnk = s.lnk ∧ (s.chargeRoll d).fsu = s.fsu ∧ (s.chargeRoll d).ltr = s.ltr ∧
    (s.chargeRoll d).pfm = s.pfm ∧ (s.chargeRoll d).hsu = s.hsu ∧ (s.chargeRoll d).exu = s.exu ∧
    (s.chargeRoll d).sgv = s.sgv := by
  unfold State.chargeRoll
  split <;> simp

@[simp] theorem State.lockReached_frame (s : State) :
    s.lockReached.pending = s.pending ∧ s.lockReached.freeIdx = s.freeIdx ∧ s.lockReached.inputs = s.inputs ∧
    s.lockReached.rst = s.rst ∧ s.lockReached.lnk = s.lnk ∧ s.lockReached.fsu.w = s.fsu.w ∧
    s.lockReached.fsu.web = s.fsu.web ∧ s.lockReached.fsu.surfA = s.fsu.surfA ∧
    s.lockReached.fsu.surfB = s.fsu.surfB ∧ s.lockReached.fsu.staA = s.fsu.staA ∧
    s.lockReached.fsu.staB = s.fsu.staB ∧ s.lockReached.fsu.phase = s.fsu.phase ∧
    s.lockReached.fsu.outcome = s.fsu.outcome ∧ s.lockReached.fsu.incoming = s.fsu.incoming ∧
    s.lockReached.fsu.outgoing = s.fsu.outgoing ∧ s.lockReached.fsu.limit = s.fsu.limit ∧
    s.lockReached.fsu.matchCount = s.fsu.matchCount ∧ s.lockReached.fsu.extend = s.fsu.extend ∧
    s.lockReached.fsu.knife = s.fsu.knife ∧ s.lockReached.fsu.lockCount = s.fsu.lockCount ∧
    s.lockReached.fsu.dancer = s.fsu.dancer ∧ s.lockReached.fsu.dancerWindow = s.fsu.dancerWindow ∧
    s.lockReached.fsu.webBreak = s.fsu.webBreak ∧ s.lockReached.ltr = s.ltr ∧ s.lockReached.pfm = s.pfm ∧
    s.lockReached.hsu = s.hsu ∧ s.lockReached.exu = s.exu ∧ s.lockReached.sgv.gov = s.sgv.gov ∧
    s.lockReached.sgv.intent = s.sgv.intent ∧ s.lockReached.sgv.stops = s.sgv.stops ∧
    s.lockReached.sgv.trips = s.sgv.trips ∧ s.lockReached.sgv.stopPending = s.sgv.stopPending ∧
    s.lockReached.sgv.flatRef = s.sgv.flatRef ∧ s.lockReached.sgv.beltRef = s.sgv.beltRef ∧
    s.lockReached.sgv.ceiling = s.sgv.ceiling ∧ s.lockReached.sgv.standstill = s.sgv.standstill ∧
    s.lockReached.sgv.standWindow = s.sgv.standWindow ∧ s.lockReached.sgv.classSet = s.sgv.classSet := by
  unfold State.lockReached
  (repeat' split) <;> simp

@[simp] theorem State.watchReached_frame (s : State) :
    s.watchReached.pending = s.pending ∧ s.watchReached.freeIdx = s.freeIdx ∧ s.watchReached.inputs = s.inputs ∧
    s.watchReached.rst = s.rst ∧ s.watchReached.lnk = s.lnk ∧ s.watchReached.fsu = s.fsu ∧
    s.watchReached.ltr = s.ltr ∧ s.watchReached.pfm = s.pfm ∧ s.watchReached.hsu = s.hsu ∧
    s.watchReached.exu = s.exu ∧ s.watchReached.sgv.gov = s.sgv.gov ∧ s.watchReached.sgv.intent = s.sgv.intent ∧
    s.watchReached.sgv.stops = s.sgv.stops ∧ s.watchReached.sgv.trips = s.sgv.trips ∧
    s.watchReached.sgv.stopPending = s.sgv.stopPending ∧ s.watchReached.sgv.flatRef = s.sgv.flatRef ∧
    s.watchReached.sgv.beltRef = s.sgv.beltRef ∧ s.watchReached.sgv.ceiling = s.sgv.ceiling ∧
    s.watchReached.sgv.standstill = s.sgv.standstill ∧ s.watchReached.sgv.standWindow = s.sgv.standWindow ∧
    s.watchReached.sgv.classSet = s.sgv.classSet := by
  unfold State.watchReached
  (repeat' split) <;> simp

@[simp] theorem State.countTension_frame (s : State) :
    s.countTension.pending = s.pending ∧ s.countTension.freeIdx = s.freeIdx ∧ s.countTension.inputs = s.inputs ∧
    s.countTension.rst = s.rst ∧ s.countTension.lnk = s.lnk ∧ s.countTension.fsu.w = s.fsu.w ∧
    s.countTension.fsu.web = s.fsu.web ∧ s.countTension.fsu.surfA = s.fsu.surfA ∧
    s.countTension.fsu.surfB = s.fsu.surfB ∧ s.countTension.fsu.staA = s.fsu.staA ∧
    s.countTension.fsu.staB = s.fsu.staB ∧ s.countTension.fsu.phase = s.fsu.phase ∧
    s.countTension.fsu.outcome = s.fsu.outcome ∧ s.countTension.fsu.incoming = s.fsu.incoming ∧
    s.countTension.fsu.outgoing = s.fsu.outgoing ∧ s.countTension.fsu.limit = s.fsu.limit ∧
    s.countTension.fsu.matchCount = s.fsu.matchCount ∧ s.countTension.fsu.extend = s.fsu.extend ∧
    s.countTension.fsu.knife = s.fsu.knife ∧ s.countTension.fsu.locked = s.fsu.locked ∧
    s.countTension.fsu.dancer = s.fsu.dancer ∧ s.countTension.fsu.dancerWindow = s.fsu.dancerWindow ∧
    s.countTension.fsu.webBreak = s.fsu.webBreak ∧ s.countTension.ltr = s.ltr ∧ s.countTension.pfm = s.pfm ∧
    s.countTension.hsu = s.hsu ∧ s.countTension.exu = s.exu ∧ s.countTension.sgv = s.sgv := by
  simp [State.countTension]

@[simp] theorem State.endBand_frame (s : State) :
    s.endBand.pending = s.pending ∧ s.endBand.freeIdx = s.freeIdx ∧ s.endBand.inputs = s.inputs ∧
    s.endBand.rst = s.rst ∧ s.endBand.lnk.sup = s.lnk.sup ∧ s.endBand.lnk.pen = s.lnk.pen ∧
    s.endBand.fsu.w = s.fsu.w ∧ s.endBand.fsu.web = s.fsu.web ∧ s.endBand.fsu.surfA = s.fsu.surfA ∧
    s.endBand.fsu.surfB = s.fsu.surfB ∧ s.endBand.fsu.staA = s.fsu.staA ∧ s.endBand.fsu.staB = s.fsu.staB ∧
    s.endBand.fsu.phase = s.fsu.phase ∧ s.endBand.fsu.outcome = s.fsu.outcome ∧
    s.endBand.fsu.incoming = s.fsu.incoming ∧ s.endBand.fsu.outgoing = s.fsu.outgoing ∧
    s.endBand.fsu.limit = s.fsu.limit ∧ s.endBand.fsu.matchCount = s.fsu.matchCount ∧
    s.endBand.fsu.extend = s.fsu.extend ∧ s.endBand.fsu.knife = s.fsu.knife ∧ s.endBand.fsu.dancer = s.fsu.dancer ∧
    s.endBand.fsu.dancerWindow = s.fsu.dancerWindow ∧ s.endBand.fsu.webBreak = s.fsu.webBreak ∧
    s.endBand.ltr = s.ltr ∧ s.endBand.pfm = s.pfm ∧ s.endBand.hsu = s.hsu ∧ s.endBand.exu = s.exu ∧
    s.endBand.sgv = s.sgv := by
  unfold State.endBand
  split <;> simp

@[simp] theorem State.takeDancer_frame (s : State) (n : ℕ) :
    (s.takeDancer n).pending = s.pending ∧ (s.takeDancer n).freeIdx = s.freeIdx ∧ (s.takeDancer n).inputs = s.inputs ∧
    (s.takeDancer n).rst = s.rst ∧ (s.takeDancer n).lnk.sup = s.lnk.sup ∧ (s.takeDancer n).lnk.pen = s.lnk.pen ∧
    (s.takeDancer n).fsu.w = s.fsu.w ∧ (s.takeDancer n).fsu.web = s.fsu.web ∧
    (s.takeDancer n).fsu.surfA = s.fsu.surfA ∧ (s.takeDancer n).fsu.surfB = s.fsu.surfB ∧
    (s.takeDancer n).fsu.staA = s.fsu.staA ∧ (s.takeDancer n).fsu.staB = s.fsu.staB ∧
    (s.takeDancer n).fsu.phase = s.fsu.phase ∧ (s.takeDancer n).fsu.outcome = s.fsu.outcome ∧
    (s.takeDancer n).fsu.incoming = s.fsu.incoming ∧ (s.takeDancer n).fsu.outgoing = s.fsu.outgoing ∧
    (s.takeDancer n).fsu.limit = s.fsu.limit ∧ (s.takeDancer n).fsu.matchCount = s.fsu.matchCount ∧
    (s.takeDancer n).fsu.extend = s.fsu.extend ∧ (s.takeDancer n).fsu.knife = s.fsu.knife ∧
    (s.takeDancer n).fsu.webBreak = s.fsu.webBreak ∧ (s.takeDancer n).ltr = s.ltr ∧ (s.takeDancer n).pfm = s.pfm ∧
    (s.takeDancer n).hsu = s.hsu ∧ (s.takeDancer n).exu = s.exu ∧ (s.takeDancer n).sgv = s.sgv := by
  unfold State.takeDancer
  (repeat' split) <;> simp

@[simp] theorem State.matchPart_frame (s : State) (d : Travel) :
    (s.matchPart d).pending = s.pending ∧ (s.matchPart d).freeIdx = s.freeIdx ∧ (s.matchPart d).inputs = s.inputs ∧
    (s.matchPart d).rst = s.rst ∧ (s.matchPart d).lnk = s.lnk ∧ (s.matchPart d).fsu.w = s.fsu.w ∧
    (s.matchPart d).fsu.web = s.fsu.web ∧ (s.matchPart d).fsu.surfA = s.fsu.surfA ∧
    (s.matchPart d).fsu.surfB = s.fsu.surfB ∧ (s.matchPart d).fsu.outcome = s.fsu.outcome ∧
    (s.matchPart d).fsu.incoming = s.fsu.incoming ∧ (s.matchPart d).fsu.outgoing = s.fsu.outgoing ∧
    (s.matchPart d).fsu.knife = s.fsu.knife ∧ (s.matchPart d).fsu.locked = s.fsu.locked ∧
    (s.matchPart d).fsu.lockCount = s.fsu.lockCount ∧ (s.matchPart d).fsu.lossWatch = s.fsu.lossWatch ∧
    (s.matchPart d).fsu.dancer = s.fsu.dancer ∧ (s.matchPart d).fsu.dancerWindow = s.fsu.dancerWindow ∧
    (s.matchPart d).fsu.webBreak = s.fsu.webBreak ∧ (s.matchPart d).ltr = s.ltr ∧ (s.matchPart d).pfm = s.pfm ∧
    (s.matchPart d).hsu = s.hsu ∧ (s.matchPart d).exu = s.exu ∧ (s.matchPart d).sgv = s.sgv := by
  unfold State.matchPart
  split <;> simp

@[simp] theorem State.matchAndRollOut_frame (s : State) (d : Travel) (out : Bool) :
    (s.matchAndRollOut d out).pending = s.pending ∧ (s.matchAndRollOut d out).inputs = s.inputs ∧
    (s.matchAndRollOut d out).rst = s.rst ∧ (s.matchAndRollOut d out).lnk.sup = s.lnk.sup ∧
    (s.matchAndRollOut d out).lnk.pen = s.lnk.pen ∧ (s.matchAndRollOut d out).fsu.w = s.fsu.w ∧
    (s.matchAndRollOut d out).fsu.web = s.fsu.web ∧ (s.matchAndRollOut d out).fsu.surfA = s.fsu.surfA ∧
    (s.matchAndRollOut d out).fsu.surfB = s.fsu.surfB ∧ (s.matchAndRollOut d out).fsu.locked = s.fsu.locked ∧
    (s.matchAndRollOut d out).fsu.lockCount = s.fsu.lockCount ∧
    (s.matchAndRollOut d out).fsu.lossWatch = s.fsu.lossWatch ∧ (s.matchAndRollOut d out).fsu.dancer = s.fsu.dancer ∧
    (s.matchAndRollOut d out).fsu.dancerWindow = s.fsu.dancerWindow ∧
    (s.matchAndRollOut d out).fsu.webBreak = s.fsu.webBreak ∧ (s.matchAndRollOut d out).ltr.segment = s.ltr.segment ∧
    (s.matchAndRollOut d out).ltr.pendingJoint = s.ltr.pendingJoint ∧
    (s.matchAndRollOut d out).ltr.starved = s.ltr.starved ∧ (s.matchAndRollOut d out).pfm.forming = s.pfm.forming ∧
    (s.matchAndRollOut d out).pfm.nextStart = s.pfm.nextStart ∧
    (s.matchAndRollOut d out).pfm.nextStrike = s.pfm.nextStrike ∧ (s.matchAndRollOut d out).pfm.cycle = s.pfm.cycle ∧
    (s.matchAndRollOut d out).pfm.bladeLimit = s.pfm.bladeLimit ∧
    (s.matchAndRollOut d out).pfm.strikeFor = s.pfm.strikeFor ∧
    (s.matchAndRollOut d out).pfm.nextWaste = s.pfm.nextWaste ∧
    (s.matchAndRollOut d out).pfm.strikeCeiling = s.pfm.strikeCeiling ∧
    (s.matchAndRollOut d out).pfm.strike = s.pfm.strike ∧ (s.matchAndRollOut d out).pfm.depths = s.pfm.depths ∧
    (s.matchAndRollOut d out).hsu.pressure = s.hsu.pressure ∧
    (s.matchAndRollOut d out).hsu.pressureReading = s.hsu.pressureReading ∧
    (s.matchAndRollOut d out).hsu.permit = s.hsu.permit ∧ (s.matchAndRollOut d out).exu = s.exu ∧
    (s.matchAndRollOut d out).sgv.holds = s.sgv.holds ∧ (s.matchAndRollOut d out).sgv.trips = s.sgv.trips ∧
    (s.matchAndRollOut d out).sgv.flatRef = s.sgv.flatRef ∧ (s.matchAndRollOut d out).sgv.beltRef = s.sgv.beltRef ∧
    (s.matchAndRollOut d out).sgv.ceiling = s.sgv.ceiling ∧
    (s.matchAndRollOut d out).sgv.classSet = s.sgv.classSet := by
  unfold State.matchAndRollOut
  (repeat' split) <;> simp

@[simp] theorem State.tensionPart_frame (s : State) (d : Travel) :
    (s.tensionPart d).pending = s.pending ∧ (s.tensionPart d).freeIdx = s.freeIdx ∧
    (s.tensionPart d).inputs = s.inputs ∧ (s.tensionPart d).rst = s.rst ∧ (s.tensionPart d).lnk = s.lnk ∧
    (s.tensionPart d).fsu.w = s.fsu.w ∧ (s.tensionPart d).fsu.web = s.fsu.web ∧
    (s.tensionPart d).fsu.surfA = s.fsu.surfA ∧ (s.tensionPart d).fsu.surfB = s.fsu.surfB ∧
    (s.tensionPart d).fsu.staA = s.fsu.staA ∧ (s.tensionPart d).fsu.staB = s.fsu.staB ∧
    (s.tensionPart d).fsu.phase = s.fsu.phase ∧ (s.tensionPart d).fsu.outcome = s.fsu.outcome ∧
    (s.tensionPart d).fsu.incoming = s.fsu.incoming ∧ (s.tensionPart d).fsu.outgoing = s.fsu.outgoing ∧
    (s.tensionPart d).fsu.limit = s.fsu.limit ∧ (s.tensionPart d).fsu.matchCount = s.fsu.matchCount ∧
    (s.tensionPart d).fsu.extend = s.fsu.extend ∧ (s.tensionPart d).fsu.knife = s.fsu.knife ∧
    (s.tensionPart d).fsu.dancer = s.fsu.dancer ∧ (s.tensionPart d).fsu.dancerWindow = s.fsu.dancerWindow ∧
    (s.tensionPart d).fsu.webBreak = s.fsu.webBreak ∧ (s.tensionPart d).ltr = s.ltr ∧ (s.tensionPart d).pfm = s.pfm ∧
    (s.tensionPart d).hsu = s.hsu ∧ (s.tensionPart d).exu = s.exu ∧ (s.tensionPart d).sgv.gov = s.sgv.gov ∧
    (s.tensionPart d).sgv.intent = s.sgv.intent ∧ (s.tensionPart d).sgv.stops = s.sgv.stops ∧
    (s.tensionPart d).sgv.trips = s.sgv.trips ∧ (s.tensionPart d).sgv.stopPending = s.sgv.stopPending ∧
    (s.tensionPart d).sgv.flatRef = s.sgv.flatRef ∧ (s.tensionPart d).sgv.beltRef = s.sgv.beltRef ∧
    (s.tensionPart d).sgv.ceiling = s.sgv.ceiling ∧ (s.tensionPart d).sgv.standstill = s.sgv.standstill ∧
    (s.tensionPart d).sgv.standWindow = s.sgv.standWindow ∧ (s.tensionPart d).sgv.classSet = s.sgv.classSet := by
  unfold State.tensionPart
  split <;> simp

@[simp] theorem State.fsuCount_frame (s : State) (d : Travel) :
    (s.fsuCount d).pending = s.pending ∧ (s.fsuCount d).inputs = s.inputs ∧
    (s.fsuCount d).rst.patterns = s.rst.patterns ∧ (s.fsuCount d).rst.pool = s.rst.pool ∧
    (s.fsuCount d).rst.classes = s.rst.classes ∧ (s.fsuCount d).rst.lots = s.rst.lots ∧
    (s.fsuCount d).rst.order = s.rst.order ∧ (s.fsuCount d).rst.panels = s.rst.panels ∧
    (s.fsuCount d).rst.panelSerial = s.rst.panelSerial ∧ (s.fsuCount d).lnk.sup = s.lnk.sup ∧
    (s.fsuCount d).lnk.pen = s.lnk.pen ∧ (s.fsuCount d).fsu.w = s.fsu.w ∧ (s.fsuCount d).fsu.web = s.fsu.web ∧
    (s.fsuCount d).fsu.surfA = s.fsu.surfA ∧ (s.fsuCount d).fsu.surfB = s.fsu.surfB ∧
    (s.fsuCount d).fsu.dancer = s.fsu.dancer ∧ (s.fsuCount d).fsu.dancerWindow = s.fsu.dancerWindow ∧
    (s.fsuCount d).fsu.webBreak = s.fsu.webBreak ∧ (s.fsuCount d).ltr.segment = s.ltr.segment ∧
    (s.fsuCount d).ltr.pendingJoint = s.ltr.pendingJoint ∧ (s.fsuCount d).ltr.starved = s.ltr.starved ∧
    (s.fsuCount d).pfm.forming = s.pfm.forming ∧ (s.fsuCount d).pfm.nextStart = s.pfm.nextStart ∧
    (s.fsuCount d).pfm.nextStrike = s.pfm.nextStrike ∧ (s.fsuCount d).pfm.cycle = s.pfm.cycle ∧
    (s.fsuCount d).pfm.bladeLimit = s.pfm.bladeLimit ∧ (s.fsuCount d).pfm.strikeFor = s.pfm.strikeFor ∧
    (s.fsuCount d).pfm.nextWaste = s.pfm.nextWaste ∧ (s.fsuCount d).pfm.strikeCeiling = s.pfm.strikeCeiling ∧
    (s.fsuCount d).pfm.strike = s.pfm.strike ∧ (s.fsuCount d).pfm.depths = s.pfm.depths ∧
    (s.fsuCount d).hsu.pressure = s.hsu.pressure ∧ (s.fsuCount d).hsu.pressureReading = s.hsu.pressureReading ∧
    (s.fsuCount d).hsu.permit = s.hsu.permit ∧ (s.fsuCount d).exu = s.exu ∧ (s.fsuCount d).sgv.trips = s.sgv.trips ∧
    (s.fsuCount d).sgv.flatRef = s.sgv.flatRef ∧ (s.fsuCount d).sgv.beltRef = s.sgv.beltRef ∧
    (s.fsuCount d).sgv.ceiling = s.sgv.ceiling ∧ (s.fsuCount d).sgv.classSet = s.sgv.classSet := by
  unfold State.fsuCount
  dsimp only
  (repeat' split) <;> simp

/-! ### Recursive and conditional operations -/

@[simp] theorem State.takeTails_frame (n : Nat) (s : State) :
    (s.takeTails n).pending = s.pending ∧ (s.takeTails n).inputs = s.inputs ∧ (s.takeTails n).fsu = s.fsu ∧
    (s.takeTails n).ltr = s.ltr ∧ (s.takeTails n).pfm = s.pfm ∧ (s.takeTails n).rst.rolls = s.rst.rolls ∧
    (s.takeTails n).rst.line = s.rst.line ∧ (s.takeTails n).rst.panelSerial = s.rst.panelSerial ∧
    (s.takeTails n).hsu.pressure = s.hsu.pressure ∧ (s.takeTails n).hsu.permit = s.hsu.permit ∧
    (s.takeTails n).exu.b = s.exu.b ∧ (s.takeTails n).exu.belt = s.exu.belt ∧
    (s.takeTails n).sgv.gov = s.sgv.gov ∧ (s.takeTails n).sgv.intent = s.sgv.intent ∧
    (s.takeTails n).sgv.holds = s.sgv.holds ∧ (s.takeTails n).sgv.stops = s.sgv.stops ∧
    (s.takeTails n).sgv.trips = s.sgv.trips ∧ (s.takeTails n).sgv.stopPending = s.sgv.stopPending := by
  induction n generalizing s with
  | zero => simp [State.takeTails]
  | succ n ih =>
    unfold State.takeTails
    split
    · simp
    · simp [ih]

@[simp] theorem State.allTails_frame (s : State) :
    s.allTails.pending = s.pending ∧ s.allTails.inputs = s.inputs ∧ s.allTails.fsu = s.fsu ∧ s.allTails.ltr = s.ltr ∧
    s.allTails.pfm = s.pfm ∧ s.allTails.rst.rolls = s.rst.rolls ∧ s.allTails.rst.line = s.rst.line ∧
    s.allTails.rst.panelSerial = s.rst.panelSerial ∧ s.allTails.hsu.pressure = s.hsu.pressure ∧
    s.allTails.hsu.permit = s.hsu.permit ∧ s.allTails.exu.b = s.exu.b ∧ s.allTails.exu.belt = s.exu.belt ∧
    s.allTails.sgv.gov = s.sgv.gov ∧ s.allTails.sgv.intent = s.sgv.intent ∧ s.allTails.sgv.holds = s.sgv.holds ∧
    s.allTails.sgv.stops = s.sgv.stops ∧ s.allTails.sgv.trips = s.sgv.trips ∧
    s.allTails.sgv.stopPending = s.sgv.stopPending := by
  unfold State.allTails
  exact State.takeTails_frame _ s

/-! ### The end of an act -/

theorem endAct_unregulated (s : State) : s.endAct.unregulated = s.unregulated := by
  unfold State.endAct State.regulate State.syncStrikeCeiling State.leaveRun State.syncUnsettled State.unregulated
  unfold State.setHold State.dropHold
  have hset : clearBit (setBit s.sgv.holds HoldReason.zoneUnsettled.bit) HoldReason.zoneUnsettled.bit =
      clearBit s.sgv.holds HoldReason.zoneUnsettled.bit := by
    unfold clearBit setBit
    ext i hi
    by_cases h : i = HoldReason.zoneUnsettled.bit <;> simp [h]
  have hclear : clearBit (clearBit s.sgv.holds HoldReason.zoneUnsettled.bit) HoldReason.zoneUnsettled.bit =
      clearBit s.sgv.holds HoldReason.zoneUnsettled.bit := by
    unfold clearBit
    ext i hi
    simp
  split <;> dsimp only <;> split <;> simp_all

theorem ceilingNow_le (s : State) : s.ceilingNow ≤ 600 := by
  unfold State.ceilingNow
  generalize (s.countedClasses.filterMap s.classCeiling ++ s.pfm.strikeCeiling.toList ++ s.spliceCeiling.toList) = l
  have key : ∀ (l : List Nat) (n : Nat), l.foldl min n ≤ n := by
    intro l
    induction l with
    | nil => intro n; exact Nat.le_refl n
    | cons x xs ih => intro n; exact Nat.le_trans (ih (min n x)) (Nat.min_le_left n x)
  exact key l 600

theorem flatRefUnder_le (s : State) (c : Nat) : s.flatRefUnder c ≤ c * 100 := by
  unfold State.flatRefUnder
  split <;> (try split) <;> (try omega)

theorem leaveRun_spec (s : State) :
    s.leaveRun.sgv.gov = .run → s.leaveRun.sgv.intent = true ∧ s.leaveRun.sgv.holds = 0#6 := by
  unfold State.leaveRun
  split
  · simp
  · rename_i h
    intro hr
    simp only [hr, true_and, not_or, ne_eq, not_not] at h
    exact ⟨by simpa using h.2, h.1⟩

/-- Whatever an act did, its end leaves the governor's law standing. -/
theorem endAct_governorLaw (s : State) : GovernorLaw s.endAct := by
  unfold State.endAct
  generalize s.syncUnsettled = a
  have hrun := leaveRun_spec a
  generalize hb : a.leaveRun = b at hrun ⊢
  refine ⟨?_, ?_, ?_, ?_⟩
  · exact flatRefUnder_le _ _
  · exact ceilingNow_le _
  · intro h
    show b.syncStrikeCeiling.flatRefUnder _ = 0
    have h2 : b.sgv.gov.atRest = true := h
    unfold State.flatRefUnder
    cases hg : b.sgv.gov <;> simp_all [Governor.atRest, State.syncStrikeCeiling]
  · intro h
    exact hrun h

theorem syncUnsettled_hold (s : State) :
    s.syncUnsettled.hasHold .zoneUnsettled = (s.rst.line.heat && s.hsu.zones.any fun _ z => z.mode == .warming) := by
  unfold State.syncUnsettled
  split
  · rename_i h
    rw [h]
    simp [State.hasHold, State.setHold, HoldReason.bit]
  · rename_i h
    rw [Bool.eq_false_iff.mpr h]
    simp [State.hasHold, State.dropHold, HoldReason.bit]

theorem endAct_hold (s : State) (h : HoldReason) : s.endAct.hasHold h = s.syncUnsettled.hasHold h := by
  unfold State.endAct
  simp [State.hasHold, State.leaveRun]
  split <;> rfl

end Sys2Proof.Machine
end

