-- ==== Sys2Proof/Laws/Acts.lean ====
section
/-! SUPPORT. What the shared acts do, each said once: the sets' membership after a raise or a clear, the end of an act, a stop
cause, the entries into HALTING and TRIPPED, and how a completion follows from an act's end. -/

namespace Sys2Proof.Machine

/-! ### Completions -/

/-- A command whose act ends with `endAct` completes in every state that agrees with the act's, the recomputed values apart. -/
theorem completes_of_endAct {c : Instr} {s u e : State} (h : exec c s = .next u.endAct)
    (he : u.unregulated = e.unregulated) : Completes c s e :=
  ⟨u.endAct, h, (endAct_unregulated u).trans he⟩

theorem completes_of_next {c : Instr} {s e : State} (h : exec c s = .next e) : Completes c s e := ⟨e, h, rfl⟩

/-! ### The sets -/

theorem Alert.bit_lt (a : Alert) : a.bit < 17 := by cases a <;> decide

theorem Alert.bit_injective {a b : Alert} (h : a.bit = b.bit) : a = b := by
  cases a <;> cases b <;> first | rfl | exact absurd h (by decide)

theorem HoldReason.bit_lt (h : HoldReason) : h.bit < 6 := by cases h <;> decide

theorem HoldReason.bit_injective {a b : HoldReason} (h : a.bit = b.bit) : a = b := by
  cases a <;> cases b <;> first | rfl | exact absurd h (by decide)

theorem StopCause.bit_lt (c : StopCause) : c.bit < 5 := by cases c <;> decide

theorem StopCause.bit_injective {a b : StopCause} (h : a.bit = b.bit) : a = b := by
  cases a <;> cases b <;> first | rfl | exact absurd h (by decide)

theorem TripCause.bit_lt (c : TripCause) : c.bit < 3 := by cases c <;> decide

theorem TripCause.bit_injective {a b : TripCause} (h : a.bit = b.bit) : a = b := by
  cases a <;> cases b <;> first | rfl | exact absurd h (by decide)

theorem hasAlert_raiseAlert (s : State) (a b : Alert) : (s.raiseAlert a).hasAlert b = (s.hasAlert b || decide (b = a)) := by
  simp only [State.hasAlert, State.raiseAlert, hasBit_setBit]
  by_cases h : b = a
  · subst h; simp [Alert.bit_lt]
  · have : b.bit ≠ a.bit := fun e => h (Alert.bit_injective e)
    simp [h, this]

theorem hasAlert_dropAlert (s : State) (a b : Alert) : (s.dropAlert a).hasAlert b = (s.hasAlert b && decide (b ≠ a)) := by
  simp only [State.hasAlert, State.dropAlert, hasBit_clearBit]
  by_cases h : b = a
  · subst h; simp
  · have : b.bit ≠ a.bit := fun e => h (Alert.bit_injective e)
    simp [h, this]

theorem hasHold_setHold (s : State) (a b : HoldReason) : (s.setHold a).hasHold b = (s.hasHold b || decide (b = a)) := by
  simp only [State.hasHold, State.setHold, hasBit_setBit]
  by_cases h : b = a
  · subst h; simp [HoldReason.bit_lt]
  · have : b.bit ≠ a.bit := fun e => h (HoldReason.bit_injective e)
    simp [h, this]

theorem hasHold_dropHold (s : State) (a b : HoldReason) : (s.dropHold a).hasHold b = (s.hasHold b && decide (b ≠ a)) := by
  simp only [State.hasHold, State.dropHold, hasBit_clearBit]
  by_cases h : b = a
  · subst h; simp
  · have : b.bit ≠ a.bit := fun e => h (HoldReason.bit_injective e)
    simp [h, this]

theorem hasStop_addStop (s : State) (a b : StopCause) : (s.addStop a).hasStop b = (s.hasStop b || decide (b = a)) := by
  simp only [State.hasStop, State.addStop, hasBit_setBit]
  by_cases h : b = a
  · subst h; simp [StopCause.bit_lt]
  · have : b.bit ≠ a.bit := fun e => h (StopCause.bit_injective e)
    simp [h, this]

theorem hasStop_dropStop (s : State) (a b : StopCause) : (s.dropStop a).hasStop b = (s.hasStop b && decide (b ≠ a)) := by
  simp only [State.hasStop, State.dropStop, hasBit_clearBit]
  by_cases h : b = a
  · subst h; simp
  · have : b.bit ≠ a.bit := fun e => h (StopCause.bit_injective e)
    simp [h, this]

theorem hasTrip_addTrip (s : State) (a b : TripCause) : (s.addTrip a).hasTrip b = (s.hasTrip b || decide (b = a)) := by
  simp only [State.hasTrip, State.addTrip, hasBit_setBit]
  by_cases h : b = a
  · subst h; simp [TripCause.bit_lt]
  · have : b.bit ≠ a.bit := fun e => h (TripCause.bit_injective e)
    simp [h, this]

theorem hasTrip_dropTrip (s : State) (a b : TripCause) : (s.dropTrip a).hasTrip b = (s.hasTrip b && decide (b ≠ a)) := by
  simp only [State.hasTrip, State.dropTrip, hasBit_clearBit]
  by_cases h : b = a
  · subst h; simp
  · have : b.bit ≠ a.bit := fun e => h (TripCause.bit_injective e)
    simp [h, this]

/-! ### The end of an act -/

@[simp] theorem hasAlert_endAct (s : State) (a : Alert) : s.endAct.hasAlert a = s.hasAlert a := by simp [State.hasAlert]

@[simp] theorem hasStop_endAct (s : State) (c : StopCause) : s.endAct.hasStop c = s.hasStop c := by simp [State.hasStop]

@[simp] theorem hasTrip_endAct (s : State) (c : TripCause) : s.endAct.hasTrip c = s.hasTrip c := by simp [State.hasTrip]

@[simp] theorem station_endAct (s : State) (x : Station) : s.endAct.station x = s.station x := by
  cases x <;> simp [State.station]

@[simp] theorem port_endAct (s : State) (p : Port) : s.endAct.port p = s.port p := by cases p <;> simp [State.port]

/-- Out of RUN the end of an act leaves the governor. -/
theorem endAct_gov_of_ne_run {s : State} (h : s.sgv.gov ≠ .run) : s.endAct.sgv.gov = s.sgv.gov := by
  have hu : s.syncUnsettled.sgv.gov = s.sgv.gov := by unfold State.syncUnsettled; split <;> rfl
  unfold State.endAct State.leaveRun
  rw [hu]
  simp [h, State.regulate, State.syncStrikeCeiling]

/-- In RUN the end of an act leaves the governor in RUN or takes it to CREEP. -/
theorem endAct_gov_of_run {s : State} (h : s.sgv.gov = .run) : s.endAct.sgv.gov = .run ∨ s.endAct.sgv.gov = .creep := by
  have hu : s.syncUnsettled.sgv.gov = s.sgv.gov := by unfold State.syncUnsettled; split <;> rfl
  unfold State.endAct State.leaveRun
  split
  · right; rfl
  · left; simp [State.regulate, State.syncStrikeCeiling, h]

/-- A hold reason that HSU does not hold stands at the end of an act as before it. -/
theorem endAct_hasHold {s : State} {h : HoldReason} (hne : h ≠ .zoneUnsettled) : s.endAct.hasHold h = s.hasHold h := by
  rw [endAct_hold]
  unfold State.syncUnsettled
  split
  · simp [hasHold_setHold, hne]
  · simp [hasHold_dropHold, hne]

/-- With the governor at rest the references are 0 at the end of an act. -/
theorem endAct_refs_atRest {s : State} (h : s.sgv.gov.atRest = true) : s.endAct.sgv.flatRef = 0 ∧ s.endAct.sgv.beltRef = 0 := by
  have hne : s.sgv.gov ≠ .run := by intro e; rw [e] at h; exact absurd h (by decide)
  have hz : s.endAct.sgv.flatRef = 0 := (endAct_governorLaw s).2.2.1 (by rw [endAct_gov_of_ne_run hne]; exact h)
  refine ⟨hz, ?_⟩
  have : s.endAct.sgv.beltRef =
      s.endAct.sgv.flatRef * s.syncUnsettled.leaveRun.syncStrikeCeiling.formingRatio.2 /
        s.syncUnsettled.leaveRun.syncStrikeCeiling.formingRatio.1 := rfl
  rw [this, hz]; simp

/-- The end of an act leaves the references' law standing, whatever the act did. -/
theorem endAct_referenceLaw (s : State) : ReferenceLaw s.endAct := by
  unfold State.endAct
  generalize s.syncUnsettled.leaveRun.syncStrikeCeiling = a
  refine ⟨?_, ?_, rfl, ?_⟩
  · intro h
    have h' : a.sgv.gov = .creep := h
    show a.flatRefUnder a.ceilingNow = _
    unfold State.flatRefUnder
    rw [h']
    rfl
  · intro h
    have h' : a.sgv.gov = .stepping := h
    show a.flatRefUnder a.ceilingNow = _
    unfold State.flatRefUnder
    rw [h']
    rfl
  · show (a.webBreakUnder _).isSome = true ↔ ∃ c, a.rst.line.creep = some c ∧ c * 100 ≤ _
    unfold State.webBreakUnder
    cases a.rst.line.creep with
    | none => simp
    | some c =>
      simp only [Option.some.injEq, exists_eq_left']
      split <;> simp_all [State.regulate]

/-! ### A stop cause, and the entries into HALTING and TRIPPED -/

/-- What a stop cause or STOP does to the governor, run intent and stop pending. -/
theorem stopLine_spec (s : State) :
    s.stopLine.sgv.gov = s.sgv.gov.afterStop s.fsu.phase ∧
      (s.stopLine.sgv.gov = .halting ∨ s.stopLine.sgv.gov = .creep → s.sgv.gov ≠ .halting → s.stopLine.sgv.intent = false) := by
  unfold State.stopLine
  split <;> rename_i h <;> (try split) <;> (try rename_i h2) <;>
    simp_all [Governor.afterStop, State.enterHalting, State.deferStop] <;> (try split) <;> simp_all

theorem afterStop_ne_run (g : Governor) (p : SplicePhase) : g.afterStop p ≠ .run := by
  cases g <;> simp [Governor.afterStop] <;> split <;> simp

@[simp] theorem hasAlert_stopLine (s : State) (a : Alert) : s.stopLine.hasAlert a = s.hasAlert a := by
  simp [State.hasAlert]

@[simp] theorem hasStop_stopLine (s : State) (c : StopCause) : s.stopLine.hasStop c = s.hasStop c := by
  simp [State.hasStop]

/-- A stop cause raised stands with its alert, and moves the governor. -/
theorem raiseStop_spec (s : State) (c : StopCause) :
    (s.raiseStop c).hasStop c = true ∧ (s.raiseStop c).hasAlert c.alert = true ∧
      (s.raiseStop c).sgv.gov = s.sgv.gov.afterStop s.fsu.phase := by
  refine ⟨?_, ?_, ?_⟩
  · simp [State.raiseStop, hasStop_addStop]
  · have : ((s.raiseAlert c.alert).addStop c).hasAlert c.alert = (s.raiseAlert c.alert).hasAlert c.alert := rfl
    simp [State.raiseStop, this, hasAlert_raiseAlert]
  · simp [State.raiseStop, (stopLine_spec _).1]

end Sys2Proof.Machine
end

