-- ==== Sys2Proof/Laws/Commands.lean ====
section
/-! SUPPORT. What the operations behind the commands leave as it was, one lemma for each operation; the checks of a line
command; a request taken. -/

namespace Sys2Proof.Machine

@[simp] theorem State.countWeb_frame (s : State) (d : Travel) :
    (s.countWeb d).pending = s.pending ∧ (s.countWeb d).freeIdx = s.freeIdx ∧ (s.countWeb d).inputs = s.inputs ∧
    (s.countWeb d).rst = s.rst ∧ (s.countWeb d).lnk = s.lnk ∧ (s.countWeb d).fsu.surfA = s.fsu.surfA ∧
    (s.countWeb d).fsu.surfB = s.fsu.surfB ∧ (s.countWeb d).fsu.staA = s.fsu.staA ∧
    (s.countWeb d).fsu.staB = s.fsu.staB ∧ (s.countWeb d).fsu.phase = s.fsu.phase ∧
    (s.countWeb d).fsu.outcome = s.fsu.outcome ∧ (s.countWeb d).fsu.incoming = s.fsu.incoming ∧
    (s.countWeb d).fsu.outgoing = s.fsu.outgoing ∧ (s.countWeb d).fsu.limit = s.fsu.limit ∧
    (s.countWeb d).fsu.matchCount = s.fsu.matchCount ∧ (s.countWeb d).fsu.extend = s.fsu.extend ∧
    (s.countWeb d).fsu.knife = s.fsu.knife ∧ (s.countWeb d).fsu.locked = s.fsu.locked ∧
    (s.countWeb d).fsu.lockCount = s.fsu.lockCount ∧ (s.countWeb d).fsu.lossWatch = s.fsu.lossWatch ∧
    (s.countWeb d).fsu.dancer = s.fsu.dancer ∧ (s.countWeb d).fsu.dancerWindow = s.fsu.dancerWindow ∧
    (s.countWeb d).ltr = s.ltr ∧ (s.countWeb d).pfm = s.pfm ∧ (s.countWeb d).hsu = s.hsu ∧
    (s.countWeb d).exu = s.exu ∧ (s.countWeb d).sgv.gov = s.sgv.gov ∧ (s.countWeb d).sgv.intent = s.sgv.intent ∧
    (s.countWeb d).sgv.holds = s.sgv.holds ∧ (s.countWeb d).sgv.stops = s.sgv.stops ∧
    (s.countWeb d).sgv.trips = s.sgv.trips ∧ (s.countWeb d).sgv.stopPending = s.sgv.stopPending ∧
    (s.countWeb d).sgv.flatRef = s.sgv.flatRef ∧ (s.countWeb d).sgv.beltRef = s.sgv.beltRef ∧
    (s.countWeb d).sgv.ceiling = s.sgv.ceiling ∧ (s.countWeb d).sgv.classSet = s.sgv.classSet := by
  simp [State.countWeb]

@[simp] theorem State.feedUnits_frame (s : State) (d : Travel) :
    (s.feedUnits d).pending = s.pending ∧ (s.feedUnits d).inputs = s.inputs ∧
    (s.feedUnits d).rst.panelSerial = s.rst.panelSerial ∧ (s.feedUnits d).fsu.w = s.fsu.w ∧
    (s.feedUnits d).fsu.web = s.fsu.web ∧ (s.feedUnits d).fsu.surfA = s.fsu.surfA ∧
    (s.feedUnits d).fsu.surfB = s.fsu.surfB ∧ (s.feedUnits d).fsu.dancer = s.fsu.dancer ∧
    (s.feedUnits d).fsu.dancerWindow = s.fsu.dancerWindow ∧ (s.feedUnits d).fsu.webBreak = s.fsu.webBreak ∧
    (s.feedUnits d).pfm.forming = s.pfm.forming ∧ (s.feedUnits d).pfm.nextStart = s.pfm.nextStart ∧
    (s.feedUnits d).pfm.nextStrike = s.pfm.nextStrike ∧ (s.feedUnits d).pfm.cycle = s.pfm.cycle ∧
    (s.feedUnits d).pfm.bladeLimit = s.pfm.bladeLimit ∧ (s.feedUnits d).pfm.strikeFor = s.pfm.strikeFor ∧
    (s.feedUnits d).pfm.nextWaste = s.pfm.nextWaste ∧ (s.feedUnits d).pfm.strikeCeiling = s.pfm.strikeCeiling ∧
    (s.feedUnits d).pfm.strike = s.pfm.strike ∧ (s.feedUnits d).pfm.depths = s.pfm.depths ∧
    (s.feedUnits d).hsu.pressure = s.hsu.pressure ∧ (s.feedUnits d).hsu.pressureReading = s.hsu.pressureReading ∧
    (s.feedUnits d).hsu.permit = s.hsu.permit ∧ (s.feedUnits d).exu = s.exu ∧
    (s.feedUnits d).sgv.trips = s.sgv.trips ∧ (s.feedUnits d).sgv.flatRef = s.sgv.flatRef ∧
    (s.feedUnits d).sgv.beltRef = s.sgv.beltRef ∧ (s.feedUnits d).sgv.ceiling = s.sgv.ceiling ∧
    (s.feedUnits d).sgv.classSet = s.sgv.classSet := by
  unfold State.feedUnits
  (repeat' split) <;> simp

@[simp] theorem State.formUnits_frame (s : State) (d : Travel) :
    (s.formUnits d).pending = s.pending ∧ (s.formUnits d).inputs = s.inputs ∧
    (s.formUnits d).rst.rolls = s.rst.rolls ∧ (s.formUnits d).rst.line = s.rst.line ∧ (s.formUnits d).fsu = s.fsu ∧
    (s.formUnits d).ltr = s.ltr ∧ (s.formUnits d).pfm.strikeCeiling = s.pfm.strikeCeiling ∧
    (s.formUnits d).hsu.pressure = s.hsu.pressure ∧ (s.formUnits d).hsu.pressureReading = s.hsu.pressureReading ∧
    (s.formUnits d).hsu.permit = s.hsu.permit ∧ (s.formUnits d).exu.b = s.exu.b ∧
    (s.formUnits d).exu.belt = s.exu.belt ∧ (s.formUnits d).exu.cycle = s.exu.cycle ∧
    (s.formUnits d).exu.limit = s.exu.limit ∧ (s.formUnits d).exu.cutSerial = s.exu.cutSerial ∧
    (s.formUnits d).exu.cut = s.exu.cut ∧ (s.formUnits d).exu.divert = s.exu.divert ∧
    (s.formUnits d).sgv.gov = s.sgv.gov ∧ (s.formUnits d).sgv.intent = s.sgv.intent ∧
    (s.formUnits d).sgv.stops = s.sgv.stops ∧ (s.formUnits d).sgv.trips = s.sgv.trips ∧
    (s.formUnits d).sgv.stopPending = s.sgv.stopPending ∧ (s.formUnits d).sgv.flatRef = s.sgv.flatRef ∧
    (s.formUnits d).sgv.beltRef = s.sgv.beltRef ∧ (s.formUnits d).sgv.ceiling = s.sgv.ceiling ∧
    (s.formUnits d).sgv.standstill = s.sgv.standstill ∧ (s.formUnits d).sgv.standWindow = s.sgv.standWindow := by
  unfold State.formUnits
  split <;> simp

@[simp] theorem State.countBelt_frame (s : State) (d : Travel) :
    (s.countBelt d).pending = s.pending ∧ (s.countBelt d).freeIdx = s.freeIdx ∧ (s.countBelt d).inputs = s.inputs ∧
    (s.countBelt d).rst = s.rst ∧ (s.countBelt d).lnk = s.lnk ∧ (s.countBelt d).fsu = s.fsu ∧
    (s.countBelt d).ltr = s.ltr ∧ (s.countBelt d).pfm = s.pfm ∧ (s.countBelt d).hsu = s.hsu ∧
    (s.countBelt d).exu.cycle = s.exu.cycle ∧ (s.countBelt d).exu.limit = s.exu.limit ∧
    (s.countBelt d).exu.cutSerial = s.exu.cutSerial ∧ (s.countBelt d).exu.pendingFault = s.exu.pendingFault ∧
    (s.countBelt d).exu.last = s.exu.last ∧ (s.countBelt d).exu.cut = s.exu.cut ∧
    (s.countBelt d).exu.divert = s.exu.divert ∧ (s.countBelt d).sgv = s.sgv := by
  simp [State.countBelt]

@[simp] theorem State.refreshSpeeds_frame (s : State) (surfA : ℤ) (surfB : ℤ) :
    (s.refreshSpeeds surfA surfB).pending = s.pending ∧ (s.refreshSpeeds surfA surfB).freeIdx = s.freeIdx ∧
    (s.refreshSpeeds surfA surfB).inputs = s.inputs ∧ (s.refreshSpeeds surfA surfB).rst = s.rst ∧
    (s.refreshSpeeds surfA surfB).lnk = s.lnk ∧ (s.refreshSpeeds surfA surfB).fsu.w = s.fsu.w ∧
    (s.refreshSpeeds surfA surfB).fsu.staA = s.fsu.staA ∧ (s.refreshSpeeds surfA surfB).fsu.staB = s.fsu.staB ∧
    (s.refreshSpeeds surfA surfB).fsu.phase = s.fsu.phase ∧
    (s.refreshSpeeds surfA surfB).fsu.outcome = s.fsu.outcome ∧
    (s.refreshSpeeds surfA surfB).fsu.incoming = s.fsu.incoming ∧
    (s.refreshSpeeds surfA surfB).fsu.outgoing = s.fsu.outgoing ∧
    (s.refreshSpeeds surfA surfB).fsu.limit = s.fsu.limit ∧
    (s.refreshSpeeds surfA surfB).fsu.matchCount = s.fsu.matchCount ∧
    (s.refreshSpeeds surfA surfB).fsu.extend = s.fsu.extend ∧ (s.refreshSpeeds surfA surfB).fsu.knife = s.fsu.knife ∧
    (s.refreshSpeeds surfA surfB).fsu.locked = s.fsu.locked ∧
    (s.refreshSpeeds surfA surfB).fsu.lockCount = s.fsu.lockCount ∧
    (s.refreshSpeeds surfA surfB).fsu.lossWatch = s.fsu.lossWatch ∧
    (s.refreshSpeeds surfA surfB).fsu.dancer = s.fsu.dancer ∧
    (s.refreshSpeeds surfA surfB).fsu.dancerWindow = s.fsu.dancerWindow ∧
    (s.refreshSpeeds surfA surfB).fsu.webBreak = s.fsu.webBreak ∧ (s.refreshSpeeds surfA surfB).ltr = s.ltr ∧
    (s.refreshSpeeds surfA surfB).pfm = s.pfm ∧ (s.refreshSpeeds surfA surfB).hsu = s.hsu ∧
    (s.refreshSpeeds surfA surfB).exu.b = s.exu.b ∧ (s.refreshSpeeds surfA surfB).exu.cycle = s.exu.cycle ∧
    (s.refreshSpeeds surfA surfB).exu.limit = s.exu.limit ∧
    (s.refreshSpeeds surfA surfB).exu.cutSerial = s.exu.cutSerial ∧
    (s.refreshSpeeds surfA surfB).exu.pendingFault = s.exu.pendingFault ∧
    (s.refreshSpeeds surfA surfB).exu.last = s.exu.last ∧ (s.refreshSpeeds surfA surfB).exu.cut = s.exu.cut ∧
    (s.refreshSpeeds surfA surfB).exu.divert = s.exu.divert ∧ (s.refreshSpeeds surfA surfB).sgv = s.sgv := by
  simp [State.refreshSpeeds]

@[simp] theorem State.endRundown_frame (s : State) (x : Station) :
    (s.endRundown x).pending = s.pending ∧ (s.endRundown x).freeIdx = s.freeIdx ∧ (s.endRundown x).inputs = s.inputs ∧
    (s.endRundown x).rst = s.rst ∧ (s.endRundown x).lnk = s.lnk ∧ (s.endRundown x).fsu.w = s.fsu.w ∧
    (s.endRundown x).fsu.web = s.fsu.web ∧ (s.endRundown x).fsu.surfA = s.fsu.surfA ∧
    (s.endRundown x).fsu.surfB = s.fsu.surfB ∧ (s.endRundown x).fsu.phase = s.fsu.phase ∧
    (s.endRundown x).fsu.outcome = s.fsu.outcome ∧ (s.endRundown x).fsu.incoming = s.fsu.incoming ∧
    (s.endRundown x).fsu.outgoing = s.fsu.outgoing ∧ (s.endRundown x).fsu.limit = s.fsu.limit ∧
    (s.endRundown x).fsu.matchCount = s.fsu.matchCount ∧ (s.endRundown x).fsu.extend = s.fsu.extend ∧
    (s.endRundown x).fsu.knife = s.fsu.knife ∧ (s.endRundown x).fsu.locked = s.fsu.locked ∧
    (s.endRundown x).fsu.lockCount = s.fsu.lockCount ∧ (s.endRundown x).fsu.lossWatch = s.fsu.lossWatch ∧
    (s.endRundown x).fsu.dancer = s.fsu.dancer ∧ (s.endRundown x).fsu.dancerWindow = s.fsu.dancerWindow ∧
    (s.endRundown x).fsu.webBreak = s.fsu.webBreak ∧ (s.endRundown x).ltr = s.ltr ∧ (s.endRundown x).pfm = s.pfm ∧
    (s.endRundown x).hsu = s.hsu ∧ (s.endRundown x).exu = s.exu ∧ (s.endRundown x).sgv = s.sgv := by
  unfold State.endRundown
  split <;> simp

@[simp] theorem State.setPin_frame (s : State) (i : Input) (v : Pin) :
    (s.setPin i v).pending = s.pending ∧ (s.setPin i v).freeIdx = s.freeIdx ∧ (s.setPin i v).rst = s.rst ∧
    (s.setPin i v).lnk = s.lnk ∧ (s.setPin i v).fsu = s.fsu ∧ (s.setPin i v).ltr = s.ltr ∧
    (s.setPin i v).pfm = s.pfm ∧ (s.setPin i v).hsu = s.hsu ∧ (s.setPin i v).exu = s.exu ∧
    (s.setPin i v).sgv = s.sgv := by
  simp [State.setPin]

@[simp] theorem State.firstLevel_frame (s : State) (i : Input) (level : Bool) :
    (s.firstLevel i level).pending = s.pending ∧ (s.firstLevel i level).inputs = s.inputs ∧
    (s.firstLevel i level).rst.patterns = s.rst.patterns ∧ (s.firstLevel i level).rst.pool = s.rst.pool ∧
    (s.firstLevel i level).rst.classes = s.rst.classes ∧ (s.firstLevel i level).rst.rolls = s.rst.rolls ∧
    (s.firstLevel i level).rst.lots = s.rst.lots ∧ (s.firstLevel i level).rst.order = s.rst.order ∧
    (s.firstLevel i level).rst.panelSerial = s.rst.panelSerial ∧ (s.firstLevel i level).lnk.sup = s.lnk.sup ∧
    (s.firstLevel i level).lnk.pen = s.lnk.pen ∧ (s.firstLevel i level).fsu.w = s.fsu.w ∧
    (s.firstLevel i level).fsu.web = s.fsu.web ∧ (s.firstLevel i level).fsu.surfA = s.fsu.surfA ∧
    (s.firstLevel i level).fsu.surfB = s.fsu.surfB ∧ (s.firstLevel i level).fsu.locked = s.fsu.locked ∧
    (s.firstLevel i level).fsu.lockCount = s.fsu.lockCount ∧ (s.firstLevel i level).fsu.lossWatch = s.fsu.lossWatch ∧
    (s.firstLevel i level).fsu.dancer = s.fsu.dancer ∧ (s.firstLevel i level).fsu.dancerWindow = s.fsu.dancerWindow ∧
    (s.firstLevel i level).fsu.webBreak = s.fsu.webBreak ∧ (s.firstLevel i level).ltr.segment = s.ltr.segment ∧
    (s.firstLevel i level).ltr.pendingJoint = s.ltr.pendingJoint ∧
    (s.firstLevel i level).ltr.starved = s.ltr.starved ∧ (s.firstLevel i level).pfm.forming = s.pfm.forming ∧
    (s.firstLevel i level).pfm.nextStart = s.pfm.nextStart ∧
    (s.firstLevel i level).pfm.nextStrike = s.pfm.nextStrike ∧
    (s.firstLevel i level).pfm.nextWaste = s.pfm.nextWaste ∧
    (s.firstLevel i level).pfm.strikeCeiling = s.pfm.strikeCeiling ∧
    (s.firstLevel i level).hsu.pressure = s.hsu.pressure ∧
    (s.firstLevel i level).hsu.pressureReading = s.hsu.pressureReading ∧ (s.firstLevel i level).exu.b = s.exu.b ∧
    (s.firstLevel i level).exu.belt = s.exu.belt ∧ (s.firstLevel i level).exu.last = s.exu.last ∧
    (s.firstLevel i level).sgv.stops = s.sgv.stops ∧ (s.firstLevel i level).sgv.flatRef = s.sgv.flatRef ∧
    (s.firstLevel i level).sgv.beltRef = s.sgv.beltRef ∧ (s.firstLevel i level).sgv.ceiling = s.sgv.ceiling ∧
    (s.firstLevel i level).sgv.standstill = s.sgv.standstill ∧
    (s.firstLevel i level).sgv.standWindow = s.sgv.standWindow ∧
    (s.firstLevel i level).sgv.classSet = s.sgv.classSet := by
  unfold State.firstLevel
  (repeat' split) <;> simp

@[simp] theorem State.openPorts_frame (s : State) :
    s.openPorts.pending = s.pending ∧ s.openPorts.freeIdx = s.freeIdx ∧ s.openPorts.inputs = s.inputs ∧
    s.openPorts.rst = s.rst ∧ s.openPorts.lnk.alerts = s.lnk.alerts ∧ s.openPorts.fsu = s.fsu ∧
    s.openPorts.ltr = s.ltr ∧ s.openPorts.pfm = s.pfm ∧ s.openPorts.hsu = s.hsu ∧ s.openPorts.exu = s.exu ∧
    s.openPorts.sgv = s.sgv := by
  unfold State.openPorts
  split <;> simp

@[simp] theorem State.bindRoll_frame (s : State) (x : Station) (r : Roll) :
    (s.bindRoll x r).pending = s.pending ∧ (s.bindRoll x r).freeIdx = s.freeIdx ∧ (s.bindRoll x r).inputs = s.inputs ∧
    (s.bindRoll x r).rst.patterns = s.rst.patterns ∧ (s.bindRoll x r).rst.pool = s.rst.pool ∧
    (s.bindRoll x r).rst.classes = s.rst.classes ∧ (s.bindRoll x r).rst.lots = s.rst.lots ∧
    (s.bindRoll x r).rst.order = s.rst.order ∧ (s.bindRoll x r).rst.panels = s.rst.panels ∧
    (s.bindRoll x r).rst.panelSerial = s.rst.panelSerial ∧ (s.bindRoll x r).rst.line = s.rst.line ∧
    (s.bindRoll x r).lnk = s.lnk ∧ (s.bindRoll x r).fsu = s.fsu ∧ (s.bindRoll x r).ltr = s.ltr ∧
    (s.bindRoll x r).pfm = s.pfm ∧ (s.bindRoll x r).hsu = s.hsu ∧ (s.bindRoll x r).exu = s.exu ∧
    (s.bindRoll x r).sgv = s.sgv := by
  simp [State.bindRoll]

@[simp] theorem State.seatedRise_frame (s : State) (x : Station) :
    (s.seatedRise x).pending = s.pending ∧ (s.seatedRise x).freeIdx = s.freeIdx ∧ (s.seatedRise x).inputs = s.inputs ∧
    (s.seatedRise x).rst.patterns = s.rst.patterns ∧ (s.seatedRise x).rst.pool = s.rst.pool ∧
    (s.seatedRise x).rst.classes = s.rst.classes ∧ (s.seatedRise x).rst.lots = s.rst.lots ∧
    (s.seatedRise x).rst.order = s.rst.order ∧ (s.seatedRise x).rst.panels = s.rst.panels ∧
    (s.seatedRise x).rst.panelSerial = s.rst.panelSerial ∧ (s.seatedRise x).rst.line = s.rst.line ∧
    (s.seatedRise x).lnk.sup = s.lnk.sup ∧ (s.seatedRise x).lnk.pen = s.lnk.pen ∧ (s.seatedRise x).fsu.w = s.fsu.w ∧
    (s.seatedRise x).fsu.web = s.fsu.web ∧ (s.seatedRise x).fsu.surfA = s.fsu.surfA ∧
    (s.seatedRise x).fsu.surfB = s.fsu.surfB ∧ (s.seatedRise x).fsu.phase = s.fsu.phase ∧
    (s.seatedRise x).fsu.outcome = s.fsu.outcome ∧ (s.seatedRise x).fsu.incoming = s.fsu.incoming ∧
    (s.seatedRise x).fsu.outgoing = s.fsu.outgoing ∧ (s.seatedRise x).fsu.limit = s.fsu.limit ∧
    (s.seatedRise x).fsu.matchCount = s.fsu.matchCount ∧ (s.seatedRise x).fsu.extend = s.fsu.extend ∧
    (s.seatedRise x).fsu.knife = s.fsu.knife ∧ (s.seatedRise x).fsu.locked = s.fsu.locked ∧
    (s.seatedRise x).fsu.lockCount = s.fsu.lockCount ∧ (s.seatedRise x).fsu.lossWatch = s.fsu.lossWatch ∧
    (s.seatedRise x).fsu.dancer = s.fsu.dancer ∧ (s.seatedRise x).fsu.dancerWindow = s.fsu.dancerWindow ∧
    (s.seatedRise x).fsu.webBreak = s.fsu.webBreak ∧ (s.seatedRise x).ltr = s.ltr ∧ (s.seatedRise x).pfm = s.pfm ∧
    (s.seatedRise x).hsu = s.hsu ∧ (s.seatedRise x).exu = s.exu ∧ (s.seatedRise x).sgv = s.sgv := by
  unfold State.seatedRise
  dsimp only
  (repeat' split) <;> simp

@[simp] theorem State.returnRoll_frame (s : State) (r : Roll) :
    (s.returnRoll r).pending = s.pending ∧ (s.returnRoll r).freeIdx = s.freeIdx ∧ (s.returnRoll r).inputs = s.inputs ∧
    (s.returnRoll r).rst.patterns = s.rst.patterns ∧ (s.returnRoll r).rst.pool = s.rst.pool ∧
    (s.returnRoll r).rst.classes = s.rst.classes ∧ (s.returnRoll r).rst.lots = s.rst.lots ∧
    (s.returnRoll r).rst.order = s.rst.order ∧ (s.returnRoll r).rst.panels = s.rst.panels ∧
    (s.returnRoll r).rst.panelSerial = s.rst.panelSerial ∧ (s.returnRoll r).rst.line = s.rst.line ∧
    (s.returnRoll r).lnk = s.lnk ∧ (s.returnRoll r).fsu = s.fsu ∧ (s.returnRoll r).ltr = s.ltr ∧
    (s.returnRoll r).pfm = s.pfm ∧ (s.returnRoll r).hsu = s.hsu ∧ (s.returnRoll r).exu = s.exu ∧
    (s.returnRoll r).sgv = s.sgv := by
  simp [State.returnRoll]

@[simp] theorem State.unbindRoll_frame (s : State) (r : Roll) :
    (s.unbindRoll r).pending = s.pending ∧ (s.unbindRoll r).freeIdx = s.freeIdx ∧ (s.unbindRoll r).inputs = s.inputs ∧
    (s.unbindRoll r).rst.patterns = s.rst.patterns ∧ (s.unbindRoll r).rst.pool = s.rst.pool ∧
    (s.unbindRoll r).rst.classes = s.rst.classes ∧ (s.unbindRoll r).rst.lots = s.rst.lots ∧
    (s.unbindRoll r).rst.order = s.rst.order ∧ (s.unbindRoll r).rst.panels = s.rst.panels ∧
    (s.unbindRoll r).rst.panelSerial = s.rst.panelSerial ∧ (s.unbindRoll r).rst.line = s.rst.line ∧
    (s.unbindRoll r).lnk = s.lnk ∧ (s.unbindRoll r).fsu = s.fsu ∧ (s.unbindRoll r).ltr = s.ltr ∧
    (s.unbindRoll r).pfm = s.pfm ∧ (s.unbindRoll r).hsu = s.hsu ∧ (s.unbindRoll r).exu = s.exu ∧
    (s.unbindRoll r).sgv = s.sgv := by
  unfold State.unbindRoll
  split <;> simp

@[simp] theorem State.emptyStation_frame (s : State) (x : Station) :
    (s.emptyStation x).pending = s.pending ∧ (s.emptyStation x).freeIdx = s.freeIdx ∧
    (s.emptyStation x).inputs = s.inputs ∧ (s.emptyStation x).rst.patterns = s.rst.patterns ∧
    (s.emptyStation x).rst.pool = s.rst.pool ∧ (s.emptyStation x).rst.classes = s.rst.classes ∧
    (s.emptyStation x).rst.lots = s.rst.lots ∧ (s.emptyStation x).rst.order = s.rst.order ∧
    (s.emptyStation x).rst.panels = s.rst.panels ∧ (s.emptyStation x).rst.panelSerial = s.rst.panelSerial ∧
    (s.emptyStation x).rst.line = s.rst.line ∧ (s.emptyStation x).lnk = s.lnk ∧ (s.emptyStation x).fsu.w = s.fsu.w ∧
    (s.emptyStation x).fsu.web = s.fsu.web ∧ (s.emptyStation x).fsu.surfA = s.fsu.surfA ∧
    (s.emptyStation x).fsu.surfB = s.fsu.surfB ∧ (s.emptyStation x).fsu.phase = s.fsu.phase ∧
    (s.emptyStation x).fsu.outcome = s.fsu.outcome ∧ (s.emptyStation x).fsu.incoming = s.fsu.incoming ∧
    (s.emptyStation x).fsu.outgoing = s.fsu.outgoing ∧ (s.emptyStation x).fsu.limit = s.fsu.limit ∧
    (s.emptyStation x).fsu.matchCount = s.fsu.matchCount ∧ (s.emptyStation x).fsu.extend = s.fsu.extend ∧
    (s.emptyStation x).fsu.knife = s.fsu.knife ∧ (s.emptyStation x).fsu.locked = s.fsu.locked ∧
    (s.emptyStation x).fsu.lockCount = s.fsu.lockCount ∧ (s.emptyStation x).fsu.lossWatch = s.fsu.lossWatch ∧
    (s.emptyStation x).fsu.dancer = s.fsu.dancer ∧ (s.emptyStation x).fsu.dancerWindow = s.fsu.dancerWindow ∧
    (s.emptyStation x).fsu.webBreak = s.fsu.webBreak ∧ (s.emptyStation x).ltr = s.ltr ∧
    (s.emptyStation x).pfm = s.pfm ∧ (s.emptyStation x).hsu = s.hsu ∧ (s.emptyStation x).exu = s.exu ∧
    (s.emptyStation x).sgv = s.sgv := by
  unfold State.emptyStation
  split <;> simp

@[simp] theorem State.seatedFall_frame (s : State) (x : Station) :
    (s.seatedFall x).pending = s.pending ∧ (s.seatedFall x).inputs = s.inputs ∧
    (s.seatedFall x).rst.patterns = s.rst.patterns ∧ (s.seatedFall x).rst.pool = s.rst.pool ∧
    (s.seatedFall x).rst.classes = s.rst.classes ∧ (s.seatedFall x).rst.lots = s.rst.lots ∧
    (s.seatedFall x).rst.order = s.rst.order ∧ (s.seatedFall x).rst.panelSerial = s.rst.panelSerial ∧
    (s.seatedFall x).lnk.sup = s.lnk.sup ∧ (s.seatedFall x).lnk.pen = s.lnk.pen ∧ (s.seatedFall x).fsu.w = s.fsu.w ∧
    (s.seatedFall x).fsu.web = s.fsu.web ∧ (s.seatedFall x).fsu.surfA = s.fsu.surfA ∧
    (s.seatedFall x).fsu.surfB = s.fsu.surfB ∧ (s.seatedFall x).fsu.locked = s.fsu.locked ∧
    (s.seatedFall x).fsu.lockCount = s.fsu.lockCount ∧ (s.seatedFall x).fsu.lossWatch = s.fsu.lossWatch ∧
    (s.seatedFall x).fsu.dancer = s.fsu.dancer ∧ (s.seatedFall x).fsu.dancerWindow = s.fsu.dancerWindow ∧
    (s.seatedFall x).fsu.webBreak = s.fsu.webBreak ∧ (s.seatedFall x).ltr.segment = s.ltr.segment ∧
    (s.seatedFall x).ltr.pendingJoint = s.ltr.pendingJoint ∧ (s.seatedFall x).ltr.starved = s.ltr.starved ∧
    (s.seatedFall x).pfm.forming = s.pfm.forming ∧ (s.seatedFall x).pfm.nextStart = s.pfm.nextStart ∧
    (s.seatedFall x).pfm.nextStrike = s.pfm.nextStrike ∧ (s.seatedFall x).pfm.nextWaste = s.pfm.nextWaste ∧
    (s.seatedFall x).pfm.strikeCeiling = s.pfm.strikeCeiling ∧ (s.seatedFall x).hsu.pressure = s.hsu.pressure ∧
    (s.seatedFall x).hsu.pressureReading = s.hsu.pressureReading ∧ (s.seatedFall x).hsu.permit = s.hsu.permit ∧
    (s.seatedFall x).exu.b = s.exu.b ∧ (s.seatedFall x).exu.belt = s.exu.belt ∧
    (s.seatedFall x).exu.last = s.exu.last ∧ (s.seatedFall x).sgv.stops = s.sgv.stops ∧
    (s.seatedFall x).sgv.flatRef = s.sgv.flatRef ∧ (s.seatedFall x).sgv.beltRef = s.sgv.beltRef ∧
    (s.seatedFall x).sgv.ceiling = s.sgv.ceiling := by
  unfold State.seatedFall
  split <;> simp

@[simp] theorem State.coreNearRise_frame (s : State) (x : Station) :
    (s.coreNearRise x).pending = s.pending ∧ (s.coreNearRise x).freeIdx = s.freeIdx ∧
    (s.coreNearRise x).inputs = s.inputs ∧ (s.coreNearRise x).rst.patterns = s.rst.patterns ∧
    (s.coreNearRise x).rst.pool = s.rst.pool ∧ (s.coreNearRise x).rst.classes = s.rst.classes ∧
    (s.coreNearRise x).rst.lots = s.rst.lots ∧ (s.coreNearRise x).rst.order = s.rst.order ∧
    (s.coreNearRise x).rst.panels = s.rst.panels ∧ (s.coreNearRise x).rst.panelSerial = s.rst.panelSerial ∧
    (s.coreNearRise x).lnk.sup = s.lnk.sup ∧ (s.coreNearRise x).lnk.pen = s.lnk.pen ∧
    (s.coreNearRise x).fsu.w = s.fsu.w ∧ (s.coreNearRise x).fsu.web = s.fsu.web ∧
    (s.coreNearRise x).fsu.surfA = s.fsu.surfA ∧ (s.coreNearRise x).fsu.surfB = s.fsu.surfB ∧
    (s.coreNearRise x).fsu.extend = s.fsu.extend ∧ (s.coreNearRise x).fsu.knife = s.fsu.knife ∧
    (s.coreNearRise x).fsu.locked = s.fsu.locked ∧ (s.coreNearRise x).fsu.lockCount = s.fsu.lockCount ∧
    (s.coreNearRise x).fsu.lossWatch = s.fsu.lossWatch ∧ (s.coreNearRise x).fsu.dancer = s.fsu.dancer ∧
    (s.coreNearRise x).fsu.dancerWindow = s.fsu.dancerWindow ∧ (s.coreNearRise x).fsu.webBreak = s.fsu.webBreak ∧
    (s.coreNearRise x).ltr.segment = s.ltr.segment ∧ (s.coreNearRise x).ltr.pendingJoint = s.ltr.pendingJoint ∧
    (s.coreNearRise x).ltr.starved = s.ltr.starved ∧ (s.coreNearRise x).pfm = s.pfm ∧ (s.coreNearRise x).hsu = s.hsu ∧
    (s.coreNearRise x).exu = s.exu ∧ (s.coreNearRise x).sgv = s.sgv := by
  unfold State.coreNearRise
  (repeat' split) <;> simp

@[simp] theorem State.headFault_frame (s : State) :
    s.headFault.pending = s.pending ∧ s.headFault.freeIdx = s.freeIdx ∧ s.headFault.inputs = s.inputs ∧
    s.headFault.rst.patterns = s.rst.patterns ∧ s.headFault.rst.pool = s.rst.pool ∧
    s.headFault.rst.classes = s.rst.classes ∧ s.headFault.rst.lots = s.rst.lots ∧
    s.headFault.rst.order = s.rst.order ∧ s.headFault.rst.panels = s.rst.panels ∧
    s.headFault.rst.panelSerial = s.rst.panelSerial ∧ s.headFault.lnk.sup = s.lnk.sup ∧
    s.headFault.lnk.pen = s.lnk.pen ∧ s.headFault.fsu.w = s.fsu.w ∧ s.headFault.fsu.web = s.fsu.web ∧
    s.headFault.fsu.surfA = s.fsu.surfA ∧ s.headFault.fsu.surfB = s.fsu.surfB ∧
    s.headFault.fsu.locked = s.fsu.locked ∧ s.headFault.fsu.lockCount = s.fsu.lockCount ∧
    s.headFault.fsu.lossWatch = s.fsu.lossWatch ∧ s.headFault.fsu.dancer = s.fsu.dancer ∧
    s.headFault.fsu.dancerWindow = s.fsu.dancerWindow ∧ s.headFault.fsu.webBreak = s.fsu.webBreak ∧
    s.headFault.ltr.segment = s.ltr.segment ∧ s.headFault.ltr.pendingJoint = s.ltr.pendingJoint ∧
    s.headFault.ltr.starved = s.ltr.starved ∧ s.headFault.pfm.forming = s.pfm.forming ∧
    s.headFault.pfm.nextStart = s.pfm.nextStart ∧ s.headFault.pfm.nextStrike = s.pfm.nextStrike ∧
    s.headFault.pfm.cycle = s.pfm.cycle ∧ s.headFault.pfm.bladeLimit = s.pfm.bladeLimit ∧
    s.headFault.pfm.strikeFor = s.pfm.strikeFor ∧ s.headFault.pfm.nextWaste = s.pfm.nextWaste ∧
    s.headFault.pfm.strikeCeiling = s.pfm.strikeCeiling ∧ s.headFault.pfm.strike = s.pfm.strike ∧
    s.headFault.pfm.depths = s.pfm.depths ∧ s.headFault.hsu.pressure = s.hsu.pressure ∧
    s.headFault.hsu.pressureReading = s.hsu.pressureReading ∧ s.headFault.hsu.permit = s.hsu.permit ∧
    s.headFault.exu = s.exu ∧ s.headFault.sgv.holds = s.sgv.holds ∧ s.headFault.sgv.trips = s.sgv.trips ∧
    s.headFault.sgv.flatRef = s.sgv.flatRef ∧ s.headFault.sgv.beltRef = s.sgv.beltRef ∧
    s.headFault.sgv.ceiling = s.sgv.ceiling ∧ s.headFault.sgv.classSet = s.sgv.classSet := by
  unfold State.headFault
  dsimp only
  (repeat' split) <;> simp

@[simp] theorem State.extendedRise_frame (s : State) :
    s.extendedRise.pending = s.pending ∧ s.extendedRise.inputs = s.inputs ∧
    s.extendedRise.rst.patterns = s.rst.patterns ∧ s.extendedRise.rst.pool = s.rst.pool ∧
    s.extendedRise.rst.classes = s.rst.classes ∧ s.extendedRise.rst.order = s.rst.order ∧
    s.extendedRise.rst.panelSerial = s.rst.panelSerial ∧ s.extendedRise.lnk.sup = s.lnk.sup ∧
    s.extendedRise.lnk.pen = s.lnk.pen ∧ s.extendedRise.fsu.w = s.fsu.w ∧ s.extendedRise.fsu.web = s.fsu.web ∧
    s.extendedRise.fsu.surfA = s.fsu.surfA ∧ s.extendedRise.fsu.surfB = s.fsu.surfB ∧
    s.extendedRise.fsu.locked = s.fsu.locked ∧ s.extendedRise.fsu.lockCount = s.fsu.lockCount ∧
    s.extendedRise.fsu.lossWatch = s.fsu.lossWatch ∧ s.extendedRise.fsu.dancer = s.fsu.dancer ∧
    s.extendedRise.fsu.dancerWindow = s.fsu.dancerWindow ∧ s.extendedRise.fsu.webBreak = s.fsu.webBreak ∧
    s.extendedRise.ltr.segment = s.ltr.segment ∧ s.extendedRise.ltr.starved = s.ltr.starved ∧
    s.extendedRise.pfm.forming = s.pfm.forming ∧ s.extendedRise.pfm.nextStart = s.pfm.nextStart ∧
    s.extendedRise.pfm.nextStrike = s.pfm.nextStrike ∧ s.extendedRise.pfm.cycle = s.pfm.cycle ∧
    s.extendedRise.pfm.bladeLimit = s.pfm.bladeLimit ∧ s.extendedRise.pfm.strikeFor = s.pfm.strikeFor ∧
    s.extendedRise.pfm.nextWaste = s.pfm.nextWaste ∧ s.extendedRise.pfm.strikeCeiling = s.pfm.strikeCeiling ∧
    s.extendedRise.pfm.strike = s.pfm.strike ∧ s.extendedRise.pfm.depths = s.pfm.depths ∧
    s.extendedRise.hsu.pressure = s.hsu.pressure ∧ s.extendedRise.hsu.pressureReading = s.hsu.pressureReading ∧
    s.extendedRise.hsu.permit = s.hsu.permit ∧ s.extendedRise.exu = s.exu ∧ s.extendedRise.sgv.holds = s.sgv.holds ∧
    s.extendedRise.sgv.trips = s.sgv.trips ∧ s.extendedRise.sgv.flatRef = s.sgv.flatRef ∧
    s.extendedRise.sgv.beltRef = s.sgv.beltRef ∧ s.extendedRise.sgv.ceiling = s.sgv.ceiling := by
  unfold State.extendedRise
  (repeat' split) <;> simp

@[simp] theorem State.extendedFall_frame (s : State) :
    s.extendedFall.pending = s.pending ∧ s.extendedFall.freeIdx = s.freeIdx ∧ s.extendedFall.inputs = s.inputs ∧
    s.extendedFall.rst = s.rst ∧ s.extendedFall.lnk.sup = s.lnk.sup ∧ s.extendedFall.lnk.pen = s.lnk.pen ∧
    s.extendedFall.fsu.w = s.fsu.w ∧ s.extendedFall.fsu.web = s.fsu.web ∧ s.extendedFall.fsu.surfA = s.fsu.surfA ∧
    s.extendedFall.fsu.surfB = s.fsu.surfB ∧ s.extendedFall.fsu.locked = s.fsu.locked ∧
    s.extendedFall.fsu.lockCount = s.fsu.lockCount ∧ s.extendedFall.fsu.lossWatch = s.fsu.lossWatch ∧
    s.extendedFall.fsu.dancer = s.fsu.dancer ∧ s.extendedFall.fsu.dancerWindow = s.fsu.dancerWindow ∧
    s.extendedFall.fsu.webBreak = s.fsu.webBreak ∧ s.extendedFall.ltr.segment = s.ltr.segment ∧
    s.extendedFall.ltr.pendingJoint = s.ltr.pendingJoint ∧ s.extendedFall.ltr.starved = s.ltr.starved ∧
    s.extendedFall.pfm.forming = s.pfm.forming ∧ s.extendedFall.pfm.nextStart = s.pfm.nextStart ∧
    s.extendedFall.pfm.nextStrike = s.pfm.nextStrike ∧ s.extendedFall.pfm.cycle = s.pfm.cycle ∧
    s.extendedFall.pfm.bladeLimit = s.pfm.bladeLimit ∧ s.extendedFall.pfm.strikeFor = s.pfm.strikeFor ∧
    s.extendedFall.pfm.nextWaste = s.pfm.nextWaste ∧ s.extendedFall.pfm.strikeCeiling = s.pfm.strikeCeiling ∧
    s.extendedFall.pfm.strike = s.pfm.strike ∧ s.extendedFall.pfm.depths = s.pfm.depths ∧
    s.extendedFall.hsu.pressure = s.hsu.pressure ∧ s.extendedFall.hsu.pressureReading = s.hsu.pressureReading ∧
    s.extendedFall.hsu.permit = s.hsu.permit ∧ s.extendedFall.exu = s.exu ∧ s.extendedFall.sgv.holds = s.sgv.holds ∧
    s.extendedFall.sgv.trips = s.sgv.trips ∧ s.extendedFall.sgv.flatRef = s.sgv.flatRef ∧
    s.extendedFall.sgv.beltRef = s.sgv.beltRef ∧ s.extendedFall.sgv.ceiling = s.sgv.ceiling ∧
    s.extendedFall.sgv.classSet = s.sgv.classSet := by
  unfold State.extendedFall
  split <;> simp

@[simp] theorem State.retractedRise_frame (s : State) :
    s.retractedRise.pending = s.pending ∧ s.retractedRise.freeIdx = s.freeIdx ∧ s.retractedRise.inputs = s.inputs ∧
    s.retractedRise.rst.patterns = s.rst.patterns ∧ s.retractedRise.rst.pool = s.rst.pool ∧
    s.retractedRise.rst.classes = s.rst.classes ∧ s.retractedRise.rst.lots = s.rst.lots ∧
    s.retractedRise.rst.order = s.rst.order ∧ s.retractedRise.rst.panels = s.rst.panels ∧
    s.retractedRise.rst.panelSerial = s.rst.panelSerial ∧ s.retractedRise.lnk.sup = s.lnk.sup ∧
    s.retractedRise.lnk.pen = s.lnk.pen ∧ s.retractedRise.fsu.w = s.fsu.w ∧ s.retractedRise.fsu.web = s.fsu.web ∧
    s.retractedRise.fsu.surfA = s.fsu.surfA ∧ s.retractedRise.fsu.surfB = s.fsu.surfB ∧
    s.retractedRise.fsu.dancer = s.fsu.dancer ∧ s.retractedRise.fsu.dancerWindow = s.fsu.dancerWindow ∧
    s.retractedRise.fsu.webBreak = s.fsu.webBreak ∧ s.retractedRise.ltr.segment = s.ltr.segment ∧
    s.retractedRise.ltr.pendingJoint = s.ltr.pendingJoint ∧ s.retractedRise.ltr.starved = s.ltr.starved ∧
    s.retractedRise.pfm.forming = s.pfm.forming ∧ s.retractedRise.pfm.nextStart = s.pfm.nextStart ∧
    s.retractedRise.pfm.nextStrike = s.pfm.nextStrike ∧ s.retractedRise.pfm.cycle = s.pfm.cycle ∧
    s.retractedRise.pfm.bladeLimit = s.pfm.bladeLimit ∧ s.retractedRise.pfm.strikeFor = s.pfm.strikeFor ∧
    s.retractedRise.pfm.nextWaste = s.pfm.nextWaste ∧ s.retractedRise.pfm.strikeCeiling = s.pfm.strikeCeiling ∧
    s.retractedRise.pfm.strike = s.pfm.strike ∧ s.retractedRise.pfm.depths = s.pfm.depths ∧
    s.retractedRise.hsu.pressure = s.hsu.pressure ∧ s.retractedRise.hsu.pressureReading = s.hsu.pressureReading ∧
    s.retractedRise.hsu.permit = s.hsu.permit ∧ s.retractedRise.exu = s.exu ∧
    s.retractedRise.sgv.holds = s.sgv.holds ∧ s.retractedRise.sgv.trips = s.sgv.trips ∧
    s.retractedRise.sgv.flatRef = s.sgv.flatRef ∧ s.retractedRise.sgv.beltRef = s.sgv.beltRef ∧
    s.retractedRise.sgv.ceiling = s.sgv.ceiling ∧ s.retractedRise.sgv.classSet = s.sgv.classSet := by
  unfold State.retractedRise
  dsimp only
  (repeat' split) <;> simp

@[simp] theorem State.knifeDoneRise_frame (s : State) :
    s.knifeDoneRise.pending = s.pending ∧ s.knifeDoneRise.freeIdx = s.freeIdx ∧ s.knifeDoneRise.inputs = s.inputs ∧
    s.knifeDoneRise.rst = s.rst ∧ s.knifeDoneRise.lnk = s.lnk ∧ s.knifeDoneRise.fsu.w = s.fsu.w ∧
    s.knifeDoneRise.fsu.web = s.fsu.web ∧ s.knifeDoneRise.fsu.surfA = s.fsu.surfA ∧
    s.knifeDoneRise.fsu.surfB = s.fsu.surfB ∧ s.knifeDoneRise.fsu.staA = s.fsu.staA ∧
    s.knifeDoneRise.fsu.staB = s.fsu.staB ∧ s.knifeDoneRise.fsu.outcome = s.fsu.outcome ∧
    s.knifeDoneRise.fsu.incoming = s.fsu.incoming ∧ s.knifeDoneRise.fsu.outgoing = s.fsu.outgoing ∧
    s.knifeDoneRise.fsu.matchCount = s.fsu.matchCount ∧ s.knifeDoneRise.fsu.locked = s.fsu.locked ∧
    s.knifeDoneRise.fsu.lockCount = s.fsu.lockCount ∧ s.knifeDoneRise.fsu.lossWatch = s.fsu.lossWatch ∧
    s.knifeDoneRise.fsu.dancer = s.fsu.dancer ∧ s.knifeDoneRise.fsu.dancerWindow = s.fsu.dancerWindow ∧
    s.knifeDoneRise.fsu.webBreak = s.fsu.webBreak ∧ s.knifeDoneRise.ltr = s.ltr ∧ s.knifeDoneRise.pfm = s.pfm ∧
    s.knifeDoneRise.hsu = s.hsu ∧ s.knifeDoneRise.exu = s.exu ∧ s.knifeDoneRise.sgv = s.sgv := by
  unfold State.knifeDoneRise
  split <;> simp

@[simp] theorem State.homeFall_frame (s : State) :
    s.homeFall.pending = s.pending ∧ s.homeFall.freeIdx = s.freeIdx ∧ s.homeFall.inputs = s.inputs ∧
    s.homeFall.rst = s.rst ∧ s.homeFall.lnk.sup = s.lnk.sup ∧ s.homeFall.lnk.pen = s.lnk.pen ∧
    s.homeFall.fsu.w = s.fsu.w ∧ s.homeFall.fsu.web = s.fsu.web ∧ s.homeFall.fsu.surfA = s.fsu.surfA ∧
    s.homeFall.fsu.surfB = s.fsu.surfB ∧ s.homeFall.fsu.locked = s.fsu.locked ∧
    s.homeFall.fsu.lockCount = s.fsu.lockCount ∧ s.homeFall.fsu.lossWatch = s.fsu.lossWatch ∧
    s.homeFall.fsu.dancer = s.fsu.dancer ∧ s.homeFall.fsu.dancerWindow = s.fsu.dancerWindow ∧
    s.homeFall.fsu.webBreak = s.fsu.webBreak ∧ s.homeFall.ltr.segment = s.ltr.segment ∧
    s.homeFall.ltr.pendingJoint = s.ltr.pendingJoint ∧ s.homeFall.ltr.starved = s.ltr.starved ∧
    s.homeFall.pfm.forming = s.pfm.forming ∧ s.homeFall.pfm.nextStart = s.pfm.nextStart ∧
    s.homeFall.pfm.nextStrike = s.pfm.nextStrike ∧ s.homeFall.pfm.nextWaste = s.pfm.nextWaste ∧
    s.homeFall.pfm.strikeCeiling = s.pfm.strikeCeiling ∧ s.homeFall.hsu.pressure = s.hsu.pressure ∧
    s.homeFall.hsu.pressureReading = s.hsu.pressureReading ∧ s.homeFall.hsu.permit = s.hsu.permit ∧
    s.homeFall.exu = s.exu ∧ s.homeFall.sgv.holds = s.sgv.holds ∧ s.homeFall.sgv.trips = s.sgv.trips ∧
    s.homeFall.sgv.flatRef = s.sgv.flatRef ∧ s.homeFall.sgv.beltRef = s.sgv.beltRef ∧
    s.homeFall.sgv.ceiling = s.sgv.ceiling ∧ s.homeFall.sgv.classSet = s.sgv.classSet := by
  unfold State.homeFall
  split <;> simp

@[simp] theorem State.homeRise_frame (s : State) :
    s.homeRise.pending = s.pending ∧ s.homeRise.inputs = s.inputs ∧ s.homeRise.rst.panelSerial = s.rst.panelSerial ∧
    s.homeRise.rst.line = s.rst.line ∧ s.homeRise.fsu.w = s.fsu.w ∧ s.homeRise.fsu.web = s.fsu.web ∧
    s.homeRise.fsu.surfA = s.fsu.surfA ∧ s.homeRise.fsu.surfB = s.fsu.surfB ∧ s.homeRise.fsu.phase = s.fsu.phase ∧
    s.homeRise.fsu.outcome = s.fsu.outcome ∧ s.homeRise.fsu.incoming = s.fsu.incoming ∧
    s.homeRise.fsu.outgoing = s.fsu.outgoing ∧ s.homeRise.fsu.limit = s.fsu.limit ∧
    s.homeRise.fsu.matchCount = s.fsu.matchCount ∧ s.homeRise.fsu.extend = s.fsu.extend ∧
    s.homeRise.fsu.knife = s.fsu.knife ∧ s.homeRise.fsu.lossWatch = s.fsu.lossWatch ∧
    s.homeRise.fsu.dancer = s.fsu.dancer ∧ s.homeRise.fsu.dancerWindow = s.fsu.dancerWindow ∧
    s.homeRise.fsu.webBreak = s.fsu.webBreak ∧ s.homeRise.ltr.classChange = s.ltr.classChange ∧
    s.homeRise.ltr.starved = s.ltr.starved ∧ s.homeRise.pfm.forming = s.pfm.forming ∧
    s.homeRise.pfm.nextStart = s.pfm.nextStart ∧ s.homeRise.pfm.nextStrike = s.pfm.nextStrike ∧
    s.homeRise.pfm.nextWaste = s.pfm.nextWaste ∧ s.homeRise.pfm.strikeCeiling = s.pfm.strikeCeiling ∧
    s.homeRise.hsu.pressure = s.hsu.pressure ∧ s.homeRise.hsu.pressureReading = s.hsu.pressureReading ∧
    s.homeRise.hsu.permit = s.hsu.permit ∧ s.homeRise.exu = s.exu ∧ s.homeRise.sgv.holds = s.sgv.holds ∧
    s.homeRise.sgv.stops = s.sgv.stops ∧ s.homeRise.sgv.trips = s.sgv.trips ∧
    s.homeRise.sgv.stopPending = s.sgv.stopPending ∧ s.homeRise.sgv.flatRef = s.sgv.flatRef ∧
    s.homeRise.sgv.beltRef = s.sgv.beltRef ∧ s.homeRise.sgv.ceiling = s.sgv.ceiling ∧
    s.homeRise.sgv.standstill = s.sgv.standstill ∧ s.homeRise.sgv.standWindow = s.sgv.standWindow := by
  unfold State.homeRise
  split <;> simp

@[simp] theorem State.cutHomeFall_frame (s : State) :
    s.cutHomeFall.pending = s.pending ∧ s.cutHomeFall.freeIdx = s.freeIdx ∧ s.cutHomeFall.inputs = s.inputs ∧
    s.cutHomeFall.rst = s.rst ∧ s.cutHomeFall.lnk.sup = s.lnk.sup ∧ s.cutHomeFall.lnk.pen = s.lnk.pen ∧
    s.cutHomeFall.fsu.w = s.fsu.w ∧ s.cutHomeFall.fsu.web = s.fsu.web ∧ s.cutHomeFall.fsu.surfA = s.fsu.surfA ∧
    s.cutHomeFall.fsu.surfB = s.fsu.surfB ∧ s.cutHomeFall.fsu.locked = s.fsu.locked ∧
    s.cutHomeFall.fsu.lockCount = s.fsu.lockCount ∧ s.cutHomeFall.fsu.lossWatch = s.fsu.lossWatch ∧
    s.cutHomeFall.fsu.dancer = s.fsu.dancer ∧ s.cutHomeFall.fsu.dancerWindow = s.fsu.dancerWindow ∧
    s.cutHomeFall.fsu.webBreak = s.fsu.webBreak ∧ s.cutHomeFall.ltr.segment = s.ltr.segment ∧
    s.cutHomeFall.ltr.pendingJoint = s.ltr.pendingJoint ∧ s.cutHomeFall.ltr.starved = s.ltr.starved ∧
    s.cutHomeFall.pfm.forming = s.pfm.forming ∧ s.cutHomeFall.pfm.nextStart = s.pfm.nextStart ∧
    s.cutHomeFall.pfm.nextStrike = s.pfm.nextStrike ∧ s.cutHomeFall.pfm.cycle = s.pfm.cycle ∧
    s.cutHomeFall.pfm.bladeLimit = s.pfm.bladeLimit ∧ s.cutHomeFall.pfm.strikeFor = s.pfm.strikeFor ∧
    s.cutHomeFall.pfm.nextWaste = s.pfm.nextWaste ∧ s.cutHomeFall.pfm.strikeCeiling = s.pfm.strikeCeiling ∧
    s.cutHomeFall.pfm.strike = s.pfm.strike ∧ s.cutHomeFall.pfm.depths = s.pfm.depths ∧
    s.cutHomeFall.hsu.pressure = s.hsu.pressure ∧ s.cutHomeFall.hsu.pressureReading = s.hsu.pressureReading ∧
    s.cutHomeFall.hsu.permit = s.hsu.permit ∧ s.cutHomeFall.exu.b = s.exu.b ∧ s.cutHomeFall.exu.belt = s.exu.belt ∧
    s.cutHomeFall.exu.pendingFault = s.exu.pendingFault ∧ s.cutHomeFall.exu.last = s.exu.last ∧
    s.cutHomeFall.exu.divert = s.exu.divert ∧ s.cutHomeFall.sgv.holds = s.sgv.holds ∧
    s.cutHomeFall.sgv.trips = s.sgv.trips ∧ s.cutHomeFall.sgv.flatRef = s.sgv.flatRef ∧
    s.cutHomeFall.sgv.beltRef = s.sgv.beltRef ∧ s.cutHomeFall.sgv.ceiling = s.sgv.ceiling ∧
    s.cutHomeFall.sgv.classSet = s.sgv.classSet := by
  unfold State.cutHomeFall
  split <;> simp

@[simp] theorem State.cutHomeRise_frame (s : State) :
    s.cutHomeRise.pending = s.pending ∧ s.cutHomeRise.freeIdx = s.freeIdx ∧ s.cutHomeRise.inputs = s.inputs ∧
    s.cutHomeRise.rst = s.rst ∧ s.cutHomeRise.lnk = s.lnk ∧ s.cutHomeRise.fsu = s.fsu ∧ s.cutHomeRise.ltr = s.ltr ∧
    s.cutHomeRise.pfm = s.pfm ∧ s.cutHomeRise.hsu = s.hsu ∧ s.cutHomeRise.exu.b = s.exu.b ∧
    s.cutHomeRise.exu.belt = s.exu.belt ∧ s.cutHomeRise.exu.pendingFault = s.exu.pendingFault ∧
    s.cutHomeRise.exu.last = s.exu.last ∧ s.cutHomeRise.exu.divert = s.exu.divert ∧ s.cutHomeRise.sgv = s.sgv := by
  unfold State.cutHomeRise
  split <;> simp

@[simp] theorem State.inputRise_frame (s : State) (i : Input) :
    (s.inputRise i).pending = s.pending ∧ (s.inputRise i).inputs = s.inputs ∧
    (s.inputRise i).rst.panelSerial = s.rst.panelSerial ∧ (s.inputRise i).fsu.w = s.fsu.w ∧
    (s.inputRise i).fsu.web = s.fsu.web ∧ (s.inputRise i).fsu.surfA = s.fsu.surfA ∧
    (s.inputRise i).fsu.surfB = s.fsu.surfB ∧ (s.inputRise i).fsu.dancer = s.fsu.dancer ∧
    (s.inputRise i).fsu.dancerWindow = s.fsu.dancerWindow ∧ (s.inputRise i).fsu.webBreak = s.fsu.webBreak ∧
    (s.inputRise i).ltr.starved = s.ltr.starved ∧ (s.inputRise i).pfm.forming = s.pfm.forming ∧
    (s.inputRise i).pfm.nextStart = s.pfm.nextStart ∧ (s.inputRise i).pfm.nextStrike = s.pfm.nextStrike ∧
    (s.inputRise i).pfm.nextWaste = s.pfm.nextWaste ∧ (s.inputRise i).pfm.strikeCeiling = s.pfm.strikeCeiling ∧
    (s.inputRise i).hsu.pressure = s.hsu.pressure ∧ (s.inputRise i).hsu.pressureReading = s.hsu.pressureReading ∧
    (s.inputRise i).exu.b = s.exu.b ∧ (s.inputRise i).exu.belt = s.exu.belt ∧ (s.inputRise i).exu.last = s.exu.last ∧
    (s.inputRise i).sgv.flatRef = s.sgv.flatRef ∧ (s.inputRise i).sgv.beltRef = s.sgv.beltRef ∧
    (s.inputRise i).sgv.ceiling = s.sgv.ceiling := by
  unfold State.inputRise
  split <;> simp

@[simp] theorem State.inputFall_frame (s : State) (i : Input) :
    (s.inputFall i).pending = s.pending ∧ (s.inputFall i).inputs = s.inputs ∧
    (s.inputFall i).rst.patterns = s.rst.patterns ∧ (s.inputFall i).rst.pool = s.rst.pool ∧
    (s.inputFall i).rst.classes = s.rst.classes ∧ (s.inputFall i).rst.lots = s.rst.lots ∧
    (s.inputFall i).rst.order = s.rst.order ∧ (s.inputFall i).rst.panelSerial = s.rst.panelSerial ∧
    (s.inputFall i).lnk.sup = s.lnk.sup ∧ (s.inputFall i).lnk.pen = s.lnk.pen ∧ (s.inputFall i).fsu.w = s.fsu.w ∧
    (s.inputFall i).fsu.web = s.fsu.web ∧ (s.inputFall i).fsu.surfA = s.fsu.surfA ∧
    (s.inputFall i).fsu.surfB = s.fsu.surfB ∧ (s.inputFall i).fsu.locked = s.fsu.locked ∧
    (s.inputFall i).fsu.lockCount = s.fsu.lockCount ∧ (s.inputFall i).fsu.lossWatch = s.fsu.lossWatch ∧
    (s.inputFall i).fsu.dancer = s.fsu.dancer ∧ (s.inputFall i).fsu.dancerWindow = s.fsu.dancerWindow ∧
    (s.inputFall i).fsu.webBreak = s.fsu.webBreak ∧ (s.inputFall i).ltr.segment = s.ltr.segment ∧
    (s.inputFall i).ltr.pendingJoint = s.ltr.pendingJoint ∧ (s.inputFall i).ltr.starved = s.ltr.starved ∧
    (s.inputFall i).pfm.forming = s.pfm.forming ∧ (s.inputFall i).pfm.nextStart = s.pfm.nextStart ∧
    (s.inputFall i).pfm.nextStrike = s.pfm.nextStrike ∧ (s.inputFall i).pfm.nextWaste = s.pfm.nextWaste ∧
    (s.inputFall i).pfm.strikeCeiling = s.pfm.strikeCeiling ∧ (s.inputFall i).hsu.pressure = s.hsu.pressure ∧
    (s.inputFall i).hsu.pressureReading = s.hsu.pressureReading ∧ (s.inputFall i).hsu.permit = s.hsu.permit ∧
    (s.inputFall i).exu.b = s.exu.b ∧ (s.inputFall i).exu.belt = s.exu.belt ∧ (s.inputFall i).exu.last = s.exu.last ∧
    (s.inputFall i).sgv.flatRef = s.sgv.flatRef ∧ (s.inputFall i).sgv.beltRef = s.sgv.beltRef ∧
    (s.inputFall i).sgv.ceiling = s.sgv.ceiling := by
  unfold State.inputFall
  split <;> simp

@[simp] theorem State.settleInput_frame (s : State) (i : Input) :
    (s.settleInput i).pending = s.pending ∧ (s.settleInput i).rst.panelSerial = s.rst.panelSerial ∧
    (s.settleInput i).fsu.w = s.fsu.w ∧ (s.settleInput i).fsu.web = s.fsu.web ∧
    (s.settleInput i).fsu.surfA = s.fsu.surfA ∧ (s.settleInput i).fsu.surfB = s.fsu.surfB ∧
    (s.settleInput i).fsu.dancer = s.fsu.dancer ∧ (s.settleInput i).fsu.dancerWindow = s.fsu.dancerWindow ∧
    (s.settleInput i).fsu.webBreak = s.fsu.webBreak ∧ (s.settleInput i).ltr.starved = s.ltr.starved ∧
    (s.settleInput i).pfm.forming = s.pfm.forming ∧ (s.settleInput i).pfm.nextStart = s.pfm.nextStart ∧
    (s.settleInput i).pfm.nextStrike = s.pfm.nextStrike ∧ (s.settleInput i).pfm.nextWaste = s.pfm.nextWaste ∧
    (s.settleInput i).pfm.strikeCeiling = s.pfm.strikeCeiling ∧ (s.settleInput i).hsu.pressure = s.hsu.pressure ∧
    (s.settleInput i).hsu.pressureReading = s.hsu.pressureReading ∧ (s.settleInput i).exu.b = s.exu.b ∧
    (s.settleInput i).exu.belt = s.exu.belt ∧ (s.settleInput i).exu.last = s.exu.last ∧
    (s.settleInput i).sgv.flatRef = s.sgv.flatRef ∧ (s.settleInput i).sgv.beltRef = s.sgv.beltRef ∧
    (s.settleInput i).sgv.ceiling = s.sgv.ceiling := by
  unfold State.settleInput
  dsimp only
  (repeat' split) <;> simp

@[simp] theorem State.takeReading_frame (s : State) (kind : SenseKind) (n : ℕ) :
    (s.takeReading kind n).pending = s.pending ∧ (s.takeReading kind n).freeIdx = s.freeIdx ∧
    (s.takeReading kind n).inputs = s.inputs ∧ (s.takeReading kind n).rst = s.rst ∧
    (s.takeReading kind n).lnk.sup = s.lnk.sup ∧ (s.takeReading kind n).lnk.pen = s.lnk.pen ∧
    (s.takeReading kind n).fsu.w = s.fsu.w ∧ (s.takeReading kind n).fsu.web = s.fsu.web ∧
    (s.takeReading kind n).fsu.surfA = s.fsu.surfA ∧ (s.takeReading kind n).fsu.surfB = s.fsu.surfB ∧
    (s.takeReading kind n).fsu.staA = s.fsu.staA ∧ (s.takeReading kind n).fsu.staB = s.fsu.staB ∧
    (s.takeReading kind n).fsu.phase = s.fsu.phase ∧ (s.takeReading kind n).fsu.outcome = s.fsu.outcome ∧
    (s.takeReading kind n).fsu.incoming = s.fsu.incoming ∧ (s.takeReading kind n).fsu.outgoing = s.fsu.outgoing ∧
    (s.takeReading kind n).fsu.limit = s.fsu.limit ∧ (s.takeReading kind n).fsu.matchCount = s.fsu.matchCount ∧
    (s.takeReading kind n).fsu.extend = s.fsu.extend ∧ (s.takeReading kind n).fsu.knife = s.fsu.knife ∧
    (s.takeReading kind n).fsu.webBreak = s.fsu.webBreak ∧ (s.takeReading kind n).ltr = s.ltr ∧
    (s.takeReading kind n).pfm = s.pfm ∧ (s.takeReading kind n).hsu.permit = s.hsu.permit ∧
    (s.takeReading kind n).exu = s.exu ∧ (s.takeReading kind n).sgv.gov = s.sgv.gov ∧
    (s.takeReading kind n).sgv.intent = s.sgv.intent ∧ (s.takeReading kind n).sgv.stops = s.sgv.stops ∧
    (s.takeReading kind n).sgv.trips = s.sgv.trips ∧ (s.takeReading kind n).sgv.stopPending = s.sgv.stopPending ∧
    (s.takeReading kind n).sgv.flatRef = s.sgv.flatRef ∧ (s.takeReading kind n).sgv.beltRef = s.sgv.beltRef ∧
    (s.takeReading kind n).sgv.ceiling = s.sgv.ceiling ∧ (s.takeReading kind n).sgv.standstill = s.sgv.standstill ∧
    (s.takeReading kind n).sgv.standWindow = s.sgv.standWindow ∧
    (s.takeReading kind n).sgv.classSet = s.sgv.classSet := by
  unfold State.takeReading
  split <;> simp

@[simp] theorem State.failSplice_frame (s : State) (o : SpliceOutcome) :
    (s.failSplice o).pending = s.pending ∧ (s.failSplice o).freeIdx = s.freeIdx ∧ (s.failSplice o).inputs = s.inputs ∧
    (s.failSplice o).rst.patterns = s.rst.patterns ∧ (s.failSplice o).rst.pool = s.rst.pool ∧
    (s.failSplice o).rst.classes = s.rst.classes ∧ (s.failSplice o).rst.lots = s.rst.lots ∧
    (s.failSplice o).rst.order = s.rst.order ∧ (s.failSplice o).rst.panels = s.rst.panels ∧
    (s.failSplice o).rst.panelSerial = s.rst.panelSerial ∧ (s.failSplice o).lnk.sup = s.lnk.sup ∧
    (s.failSplice o).lnk.pen = s.lnk.pen ∧ (s.failSplice o).fsu.w = s.fsu.w ∧ (s.failSplice o).fsu.web = s.fsu.web ∧
    (s.failSplice o).fsu.surfA = s.fsu.surfA ∧ (s.failSplice o).fsu.surfB = s.fsu.surfB ∧
    (s.failSplice o).fsu.locked = s.fsu.locked ∧ (s.failSplice o).fsu.lockCount = s.fsu.lockCount ∧
    (s.failSplice o).fsu.lossWatch = s.fsu.lossWatch ∧ (s.failSplice o).fsu.dancer = s.fsu.dancer ∧
    (s.failSplice o).fsu.dancerWindow = s.fsu.dancerWindow ∧ (s.failSplice o).fsu.webBreak = s.fsu.webBreak ∧
    (s.failSplice o).ltr.segment = s.ltr.segment ∧ (s.failSplice o).ltr.pendingJoint = s.ltr.pendingJoint ∧
    (s.failSplice o).ltr.starved = s.ltr.starved ∧ (s.failSplice o).pfm.forming = s.pfm.forming ∧
    (s.failSplice o).pfm.nextStart = s.pfm.nextStart ∧ (s.failSplice o).pfm.nextStrike = s.pfm.nextStrike ∧
    (s.failSplice o).pfm.cycle = s.pfm.cycle ∧ (s.failSplice o).pfm.bladeLimit = s.pfm.bladeLimit ∧
    (s.failSplice o).pfm.strikeFor = s.pfm.strikeFor ∧ (s.failSplice o).pfm.nextWaste = s.pfm.nextWaste ∧
    (s.failSplice o).pfm.strikeCeiling = s.pfm.strikeCeiling ∧ (s.failSplice o).pfm.strike = s.pfm.strike ∧
    (s.failSplice o).pfm.depths = s.pfm.depths ∧ (s.failSplice o).hsu.pressure = s.hsu.pressure ∧
    (s.failSplice o).hsu.pressureReading = s.hsu.pressureReading ∧ (s.failSplice o).hsu.permit = s.hsu.permit ∧
    (s.failSplice o).exu = s.exu ∧ (s.failSplice o).sgv.holds = s.sgv.holds ∧
    (s.failSplice o).sgv.stops = s.sgv.stops ∧ (s.failSplice o).sgv.trips = s.sgv.trips ∧
    (s.failSplice o).sgv.flatRef = s.sgv.flatRef ∧ (s.failSplice o).sgv.beltRef = s.sgv.beltRef ∧
    (s.failSplice o).sgv.ceiling = s.sgv.ceiling ∧ (s.failSplice o).sgv.classSet = s.sgv.classSet := by
  simp [State.failSplice]

@[simp] theorem State.staleZone_frame (s : State) (z : ZoneId) :
    (s.staleZone z).pending = s.pending ∧ (s.staleZone z).freeIdx = s.freeIdx ∧ (s.staleZone z).inputs = s.inputs ∧
    (s.staleZone z).rst = s.rst ∧ (s.staleZone z).lnk.sup = s.lnk.sup ∧ (s.staleZone z).lnk.pen = s.lnk.pen ∧
    (s.staleZone z).fsu = s.fsu ∧ (s.staleZone z).ltr = s.ltr ∧ (s.staleZone z).pfm = s.pfm ∧
    (s.staleZone z).hsu.pressure = s.hsu.pressure ∧ (s.staleZone z).hsu.pressureReading = s.hsu.pressureReading ∧
    (s.staleZone z).hsu.permit = s.hsu.permit ∧ (s.staleZone z).exu = s.exu ∧ (s.staleZone z).sgv = s.sgv := by
  unfold State.staleZone
  dsimp only
  (repeat' split) <;> simp

@[simp] theorem State.ramp_frame (s : State) :
    s.ramp.pending = s.pending ∧ s.ramp.freeIdx = s.freeIdx ∧ s.ramp.inputs = s.inputs ∧ s.ramp.rst = s.rst ∧
    s.ramp.lnk = s.lnk ∧ s.ramp.fsu = s.fsu ∧ s.ramp.ltr = s.ltr ∧ s.ramp.pfm = s.pfm ∧ s.ramp.hsu = s.hsu ∧
    s.ramp.exu = s.exu ∧ s.ramp.sgv.gov = s.sgv.gov ∧ s.ramp.sgv.intent = s.sgv.intent ∧
    s.ramp.sgv.holds = s.sgv.holds ∧ s.ramp.sgv.stops = s.sgv.stops ∧ s.ramp.sgv.trips = s.sgv.trips ∧
    s.ramp.sgv.stopPending = s.sgv.stopPending ∧ s.ramp.sgv.beltRef = s.sgv.beltRef ∧
    s.ramp.sgv.ceiling = s.sgv.ceiling ∧ s.ramp.sgv.standstill = s.sgv.standstill ∧
    s.ramp.sgv.standWindow = s.sgv.standWindow ∧ s.ramp.sgv.classSet = s.sgv.classSet := by
  simp [State.ramp]

@[simp] theorem State.enterRun_frame (s : State) :
    s.enterRun.pending = s.pending ∧ s.enterRun.freeIdx = s.freeIdx ∧ s.enterRun.inputs = s.inputs ∧
    s.enterRun.rst.patterns = s.rst.patterns ∧ s.enterRun.rst.pool = s.rst.pool ∧
    s.enterRun.rst.classes = s.rst.classes ∧ s.enterRun.rst.lots = s.rst.lots ∧ s.enterRun.rst.order = s.rst.order ∧
    s.enterRun.rst.panels = s.rst.panels ∧ s.enterRun.rst.panelSerial = s.rst.panelSerial ∧
    s.enterRun.lnk.sup = s.lnk.sup ∧ s.enterRun.lnk.pen = s.lnk.pen ∧ s.enterRun.fsu.w = s.fsu.w ∧
    s.enterRun.fsu.web = s.fsu.web ∧ s.enterRun.fsu.surfA = s.fsu.surfA ∧ s.enterRun.fsu.surfB = s.fsu.surfB ∧
    s.enterRun.fsu.extend = s.fsu.extend ∧ s.enterRun.fsu.knife = s.fsu.knife ∧ s.enterRun.fsu.locked = s.fsu.locked ∧
    s.enterRun.fsu.lockCount = s.fsu.lockCount ∧ s.enterRun.fsu.lossWatch = s.fsu.lossWatch ∧
    s.enterRun.fsu.dancer = s.fsu.dancer ∧ s.enterRun.fsu.dancerWindow = s.fsu.dancerWindow ∧
    s.enterRun.fsu.webBreak = s.fsu.webBreak ∧ s.enterRun.ltr.segment = s.ltr.segment ∧
    s.enterRun.ltr.pendingJoint = s.ltr.pendingJoint ∧ s.enterRun.ltr.starved = s.ltr.starved ∧
    s.enterRun.pfm = s.pfm ∧ s.enterRun.hsu = s.hsu ∧ s.enterRun.exu = s.exu ∧ s.enterRun.sgv.intent = s.sgv.intent ∧
    s.enterRun.sgv.holds = s.sgv.holds ∧ s.enterRun.sgv.stops = s.sgv.stops ∧ s.enterRun.sgv.trips = s.sgv.trips ∧
    s.enterRun.sgv.stopPending = s.sgv.stopPending ∧ s.enterRun.sgv.flatRef = s.sgv.flatRef ∧
    s.enterRun.sgv.beltRef = s.sgv.beltRef ∧ s.enterRun.sgv.ceiling = s.sgv.ceiling ∧
    s.enterRun.sgv.standstill = s.sgv.standstill ∧ s.enterRun.sgv.standWindow = s.sgv.standWindow ∧
    s.enterRun.sgv.classSet = s.sgv.classSet := by
  simp [State.enterRun]

@[simp] theorem State.standStill_frame (s : State) :
    s.standStill.pending = s.pending ∧ s.standStill.inputs = s.inputs ∧
    s.standStill.rst.panelSerial = s.rst.panelSerial ∧ s.standStill.rst.line = s.rst.line ∧
    s.standStill.fsu.w = s.fsu.w ∧ s.standStill.fsu.web = s.fsu.web ∧ s.standStill.fsu.surfA = s.fsu.surfA ∧
    s.standStill.fsu.surfB = s.fsu.surfB ∧ s.standStill.fsu.phase = s.fsu.phase ∧
    s.standStill.fsu.outcome = s.fsu.outcome ∧ s.standStill.fsu.incoming = s.fsu.incoming ∧
    s.standStill.fsu.outgoing = s.fsu.outgoing ∧ s.standStill.fsu.limit = s.fsu.limit ∧
    s.standStill.fsu.matchCount = s.fsu.matchCount ∧ s.standStill.fsu.extend = s.fsu.extend ∧
    s.standStill.fsu.knife = s.fsu.knife ∧ s.standStill.fsu.lossWatch = s.fsu.lossWatch ∧
    s.standStill.fsu.dancer = s.fsu.dancer ∧ s.standStill.fsu.dancerWindow = s.fsu.dancerWindow ∧
    s.standStill.fsu.webBreak = s.fsu.webBreak ∧ s.standStill.ltr.classChange = s.ltr.classChange ∧
    s.standStill.ltr.starved = s.ltr.starved ∧ s.standStill.pfm.forming = s.pfm.forming ∧
    s.standStill.pfm.nextStart = s.pfm.nextStart ∧ s.standStill.pfm.nextStrike = s.pfm.nextStrike ∧
    s.standStill.pfm.cycle = s.pfm.cycle ∧ s.standStill.pfm.bladeLimit = s.pfm.bladeLimit ∧
    s.standStill.pfm.strikeFor = s.pfm.strikeFor ∧ s.standStill.pfm.nextWaste = s.pfm.nextWaste ∧
    s.standStill.pfm.strikeCeiling = s.pfm.strikeCeiling ∧ s.standStill.pfm.strike = s.pfm.strike ∧
    s.standStill.pfm.depths = s.pfm.depths ∧ s.standStill.hsu.pressure = s.hsu.pressure ∧
    s.standStill.hsu.pressureReading = s.hsu.pressureReading ∧ s.standStill.hsu.permit = s.hsu.permit ∧
    s.standStill.exu = s.exu ∧ s.standStill.sgv.holds = s.sgv.holds ∧ s.standStill.sgv.stops = s.sgv.stops ∧
    s.standStill.sgv.trips = s.sgv.trips ∧ s.standStill.sgv.stopPending = s.sgv.stopPending ∧
    s.standStill.sgv.flatRef = s.sgv.flatRef ∧ s.standStill.sgv.beltRef = s.sgv.beltRef ∧
    s.standStill.sgv.ceiling = s.sgv.ceiling := by
  unfold State.standStill
  dsimp only
  (repeat' split) <;> simp

@[simp] theorem State.reformPattern_frame (s : State) (p : Pattern) (st : PatternStage) (steps : List Step) :
    (s.reformPattern p st steps).pending = s.pending ∧ (s.reformPattern p st steps).freeIdx = s.freeIdx ∧
    (s.reformPattern p st steps).inputs = s.inputs ∧ (s.reformPattern p st steps).rst.classes = s.rst.classes ∧
    (s.reformPattern p st steps).rst.rolls = s.rst.rolls ∧ (s.reformPattern p st steps).rst.lots = s.rst.lots ∧
    (s.reformPattern p st steps).rst.order = s.rst.order ∧ (s.reformPattern p st steps).rst.panels = s.rst.panels ∧
    (s.reformPattern p st steps).rst.panelSerial = s.rst.panelSerial ∧
    (s.reformPattern p st steps).rst.line = s.rst.line ∧ (s.reformPattern p st steps).lnk = s.lnk ∧
    (s.reformPattern p st steps).fsu = s.fsu ∧ (s.reformPattern p st steps).ltr = s.ltr ∧
    (s.reformPattern p st steps).pfm = s.pfm ∧ (s.reformPattern p st steps).hsu = s.hsu ∧
    (s.reformPattern p st steps).exu = s.exu ∧ (s.reformPattern p st steps).sgv = s.sgv := by
  simp [State.reformPattern]

@[simp] theorem State.handSetpoint_frame (st : ClassStage) (c : ℕ) (s : State) (z : ZoneId) :
    (s.handSetpoint st c z).pending = s.pending ∧ (s.handSetpoint st c z).freeIdx = s.freeIdx ∧
    (s.handSetpoint st c z).inputs = s.inputs ∧ (s.handSetpoint st c z).rst = s.rst ∧
    (s.handSetpoint st c z).lnk = s.lnk ∧ (s.handSetpoint st c z).fsu = s.fsu ∧ (s.handSetpoint st c z).ltr = s.ltr ∧
    (s.handSetpoint st c z).pfm = s.pfm ∧ (s.handSetpoint st c z).hsu.pressure = s.hsu.pressure ∧
    (s.handSetpoint st c z).hsu.pressureReading = s.hsu.pressureReading ∧
    (s.handSetpoint st c z).hsu.permit = s.hsu.permit ∧ (s.handSetpoint st c z).exu = s.exu ∧
    (s.handSetpoint st c z).sgv = s.sgv := by
  unfold State.handSetpoint
  split <;> simp

@[simp] theorem State.prepareRoll_frame (s : State) (r : Roll) (x : Station) :
    (s.prepareRoll r x).pending = s.pending ∧ (s.prepareRoll r x).inputs = s.inputs ∧
    (s.prepareRoll r x).rst.panelSerial = s.rst.panelSerial ∧ (s.prepareRoll r x).fsu.w = s.fsu.w ∧
    (s.prepareRoll r x).fsu.web = s.fsu.web ∧ (s.prepareRoll r x).fsu.surfA = s.fsu.surfA ∧
    (s.prepareRoll r x).fsu.surfB = s.fsu.surfB ∧ (s.prepareRoll r x).fsu.extend = s.fsu.extend ∧
    (s.prepareRoll r x).fsu.knife = s.fsu.knife ∧ (s.prepareRoll r x).fsu.lossWatch = s.fsu.lossWatch ∧
    (s.prepareRoll r x).fsu.dancer = s.fsu.dancer ∧ (s.prepareRoll r x).fsu.dancerWindow = s.fsu.dancerWindow ∧
    (s.prepareRoll r x).fsu.webBreak = s.fsu.webBreak ∧ (s.prepareRoll r x).ltr.starved = s.ltr.starved ∧
    (s.prepareRoll r x).pfm = s.pfm ∧ (s.prepareRoll r x).hsu.pressure = s.hsu.pressure ∧
    (s.prepareRoll r x).hsu.pressureReading = s.hsu.pressureReading ∧ (s.prepareRoll r x).hsu.permit = s.hsu.permit ∧
    (s.prepareRoll r x).exu = s.exu ∧ (s.prepareRoll r x).sgv.gov = s.sgv.gov ∧
    (s.prepareRoll r x).sgv.intent = s.sgv.intent ∧ (s.prepareRoll r x).sgv.holds = s.sgv.holds ∧
    (s.prepareRoll r x).sgv.stops = s.sgv.stops ∧ (s.prepareRoll r x).sgv.trips = s.sgv.trips ∧
    (s.prepareRoll r x).sgv.stopPending = s.sgv.stopPending ∧ (s.prepareRoll r x).sgv.flatRef = s.sgv.flatRef ∧
    (s.prepareRoll r x).sgv.beltRef = s.sgv.beltRef ∧ (s.prepareRoll r x).sgv.ceiling = s.sgv.ceiling ∧
    (s.prepareRoll r x).sgv.standstill = s.sgv.standstill ∧
    (s.prepareRoll r x).sgv.standWindow = s.sgv.standWindow := by
  unfold State.prepareRoll
  dsimp only
  split <;> simp

@[simp] theorem State.unprepareRoll_frame (s : State) (r : Roll) (x : Station) :
    (s.unprepareRoll r x).pending = s.pending ∧ (s.unprepareRoll r x).freeIdx = s.freeIdx ∧
    (s.unprepareRoll r x).inputs = s.inputs ∧ (s.unprepareRoll r x).rst.patterns = s.rst.patterns ∧
    (s.unprepareRoll r x).rst.pool = s.rst.pool ∧ (s.unprepareRoll r x).rst.classes = s.rst.classes ∧
    (s.unprepareRoll r x).rst.lots = s.rst.lots ∧ (s.unprepareRoll r x).rst.order = s.rst.order ∧
    (s.unprepareRoll r x).rst.panels = s.rst.panels ∧ (s.unprepareRoll r x).rst.panelSerial = s.rst.panelSerial ∧
    (s.unprepareRoll r x).lnk.sup = s.lnk.sup ∧ (s.unprepareRoll r x).lnk.pen = s.lnk.pen ∧
    (s.unprepareRoll r x).fsu.w = s.fsu.w ∧ (s.unprepareRoll r x).fsu.web = s.fsu.web ∧
    (s.unprepareRoll r x).fsu.surfA = s.fsu.surfA ∧ (s.unprepareRoll r x).fsu.surfB = s.fsu.surfB ∧
    (s.unprepareRoll r x).fsu.locked = s.fsu.locked ∧ (s.unprepareRoll r x).fsu.lockCount = s.fsu.lockCount ∧
    (s.unprepareRoll r x).fsu.lossWatch = s.fsu.lossWatch ∧ (s.unprepareRoll r x).fsu.dancer = s.fsu.dancer ∧
    (s.unprepareRoll r x).fsu.dancerWindow = s.fsu.dancerWindow ∧
    (s.unprepareRoll r x).fsu.webBreak = s.fsu.webBreak ∧ (s.unprepareRoll r x).ltr.segment = s.ltr.segment ∧
    (s.unprepareRoll r x).ltr.pendingJoint = s.ltr.pendingJoint ∧ (s.unprepareRoll r x).ltr.starved = s.ltr.starved ∧
    (s.unprepareRoll r x).pfm.forming = s.pfm.forming ∧ (s.unprepareRoll r x).pfm.nextStart = s.pfm.nextStart ∧
    (s.unprepareRoll r x).pfm.nextStrike = s.pfm.nextStrike ∧ (s.unprepareRoll r x).pfm.cycle = s.pfm.cycle ∧
    (s.unprepareRoll r x).pfm.bladeLimit = s.pfm.bladeLimit ∧ (s.unprepareRoll r x).pfm.strikeFor = s.pfm.strikeFor ∧
    (s.unprepareRoll r x).pfm.nextWaste = s.pfm.nextWaste ∧
    (s.unprepareRoll r x).pfm.strikeCeiling = s.pfm.strikeCeiling ∧ (s.unprepareRoll r x).pfm.strike = s.pfm.strike ∧
    (s.unprepareRoll r x).pfm.depths = s.pfm.depths ∧ (s.unprepareRoll r x).hsu.pressure = s.hsu.pressure ∧
    (s.unprepareRoll r x).hsu.pressureReading = s.hsu.pressureReading ∧
    (s.unprepareRoll r x).hsu.permit = s.hsu.permit ∧ (s.unprepareRoll r x).exu = s.exu ∧
    (s.unprepareRoll r x).sgv.holds = s.sgv.holds ∧ (s.unprepareRoll r x).sgv.stops = s.sgv.stops ∧
    (s.unprepareRoll r x).sgv.trips = s.sgv.trips ∧ (s.unprepareRoll r x).sgv.flatRef = s.sgv.flatRef ∧
    (s.unprepareRoll r x).sgv.beltRef = s.sgv.beltRef ∧ (s.unprepareRoll r x).sgv.ceiling = s.sgv.ceiling ∧
    (s.unprepareRoll r x).sgv.classSet = s.sgv.classSet := by
  unfold State.unprepareRoll
  split <;> simp

@[simp] theorem State.leaderCommitted_frame (s : State) (r : Roll) (v : Option Bool) :
    (s.leaderCommitted r v).pending = s.pending ∧ (s.leaderCommitted r v).inputs = s.inputs ∧
    (s.leaderCommitted r v).rst.panelSerial = s.rst.panelSerial ∧ (s.leaderCommitted r v).fsu.w = s.fsu.w ∧
    (s.leaderCommitted r v).fsu.web = s.fsu.web ∧ (s.leaderCommitted r v).fsu.surfA = s.fsu.surfA ∧
    (s.leaderCommitted r v).fsu.surfB = s.fsu.surfB ∧ (s.leaderCommitted r v).fsu.lossWatch = s.fsu.lossWatch ∧
    (s.leaderCommitted r v).fsu.dancer = s.fsu.dancer ∧
    (s.leaderCommitted r v).fsu.dancerWindow = s.fsu.dancerWindow ∧
    (s.leaderCommitted r v).fsu.webBreak = s.fsu.webBreak ∧ (s.leaderCommitted r v).ltr.starved = s.ltr.starved ∧
    (s.leaderCommitted r v).pfm.forming = s.pfm.forming ∧ (s.leaderCommitted r v).pfm.nextStart = s.pfm.nextStart ∧
    (s.leaderCommitted r v).pfm.nextStrike = s.pfm.nextStrike ∧ (s.leaderCommitted r v).pfm.cycle = s.pfm.cycle ∧
    (s.leaderCommitted r v).pfm.bladeLimit = s.pfm.bladeLimit ∧
    (s.leaderCommitted r v).pfm.strikeFor = s.pfm.strikeFor ∧
    (s.leaderCommitted r v).pfm.nextWaste = s.pfm.nextWaste ∧
    (s.leaderCommitted r v).pfm.strikeCeiling = s.pfm.strikeCeiling ∧
    (s.leaderCommitted r v).pfm.strike = s.pfm.strike ∧ (s.leaderCommitted r v).pfm.depths = s.pfm.depths ∧
    (s.leaderCommitted r v).hsu.pressure = s.hsu.pressure ∧
    (s.leaderCommitted r v).hsu.pressureReading = s.hsu.pressureReading ∧
    (s.leaderCommitted r v).hsu.permit = s.hsu.permit ∧ (s.leaderCommitted r v).exu = s.exu ∧
    (s.leaderCommitted r v).sgv.holds = s.sgv.holds ∧ (s.leaderCommitted r v).sgv.stops = s.sgv.stops ∧
    (s.leaderCommitted r v).sgv.trips = s.sgv.trips ∧ (s.leaderCommitted r v).sgv.flatRef = s.sgv.flatRef ∧
    (s.leaderCommitted r v).sgv.beltRef = s.sgv.beltRef ∧ (s.leaderCommitted r v).sgv.ceiling = s.sgv.ceiling := by
  unfold State.leaderCommitted
  split <;> simp

@[simp] theorem State.bindCommitted_frame (s : State) (r : Roll) :
    (s.bindCommitted r).pending = s.pending ∧ (s.bindCommitted r).freeIdx = s.freeIdx ∧
    (s.bindCommitted r).inputs = s.inputs ∧ (s.bindCommitted r).rst.patterns = s.rst.patterns ∧
    (s.bindCommitted r).rst.pool = s.rst.pool ∧ (s.bindCommitted r).rst.classes = s.rst.classes ∧
    (s.bindCommitted r).rst.lots = s.rst.lots ∧ (s.bindCommitted r).rst.order = s.rst.order ∧
    (s.bindCommitted r).rst.panels = s.rst.panels ∧ (s.bindCommitted r).rst.panelSerial = s.rst.panelSerial ∧
    (s.bindCommitted r).rst.line = s.rst.line ∧ (s.bindCommitted r).lnk = s.lnk ∧ (s.bindCommitted r).fsu = s.fsu ∧
    (s.bindCommitted r).ltr = s.ltr ∧ (s.bindCommitted r).pfm = s.pfm ∧ (s.bindCommitted r).hsu = s.hsu ∧
    (s.bindCommitted r).exu = s.exu ∧ (s.bindCommitted r).sgv = s.sgv := by
  unfold State.bindCommitted
  (repeat' split) <;> simp

@[simp] theorem State.placeCommitted_frame (s : State) (n : ℕ) (st : LotStage) :
    (s.placeCommitted n st).pending = s.pending ∧ (s.placeCommitted n st).freeIdx = s.freeIdx ∧
    (s.placeCommitted n st).inputs = s.inputs ∧ (s.placeCommitted n st).rst.patterns = s.rst.patterns ∧
    (s.placeCommitted n st).rst.pool = s.rst.pool ∧ (s.placeCommitted n st).rst.classes = s.rst.classes ∧
    (s.placeCommitted n st).rst.rolls = s.rst.rolls ∧ (s.placeCommitted n st).rst.lots = s.rst.lots ∧
    (s.placeCommitted n st).rst.panels = s.rst.panels ∧ (s.placeCommitted n st).rst.panelSerial = s.rst.panelSerial ∧
    (s.placeCommitted n st).rst.line = s.rst.line ∧ (s.placeCommitted n st).lnk = s.lnk ∧
    (s.placeCommitted n st).fsu = s.fsu ∧ (s.placeCommitted n st).ltr = s.ltr ∧ (s.placeCommitted n st).pfm = s.pfm ∧
    (s.placeCommitted n st).hsu = s.hsu ∧ (s.placeCommitted n st).exu = s.exu ∧
    (s.placeCommitted n st).sgv = s.sgv := by
  unfold State.placeCommitted
  split <;> simp

@[simp] theorem State.orderedCommitted_frame (s : State) (l : Lot) (st : LotStage) :
    (s.orderedCommitted l st).pending = s.pending ∧ (s.orderedCommitted l st).freeIdx = s.freeIdx ∧
    (s.orderedCommitted l st).inputs = s.inputs ∧ (s.orderedCommitted l st).rst.rolls = s.rst.rolls ∧
    (s.orderedCommitted l st).rst.panelSerial = s.rst.panelSerial ∧ (s.orderedCommitted l st).rst.line = s.rst.line ∧
    (s.orderedCommitted l st).fsu = s.fsu ∧ (s.orderedCommitted l st).ltr.classChange = s.ltr.classChange ∧
    (s.orderedCommitted l st).pfm = s.pfm ∧ (s.orderedCommitted l st).hsu = s.hsu ∧
    (s.orderedCommitted l st).exu = s.exu ∧ (s.orderedCommitted l st).sgv.gov = s.sgv.gov ∧
    (s.orderedCommitted l st).sgv.intent = s.sgv.intent ∧ (s.orderedCommitted l st).sgv.stops = s.sgv.stops ∧
    (s.orderedCommitted l st).sgv.trips = s.sgv.trips ∧
    (s.orderedCommitted l st).sgv.stopPending = s.sgv.stopPending ∧
    (s.orderedCommitted l st).sgv.flatRef = s.sgv.flatRef ∧ (s.orderedCommitted l st).sgv.beltRef = s.sgv.beltRef ∧
    (s.orderedCommitted l st).sgv.ceiling = s.sgv.ceiling ∧
    (s.orderedCommitted l st).sgv.standstill = s.sgv.standstill ∧
    (s.orderedCommitted l st).sgv.standWindow = s.sgv.standWindow ∧
    (s.orderedCommitted l st).sgv.classSet = s.sgv.classSet := by
  unfold State.orderedCommitted
  split <;> simp

@[simp] theorem State.standbyCommitted_frame (s : State) :
    s.standbyCommitted.pending = s.pending ∧ s.standbyCommitted.freeIdx = s.freeIdx ∧
    s.standbyCommitted.inputs = s.inputs ∧ s.standbyCommitted.rst = s.rst ∧ s.standbyCommitted.lnk = s.lnk ∧
    s.standbyCommitted.fsu = s.fsu ∧ s.standbyCommitted.ltr = s.ltr ∧ s.standbyCommitted.pfm = s.pfm ∧
    s.standbyCommitted.hsu.pressure = s.hsu.pressure ∧
    s.standbyCommitted.hsu.pressureReading = s.hsu.pressureReading ∧ s.standbyCommitted.hsu.permit = s.hsu.permit ∧
    s.standbyCommitted.exu = s.exu ∧ s.standbyCommitted.sgv = s.sgv := by
  unfold State.standbyCommitted
  split <;> simp

@[simp] theorem State.heatCommitted_frame (s : State) (v : Option Bool) :
    (s.heatCommitted v).pending = s.pending ∧ (s.heatCommitted v).inputs = s.inputs ∧
    (s.heatCommitted v).rst.patterns = s.rst.patterns ∧ (s.heatCommitted v).rst.pool = s.rst.pool ∧
    (s.heatCommitted v).rst.classes = s.rst.classes ∧ (s.heatCommitted v).rst.rolls = s.rst.rolls ∧
    (s.heatCommitted v).rst.lots = s.rst.lots ∧ (s.heatCommitted v).rst.order = s.rst.order ∧
    (s.heatCommitted v).rst.panels = s.rst.panels ∧ (s.heatCommitted v).rst.panelSerial = s.rst.panelSerial ∧
    (s.heatCommitted v).lnk.sup = s.lnk.sup ∧ (s.heatCommitted v).lnk.pen = s.lnk.pen ∧
    (s.heatCommitted v).fsu = s.fsu ∧ (s.heatCommitted v).ltr = s.ltr ∧ (s.heatCommitted v).pfm = s.pfm ∧
    (s.heatCommitted v).hsu.pressure = s.hsu.pressure ∧
    (s.heatCommitted v).hsu.pressureReading = s.hsu.pressureReading ∧ (s.heatCommitted v).exu = s.exu ∧
    (s.heatCommitted v).sgv = s.sgv := by
  unfold State.heatCommitted
  (repeat' split) <;> simp

@[simp] theorem State.configuredCommitted_frame (s : State) :
    s.configuredCommitted.pending = s.pending ∧ s.configuredCommitted.freeIdx = s.freeIdx ∧
    s.configuredCommitted.inputs = s.inputs ∧ s.configuredCommitted.rst.patterns = s.rst.patterns ∧
    s.configuredCommitted.rst.pool = s.rst.pool ∧ s.configuredCommitted.rst.classes = s.rst.classes ∧
    s.configuredCommitted.rst.lots = s.rst.lots ∧ s.configuredCommitted.rst.order = s.rst.order ∧
    s.configuredCommitted.rst.panels = s.rst.panels ∧ s.configuredCommitted.rst.panelSerial = s.rst.panelSerial ∧
    s.configuredCommitted.lnk.sup = s.lnk.sup ∧ s.configuredCommitted.lnk.pen = s.lnk.pen ∧
    s.configuredCommitted.fsu.w = s.fsu.w ∧ s.configuredCommitted.fsu.web = s.fsu.web ∧
    s.configuredCommitted.fsu.surfA = s.fsu.surfA ∧ s.configuredCommitted.fsu.surfB = s.fsu.surfB ∧
    s.configuredCommitted.fsu.extend = s.fsu.extend ∧ s.configuredCommitted.fsu.knife = s.fsu.knife ∧
    s.configuredCommitted.fsu.locked = s.fsu.locked ∧ s.configuredCommitted.fsu.lockCount = s.fsu.lockCount ∧
    s.configuredCommitted.fsu.lossWatch = s.fsu.lossWatch ∧ s.configuredCommitted.fsu.dancer = s.fsu.dancer ∧
    s.configuredCommitted.fsu.dancerWindow = s.fsu.dancerWindow ∧
    s.configuredCommitted.fsu.webBreak = s.fsu.webBreak ∧ s.configuredCommitted.ltr.segment = s.ltr.segment ∧
    s.configuredCommitted.ltr.pendingJoint = s.ltr.pendingJoint ∧ s.configuredCommitted.ltr.starved = s.ltr.starved ∧
    s.configuredCommitted.pfm = s.pfm ∧ s.configuredCommitted.hsu = s.hsu ∧ s.configuredCommitted.exu = s.exu ∧
    s.configuredCommitted.sgv = s.sgv := by
  unfold State.configuredCommitted
  split <;> simp

@[simp] theorem refuse_frame (s : State) (st : Status) :
    (refuse s st).1.pending = s.pending ∧ (refuse s st).1.freeIdx = s.freeIdx ∧ (refuse s st).1.inputs = s.inputs ∧
    (refuse s st).1.rst = s.rst ∧ (refuse s st).1.lnk = s.lnk ∧ (refuse s st).1.fsu = s.fsu ∧
    (refuse s st).1.ltr = s.ltr ∧ (refuse s st).1.pfm = s.pfm ∧ (refuse s st).1.hsu = s.hsu ∧
    (refuse s st).1.exu = s.exu ∧ (refuse s st).1.sgv = s.sgv := by
  simp [refuse]

@[simp] theorem done_frame (s : State) :
    (done s).1.pending = s.pending ∧ (done s).1.freeIdx = s.freeIdx ∧ (done s).1.inputs = s.inputs ∧
    (done s).1.rst = s.rst ∧ (done s).1.lnk = s.lnk ∧ (done s).1.fsu = s.fsu ∧ (done s).1.ltr = s.ltr ∧
    (done s).1.pfm = s.pfm ∧ (done s).1.hsu = s.hsu ∧ (done s).1.exu = s.exu ∧ (done s).1.sgv = s.sgv := by
  simp [done]

@[simp] theorem State.dropRecord_frame (s : State) (t : Table) (key : ℕ) :
    (s.dropRecord t key).pending = s.pending ∧ (s.dropRecord t key).freeIdx = s.freeIdx ∧
    (s.dropRecord t key).inputs = s.inputs ∧ (s.dropRecord t key).rst.pool = s.rst.pool ∧
    (s.dropRecord t key).rst.panels = s.rst.panels ∧ (s.dropRecord t key).rst.panelSerial = s.rst.panelSerial ∧
    (s.dropRecord t key).rst.line = s.rst.line ∧ (s.dropRecord t key).lnk = s.lnk ∧ (s.dropRecord t key).fsu = s.fsu ∧
    (s.dropRecord t key).ltr = s.ltr ∧ (s.dropRecord t key).pfm = s.pfm ∧ (s.dropRecord t key).hsu = s.hsu ∧
    (s.dropRecord t key).exu = s.exu ∧ (s.dropRecord t key).sgv = s.sgv := by
  unfold State.dropRecord
  split <;> simp

@[simp] theorem State.endOpen_frame (s : State) (p : Port) :
    (s.endOpen p).pending = s.pending ∧ (s.endOpen p).freeIdx = s.freeIdx ∧ (s.endOpen p).inputs = s.inputs ∧
    (s.endOpen p).rst.pool = s.rst.pool ∧ (s.endOpen p).rst.panels = s.rst.panels ∧
    (s.endOpen p).rst.panelSerial = s.rst.panelSerial ∧ (s.endOpen p).rst.line = s.rst.line ∧
    (s.endOpen p).lnk.alerts = s.lnk.alerts ∧ (s.endOpen p).fsu = s.fsu ∧ (s.endOpen p).ltr = s.ltr ∧
    (s.endOpen p).pfm = s.pfm ∧ (s.endOpen p).hsu = s.hsu ∧ (s.endOpen p).exu = s.exu ∧
    (s.endOpen p).sgv = s.sgv := by
  unfold State.endOpen
  dsimp only
  (repeat' split) <;> simp

@[simp] theorem State.openCreated_frame (s : State) (p : Port) (key : ℕ) (st : Staging) :
    (s.openCreated p key st).1.pending = s.pending ∧ (s.openCreated p key st).1.freeIdx = s.freeIdx ∧
    (s.openCreated p key st).1.inputs = s.inputs ∧ (s.openCreated p key st).1.rst = s.rst ∧
    (s.openCreated p key st).1.lnk.alerts = s.lnk.alerts ∧ (s.openCreated p key st).1.fsu = s.fsu ∧
    (s.openCreated p key st).1.ltr = s.ltr ∧ (s.openCreated p key st).1.pfm = s.pfm ∧
    (s.openCreated p key st).1.hsu = s.hsu ∧ (s.openCreated p key st).1.exu = s.exu ∧
    (s.openCreated p key st).1.sgv = s.sgv := by
  simp [State.openCreated]

@[simp] theorem State.createPattern_frame (s : State) (p : Port) (n : ℕ) :
    (s.createPattern p n).1.pending = s.pending ∧ (s.createPattern p n).1.freeIdx = s.freeIdx ∧
    (s.createPattern p n).1.inputs = s.inputs ∧ (s.createPattern p n).1.rst.pool = s.rst.pool ∧
    (s.createPattern p n).1.rst.classes = s.rst.classes ∧ (s.createPattern p n).1.rst.rolls = s.rst.rolls ∧
    (s.createPattern p n).1.rst.lots = s.rst.lots ∧ (s.createPattern p n).1.rst.order = s.rst.order ∧
    (s.createPattern p n).1.rst.panels = s.rst.panels ∧ (s.createPattern p n).1.rst.panelSerial = s.rst.panelSerial ∧
    (s.createPattern p n).1.rst.line = s.rst.line ∧ (s.createPattern p n).1.lnk.alerts = s.lnk.alerts ∧
    (s.createPattern p n).1.fsu = s.fsu ∧ (s.createPattern p n).1.ltr = s.ltr ∧ (s.createPattern p n).1.pfm = s.pfm ∧
    (s.createPattern p n).1.hsu = s.hsu ∧ (s.createPattern p n).1.exu = s.exu ∧
    (s.createPattern p n).1.sgv = s.sgv := by
  unfold State.createPattern
  (repeat' split) <;> simp

@[simp] theorem State.createClass_frame (s : State) (p : Port) (n : ℕ) :
    (s.createClass p n).1.pending = s.pending ∧ (s.createClass p n).1.freeIdx = s.freeIdx ∧
    (s.createClass p n).1.inputs = s.inputs ∧ (s.createClass p n).1.rst.patterns = s.rst.patterns ∧
    (s.createClass p n).1.rst.pool = s.rst.pool ∧ (s.createClass p n).1.rst.rolls = s.rst.rolls ∧
    (s.createClass p n).1.rst.lots = s.rst.lots ∧ (s.createClass p n).1.rst.order = s.rst.order ∧
    (s.createClass p n).1.rst.panels = s.rst.panels ∧ (s.createClass p n).1.rst.panelSerial = s.rst.panelSerial ∧
    (s.createClass p n).1.rst.line = s.rst.line ∧ (s.createClass p n).1.lnk.alerts = s.lnk.alerts ∧
    (s.createClass p n).1.fsu = s.fsu ∧ (s.createClass p n).1.ltr = s.ltr ∧ (s.createClass p n).1.pfm = s.pfm ∧
    (s.createClass p n).1.hsu = s.hsu ∧ (s.createClass p n).1.exu = s.exu ∧ (s.createClass p n).1.sgv = s.sgv := by
  unfold State.createClass
  (repeat' split) <;> simp

@[simp] theorem State.createRoll_frame (s : State) (p : Port) (tag : ℕ) (st : RollStage) (inRange : Bool) :
    (s.createRoll p tag st inRange).1.pending = s.pending ∧ (s.createRoll p tag st inRange).1.freeIdx = s.freeIdx ∧
    (s.createRoll p tag st inRange).1.inputs = s.inputs ∧
    (s.createRoll p tag st inRange).1.rst.patterns = s.rst.patterns ∧
    (s.createRoll p tag st inRange).1.rst.pool = s.rst.pool ∧
    (s.createRoll p tag st inRange).1.rst.classes = s.rst.classes ∧
    (s.createRoll p tag st inRange).1.rst.lots = s.rst.lots ∧
    (s.createRoll p tag st inRange).1.rst.order = s.rst.order ∧
    (s.createRoll p tag st inRange).1.rst.panels = s.rst.panels ∧
    (s.createRoll p tag st inRange).1.rst.panelSerial = s.rst.panelSerial ∧
    (s.createRoll p tag st inRange).1.rst.line = s.rst.line ∧
    (s.createRoll p tag st inRange).1.lnk.alerts = s.lnk.alerts ∧ (s.createRoll p tag st inRange).1.fsu = s.fsu ∧
    (s.createRoll p tag st inRange).1.ltr = s.ltr ∧ (s.createRoll p tag st inRange).1.pfm = s.pfm ∧
    (s.createRoll p tag st inRange).1.hsu = s.hsu ∧ (s.createRoll p tag st inRange).1.exu = s.exu ∧
    (s.createRoll p tag st inRange).1.sgv = s.sgv := by
  unfold State.createRoll
  (repeat' split) <;> simp

@[simp] theorem State.createLot_frame (s : State) (p : Port) (n : ℕ) :
    (s.createLot p n).1.pending = s.pending ∧ (s.createLot p n).1.freeIdx = s.freeIdx ∧
    (s.createLot p n).1.inputs = s.inputs ∧ (s.createLot p n).1.rst.patterns = s.rst.patterns ∧
    (s.createLot p n).1.rst.pool = s.rst.pool ∧ (s.createLot p n).1.rst.classes = s.rst.classes ∧
    (s.createLot p n).1.rst.rolls = s.rst.rolls ∧ (s.createLot p n).1.rst.panels = s.rst.panels ∧
    (s.createLot p n).1.rst.panelSerial = s.rst.panelSerial ∧ (s.createLot p n).1.rst.line = s.rst.line ∧
    (s.createLot p n).1.lnk.alerts = s.lnk.alerts ∧ (s.createLot p n).1.fsu = s.fsu ∧
    (s.createLot p n).1.ltr = s.ltr ∧ (s.createLot p n).1.pfm = s.pfm ∧ (s.createLot p n).1.hsu = s.hsu ∧
    (s.createLot p n).1.exu = s.exu ∧ (s.createLot p n).1.sgv = s.sgv := by
  unfold State.createLot
  (repeat' split) <;> simp

@[simp] theorem State.createIn_frame (s : State) (p : Port) (t : Table) (key : ℕ) (st : RollStage) (inRange : Bool) :
    (s.createIn p t key st inRange).1.pending = s.pending ∧ (s.createIn p t key st inRange).1.freeIdx = s.freeIdx ∧
    (s.createIn p t key st inRange).1.inputs = s.inputs ∧ (s.createIn p t key st inRange).1.rst.pool = s.rst.pool ∧
    (s.createIn p t key st inRange).1.rst.panels = s.rst.panels ∧
    (s.createIn p t key st inRange).1.rst.panelSerial = s.rst.panelSerial ∧
    (s.createIn p t key st inRange).1.rst.line = s.rst.line ∧
    (s.createIn p t key st inRange).1.lnk.alerts = s.lnk.alerts ∧ (s.createIn p t key st inRange).1.fsu = s.fsu ∧
    (s.createIn p t key st inRange).1.ltr = s.ltr ∧ (s.createIn p t key st inRange).1.pfm = s.pfm ∧
    (s.createIn p t key st inRange).1.hsu = s.hsu ∧ (s.createIn p t key st inRange).1.exu = s.exu ∧
    (s.createIn p t key st inRange).1.sgv = s.sgv := by
  unfold State.createIn
  (repeat' split) <;> simp

@[simp] theorem State.openAs_frame (s : State) (p : Port) (t : Table) (key : ℕ) (write : Bool) :
    (s.openAs p t key write).1.pending = s.pending ∧ (s.openAs p t key write).1.freeIdx = s.freeIdx ∧
    (s.openAs p t key write).1.inputs = s.inputs ∧ (s.openAs p t key write).1.rst = s.rst ∧
    (s.openAs p t key write).1.lnk.alerts = s.lnk.alerts ∧ (s.openAs p t key write).1.fsu = s.fsu ∧
    (s.openAs p t key write).1.ltr = s.ltr ∧ (s.openAs p t key write).1.pfm = s.pfm ∧
    (s.openAs p t key write).1.hsu = s.hsu ∧ (s.openAs p t key write).1.exu = s.exu ∧
    (s.openAs p t key write).1.sgv = s.sgv := by
  simp [State.openAs]

@[simp] theorem State.openIn_frame (s : State) (p : Port) (t : Table) (key : ℕ) (write : Bool) :
    (s.openIn p t key write).1.pending = s.pending ∧ (s.openIn p t key write).1.freeIdx = s.freeIdx ∧
    (s.openIn p t key write).1.inputs = s.inputs ∧ (s.openIn p t key write).1.rst = s.rst ∧
    (s.openIn p t key write).1.lnk.alerts = s.lnk.alerts ∧ (s.openIn p t key write).1.fsu = s.fsu ∧
    (s.openIn p t key write).1.ltr = s.ltr ∧ (s.openIn p t key write).1.pfm = s.pfm ∧
    (s.openIn p t key write).1.hsu = s.hsu ∧ (s.openIn p t key write).1.exu = s.exu ∧
    (s.openIn p t key write).1.sgv = s.sgv := by
  unfold State.openIn
  (repeat' split) <;> simp

@[simp] theorem State.gone_frame (s : State) (p : Port) :
    (s.gone p).1.pending = s.pending ∧ (s.gone p).1.freeIdx = s.freeIdx ∧ (s.gone p).1.inputs = s.inputs ∧
    (s.gone p).1.rst = s.rst ∧ (s.gone p).1.lnk.alerts = s.lnk.alerts ∧ (s.gone p).1.fsu = s.fsu ∧
    (s.gone p).1.ltr = s.ltr ∧ (s.gone p).1.pfm = s.pfm ∧ (s.gone p).1.hsu = s.hsu ∧ (s.gone p).1.exu = s.exu ∧
    (s.gone p).1.sgv = s.sgv := by
  simp [State.gone]

@[simp] theorem State.getField_frame (s : State) (p : Port) (id : ℕ) (idx : ℕ) :
    (s.getField p id idx).1.pending = s.pending ∧ (s.getField p id idx).1.freeIdx = s.freeIdx ∧
    (s.getField p id idx).1.inputs = s.inputs ∧ (s.getField p id idx).1.rst = s.rst ∧
    (s.getField p id idx).1.lnk.alerts = s.lnk.alerts ∧ (s.getField p id idx).1.fsu = s.fsu ∧
    (s.getField p id idx).1.ltr = s.ltr ∧ (s.getField p id idx).1.pfm = s.pfm ∧ (s.getField p id idx).1.hsu = s.hsu ∧
    (s.getField p id idx).1.exu = s.exu ∧ (s.getField p id idx).1.sgv = s.sgv := by
  unfold State.getField
  split <;> simp

@[simp] theorem answerGet_frame (p : Port) (ops : List Byte) (s : State) :
    (answerGet p ops s).1.pending = s.pending ∧ (answerGet p ops s).1.freeIdx = s.freeIdx ∧
    (answerGet p ops s).1.inputs = s.inputs ∧ (answerGet p ops s).1.rst = s.rst ∧
    (answerGet p ops s).1.lnk.alerts = s.lnk.alerts ∧ (answerGet p ops s).1.fsu = s.fsu ∧
    (answerGet p ops s).1.ltr = s.ltr ∧ (answerGet p ops s).1.pfm = s.pfm ∧ (answerGet p ops s).1.hsu = s.hsu ∧
    (answerGet p ops s).1.exu = s.exu ∧ (answerGet p ops s).1.sgv = s.sgv := by
  unfold answerGet
  split <;> simp

@[simp] theorem State.putField_frame (s : State) (p : Port) (id : ℕ) (idx : ℕ) (bs : List Byte) :
    (s.putField p id idx bs).1.pending = s.pending ∧ (s.putField p id idx bs).1.freeIdx = s.freeIdx ∧
    (s.putField p id idx bs).1.inputs = s.inputs ∧ (s.putField p id idx bs).1.rst = s.rst ∧
    (s.putField p id idx bs).1.lnk.alerts = s.lnk.alerts ∧ (s.putField p id idx bs).1.fsu = s.fsu ∧
    (s.putField p id idx bs).1.ltr = s.ltr ∧ (s.putField p id idx bs).1.pfm = s.pfm ∧
    (s.putField p id idx bs).1.hsu = s.hsu ∧ (s.putField p id idx bs).1.exu = s.exu ∧
    (s.putField p id idx bs).1.sgv = s.sgv := by
  unfold State.putField
  (repeat' split) <;> simp

@[simp] theorem answerPut_frame (p : Port) (ops : List Byte) (s : State) :
    (answerPut p ops s).1.pending = s.pending ∧ (answerPut p ops s).1.freeIdx = s.freeIdx ∧
    (answerPut p ops s).1.inputs = s.inputs ∧ (answerPut p ops s).1.rst = s.rst ∧
    (answerPut p ops s).1.lnk.alerts = s.lnk.alerts ∧ (answerPut p ops s).1.fsu = s.fsu ∧
    (answerPut p ops s).1.ltr = s.ltr ∧ (answerPut p ops s).1.pfm = s.pfm ∧ (answerPut p ops s).1.hsu = s.hsu ∧
    (answerPut p ops s).1.exu = s.exu ∧ (answerPut p ops s).1.sgv = s.sgv := by
  unfold answerPut
  split <;> simp

@[simp] theorem State.openNext_frame (s : State) (p : Port) (t : Table) (next : Option ℕ) (write : Bool) :
    (s.openNext p t next write).1.pending = s.pending ∧ (s.openNext p t next write).1.freeIdx = s.freeIdx ∧
    (s.openNext p t next write).1.inputs = s.inputs ∧ (s.openNext p t next write).1.rst = s.rst ∧
    (s.openNext p t next write).1.lnk.alerts = s.lnk.alerts ∧ (s.openNext p t next write).1.fsu = s.fsu ∧
    (s.openNext p t next write).1.ltr = s.ltr ∧ (s.openNext p t next write).1.pfm = s.pfm ∧
    (s.openNext p t next write).1.hsu = s.hsu ∧ (s.openNext p t next write).1.exu = s.exu ∧
    (s.openNext p t next write).1.sgv = s.sgv := by
  unfold State.openNext
  (repeat' split) <;> simp

@[simp] theorem State.discard_frame (s : State) (p : Port) :
    (s.discard p).1.pending = s.pending ∧ (s.discard p).1.freeIdx = s.freeIdx ∧ (s.discard p).1.inputs = s.inputs ∧
    (s.discard p).1.rst.pool = s.rst.pool ∧ (s.discard p).1.rst.panels = s.rst.panels ∧
    (s.discard p).1.rst.panelSerial = s.rst.panelSerial ∧ (s.discard p).1.rst.line = s.rst.line ∧
    (s.discard p).1.lnk.alerts = s.lnk.alerts ∧ (s.discard p).1.fsu = s.fsu ∧ (s.discard p).1.ltr = s.ltr ∧
    (s.discard p).1.pfm = s.pfm ∧ (s.discard p).1.hsu = s.hsu ∧ (s.discard p).1.exu = s.exu ∧
    (s.discard p).1.sgv = s.sgv := by
  unfold State.discard
  split <;> simp

@[simp] theorem answerDiscard_frame (p : Port) (ops : List Byte) (s : State) :
    (answerDiscard p ops s).1.pending = s.pending ∧ (answerDiscard p ops s).1.freeIdx = s.freeIdx ∧
    (answerDiscard p ops s).1.inputs = s.inputs ∧ (answerDiscard p ops s).1.rst.pool = s.rst.pool ∧
    (answerDiscard p ops s).1.rst.panels = s.rst.panels ∧
    (answerDiscard p ops s).1.rst.panelSerial = s.rst.panelSerial ∧ (answerDiscard p ops s).1.rst.line = s.rst.line ∧
    (answerDiscard p ops s).1.lnk.alerts = s.lnk.alerts ∧ (answerDiscard p ops s).1.fsu = s.fsu ∧
    (answerDiscard p ops s).1.ltr = s.ltr ∧ (answerDiscard p ops s).1.pfm = s.pfm ∧
    (answerDiscard p ops s).1.hsu = s.hsu ∧ (answerDiscard p ops s).1.exu = s.exu ∧
    (answerDiscard p ops s).1.sgv = s.sgv := by
  unfold answerDiscard
  split <;> simp

@[simp] theorem State.freePattern_frame (s : State) (p : Pattern) :
    (s.freePattern p).pending = s.pending ∧ (s.freePattern p).freeIdx = s.freeIdx ∧
    (s.freePattern p).inputs = s.inputs ∧ (s.freePattern p).rst.classes = s.rst.classes ∧
    (s.freePattern p).rst.rolls = s.rst.rolls ∧ (s.freePattern p).rst.lots = s.rst.lots ∧
    (s.freePattern p).rst.order = s.rst.order ∧ (s.freePattern p).rst.panels = s.rst.panels ∧
    (s.freePattern p).rst.panelSerial = s.rst.panelSerial ∧ (s.freePattern p).rst.line = s.rst.line ∧
    (s.freePattern p).lnk.alerts = s.lnk.alerts ∧ (s.freePattern p).fsu = s.fsu ∧ (s.freePattern p).ltr = s.ltr ∧
    (s.freePattern p).pfm = s.pfm ∧ (s.freePattern p).hsu = s.hsu ∧ (s.freePattern p).exu = s.exu ∧
    (s.freePattern p).sgv = s.sgv := by
  refine ⟨?_, ?_, ?_, ?_, ?_, ?_, ?_, ?_, ?_, ?_, ?_, ?_, ?_, ?_, ?_, ?_, ?_⟩ <;> rfl

@[simp] theorem State.retirePattern_frame (s : State) (n : ℕ) :
    (s.retirePattern n).1.pending = s.pending ∧ (s.retirePattern n).1.freeIdx = s.freeIdx ∧
    (s.retirePattern n).1.inputs = s.inputs ∧ (s.retirePattern n).1.rst.classes = s.rst.classes ∧
    (s.retirePattern n).1.rst.rolls = s.rst.rolls ∧ (s.retirePattern n).1.rst.lots = s.rst.lots ∧
    (s.retirePattern n).1.rst.order = s.rst.order ∧ (s.retirePattern n).1.rst.panels = s.rst.panels ∧
    (s.retirePattern n).1.rst.panelSerial = s.rst.panelSerial ∧ (s.retirePattern n).1.rst.line = s.rst.line ∧
    (s.retirePattern n).1.lnk.alerts = s.lnk.alerts ∧ (s.retirePattern n).1.fsu = s.fsu ∧
    (s.retirePattern n).1.ltr = s.ltr ∧ (s.retirePattern n).1.pfm = s.pfm ∧ (s.retirePattern n).1.hsu = s.hsu ∧
    (s.retirePattern n).1.exu = s.exu ∧ (s.retirePattern n).1.sgv = s.sgv := by
  unfold State.retirePattern
  (repeat' split) <;> simp

@[simp] theorem State.retireClass_frame (s : State) (n : ℕ) :
    (s.retireClass n).1.pending = s.pending ∧ (s.retireClass n).1.inputs = s.inputs ∧
    (s.retireClass n).1.rst.pool = s.rst.pool ∧ (s.retireClass n).1.rst.panels = s.rst.panels ∧
    (s.retireClass n).1.rst.panelSerial = s.rst.panelSerial ∧ (s.retireClass n).1.rst.line = s.rst.line ∧
    (s.retireClass n).1.lnk.alerts = s.lnk.alerts ∧ (s.retireClass n).1.fsu.w = s.fsu.w ∧
    (s.retireClass n).1.fsu.web = s.fsu.web ∧ (s.retireClass n).1.fsu.surfA = s.fsu.surfA ∧
    (s.retireClass n).1.fsu.surfB = s.fsu.surfB ∧ (s.retireClass n).1.fsu.staA = s.fsu.staA ∧
    (s.retireClass n).1.fsu.staB = s.fsu.staB ∧ (s.retireClass n).1.fsu.phase = s.fsu.phase ∧
    (s.retireClass n).1.fsu.outcome = s.fsu.outcome ∧ (s.retireClass n).1.fsu.incoming = s.fsu.incoming ∧
    (s.retireClass n).1.fsu.outgoing = s.fsu.outgoing ∧ (s.retireClass n).1.fsu.limit = s.fsu.limit ∧
    (s.retireClass n).1.fsu.matchCount = s.fsu.matchCount ∧ (s.retireClass n).1.fsu.extend = s.fsu.extend ∧
    (s.retireClass n).1.fsu.knife = s.fsu.knife ∧ (s.retireClass n).1.fsu.locked = s.fsu.locked ∧
    (s.retireClass n).1.fsu.lockCount = s.fsu.lockCount ∧ (s.retireClass n).1.fsu.lossWatch = s.fsu.lossWatch ∧
    (s.retireClass n).1.fsu.dancer = s.fsu.dancer ∧ (s.retireClass n).1.fsu.dancerWindow = s.fsu.dancerWindow ∧
    (s.retireClass n).1.ltr = s.ltr ∧ (s.retireClass n).1.pfm.forming = s.pfm.forming ∧
    (s.retireClass n).1.pfm.nextStart = s.pfm.nextStart ∧ (s.retireClass n).1.pfm.nextStrike = s.pfm.nextStrike ∧
    (s.retireClass n).1.pfm.cycle = s.pfm.cycle ∧ (s.retireClass n).1.pfm.bladeLimit = s.pfm.bladeLimit ∧
    (s.retireClass n).1.pfm.strikeFor = s.pfm.strikeFor ∧ (s.retireClass n).1.pfm.nextWaste = s.pfm.nextWaste ∧
    (s.retireClass n).1.pfm.stepTarget = s.pfm.stepTarget ∧ (s.retireClass n).1.pfm.strike = s.pfm.strike ∧
    (s.retireClass n).1.pfm.depths = s.pfm.depths ∧ (s.retireClass n).1.hsu.pressure = s.hsu.pressure ∧
    (s.retireClass n).1.hsu.pressureReading = s.hsu.pressureReading ∧ (s.retireClass n).1.hsu.permit = s.hsu.permit ∧
    (s.retireClass n).1.exu = s.exu ∧ (s.retireClass n).1.sgv.intent = s.sgv.intent ∧
    (s.retireClass n).1.sgv.stops = s.sgv.stops ∧ (s.retireClass n).1.sgv.trips = s.sgv.trips ∧
    (s.retireClass n).1.sgv.stopPending = s.sgv.stopPending ∧ (s.retireClass n).1.sgv.standstill = s.sgv.standstill ∧
    (s.retireClass n).1.sgv.standWindow = s.sgv.standWindow := by
  unfold State.retireClass
  (repeat' split) <;> simp

@[simp] theorem State.retireRoll_frame (s : State) (tag : ℕ) :
    (s.retireRoll tag).1.pending = s.pending ∧ (s.retireRoll tag).1.freeIdx = s.freeIdx ∧
    (s.retireRoll tag).1.inputs = s.inputs ∧ (s.retireRoll tag).1.rst.panels = s.rst.panels ∧
    (s.retireRoll tag).1.rst.panelSerial = s.rst.panelSerial ∧ (s.retireRoll tag).1.rst.line = s.rst.line ∧
    (s.retireRoll tag).1.lnk.alerts = s.lnk.alerts ∧ (s.retireRoll tag).1.fsu = s.fsu ∧
    (s.retireRoll tag).1.ltr = s.ltr ∧ (s.retireRoll tag).1.pfm = s.pfm ∧ (s.retireRoll tag).1.hsu = s.hsu ∧
    (s.retireRoll tag).1.exu = s.exu ∧ (s.retireRoll tag).1.sgv = s.sgv := by
  unfold State.retireRoll
  (repeat' split) <;> simp

@[simp] theorem State.retireLot_frame (s : State) (n : ℕ) :
    (s.retireLot n).1.pending = s.pending ∧ (s.retireLot n).1.freeIdx = s.freeIdx ∧
    (s.retireLot n).1.inputs = s.inputs ∧ (s.retireLot n).1.rst.panels = s.rst.panels ∧
    (s.retireLot n).1.rst.panelSerial = s.rst.panelSerial ∧ (s.retireLot n).1.rst.line = s.rst.line ∧
    (s.retireLot n).1.lnk.alerts = s.lnk.alerts ∧ (s.retireLot n).1.fsu.w = s.fsu.w ∧
    (s.retireLot n).1.fsu.web = s.fsu.web ∧ (s.retireLot n).1.fsu.surfA = s.fsu.surfA ∧
    (s.retireLot n).1.fsu.surfB = s.fsu.surfB ∧ (s.retireLot n).1.fsu.staA = s.fsu.staA ∧
    (s.retireLot n).1.fsu.staB = s.fsu.staB ∧ (s.retireLot n).1.fsu.phase = s.fsu.phase ∧
    (s.retireLot n).1.fsu.outcome = s.fsu.outcome ∧ (s.retireLot n).1.fsu.incoming = s.fsu.incoming ∧
    (s.retireLot n).1.fsu.outgoing = s.fsu.outgoing ∧ (s.retireLot n).1.fsu.limit = s.fsu.limit ∧
    (s.retireLot n).1.fsu.matchCount = s.fsu.matchCount ∧ (s.retireLot n).1.fsu.extend = s.fsu.extend ∧
    (s.retireLot n).1.fsu.knife = s.fsu.knife ∧ (s.retireLot n).1.fsu.locked = s.fsu.locked ∧
    (s.retireLot n).1.fsu.lockCount = s.fsu.lockCount ∧ (s.retireLot n).1.fsu.lossWatch = s.fsu.lossWatch ∧
    (s.retireLot n).1.fsu.dancer = s.fsu.dancer ∧ (s.retireLot n).1.fsu.dancerWindow = s.fsu.dancerWindow ∧
    (s.retireLot n).1.ltr = s.ltr ∧ (s.retireLot n).1.pfm.forming = s.pfm.forming ∧
    (s.retireLot n).1.pfm.nextStart = s.pfm.nextStart ∧ (s.retireLot n).1.pfm.nextStrike = s.pfm.nextStrike ∧
    (s.retireLot n).1.pfm.cycle = s.pfm.cycle ∧ (s.retireLot n).1.pfm.bladeLimit = s.pfm.bladeLimit ∧
    (s.retireLot n).1.pfm.strikeFor = s.pfm.strikeFor ∧ (s.retireLot n).1.pfm.nextWaste = s.pfm.nextWaste ∧
    (s.retireLot n).1.pfm.stepTarget = s.pfm.stepTarget ∧ (s.retireLot n).1.pfm.strike = s.pfm.strike ∧
    (s.retireLot n).1.pfm.depths = s.pfm.depths ∧ (s.retireLot n).1.hsu = s.hsu ∧ (s.retireLot n).1.exu = s.exu ∧
    (s.retireLot n).1.sgv.intent = s.sgv.intent ∧ (s.retireLot n).1.sgv.stops = s.sgv.stops ∧
    (s.retireLot n).1.sgv.trips = s.sgv.trips ∧ (s.retireLot n).1.sgv.stopPending = s.sgv.stopPending ∧
    (s.retireLot n).1.sgv.standstill = s.sgv.standstill ∧ (s.retireLot n).1.sgv.standWindow = s.sgv.standWindow ∧
    (s.retireLot n).1.sgv.classSet = s.sgv.classSet := by
  unfold State.retireLot
  (repeat' split) <;> simp

@[simp] theorem State.retireIn_frame (s : State) (t : Table) (key : ℕ) :
    (s.retireIn t key).1.pending = s.pending ∧ (s.retireIn t key).1.inputs = s.inputs ∧
    (s.retireIn t key).1.rst.panels = s.rst.panels ∧ (s.retireIn t key).1.rst.panelSerial = s.rst.panelSerial ∧
    (s.retireIn t key).1.rst.line = s.rst.line ∧ (s.retireIn t key).1.lnk.alerts = s.lnk.alerts ∧
    (s.retireIn t key).1.fsu.w = s.fsu.w ∧ (s.retireIn t key).1.fsu.web = s.fsu.web ∧
    (s.retireIn t key).1.fsu.surfA = s.fsu.surfA ∧ (s.retireIn t key).1.fsu.surfB = s.fsu.surfB ∧
    (s.retireIn t key).1.fsu.staA = s.fsu.staA ∧ (s.retireIn t key).1.fsu.staB = s.fsu.staB ∧
    (s.retireIn t key).1.fsu.phase = s.fsu.phase ∧ (s.retireIn t key).1.fsu.outcome = s.fsu.outcome ∧
    (s.retireIn t key).1.fsu.incoming = s.fsu.incoming ∧ (s.retireIn t key).1.fsu.outgoing = s.fsu.outgoing ∧
    (s.retireIn t key).1.fsu.limit = s.fsu.limit ∧ (s.retireIn t key).1.fsu.matchCount = s.fsu.matchCount ∧
    (s.retireIn t key).1.fsu.extend = s.fsu.extend ∧ (s.retireIn t key).1.fsu.knife = s.fsu.knife ∧
    (s.retireIn t key).1.fsu.locked = s.fsu.locked ∧ (s.retireIn t key).1.fsu.lockCount = s.fsu.lockCount ∧
    (s.retireIn t key).1.fsu.lossWatch = s.fsu.lossWatch ∧ (s.retireIn t key).1.fsu.dancer = s.fsu.dancer ∧
    (s.retireIn t key).1.fsu.dancerWindow = s.fsu.dancerWindow ∧ (s.retireIn t key).1.ltr = s.ltr ∧
    (s.retireIn t key).1.pfm.forming = s.pfm.forming ∧ (s.retireIn t key).1.pfm.nextStart = s.pfm.nextStart ∧
    (s.retireIn t key).1.pfm.nextStrike = s.pfm.nextStrike ∧ (s.retireIn t key).1.pfm.cycle = s.pfm.cycle ∧
    (s.retireIn t key).1.pfm.bladeLimit = s.pfm.bladeLimit ∧ (s.retireIn t key).1.pfm.strikeFor = s.pfm.strikeFor ∧
    (s.retireIn t key).1.pfm.nextWaste = s.pfm.nextWaste ∧ (s.retireIn t key).1.pfm.stepTarget = s.pfm.stepTarget ∧
    (s.retireIn t key).1.pfm.strike = s.pfm.strike ∧ (s.retireIn t key).1.pfm.depths = s.pfm.depths ∧
    (s.retireIn t key).1.hsu.pressure = s.hsu.pressure ∧
    (s.retireIn t key).1.hsu.pressureReading = s.hsu.pressureReading ∧
    (s.retireIn t key).1.hsu.permit = s.hsu.permit ∧ (s.retireIn t key).1.exu = s.exu ∧
    (s.retireIn t key).1.sgv.intent = s.sgv.intent ∧ (s.retireIn t key).1.sgv.stops = s.sgv.stops ∧
    (s.retireIn t key).1.sgv.trips = s.sgv.trips ∧ (s.retireIn t key).1.sgv.stopPending = s.sgv.stopPending ∧
    (s.retireIn t key).1.sgv.standstill = s.sgv.standstill ∧
    (s.retireIn t key).1.sgv.standWindow = s.sgv.standWindow := by
  unfold State.retireIn
  (repeat' split) <;> simp

@[simp] theorem answerRetire_frame (p : Port) (ops : List Byte) (s : State) :
    (answerRetire p ops s).1.pending = s.pending ∧ (answerRetire p ops s).1.inputs = s.inputs ∧
    (answerRetire p ops s).1.rst.panels = s.rst.panels ∧
    (answerRetire p ops s).1.rst.panelSerial = s.rst.panelSerial ∧ (answerRetire p ops s).1.rst.line = s.rst.line ∧
    (answerRetire p ops s).1.lnk.alerts = s.lnk.alerts ∧ (answerRetire p ops s).1.fsu.w = s.fsu.w ∧
    (answerRetire p ops s).1.fsu.web = s.fsu.web ∧ (answerRetire p ops s).1.fsu.surfA = s.fsu.surfA ∧
    (answerRetire p ops s).1.fsu.surfB = s.fsu.surfB ∧ (answerRetire p ops s).1.fsu.staA = s.fsu.staA ∧
    (answerRetire p ops s).1.fsu.staB = s.fsu.staB ∧ (answerRetire p ops s).1.fsu.phase = s.fsu.phase ∧
    (answerRetire p ops s).1.fsu.outcome = s.fsu.outcome ∧ (answerRetire p ops s).1.fsu.incoming = s.fsu.incoming ∧
    (answerRetire p ops s).1.fsu.outgoing = s.fsu.outgoing ∧ (answerRetire p ops s).1.fsu.limit = s.fsu.limit ∧
    (answerRetire p ops s).1.fsu.matchCount = s.fsu.matchCount ∧ (answerRetire p ops s).1.fsu.extend = s.fsu.extend ∧
    (answerRetire p ops s).1.fsu.knife = s.fsu.knife ∧ (answerRetire p ops s).1.fsu.locked = s.fsu.locked ∧
    (answerRetire p ops s).1.fsu.lockCount = s.fsu.lockCount ∧
    (answerRetire p ops s).1.fsu.lossWatch = s.fsu.lossWatch ∧ (answerRetire p ops s).1.fsu.dancer = s.fsu.dancer ∧
    (answerRetire p ops s).1.fsu.dancerWindow = s.fsu.dancerWindow ∧ (answerRetire p ops s).1.ltr = s.ltr ∧
    (answerRetire p ops s).1.pfm.forming = s.pfm.forming ∧ (answerRetire p ops s).1.pfm.nextStart = s.pfm.nextStart ∧
    (answerRetire p ops s).1.pfm.nextStrike = s.pfm.nextStrike ∧ (answerRetire p ops s).1.pfm.cycle = s.pfm.cycle ∧
    (answerRetire p ops s).1.pfm.bladeLimit = s.pfm.bladeLimit ∧
    (answerRetire p ops s).1.pfm.strikeFor = s.pfm.strikeFor ∧
    (answerRetire p ops s).1.pfm.nextWaste = s.pfm.nextWaste ∧
    (answerRetire p ops s).1.pfm.stepTarget = s.pfm.stepTarget ∧ (answerRetire p ops s).1.pfm.strike = s.pfm.strike ∧
    (answerRetire p ops s).1.pfm.depths = s.pfm.depths ∧ (answerRetire p ops s).1.hsu.pressure = s.hsu.pressure ∧
    (answerRetire p ops s).1.hsu.pressureReading = s.hsu.pressureReading ∧
    (answerRetire p ops s).1.hsu.permit = s.hsu.permit ∧ (answerRetire p ops s).1.exu = s.exu ∧
    (answerRetire p ops s).1.sgv.intent = s.sgv.intent ∧ (answerRetire p ops s).1.sgv.stops = s.sgv.stops ∧
    (answerRetire p ops s).1.sgv.trips = s.sgv.trips ∧ (answerRetire p ops s).1.sgv.stopPending = s.sgv.stopPending ∧
    (answerRetire p ops s).1.sgv.standstill = s.sgv.standstill ∧
    (answerRetire p ops s).1.sgv.standWindow = s.sgv.standWindow := by
  unfold answerRetire
  (repeat' split) <;> simp

@[simp] theorem answerFind_frame (_p : Port) (ops : List Byte) (s : State) :
    (answerFind _p ops s).1.pending = s.pending ∧ (answerFind _p ops s).1.freeIdx = s.freeIdx ∧
    (answerFind _p ops s).1.inputs = s.inputs ∧ (answerFind _p ops s).1.rst = s.rst ∧
    (answerFind _p ops s).1.lnk = s.lnk ∧ (answerFind _p ops s).1.fsu = s.fsu ∧ (answerFind _p ops s).1.ltr = s.ltr ∧
    (answerFind _p ops s).1.pfm = s.pfm ∧ (answerFind _p ops s).1.hsu = s.hsu ∧ (answerFind _p ops s).1.exu = s.exu ∧
    (answerFind _p ops s).1.sgv = s.sgv := by
  unfold answerFind
  (repeat' split) <;> simp

@[simp] theorem State.firstSegment_frame (s : State) :
    s.firstSegment.pending = s.pending ∧ s.firstSegment.inputs = s.inputs ∧ s.firstSegment.rst.rolls = s.rst.rolls ∧
    s.firstSegment.rst.line = s.rst.line ∧ s.firstSegment.fsu = s.fsu ∧
    s.firstSegment.ltr.classChange = s.ltr.classChange ∧ s.firstSegment.pfm.cycle = s.pfm.cycle ∧
    s.firstSegment.pfm.bladeLimit = s.pfm.bladeLimit ∧ s.firstSegment.pfm.strikeFor = s.pfm.strikeFor ∧
    s.firstSegment.pfm.strikeCeiling = s.pfm.strikeCeiling ∧ s.firstSegment.pfm.stepTarget = s.pfm.stepTarget ∧
    s.firstSegment.pfm.strike = s.pfm.strike ∧ s.firstSegment.pfm.depths = s.pfm.depths ∧
    s.firstSegment.hsu.pressure = s.hsu.pressure ∧ s.firstSegment.hsu.pressureReading = s.hsu.pressureReading ∧
    s.firstSegment.hsu.permit = s.hsu.permit ∧ s.firstSegment.exu.b = s.exu.b ∧ s.firstSegment.exu.belt = s.exu.belt ∧
    s.firstSegment.exu.cycle = s.exu.cycle ∧ s.firstSegment.exu.limit = s.exu.limit ∧
    s.firstSegment.exu.cutSerial = s.exu.cutSerial ∧ s.firstSegment.exu.cut = s.exu.cut ∧
    s.firstSegment.exu.divert = s.exu.divert ∧ s.firstSegment.sgv.gov = s.sgv.gov ∧
    s.firstSegment.sgv.intent = s.sgv.intent ∧ s.firstSegment.sgv.stops = s.sgv.stops ∧
    s.firstSegment.sgv.trips = s.sgv.trips ∧ s.firstSegment.sgv.stopPending = s.sgv.stopPending ∧
    s.firstSegment.sgv.flatRef = s.sgv.flatRef ∧ s.firstSegment.sgv.beltRef = s.sgv.beltRef ∧
    s.firstSegment.sgv.ceiling = s.sgv.ceiling ∧ s.firstSegment.sgv.standstill = s.sgv.standstill ∧
    s.firstSegment.sgv.standWindow = s.sgv.standWindow := by
  unfold State.firstSegment
  split <;> simp

@[simp] theorem State.startUnits_frame (s : State) :
    s.startUnits.pending = s.pending ∧ s.startUnits.inputs = s.inputs ∧ s.startUnits.fsu.w = s.fsu.w ∧
    s.startUnits.fsu.web = s.fsu.web ∧ s.startUnits.fsu.surfA = s.fsu.surfA ∧ s.startUnits.fsu.surfB = s.fsu.surfB ∧
    s.startUnits.fsu.extend = s.fsu.extend ∧ s.startUnits.fsu.knife = s.fsu.knife ∧
    s.startUnits.fsu.locked = s.fsu.locked ∧ s.startUnits.fsu.lockCount = s.fsu.lockCount ∧
    s.startUnits.fsu.lossWatch = s.fsu.lossWatch ∧ s.startUnits.fsu.dancer = s.fsu.dancer ∧
    s.startUnits.fsu.dancerWindow = s.fsu.dancerWindow ∧ s.startUnits.fsu.webBreak = s.fsu.webBreak ∧
    s.startUnits.pfm.cycle = s.pfm.cycle ∧ s.startUnits.pfm.bladeLimit = s.pfm.bladeLimit ∧
    s.startUnits.pfm.strikeFor = s.pfm.strikeFor ∧ s.startUnits.pfm.strikeCeiling = s.pfm.strikeCeiling ∧
    s.startUnits.pfm.stepTarget = s.pfm.stepTarget ∧ s.startUnits.pfm.strike = s.pfm.strike ∧
    s.startUnits.pfm.depths = s.pfm.depths ∧ s.startUnits.hsu.pressure = s.hsu.pressure ∧
    s.startUnits.hsu.pressureReading = s.hsu.pressureReading ∧ s.startUnits.hsu.permit = s.hsu.permit ∧
    s.startUnits.exu.b = s.exu.b ∧ s.startUnits.exu.belt = s.exu.belt ∧ s.startUnits.exu.cycle = s.exu.cycle ∧
    s.startUnits.exu.limit = s.exu.limit ∧ s.startUnits.exu.cutSerial = s.exu.cutSerial ∧
    s.startUnits.exu.cut = s.exu.cut ∧ s.startUnits.exu.divert = s.exu.divert ∧ s.startUnits.sgv.gov = s.sgv.gov ∧
    s.startUnits.sgv.intent = s.sgv.intent ∧ s.startUnits.sgv.stops = s.sgv.stops ∧
    s.startUnits.sgv.trips = s.sgv.trips ∧ s.startUnits.sgv.stopPending = s.sgv.stopPending ∧
    s.startUnits.sgv.flatRef = s.sgv.flatRef ∧ s.startUnits.sgv.beltRef = s.sgv.beltRef ∧
    s.startUnits.sgv.ceiling = s.sgv.ceiling ∧ s.startUnits.sgv.standstill = s.sgv.standstill ∧
    s.startUnits.sgv.standWindow = s.sgv.standWindow := by
  unfold State.startUnits
  (repeat' split) <;> simp

@[simp] theorem State.closeWindow_frame (s : State) :
    s.closeWindow.pending = s.pending ∧ s.closeWindow.freeIdx = s.freeIdx ∧ s.closeWindow.inputs = s.inputs ∧
    s.closeWindow.rst.patterns = s.rst.patterns ∧ s.closeWindow.rst.pool = s.rst.pool ∧
    s.closeWindow.rst.classes = s.rst.classes ∧ s.closeWindow.rst.rolls = s.rst.rolls ∧
    s.closeWindow.rst.lots = s.rst.lots ∧ s.closeWindow.rst.order = s.rst.order ∧
    s.closeWindow.rst.panels = s.rst.panels ∧ s.closeWindow.rst.panelSerial = s.rst.panelSerial ∧
    s.closeWindow.lnk = s.lnk ∧ s.closeWindow.fsu = s.fsu ∧ s.closeWindow.ltr = s.ltr ∧ s.closeWindow.pfm = s.pfm ∧
    s.closeWindow.hsu = s.hsu ∧ s.closeWindow.exu = s.exu ∧ s.closeWindow.sgv = s.sgv := by
  simp [State.closeWindow]

@[simp] theorem State.startLine_frame (s : State) :
    s.startLine.pending = s.pending ∧ s.startLine.inputs = s.inputs ∧ s.startLine.fsu.w = s.fsu.w ∧
    s.startLine.fsu.web = s.fsu.web ∧ s.startLine.fsu.surfA = s.fsu.surfA ∧ s.startLine.fsu.surfB = s.fsu.surfB ∧
    s.startLine.fsu.extend = s.fsu.extend ∧ s.startLine.fsu.knife = s.fsu.knife ∧
    s.startLine.fsu.dancer = s.fsu.dancer ∧ s.startLine.fsu.dancerWindow = s.fsu.dancerWindow ∧
    s.startLine.pfm.cycle = s.pfm.cycle ∧ s.startLine.pfm.bladeLimit = s.pfm.bladeLimit ∧
    s.startLine.pfm.strikeFor = s.pfm.strikeFor ∧ s.startLine.pfm.stepTarget = s.pfm.stepTarget ∧
    s.startLine.pfm.strike = s.pfm.strike ∧ s.startLine.pfm.depths = s.pfm.depths ∧
    s.startLine.hsu.pressure = s.hsu.pressure ∧ s.startLine.hsu.pressureReading = s.hsu.pressureReading ∧
    s.startLine.hsu.permit = s.hsu.permit ∧ s.startLine.exu.b = s.exu.b ∧ s.startLine.exu.belt = s.exu.belt ∧
    s.startLine.exu.cycle = s.exu.cycle ∧ s.startLine.exu.limit = s.exu.limit ∧
    s.startLine.exu.cutSerial = s.exu.cutSerial ∧ s.startLine.exu.cut = s.exu.cut ∧
    s.startLine.exu.divert = s.exu.divert ∧ s.startLine.sgv.stops = s.sgv.stops ∧
    s.startLine.sgv.trips = s.sgv.trips ∧ s.startLine.sgv.stopPending = s.sgv.stopPending ∧
    s.startLine.sgv.standstill = s.sgv.standstill ∧ s.startLine.sgv.standWindow = s.sgv.standWindow := by
  simp [State.startLine]

@[simp] theorem State.tryStart_frame (s : State) :
    s.tryStart.1.pending = s.pending ∧ s.tryStart.1.inputs = s.inputs ∧ s.tryStart.1.fsu.w = s.fsu.w ∧
    s.tryStart.1.fsu.web = s.fsu.web ∧ s.tryStart.1.fsu.surfA = s.fsu.surfA ∧ s.tryStart.1.fsu.surfB = s.fsu.surfB ∧
    s.tryStart.1.fsu.extend = s.fsu.extend ∧ s.tryStart.1.fsu.knife = s.fsu.knife ∧
    s.tryStart.1.fsu.dancer = s.fsu.dancer ∧ s.tryStart.1.fsu.dancerWindow = s.fsu.dancerWindow ∧
    s.tryStart.1.pfm.cycle = s.pfm.cycle ∧ s.tryStart.1.pfm.bladeLimit = s.pfm.bladeLimit ∧
    s.tryStart.1.pfm.strikeFor = s.pfm.strikeFor ∧ s.tryStart.1.pfm.stepTarget = s.pfm.stepTarget ∧
    s.tryStart.1.pfm.strike = s.pfm.strike ∧ s.tryStart.1.pfm.depths = s.pfm.depths ∧
    s.tryStart.1.hsu.pressure = s.hsu.pressure ∧ s.tryStart.1.hsu.pressureReading = s.hsu.pressureReading ∧
    s.tryStart.1.hsu.permit = s.hsu.permit ∧ s.tryStart.1.exu.b = s.exu.b ∧ s.tryStart.1.exu.belt = s.exu.belt ∧
    s.tryStart.1.exu.cycle = s.exu.cycle ∧ s.tryStart.1.exu.limit = s.exu.limit ∧
    s.tryStart.1.exu.cutSerial = s.exu.cutSerial ∧ s.tryStart.1.exu.cut = s.exu.cut ∧
    s.tryStart.1.exu.divert = s.exu.divert ∧ s.tryStart.1.sgv.stops = s.sgv.stops ∧
    s.tryStart.1.sgv.trips = s.sgv.trips ∧ s.tryStart.1.sgv.stopPending = s.sgv.stopPending ∧
    s.tryStart.1.sgv.standstill = s.sgv.standstill ∧ s.tryStart.1.sgv.standWindow = s.sgv.standWindow := by
  unfold State.tryStart
  (repeat' split) <;> simp

@[simp] theorem State.resetTrip_frame (s : State) :
    s.resetTrip.1.pending = s.pending ∧ s.resetTrip.1.inputs = s.inputs ∧
    s.resetTrip.1.rst.panelSerial = s.rst.panelSerial ∧ s.resetTrip.1.rst.line = s.rst.line ∧
    s.resetTrip.1.fsu.w = s.fsu.w ∧ s.resetTrip.1.fsu.web = s.fsu.web ∧ s.resetTrip.1.fsu.surfA = s.fsu.surfA ∧
    s.resetTrip.1.fsu.surfB = s.fsu.surfB ∧ s.resetTrip.1.fsu.phase = s.fsu.phase ∧
    s.resetTrip.1.fsu.outcome = s.fsu.outcome ∧ s.resetTrip.1.fsu.incoming = s.fsu.incoming ∧
    s.resetTrip.1.fsu.outgoing = s.fsu.outgoing ∧ s.resetTrip.1.fsu.limit = s.fsu.limit ∧
    s.resetTrip.1.fsu.matchCount = s.fsu.matchCount ∧ s.resetTrip.1.fsu.extend = s.fsu.extend ∧
    s.resetTrip.1.fsu.knife = s.fsu.knife ∧ s.resetTrip.1.fsu.lossWatch = s.fsu.lossWatch ∧
    s.resetTrip.1.fsu.dancer = s.fsu.dancer ∧ s.resetTrip.1.fsu.dancerWindow = s.fsu.dancerWindow ∧
    s.resetTrip.1.ltr.classChange = s.ltr.classChange ∧ s.resetTrip.1.ltr.starved = s.ltr.starved ∧
    s.resetTrip.1.pfm.forming = s.pfm.forming ∧ s.resetTrip.1.pfm.nextStart = s.pfm.nextStart ∧
    s.resetTrip.1.pfm.nextStrike = s.pfm.nextStrike ∧ s.resetTrip.1.pfm.cycle = s.pfm.cycle ∧
    s.resetTrip.1.pfm.bladeLimit = s.pfm.bladeLimit ∧ s.resetTrip.1.pfm.strikeFor = s.pfm.strikeFor ∧
    s.resetTrip.1.pfm.nextWaste = s.pfm.nextWaste ∧ s.resetTrip.1.pfm.strike = s.pfm.strike ∧
    s.resetTrip.1.pfm.depths = s.pfm.depths ∧ s.resetTrip.1.hsu.pressure = s.hsu.pressure ∧
    s.resetTrip.1.hsu.pressureReading = s.hsu.pressureReading ∧ s.resetTrip.1.hsu.permit = s.hsu.permit ∧
    s.resetTrip.1.exu = s.exu ∧ s.resetTrip.1.sgv.stops = s.sgv.stops ∧ s.resetTrip.1.sgv.trips = s.sgv.trips ∧
    s.resetTrip.1.sgv.stopPending = s.sgv.stopPending ∧ s.resetTrip.1.sgv.standstill = s.sgv.standstill ∧
    s.resetTrip.1.sgv.standWindow = s.sgv.standWindow := by
  unfold State.resetTrip
  (repeat' split) <;> simp

@[simp] theorem State.firstStepPanel_frame (s : State) :
    s.firstStepPanel.pending = s.pending ∧ s.firstStepPanel.inputs = s.inputs ∧
    s.firstStepPanel.rst.rolls = s.rst.rolls ∧ s.firstStepPanel.rst.line = s.rst.line ∧ s.firstStepPanel.fsu = s.fsu ∧
    s.firstStepPanel.ltr = s.ltr ∧ s.firstStepPanel.pfm.cycle = s.pfm.cycle ∧
    s.firstStepPanel.pfm.bladeLimit = s.pfm.bladeLimit ∧ s.firstStepPanel.pfm.strikeFor = s.pfm.strikeFor ∧
    s.firstStepPanel.pfm.strikeCeiling = s.pfm.strikeCeiling ∧ s.firstStepPanel.pfm.stepTarget = s.pfm.stepTarget ∧
    s.firstStepPanel.pfm.strike = s.pfm.strike ∧ s.firstStepPanel.pfm.depths = s.pfm.depths ∧
    s.firstStepPanel.hsu.pressure = s.hsu.pressure ∧ s.firstStepPanel.hsu.pressureReading = s.hsu.pressureReading ∧
    s.firstStepPanel.hsu.permit = s.hsu.permit ∧ s.firstStepPanel.exu.b = s.exu.b ∧
    s.firstStepPanel.exu.belt = s.exu.belt ∧ s.firstStepPanel.exu.cycle = s.exu.cycle ∧
    s.firstStepPanel.exu.limit = s.exu.limit ∧ s.firstStepPanel.exu.cutSerial = s.exu.cutSerial ∧
    s.firstStepPanel.exu.cut = s.exu.cut ∧ s.firstStepPanel.exu.divert = s.exu.divert ∧
    s.firstStepPanel.sgv.gov = s.sgv.gov ∧ s.firstStepPanel.sgv.intent = s.sgv.intent ∧
    s.firstStepPanel.sgv.holds = s.sgv.holds ∧ s.firstStepPanel.sgv.stops = s.sgv.stops ∧
    s.firstStepPanel.sgv.trips = s.sgv.trips ∧ s.firstStepPanel.sgv.stopPending = s.sgv.stopPending ∧
    s.firstStepPanel.sgv.flatRef = s.sgv.flatRef ∧ s.firstStepPanel.sgv.beltRef = s.sgv.beltRef ∧
    s.firstStepPanel.sgv.ceiling = s.sgv.ceiling ∧ s.firstStepPanel.sgv.standstill = s.sgv.standstill ∧
    s.firstStepPanel.sgv.standWindow = s.sgv.standWindow := by
  unfold State.firstStepPanel
  split <;> simp

@[simp] theorem State.beginStep_frame (s : State) :
    s.beginStep.pending = s.pending ∧ s.beginStep.inputs = s.inputs ∧ s.beginStep.rst.rolls = s.rst.rolls ∧
    s.beginStep.fsu.w = s.fsu.w ∧ s.beginStep.fsu.web = s.fsu.web ∧ s.beginStep.fsu.surfA = s.fsu.surfA ∧
    s.beginStep.fsu.surfB = s.fsu.surfB ∧ s.beginStep.fsu.staA = s.fsu.staA ∧ s.beginStep.fsu.staB = s.fsu.staB ∧
    s.beginStep.fsu.phase = s.fsu.phase ∧ s.beginStep.fsu.outcome = s.fsu.outcome ∧
    s.beginStep.fsu.incoming = s.fsu.incoming ∧ s.beginStep.fsu.outgoing = s.fsu.outgoing ∧
    s.beginStep.fsu.limit = s.fsu.limit ∧ s.beginStep.fsu.matchCount = s.fsu.matchCount ∧
    s.beginStep.fsu.extend = s.fsu.extend ∧ s.beginStep.fsu.knife = s.fsu.knife ∧
    s.beginStep.fsu.locked = s.fsu.locked ∧ s.beginStep.fsu.lockCount = s.fsu.lockCount ∧
    s.beginStep.fsu.lossWatch = s.fsu.lossWatch ∧ s.beginStep.fsu.dancer = s.fsu.dancer ∧
    s.beginStep.fsu.dancerWindow = s.fsu.dancerWindow ∧ s.beginStep.ltr = s.ltr ∧
    s.beginStep.pfm.cycle = s.pfm.cycle ∧ s.beginStep.pfm.bladeLimit = s.pfm.bladeLimit ∧
    s.beginStep.pfm.strikeFor = s.pfm.strikeFor ∧ s.beginStep.pfm.strike = s.pfm.strike ∧
    s.beginStep.pfm.depths = s.pfm.depths ∧ s.beginStep.hsu.pressure = s.hsu.pressure ∧
    s.beginStep.hsu.pressureReading = s.hsu.pressureReading ∧ s.beginStep.hsu.permit = s.hsu.permit ∧
    s.beginStep.exu.b = s.exu.b ∧ s.beginStep.exu.belt = s.exu.belt ∧ s.beginStep.exu.cycle = s.exu.cycle ∧
    s.beginStep.exu.limit = s.exu.limit ∧ s.beginStep.exu.cutSerial = s.exu.cutSerial ∧
    s.beginStep.exu.cut = s.exu.cut ∧ s.beginStep.exu.divert = s.exu.divert ∧ s.beginStep.sgv.intent = s.sgv.intent ∧
    s.beginStep.sgv.stops = s.sgv.stops ∧ s.beginStep.sgv.trips = s.sgv.trips ∧
    s.beginStep.sgv.stopPending = s.sgv.stopPending ∧ s.beginStep.sgv.standstill = s.sgv.standstill ∧
    s.beginStep.sgv.standWindow = s.sgv.standWindow := by
  simp [State.beginStep]

@[simp] theorem State.tryStep_frame (s : State) :
    s.tryStep.1.pending = s.pending ∧ s.tryStep.1.inputs = s.inputs ∧ s.tryStep.1.rst.rolls = s.rst.rolls ∧
    s.tryStep.1.fsu.w = s.fsu.w ∧ s.tryStep.1.fsu.web = s.fsu.web ∧ s.tryStep.1.fsu.surfA = s.fsu.surfA ∧
    s.tryStep.1.fsu.surfB = s.fsu.surfB ∧ s.tryStep.1.fsu.staA = s.fsu.staA ∧ s.tryStep.1.fsu.staB = s.fsu.staB ∧
    s.tryStep.1.fsu.phase = s.fsu.phase ∧ s.tryStep.1.fsu.outcome = s.fsu.outcome ∧
    s.tryStep.1.fsu.incoming = s.fsu.incoming ∧ s.tryStep.1.fsu.outgoing = s.fsu.outgoing ∧
    s.tryStep.1.fsu.limit = s.fsu.limit ∧ s.tryStep.1.fsu.matchCount = s.fsu.matchCount ∧
    s.tryStep.1.fsu.extend = s.fsu.extend ∧ s.tryStep.1.fsu.knife = s.fsu.knife ∧
    s.tryStep.1.fsu.locked = s.fsu.locked ∧ s.tryStep.1.fsu.lockCount = s.fsu.lockCount ∧
    s.tryStep.1.fsu.lossWatch = s.fsu.lossWatch ∧ s.tryStep.1.fsu.dancer = s.fsu.dancer ∧
    s.tryStep.1.fsu.dancerWindow = s.fsu.dancerWindow ∧ s.tryStep.1.ltr = s.ltr ∧
    s.tryStep.1.pfm.cycle = s.pfm.cycle ∧ s.tryStep.1.pfm.bladeLimit = s.pfm.bladeLimit ∧
    s.tryStep.1.pfm.strikeFor = s.pfm.strikeFor ∧ s.tryStep.1.pfm.strike = s.pfm.strike ∧
    s.tryStep.1.pfm.depths = s.pfm.depths ∧ s.tryStep.1.hsu.pressure = s.hsu.pressure ∧
    s.tryStep.1.hsu.pressureReading = s.hsu.pressureReading ∧ s.tryStep.1.hsu.permit = s.hsu.permit ∧
    s.tryStep.1.exu.b = s.exu.b ∧ s.tryStep.1.exu.belt = s.exu.belt ∧ s.tryStep.1.exu.cycle = s.exu.cycle ∧
    s.tryStep.1.exu.limit = s.exu.limit ∧ s.tryStep.1.exu.cutSerial = s.exu.cutSerial ∧
    s.tryStep.1.exu.cut = s.exu.cut ∧ s.tryStep.1.exu.divert = s.exu.divert ∧ s.tryStep.1.sgv.intent = s.sgv.intent ∧
    s.tryStep.1.sgv.stops = s.sgv.stops ∧ s.tryStep.1.sgv.trips = s.sgv.trips ∧
    s.tryStep.1.sgv.stopPending = s.sgv.stopPending ∧ s.tryStep.1.sgv.standstill = s.sgv.standstill ∧
    s.tryStep.1.sgv.standWindow = s.sgv.standWindow := by
  unfold State.tryStep
  (repeat' split) <;> simp

@[simp] theorem State.splice_frame (s : State) :
    s.splice.1.pending = s.pending ∧ s.splice.1.freeIdx = s.freeIdx ∧ s.splice.1.inputs = s.inputs ∧
    s.splice.1.rst = s.rst ∧ s.splice.1.lnk = s.lnk ∧ s.splice.1.fsu.w = s.fsu.w ∧ s.splice.1.fsu.web = s.fsu.web ∧
    s.splice.1.fsu.surfA = s.fsu.surfA ∧ s.splice.1.fsu.surfB = s.fsu.surfB ∧ s.splice.1.fsu.extend = s.fsu.extend ∧
    s.splice.1.fsu.knife = s.fsu.knife ∧ s.splice.1.fsu.locked = s.fsu.locked ∧
    s.splice.1.fsu.lockCount = s.fsu.lockCount ∧ s.splice.1.fsu.lossWatch = s.fsu.lossWatch ∧
    s.splice.1.fsu.dancer = s.fsu.dancer ∧ s.splice.1.fsu.dancerWindow = s.fsu.dancerWindow ∧
    s.splice.1.ltr.segment = s.ltr.segment ∧ s.splice.1.ltr.pendingJoint = s.ltr.pendingJoint ∧
    s.splice.1.ltr.starved = s.ltr.starved ∧ s.splice.1.pfm.forming = s.pfm.forming ∧
    s.splice.1.pfm.nextStart = s.pfm.nextStart ∧ s.splice.1.pfm.nextStrike = s.pfm.nextStrike ∧
    s.splice.1.pfm.cycle = s.pfm.cycle ∧ s.splice.1.pfm.bladeLimit = s.pfm.bladeLimit ∧
    s.splice.1.pfm.strikeFor = s.pfm.strikeFor ∧ s.splice.1.pfm.nextWaste = s.pfm.nextWaste ∧
    s.splice.1.pfm.stepTarget = s.pfm.stepTarget ∧ s.splice.1.pfm.strike = s.pfm.strike ∧
    s.splice.1.pfm.depths = s.pfm.depths ∧ s.splice.1.hsu = s.hsu ∧ s.splice.1.exu = s.exu ∧
    s.splice.1.sgv.intent = s.sgv.intent ∧ s.splice.1.sgv.stops = s.sgv.stops ∧ s.splice.1.sgv.trips = s.sgv.trips ∧
    s.splice.1.sgv.stopPending = s.sgv.stopPending ∧ s.splice.1.sgv.standstill = s.sgv.standstill ∧
    s.splice.1.sgv.standWindow = s.sgv.standWindow ∧ s.splice.1.sgv.classSet = s.sgv.classSet := by
  unfold State.splice
  split <;> simp

@[simp] theorem State.permitHeat_frame (s : State) :
    s.permitHeat.1.pending = s.pending ∧ s.permitHeat.1.freeIdx = s.freeIdx ∧ s.permitHeat.1.inputs = s.inputs ∧
    s.permitHeat.1.rst = s.rst ∧ s.permitHeat.1.lnk = s.lnk ∧ s.permitHeat.1.fsu = s.fsu ∧
    s.permitHeat.1.ltr = s.ltr ∧ s.permitHeat.1.pfm = s.pfm ∧ s.permitHeat.1.hsu.zones = s.hsu.zones ∧
    s.permitHeat.1.hsu.pressure = s.hsu.pressure ∧ s.permitHeat.1.hsu.pressureReading = s.hsu.pressureReading ∧
    s.permitHeat.1.exu = s.exu ∧ s.permitHeat.1.sgv = s.sgv := by
  unfold State.permitHeat
  split <;> simp

@[simp] theorem State.withdrawTied_frame (s : State) (a : Alert) :
    (s.withdrawTied a).pending = s.pending ∧ (s.withdrawTied a).freeIdx = s.freeIdx ∧
    (s.withdrawTied a).inputs = s.inputs ∧ (s.withdrawTied a).rst = s.rst ∧ (s.withdrawTied a).lnk = s.lnk ∧
    (s.withdrawTied a).fsu = s.fsu ∧ (s.withdrawTied a).ltr = s.ltr ∧ (s.withdrawTied a).pfm = s.pfm ∧
    (s.withdrawTied a).hsu = s.hsu ∧ (s.withdrawTied a).exu = s.exu ∧ (s.withdrawTied a).sgv.gov = s.sgv.gov ∧
    (s.withdrawTied a).sgv.intent = s.sgv.intent ∧ (s.withdrawTied a).sgv.stopPending = s.sgv.stopPending ∧
    (s.withdrawTied a).sgv.flatRef = s.sgv.flatRef ∧ (s.withdrawTied a).sgv.beltRef = s.sgv.beltRef ∧
    (s.withdrawTied a).sgv.ceiling = s.sgv.ceiling ∧ (s.withdrawTied a).sgv.standstill = s.sgv.standstill ∧
    (s.withdrawTied a).sgv.standWindow = s.sgv.standWindow ∧ (s.withdrawTied a).sgv.classSet = s.sgv.classSet := by
  unfold State.withdrawTied
  split <;> simp

@[simp] theorem State.clearKind_frame (s : State) (a : Alert) :
    (s.clearKind a).pending = s.pending ∧ (s.clearKind a).freeIdx = s.freeIdx ∧ (s.clearKind a).inputs = s.inputs ∧
    (s.clearKind a).rst = s.rst ∧ (s.clearKind a).lnk.sup = s.lnk.sup ∧ (s.clearKind a).lnk.pen = s.lnk.pen ∧
    (s.clearKind a).fsu = s.fsu ∧ (s.clearKind a).ltr = s.ltr ∧ (s.clearKind a).pfm = s.pfm ∧
    (s.clearKind a).hsu = s.hsu ∧ (s.clearKind a).exu = s.exu ∧ (s.clearKind a).sgv.gov = s.sgv.gov ∧
    (s.clearKind a).sgv.intent = s.sgv.intent ∧ (s.clearKind a).sgv.stopPending = s.sgv.stopPending ∧
    (s.clearKind a).sgv.flatRef = s.sgv.flatRef ∧ (s.clearKind a).sgv.beltRef = s.sgv.beltRef ∧
    (s.clearKind a).sgv.ceiling = s.sgv.ceiling ∧ (s.clearKind a).sgv.standstill = s.sgv.standstill ∧
    (s.clearKind a).sgv.standWindow = s.sgv.standWindow ∧ (s.clearKind a).sgv.classSet = s.sgv.classSet := by
  unfold State.clearKind
  (repeat' split) <;> simp

@[simp] theorem State.resetRecords_frame (s : State) :
    s.resetRecords.pending = s.pending ∧ s.resetRecords.freeIdx = s.freeIdx ∧ s.resetRecords.inputs = s.inputs ∧
    s.resetRecords.rst.panelSerial = s.rst.panelSerial ∧ s.resetRecords.lnk = s.lnk ∧ s.resetRecords.fsu = s.fsu ∧
    s.resetRecords.ltr = s.ltr ∧ s.resetRecords.pfm = s.pfm ∧ s.resetRecords.hsu = s.hsu ∧
    s.resetRecords.exu = s.exu ∧ s.resetRecords.sgv = s.sgv := by
  simp [State.resetRecords]

@[simp] theorem State.resetRecords_rolls (s : State) : s.resetRecords.rst.rolls = s.rst.rolls.filter Roll.committed := by
  simp [State.resetRecords]

@[simp] theorem State.resetLink_frame (s : State) :
    s.resetLink.pending = s.pending ∧ s.resetLink.freeIdx = s.freeIdx ∧ s.resetLink.inputs = s.inputs ∧
    s.resetLink.rst = s.rst ∧ s.resetLink.fsu = s.fsu ∧ s.resetLink.ltr = s.ltr ∧ s.resetLink.pfm = s.pfm ∧
    s.resetLink.hsu = s.hsu ∧ s.resetLink.exu = s.exu ∧ s.resetLink.sgv = s.sgv := by
  simp [State.resetLink]

@[simp] theorem State.resetFeed_frame (s : State) :
    s.resetFeed.pending = s.pending ∧ s.resetFeed.freeIdx = s.freeIdx ∧ s.resetFeed.inputs = s.inputs ∧
    s.resetFeed.rst = s.rst ∧ s.resetFeed.lnk = s.lnk ∧ s.resetFeed.fsu.w = s.fsu.w ∧
    s.resetFeed.fsu.web = s.fsu.web ∧ s.resetFeed.fsu.surfA = s.fsu.surfA ∧ s.resetFeed.fsu.surfB = s.fsu.surfB ∧
    s.resetFeed.fsu.staA = s.fsu.staA ∧ s.resetFeed.fsu.staB = s.fsu.staB ∧ s.resetFeed.fsu.phase = s.fsu.phase ∧
    s.resetFeed.fsu.outcome = s.fsu.outcome ∧ s.resetFeed.fsu.incoming = s.fsu.incoming ∧
    s.resetFeed.fsu.outgoing = s.fsu.outgoing ∧ s.resetFeed.fsu.limit = s.fsu.limit ∧
    s.resetFeed.fsu.matchCount = s.fsu.matchCount ∧ s.resetFeed.fsu.extend = s.fsu.extend ∧
    s.resetFeed.fsu.knife = s.fsu.knife ∧ s.resetFeed.fsu.dancer = s.fsu.dancer ∧
    s.resetFeed.fsu.dancerWindow = s.fsu.dancerWindow ∧ s.resetFeed.fsu.webBreak = s.fsu.webBreak ∧
    s.resetFeed.pfm = s.pfm ∧ s.resetFeed.hsu = s.hsu ∧ s.resetFeed.exu = s.exu ∧ s.resetFeed.sgv = s.sgv := by
  simp [State.resetFeed]

@[simp] theorem State.resetFormer_frame (s : State) :
    s.resetFormer.pending = s.pending ∧ s.resetFormer.freeIdx = s.freeIdx ∧ s.resetFormer.inputs = s.inputs ∧
    s.resetFormer.rst = s.rst ∧ s.resetFormer.lnk = s.lnk ∧ s.resetFormer.fsu = s.fsu ∧ s.resetFormer.ltr = s.ltr ∧
    s.resetFormer.pfm.nextWaste = s.pfm.nextWaste ∧ s.resetFormer.hsu = s.hsu ∧ s.resetFormer.exu = s.exu ∧
    s.resetFormer.sgv = s.sgv := by
  simp [State.resetFormer]

@[simp] theorem State.resetHeat_frame (s : State) :
    s.resetHeat.pending = s.pending ∧ s.resetHeat.freeIdx = s.freeIdx ∧ s.resetHeat.inputs = s.inputs ∧
    s.resetHeat.rst = s.rst ∧ s.resetHeat.lnk = s.lnk ∧ s.resetHeat.fsu = s.fsu ∧ s.resetHeat.ltr = s.ltr ∧
    s.resetHeat.pfm = s.pfm ∧ s.resetHeat.hsu.pressure = s.hsu.pressure ∧
    s.resetHeat.hsu.pressureReading = s.hsu.pressureReading ∧ s.resetHeat.exu = s.exu ∧
    s.resetHeat.sgv.gov = s.sgv.gov ∧ s.resetHeat.sgv.intent = s.sgv.intent ∧ s.resetHeat.sgv.holds = s.sgv.holds ∧
    s.resetHeat.sgv.stops = s.sgv.stops ∧ s.resetHeat.sgv.trips = s.sgv.trips ∧
    s.resetHeat.sgv.stopPending = s.sgv.stopPending ∧ s.resetHeat.sgv.flatRef = s.sgv.flatRef ∧
    s.resetHeat.sgv.beltRef = s.sgv.beltRef ∧ s.resetHeat.sgv.ceiling = s.sgv.ceiling ∧
    s.resetHeat.sgv.standstill = s.sgv.standstill ∧ s.resetHeat.sgv.standWindow = s.sgv.standWindow := by
  simp [State.resetHeat]

@[simp] theorem State.resetExit_frame (s : State) :
    s.resetExit.pending = s.pending ∧ s.resetExit.freeIdx = s.freeIdx ∧ s.resetExit.inputs = s.inputs ∧
    s.resetExit.rst = s.rst ∧ s.resetExit.lnk = s.lnk ∧ s.resetExit.fsu = s.fsu ∧ s.resetExit.ltr = s.ltr ∧
    s.resetExit.pfm = s.pfm ∧ s.resetExit.hsu = s.hsu ∧ s.resetExit.exu.b = s.exu.b ∧
    s.resetExit.exu.belt = s.exu.belt ∧ s.resetExit.sgv = s.sgv := by
  simp [State.resetExit]

@[simp] theorem State.resetGovernor_frame (s : State) :
    s.resetGovernor.pending = s.pending ∧ s.resetGovernor.freeIdx = s.freeIdx ∧ s.resetGovernor.inputs = s.inputs ∧
    s.resetGovernor.rst = s.rst ∧ s.resetGovernor.fsu = s.fsu ∧ s.resetGovernor.ltr = s.ltr ∧
    s.resetGovernor.pfm = s.pfm ∧ s.resetGovernor.hsu = s.hsu ∧ s.resetGovernor.exu = s.exu ∧
    s.resetGovernor.sgv.flatRef = s.sgv.flatRef ∧ s.resetGovernor.sgv.beltRef = s.sgv.beltRef ∧
    s.resetGovernor.sgv.ceiling = s.sgv.ceiling ∧ s.resetGovernor.sgv.standstill = s.sgv.standstill ∧
    s.resetGovernor.sgv.standWindow = s.sgv.standWindow := by
  unfold State.resetGovernor
  dsimp only
  (repeat' split) <;> simp

@[simp] theorem State.resetLine_frame (s : State) :
    s.resetLine.pending = s.pending ∧ s.resetLine.inputs = s.inputs ∧
    s.resetLine.rst.panelSerial = s.rst.panelSerial ∧ s.resetLine.fsu.w = s.fsu.w ∧ s.resetLine.fsu.web = s.fsu.web ∧
    s.resetLine.fsu.surfA = s.fsu.surfA ∧ s.resetLine.fsu.surfB = s.fsu.surfB ∧ s.resetLine.fsu.phase = s.fsu.phase ∧
    s.resetLine.fsu.outcome = s.fsu.outcome ∧ s.resetLine.fsu.incoming = s.fsu.incoming ∧
    s.resetLine.fsu.outgoing = s.fsu.outgoing ∧ s.resetLine.fsu.limit = s.fsu.limit ∧
    s.resetLine.fsu.matchCount = s.fsu.matchCount ∧ s.resetLine.fsu.extend = s.fsu.extend ∧
    s.resetLine.fsu.knife = s.fsu.knife ∧ s.resetLine.fsu.dancer = s.fsu.dancer ∧
    s.resetLine.fsu.dancerWindow = s.fsu.dancerWindow ∧ s.resetLine.pfm.nextWaste = s.pfm.nextWaste ∧
    s.resetLine.hsu.pressure = s.hsu.pressure ∧ s.resetLine.hsu.pressureReading = s.hsu.pressureReading ∧
    s.resetLine.fsu.staA = s.fsu.staA ∧ s.resetLine.fsu.staB = s.fsu.staB ∧
    s.resetLine.rst.rolls = s.rst.rolls.filter Roll.committed ∧
    s.resetLine.exu.b = s.exu.b ∧ s.resetLine.exu.belt = s.exu.belt ∧ s.resetLine.sgv.standstill = s.sgv.standstill ∧
    s.resetLine.sgv.standWindow = s.sgv.standWindow := by
  simp [State.resetLine]

@[simp] theorem State.lineReset_frame (s : State) :
    s.lineReset.1.pending = s.pending ∧ s.lineReset.1.inputs = s.inputs ∧
    s.lineReset.1.rst.panelSerial = s.rst.panelSerial ∧ s.lineReset.1.fsu.w = s.fsu.w ∧
    s.lineReset.1.fsu.web = s.fsu.web ∧ s.lineReset.1.fsu.surfA = s.fsu.surfA ∧
    s.lineReset.1.fsu.surfB = s.fsu.surfB ∧ s.lineReset.1.fsu.phase = s.fsu.phase ∧
    s.lineReset.1.fsu.outcome = s.fsu.outcome ∧ s.lineReset.1.fsu.incoming = s.fsu.incoming ∧
    s.lineReset.1.fsu.outgoing = s.fsu.outgoing ∧ s.lineReset.1.fsu.limit = s.fsu.limit ∧
    s.lineReset.1.fsu.matchCount = s.fsu.matchCount ∧ s.lineReset.1.fsu.extend = s.fsu.extend ∧
    s.lineReset.1.fsu.knife = s.fsu.knife ∧ s.lineReset.1.fsu.dancer = s.fsu.dancer ∧
    s.lineReset.1.fsu.dancerWindow = s.fsu.dancerWindow ∧ s.lineReset.1.pfm.nextWaste = s.pfm.nextWaste ∧
    s.lineReset.1.hsu.pressure = s.hsu.pressure ∧ s.lineReset.1.hsu.pressureReading = s.hsu.pressureReading ∧
    s.lineReset.1.fsu.staA = s.fsu.staA ∧ s.lineReset.1.fsu.staB = s.fsu.staB ∧
    s.lineReset.1.exu.b = s.exu.b ∧ s.lineReset.1.exu.belt = s.exu.belt ∧
    s.lineReset.1.sgv.standstill = s.sgv.standstill ∧ s.lineReset.1.sgv.standWindow = s.sgv.standWindow := by
  unfold State.lineReset
  split <;> simp

@[simp] theorem answerUnknown_frame (s : State) :
    (answerUnknown s).1.pending = s.pending ∧ (answerUnknown s).1.freeIdx = s.freeIdx ∧
    (answerUnknown s).1.inputs = s.inputs ∧ (answerUnknown s).1.rst = s.rst ∧ (answerUnknown s).1.lnk = s.lnk ∧
    (answerUnknown s).1.fsu = s.fsu ∧ (answerUnknown s).1.ltr = s.ltr ∧ (answerUnknown s).1.pfm = s.pfm ∧
    (answerUnknown s).1.hsu = s.hsu ∧ (answerUnknown s).1.exu = s.exu ∧ (answerUnknown s).1.sgv = s.sgv := by
  simp [answerUnknown]

@[simp] theorem State.setReceiver_frame (s : State) (p : Port) (v : Receiver) :
    (s.setReceiver p v).pending = s.pending ∧ (s.setReceiver p v).freeIdx = s.freeIdx ∧
    (s.setReceiver p v).inputs = s.inputs ∧ (s.setReceiver p v).rst = s.rst ∧
    (s.setReceiver p v).lnk.alerts = s.lnk.alerts ∧ (s.setReceiver p v).fsu = s.fsu ∧
    (s.setReceiver p v).ltr = s.ltr ∧ (s.setReceiver p v).pfm = s.pfm ∧ (s.setReceiver p v).hsu = s.hsu ∧
    (s.setReceiver p v).exu = s.exu ∧ (s.setReceiver p v).sgv = s.sgv := by
  simp [State.setReceiver]

@[simp] theorem State.restartInactivity_frame (s : State) (p : Port) :
    (s.restartInactivity p).pending = s.pending ∧ (s.restartInactivity p).freeIdx = s.freeIdx ∧
    (s.restartInactivity p).inputs = s.inputs ∧ (s.restartInactivity p).rst = s.rst ∧
    (s.restartInactivity p).lnk.alerts = s.lnk.alerts ∧ (s.restartInactivity p).fsu = s.fsu ∧
    (s.restartInactivity p).ltr = s.ltr ∧ (s.restartInactivity p).pfm = s.pfm ∧ (s.restartInactivity p).hsu = s.hsu ∧
    (s.restartInactivity p).exu = s.exu ∧ (s.restartInactivity p).sgv = s.sgv := by
  simp [State.restartInactivity]

@[simp] theorem State.abandonFrame_frame (s : State) (p : Port) :
    (s.abandonFrame p).pending = s.pending ∧ (s.abandonFrame p).freeIdx = s.freeIdx ∧
    (s.abandonFrame p).inputs = s.inputs ∧ (s.abandonFrame p).rst = s.rst ∧
    (s.abandonFrame p).lnk.alerts = s.lnk.alerts ∧ (s.abandonFrame p).fsu = s.fsu ∧ (s.abandonFrame p).ltr = s.ltr ∧
    (s.abandonFrame p).pfm = s.pfm ∧ (s.abandonFrame p).hsu = s.hsu ∧ (s.abandonFrame p).exu = s.exu ∧
    (s.abandonFrame p).sgv = s.sgv := by
  simp [State.abandonFrame]

@[simp] theorem State.abandonIfReceiving_frame (s : State) (p : Port) :
    (s.abandonIfReceiving p).pending = s.pending ∧ (s.abandonIfReceiving p).freeIdx = s.freeIdx ∧
    (s.abandonIfReceiving p).inputs = s.inputs ∧ (s.abandonIfReceiving p).rst = s.rst ∧
    (s.abandonIfReceiving p).lnk.alerts = s.lnk.alerts ∧ (s.abandonIfReceiving p).fsu = s.fsu ∧
    (s.abandonIfReceiving p).ltr = s.ltr ∧ (s.abandonIfReceiving p).pfm = s.pfm ∧
    (s.abandonIfReceiving p).hsu = s.hsu ∧ (s.abandonIfReceiving p).exu = s.exu ∧
    (s.abandonIfReceiving p).sgv = s.sgv := by
  unfold State.abandonIfReceiving
  split <;> simp

/-! ### Commits -/

theorem State.when_cases (s : State) (c : Bool) (g : State → State) : s.when c g = s ∨ s.when c g = g s := by
  cases c
  · exact Or.inl rfl
  · exact Or.inr rfl

@[simp] theorem State.lineCommitted_frame (s : State) (old : LineRecord) (st : LineStage) :
    (s.lineCommitted old st).pending = s.pending ∧ (s.lineCommitted old st).inputs = s.inputs ∧
    (s.lineCommitted old st).pfm = s.pfm ∧ (s.lineCommitted old st).exu = s.exu ∧
    (s.lineCommitted old st).fsu.w = s.fsu.w ∧ (s.lineCommitted old st).hsu.pressure = s.hsu.pressure ∧ (s.lineCommitted old st).sgv.gov = s.sgv.gov ∧
    (s.lineCommitted old st).sgv.intent = s.sgv.intent ∧ (s.lineCommitted old st).sgv.holds = s.sgv.holds ∧
    (s.lineCommitted old st).sgv.stops = s.sgv.stops ∧ (s.lineCommitted old st).sgv.trips = s.sgv.trips ∧
    (s.lineCommitted old st).sgv.stopPending = s.sgv.stopPending := by
  unfold State.lineCommitted State.when
  dsimp only
  split_ifs <;> simp

theorem foldl_handSetpoint_frame (st : ClassStage) (c : Nat) (zs : List ZoneId) (s : State) :
    (zs.foldl (State.handSetpoint st c) s).pending = s.pending ∧
    (zs.foldl (State.handSetpoint st c) s).freeIdx = s.freeIdx ∧
    (zs.foldl (State.handSetpoint st c) s).inputs = s.inputs ∧ (zs.foldl (State.handSetpoint st c) s).rst = s.rst ∧
    (zs.foldl (State.handSetpoint st c) s).lnk = s.lnk ∧ (zs.foldl (State.handSetpoint st c) s).fsu = s.fsu ∧
    (zs.foldl (State.handSetpoint st c) s).ltr = s.ltr ∧ (zs.foldl (State.handSetpoint st c) s).pfm = s.pfm ∧
    (zs.foldl (State.handSetpoint st c) s).exu = s.exu ∧ (zs.foldl (State.handSetpoint st c) s).sgv = s.sgv ∧
    (zs.foldl (State.handSetpoint st c) s).hsu.pressure = s.hsu.pressure ∧
    (zs.foldl (State.handSetpoint st c) s).hsu.permit = s.hsu.permit := by
  induction zs generalizing s with
  | nil => simp
  | cons z zs ih => simp [ih]

theorem State.commit_frame {s t : State} {p : Port} {key : Nat} {st : Staging} (h : s.commit p key st = .ok t) :
    t.pending = s.pending ∧ t.inputs = s.inputs ∧ t.exu = s.exu ∧ t.fsu.w = s.fsu.w ∧
    t.hsu.pressure = s.hsu.pressure := by
  unfold State.commit at h
  split at h
  · unfold State.commitPattern at h
    (repeat' split at h) <;> cases h <;> simp
  · unfold State.commitClass at h
    (repeat' split at h) <;> cases h
    simp [foldl_handSetpoint_frame]
  · unfold State.commitRoll at h
    (repeat' split at h) <;> cases h
    simp
  · unfold State.commitLot at h
    (repeat' split at h) <;> cases h
    simp
  · unfold State.commitPanel at h
    (repeat' split at h) <;> cases h
    simp
  · unfold State.commitLine at h
    (repeat' split at h) <;> cases h
    simp

theorem State.closeSlot_frame {s t : State} {p : Port} (h : s.closeSlot p = .ok t) :
    t.pending = s.pending ∧ t.inputs = s.inputs ∧ t.exu = s.exu ∧ t.fsu.w = s.fsu.w ∧
    t.hsu.pressure = s.hsu.pressure := by
  unfold State.closeSlot at h
  split at h
  · split at h
    · cases h
      simp
    · split at h
      · cases h
      · rename_i s1 hc
        cases h
        have := State.commit_frame hc
        simp [this]
  · cases h
    simp
  · cases h
    simp
  · cases h
    simp

@[simp] theorem State.close_frame (s : State) (p : Port) :
    (s.close p).1.pending = s.pending ∧ (s.close p).1.inputs = s.inputs ∧ (s.close p).1.exu = s.exu ∧
    (s.close p).1.fsu.w = s.fsu.w ∧ (s.close p).1.hsu.pressure = s.hsu.pressure := by
  unfold State.close
  split
  · simp
  · simp
  · simp
  · split
    · simp
    · rename_i hc
      have := State.closeSlot_frame hc
      simp [this]

@[simp] theorem State.next_frame (s : State) (p : Port) :
    (s.next p).1.pending = s.pending ∧ (s.next p).1.inputs = s.inputs ∧ (s.next p).1.exu = s.exu ∧
    (s.next p).1.fsu.w = s.fsu.w ∧ (s.next p).1.hsu.pressure = s.hsu.pressure := by
  unfold State.next
  split
  · simp
  · simp
  · simp
  · split
    · simp
    · rename_i hc
      have := State.closeSlot_frame hc
      simp [this]

/-! ### The checks of a line command -/

theorem bare_of_ne (b : Byte) (bs : List Byte) (s : State) (g : State × Reply) :
    bare (b :: bs) s g = (s, say .outOfRange) := rfl

@[simp] theorem bare_nil (s : State) (g : State × Reply) : bare [] s g = g := rfl

theorem motion_admitted {p : Port} {s : State} (g : State × Reply) (h : s.keyAdmits p = true) : motion p [] s g = g := by
  simp [motion, bare, h]

theorem motion_refused {p : Port} {s : State} (g : State × Reply) (h : s.keyAdmits p = false) :
    motion p [] s g = (s, say .keyPosition) := by
  simp [motion, bare, h, refuse]

theorem supervisorOnly_sup (s : State) (g : State × Reply) : supervisorOnly .sup [] s g = g := rfl

theorem supervisorOnly_pen (s : State) (g : State × Reply) : supervisorOnly .pen [] s g = (s, say .privilege) := rfl

/-! ### A request taken -/

theorem State.takeRequest_deaf {s : State} {p : Port} (answer : State → State × Reply)
    (h : (s.port p).receiver.hears = false) : s.takeRequest p answer = s := by
  simp [State.takeRequest, h]

theorem State.takeRequest_taken {s : State} {p : Port} (answer : State → State × Reply)
    (h : (s.port p).receiver.hears = true) :
    s.takeRequest p answer =
      (answer (s.restartInactivity p)).1.setReceiver p (.answering (answer (s.restartInactivity p)).2.body) := by
  simp [State.takeRequest, h]

end Sys2Proof.Machine
end

