-- ==== Sys2Proof/WellFormed.lean ====
section
/-! DEFINITION. Which command terms are arrivals the wire can bring: a request's operands fit one frame (R177), and an
UNKNOWN_COMMAND's code is no code of the part (section 11.1). -/

namespace Sys2Proof

/-- The command codes of section 11.1. -/
def commandCodes : List Nat :=
  [0x10, 0x11, 0x12, 0x13, 0x14, 0x15, 0x16, 0x17, 0x18,
   0x40, 0x41, 0x42, 0x43, 0x44, 0x45, 0x46, 0x47, 0x48, 0x49, 0x4A, 0x4B]

/-- A body is 1–250 bytes and begins with the command code (R177), so at most 249 operand bytes follow it. -/
def operandsFit (ops : List Byte) : Bool := ops.length ≤ 249

/-- The check of a command term. -/
def Instr.wellFormed : Instr → Bool
  | .resetPin => true
  | .feedCount _ => true
  | .beltCount _ => true
  | .speedRefresh _ _ => true
  | .debounceSettle _ => true
  | .senseReading _ _ _ => true
  | .dancerTimeout => true
  | .tensionLockCount => true
  | .tensionWatchCount => true
  | .matchCount => true
  | .matchLimitExpiry => true
  | .headLimitExpiry => true
  | .knifeLimitExpiry => true
  | .retractLimitExpiry => true
  | .webBreakExpiry => true
  | .bladeLimitExpiry => true
  | .cutterLimitExpiry => true
  | .doseIntervalExpiry => true
  | .zoneSettleExpiry _ => true
  | .readingStale _ => true
  | .heatPermitExpiry => true
  | .rampIntervalExpiry => true
  | .standstillExpiry => true
  | .interByteGapExpiry _ => true
  | .frameAbandoned _ _ => true
  | .responseSent _ => true
  | .inactivityExpiry _ => true
  | .unknownCommand _ code ops => operandsFit ops && !commandCodes.contains code.toNat
  | .create _ ops => operandsFit ops
  | .openRecord _ ops => operandsFit ops
  | .getField _ ops => operandsFit ops
  | .putField _ ops => operandsFit ops
  | .closeRecord _ ops => operandsFit ops
  | .nextRecord _ ops => operandsFit ops
  | .discard _ ops => operandsFit ops
  | .retire _ ops => operandsFit ops
  | .find _ ops => operandsFit ops
  | .start _ ops => operandsFit ops
  | .stop _ ops => operandsFit ops
  | .hold _ ops => operandsFit ops
  | .resume _ ops => operandsFit ops
  | .stepLine _ ops => operandsFit ops
  | .splice _ ops => operandsFit ops
  | .permit _ ops => operandsFit ops
  | .clear _ ops => operandsFit ops
  | .tripReset _ ops => operandsFit ops
  | .lineReset _ ops => operandsFit ops
  | .status _ ops => operandsFit ops
  | .ident _ ops => operandsFit ops
  | .byteReceived _ _ _ => true
  | .rawInputChange _ _ => true

end Sys2Proof
end

