-- ==== Sys2Proof/Laws/PerInstr.lean ====
section
/-! SUPPORT. A law of every command term, one lemma for each constructor of `Instr`: a well-formed command carries no more
operand bytes than a frame holds, so that the body of its request is a length byte's 1–250 bytes (R177). -/

namespace Sys2Proof

/-- The operand bytes a request row carries after its command code; none on the other rows (R202). -/
def Instr.operandBytes : Instr → List Byte
  | .resetPin => []
  | .feedCount _ => []
  | .beltCount _ => []
  | .speedRefresh _ _ => []
  | .debounceSettle _ => []
  | .senseReading _ _ _ => []
  | .dancerTimeout => []
  | .tensionLockCount => []
  | .tensionWatchCount => []
  | .matchCount => []
  | .matchLimitExpiry => []
  | .headLimitExpiry => []
  | .knifeLimitExpiry => []
  | .retractLimitExpiry => []
  | .webBreakExpiry => []
  | .bladeLimitExpiry => []
  | .cutterLimitExpiry => []
  | .doseIntervalExpiry => []
  | .zoneSettleExpiry _ => []
  | .readingStale _ => []
  | .heatPermitExpiry => []
  | .rampIntervalExpiry => []
  | .standstillExpiry => []
  | .interByteGapExpiry _ => []
  | .frameAbandoned _ _ => []
  | .responseSent _ => []
  | .inactivityExpiry _ => []
  | .unknownCommand _ _ ops => ops
  | .create _ ops => ops
  | .openRecord _ ops => ops
  | .getField _ ops => ops
  | .putField _ ops => ops
  | .closeRecord _ ops => ops
  | .nextRecord _ ops => ops
  | .discard _ ops => ops
  | .retire _ ops => ops
  | .find _ ops => ops
  | .start _ ops => ops
  | .stop _ ops => ops
  | .hold _ ops => ops
  | .resume _ ops => ops
  | .stepLine _ ops => ops
  | .splice _ ops => ops
  | .permit _ ops => ops
  | .clear _ ops => ops
  | .tripReset _ ops => ops
  | .lineReset _ ops => ops
  | .status _ ops => ops
  | .ident _ ops => ops
  | .byteReceived _ _ _ => []
  | .rawInputChange _ _ => []

/-- What is stated of every command term: with its command code it fits the 250 bytes of a body (R177). -/
def Laws.Operands.Statement (i : Instr) : Prop := i.wellFormed = true → i.operandBytes.length + 1 ≤ 250

namespace Laws.Operands

/-- The check of a request row's operands says that they fit. -/
theorem fits {ops : List Byte} (h : operandsFit ops = true) : ops.length + 1 ≤ 250 := by
  simp only [operandsFit, decide_eq_true_eq] at h
  omega

theorem resetPin : Statement .resetPin := fun _ => Nat.le_of_ble_eq_true rfl

theorem feedCount (dir : Travel) : Statement (.feedCount dir) := fun _ => Nat.le_of_ble_eq_true rfl

theorem beltCount (dir : Travel) : Statement (.beltCount dir) := fun _ => Nat.le_of_ble_eq_true rfl

theorem speedRefresh (a b : Int) : Statement (.speedRefresh a b) := fun _ => Nat.le_of_ble_eq_true rfl

theorem debounceSettle (i : Input) : Statement (.debounceSettle i) := fun _ => Nat.le_of_ble_eq_true rfl

theorem senseReading (k : SenseKind) (v : Int) (f : Bool) : Statement (.senseReading k v f) :=
  fun _ => Nat.le_of_ble_eq_true rfl

theorem dancerTimeout : Statement .dancerTimeout := fun _ => Nat.le_of_ble_eq_true rfl

theorem tensionLockCount : Statement .tensionLockCount := fun _ => Nat.le_of_ble_eq_true rfl

theorem tensionWatchCount : Statement .tensionWatchCount := fun _ => Nat.le_of_ble_eq_true rfl

theorem matchCount : Statement .matchCount := fun _ => Nat.le_of_ble_eq_true rfl

theorem matchLimitExpiry : Statement .matchLimitExpiry := fun _ => Nat.le_of_ble_eq_true rfl

theorem headLimitExpiry : Statement .headLimitExpiry := fun _ => Nat.le_of_ble_eq_true rfl

theorem knifeLimitExpiry : Statement .knifeLimitExpiry := fun _ => Nat.le_of_ble_eq_true rfl

theorem retractLimitExpiry : Statement .retractLimitExpiry := fun _ => Nat.le_of_ble_eq_true rfl

theorem webBreakExpiry : Statement .webBreakExpiry := fun _ => Nat.le_of_ble_eq_true rfl

theorem bladeLimitExpiry : Statement .bladeLimitExpiry := fun _ => Nat.le_of_ble_eq_true rfl

theorem cutterLimitExpiry : Statement .cutterLimitExpiry := fun _ => Nat.le_of_ble_eq_true rfl

theorem doseIntervalExpiry : Statement .doseIntervalExpiry := fun _ => Nat.le_of_ble_eq_true rfl

theorem zoneSettleExpiry (z : ZoneId) : Statement (.zoneSettleExpiry z) := fun _ => Nat.le_of_ble_eq_true rfl

theorem readingStale (z : ZoneId) : Statement (.readingStale z) := fun _ => Nat.le_of_ble_eq_true rfl

theorem heatPermitExpiry : Statement .heatPermitExpiry := fun _ => Nat.le_of_ble_eq_true rfl

theorem rampIntervalExpiry : Statement .rampIntervalExpiry := fun _ => Nat.le_of_ble_eq_true rfl

theorem standstillExpiry : Statement .standstillExpiry := fun _ => Nat.le_of_ble_eq_true rfl

theorem interByteGapExpiry (p : Port) : Statement (.interByteGapExpiry p) := fun _ => Nat.le_of_ble_eq_true rfl

theorem frameAbandoned (p : Port) (c : AbandonCause) : Statement (.frameAbandoned p c) :=
  fun _ => Nat.le_of_ble_eq_true rfl

theorem responseSent (p : Port) : Statement (.responseSent p) := fun _ => Nat.le_of_ble_eq_true rfl

theorem inactivityExpiry (p : Port) : Statement (.inactivityExpiry p) := fun _ => Nat.le_of_ble_eq_true rfl

theorem unknownCommand (p : Port) (c : Byte) (ops : List Byte) : Statement (.unknownCommand p c ops) :=
  fun h => fits (Bool.and_eq_true_iff.mp h).1

theorem create (p : Port) (ops : List Byte) : Statement (.create p ops) := fun h => fits h

theorem openRecord (p : Port) (ops : List Byte) : Statement (.openRecord p ops) := fun h => fits h

theorem getField (p : Port) (ops : List Byte) : Statement (.getField p ops) := fun h => fits h

theorem putField (p : Port) (ops : List Byte) : Statement (.putField p ops) := fun h => fits h

theorem closeRecord (p : Port) (ops : List Byte) : Statement (.closeRecord p ops) := fun h => fits h

theorem nextRecord (p : Port) (ops : List Byte) : Statement (.nextRecord p ops) := fun h => fits h

theorem discard (p : Port) (ops : List Byte) : Statement (.discard p ops) := fun h => fits h

theorem retire (p : Port) (ops : List Byte) : Statement (.retire p ops) := fun h => fits h

theorem find (p : Port) (ops : List Byte) : Statement (.find p ops) := fun h => fits h

theorem start (p : Port) (ops : List Byte) : Statement (.start p ops) := fun h => fits h

theorem stop (p : Port) (ops : List Byte) : Statement (.stop p ops) := fun h => fits h

theorem hold (p : Port) (ops : List Byte) : Statement (.hold p ops) := fun h => fits h

theorem resume (p : Port) (ops : List Byte) : Statement (.resume p ops) := fun h => fits h

theorem stepLine (p : Port) (ops : List Byte) : Statement (.stepLine p ops) := fun h => fits h

theorem splice (p : Port) (ops : List Byte) : Statement (.splice p ops) := fun h => fits h

theorem permit (p : Port) (ops : List Byte) : Statement (.permit p ops) := fun h => fits h

theorem clear (p : Port) (ops : List Byte) : Statement (.clear p ops) := fun h => fits h

theorem tripReset (p : Port) (ops : List Byte) : Statement (.tripReset p ops) := fun h => fits h

theorem lineReset (p : Port) (ops : List Byte) : Statement (.lineReset p ops) := fun h => fits h

theorem status (p : Port) (ops : List Byte) : Statement (.status p ops) := fun h => fits h

theorem ident (p : Port) (ops : List Byte) : Statement (.ident p ops) := fun h => fits h

theorem byteReceived (p : Port) (b : Byte) (f : Bool) : Statement (.byteReceived p b f) :=
  fun _ => Nat.le_of_ble_eq_true rfl

theorem rawInputChange (i : Input) (l : Bool) : Statement (.rawInputChange i l) := fun _ => Nat.le_of_ble_eq_true rfl

end Laws.Operands

end Sys2Proof
end

