-- ==== Sys2Proof/Tests/Slice0.lean ====
section
/-! SUPPORT. The model's own tests: the checks of `Instr.wellFormed`, the spec's worked examples, one small act of each
command, and for the hypotheses of each statement a state and operands that meet them (`test_<statement>_...`). -/

namespace Sys2Proof.Tests

open Sys2Proof.Machine

-- One theorem after another: the kernel evaluates each, and elaborating all of them at once takes a thread for each.
set_option Elab.async false

/-! ### Small states -/

/-- The next state of an outcome; a given state for any other outcome. -/
def nextOr (s : State) : Host.Outcome State Fault Refusal → State
  | .next t => t
  | .fault _ => s
  | .refused _ => s

/-- What a command leaves, for a command that answers a next state. -/
def after (c : Instr) (s : State) : State := nextOr s (exec c s)

/-- A settled input. -/
def pinAt (v : Bool) : Pin := { raw := v, level := some v, settle := none }

/-- An input about to rise. -/
def pinRising : Pin := { raw := true, level := some false, settle := some 10 }

/-- An input about to fall. -/
def pinFalling : Pin := { raw := false, level := some true, settle := some 10 }

/-- A configured Line record: 150 ms strikes, 30 mm/s creep, lanes 1–14, trims 2 but for 4 on lane 7. -/
def lineSet : LineRecord :=
  { LineRecord.reset with
    strikePeriod := some 150, creep := some 30, spliceSpeed := some 150, accel := some 200, permitPeriod := some 3000
    spliceReserve := some 200000, tensionBand := some 60, standby := some 1100, wasteLen := some 5000, setSpeed := 240
    laneMask := 0x3FFF#16, trims := [2, 2, 2, 2, 2, 2, 4, 2, 2, 2, 2, 2, 2, 2, 2, 2], configured := true }

/-- The four steps of the worked pattern (R9). -/
def steps4 : List Step := [⟨400, 100, .left⟩, ⟨600, 200, .left⟩, ⟨400, 100, .left⟩, ⟨600, 200, .left⟩]

/-- Pattern 6 of the worked example, its steps in block 0. -/
def pattern6 : Pattern :=
  { number := 6, state := .ready, name := blankName, style := .knife, trailer := 1200, trimRange := .normal,
    laneMask := none, stepCount := 4, refCount := 1, revision := 1, flatLen := 4400, pleatedLen := 3200, minStep := 600,
    blockMap := [0] }

/-- A DEFINED class. -/
def classAt (n temp : Nat) : FabricClass :=
  { number := n, state := .defined, name := blankName, setpoints := ⟨some temp, some temp, some temp, some temp⟩,
    maxBelt := some 400, doseMin := some 5000, doseMax := some 90000, refCount := 0, revision := 1 }

/-- A roll of class 3. -/
def rollAt (tag : Nat) (state : RollState) (x : Option Station) : Roll :=
  { tag := tag, state := state, cls := some 3, initLen := some 800000, intended := none, leaderReady := true, station := x,
    remaining := 500000, expiring := false, attemptSpent := false }

/-- Lot 40 of the worked example. -/
def lot40 : Lot :=
  { Lot.created 40 with
    state := .feeding, pattern := some 6, cls := some 3, ordered := some 10, head := some 600000, tail := some 644000
    planned := 10, started := 2 }

/-- The forming context of a panel of lot 40. -/
def contextOf (k : Nat) (start : Coord) : FormContext :=
  { key := ⟨40, k⟩, kind := .product, start := start, flatLen := 4400, pleatedLen := 3200, pattern := some 6, cls := 3,
    doseMin := 5000, doseMax := 90000, laneMask := 0x3FFF#16, trims := lineSet.trims, trimRange := some .normal
    steps := steps4, minStep := 600, nextStep := 1 }

/-- A panel of lot 40. -/
def panelOf (serial k : Nat) (head : Coord) : Panel :=
  { serial := serial, key := ⟨40, k⟩, kind := .product, pattern := some 6, cls := 3, doseMin := 5000, doseMax := 90000,
    head := head, pleatedLen := 3200, forming := true, missed := 0, joint := false, doses := ⟨6000, 0, 0, 0⟩,
    totalDose := 6000, cutFault := false, reject := false }

/-- Configured, at rest, nothing on the line; both ports hunting. -/
def idle : State :=
  { State.reset with
    inputs := { staSeated := pinAt true, stbSeated := pinAt true, staCoreNear := pinAt false, stbCoreNear := pinAt false,
                extended := pinAt false, retracted := pinAt true, knifeDone := pinAt false, home := pinAt true,
                cutHome := pinAt true, eStop := pinAt false, key := pinAt false }
    rst := { Store.reset with line := lineSet }
    lnk := { sup := { PortState.reset with receiver := .hunting }, pen := { PortState.reset with receiver := .hunting },
             alerts := 0 }
    pfm := { Pfm.reset with cycle := .idle }
    exu := { Exu.reset with cycle := .idle }
    hsu := { Hsu.reset with pressure := .normal, pressureReading := some 500 }
    sgv := { Sgv.reset with holds := 0, standstill := true, standWindow := none } }

/-- The same with records: roll 101 ACTIVE on A, roll 102 PREPARED on B and requested, pattern 6, classes 3 and 4. -/
def fed : State :=
  { idle with
    rst := { idle.rst with
      patterns := [pattern6], pool := [(0, ⟨400, 100, .left⟩), (1, ⟨600, 200, .left⟩), (2, ⟨400, 100, .left⟩), (3, ⟨600, 200, .left⟩)]
      classes := [classAt 3 1500, classAt 4 1600], rolls := [rollAt 101 .active (some .a), rollAt 102 .prepared (some .b)]
      line := { lineSet with requested := some .b } }
    fsu := { Fsu.reset with staA := .feeding, staB := .prepared } }

/-- In RUN with lot 40 feeding, its panel 3 about to start (W = 628,799, chapter 6). -/
def running : State :=
  { fed with
    rst := { fed.rst with lots := [lot40], order := [40], panels := [panelOf 0 2 296800], panelSerial := 1 }
    fsu := { fed.fsu with w := 628799, webBreak := some 250 }
    ltr := { Ltr.reset with segment := .lot 40 }
    pfm := { fed.pfm with forming := some { contextOf 2 604400 with nextStep := 5 }, nextStart := some 608800
                          strikeCeiling := some 400 }
    exu := { fed.exu with b := 300000 }
    sgv := { fed.sgv with gov := .run, intent := true, ceiling := 400, flatRef := 24000, beltRef := 17454
                          standstill := false, standWindow := some 200 } }

/-- In RUN with step 1 of panel (40, 3) about to arrive (W = 629,199, chapter 6). -/
def striking : State :=
  { running with
    rst := { running.rst with panels := [panelOf 1 3 300000], panelSerial := 2 }
    fsu := { running.fsu with w := 629199 }
    pfm := { running.pfm with forming := some (contextOf 3 608800), nextStart := some 613200, nextStrike := some (609200, 1) } }

/-! ### The checks of command terms -/

/-- 249 operand bytes fit a frame, 250 do not (R177). -/
def tooLong : List Byte := List.replicate 250 0#8

theorem test_wellFormed_accepts_249_operand_bytes :
    (Instr.create .sup (List.replicate 249 0#8)).wellFormed = true := by decide +kernel

theorem test_wellFormed_refuses_250_operand_bytes :
    ∀ p ∈ allPorts, ∀ mk ∈ ([.unknownCommand p 0xFF#8, .create p, .openRecord p, .getField p, .putField p, .closeRecord p,
        .nextRecord p, .discard p, .retire p, .find p, .start p, .stop p, .hold p, .resume p, .stepLine p, .splice p,
        .permit p, .clear p, .tripReset p, .lineReset p, .status p, .ident p] : List (List Byte → Instr)),
      (mk tooLong).wellFormed = false := by decide +kernel

theorem test_wellFormed_refuses_unknown_command_with_a_known_code :
    (Instr.unknownCommand .sup 0x40#8 []).wellFormed = false ∧ (Instr.unknownCommand .pen 0x18#8 []).wellFormed = false ∧
      (Instr.unknownCommand .sup 0x19#8 []).wellFormed = true := by decide

theorem test_no_word_spells_a_command : ∀ n w, decodeTableWord n w = none ∧ State.reset.withFetchWord n w = State.reset :=
  fun _ _ => ⟨rfl, rfl⟩

/-! ### The spec's worked examples -/

/-- R178: the CRC of "123456789". -/
theorem test_crc_of_the_nine_digits :
    crc [0x31#8, 0x32#8, 0x33#8, 0x34#8, 0x35#8, 0x36#8, 0x37#8, 0x38#8, 0x39#8] = 0x29B1#16 := by decide +kernel

/-- R7–R9: the worked pattern's lengths and strike points. -/
theorem test_geometry_of_the_worked_pattern :
    flatLength steps4 1200 = 4400 ∧ pleatedLength steps4 1200 = 3200 ∧ minConsumption steps4 = 600 ∧
      (List.range 6).map (fun k => strikePoint steps4 k) = [some 400, some 400, some 1200, some 2000, some 2800, none] := by
  decide

/-- R9: the places of the worked panel with head 500,000. -/
theorem test_places_of_the_worked_panel :
    let p := panelOf 0 1 500000
    p.inZone 511599 .z1 = false ∧ p.inZone 511600 .z1 = true ∧ p.inZone 526599 .z1 = true ∧ p.inZone 526600 .z1 = false ∧
      p.inZone 526600 .z2 = true ∧ p.inZone 541600 .z3 = true ∧ p.inZone 556600 .z4 = true ∧ p.inZone 571600 .z4 = false ∧
      p.inCooling 571600 = true ∧ p.inCooling 591600 = false ∧ p.atCutter 594999 = false ∧ p.atCutter 595000 = true ∧
      p.tailDistance 598199 < 95000 ∧ 95000 ≤ p.tailDistance 598200 ∧ p.atCutter 598200 = false := by decide +kernel

/-- R167, R169: the tables of class ceilings and belt references. -/
theorem test_class_ceilings_and_belt_references :
    let at' := fun (v f p : Nat) => ({ running with
      rst := { running.rst with classes := [{ classAt 3 1500 with maxBelt := some v }] }
      pfm := { running.pfm with forming := some { contextOf 2 0 with flatLen := f, pleatedLen := p } } } : State)
    (at' 200 15000 11000).classCeiling 3 = some 272 ∧ (at' 160 12000 8000).classCeiling 3 = some 240 ∧
      24000 * (at' 1 15000 11000).formingRatio.2 / (at' 1 15000 11000).formingRatio.1 = 17600 ∧
      3000 * (at' 1 4400 3200).formingRatio.2 / (at' 1 4400 3200).formingRatio.1 = 2181 := by decide +kernel

/-- Chapter 6: panel (40, 3) starts when W reaches 628,800. -/
theorem test_feedCount_starts_panel_3_of_lot_40 :
    let t := after (.feedCount .forward) running
    t.fsu.w = 628800 ∧ t.rst.panels.map (fun p => (p.key, p.forming, p.head)) = [(⟨40, 2⟩, false, 296800), (⟨40, 3⟩, true, 300000)] ∧
      (t.lot? 40).map (·.started) = some 3 ∧ t.pfm.nextStrike = some (609200, 1) ∧ t.pfm.nextStart = some 613200 := by
  decide +kernel

/-- Chapter 6: step 1 of panel (40, 3) is struck when W reaches 629,200 (R106). -/
theorem test_feedCount_strikes_step_1 :
    let t := after (.feedCount .forward) striking
    t.pfm.strike = true ∧ t.pfm.cycle = .stroke ∧ t.pfm.bladeLimit = some 300 ∧ t.pfm.nextStrike = some (610000, 2) ∧
      t.pfm.depths.map (Option.map (·.magnitude)) =
        List.replicate 6 (some 1010) ++ [some 1020] ++ List.replicate 7 (some 1010) ++ [none, none] := by decide +kernel

/-- Chapter 11: the PUT of a step, byte by byte, is answered OK, and with direction byte 2 OUT_OF_RANGE. -/
theorem test_frame_of_the_worked_put :
    let s := (fed.putPattern { pattern6 with number := 12, refCount := 0, state := .edit, blockMap := [] }).setSlot .sup
      (.write 12 (.pattern { stepCount := some 9 }))
    let send := fun (dir : Byte) => nextOr State.reset
      (receiveAll .sup (frameOf [0x13#8, 0x07#8, 0x09#8, 0x01#8, 0xF4#8, 0x00#8, 0x64#8, dir]) s)
    ((send 1#8).port .sup).receiver = .answering [0x00#8] ∧
      (send 1#8).slot .sup = .write 12 (.pattern { stepCount := some 9, steps := [(9, ⟨500, 100, .right⟩)] }) ∧
      ((send 2#8).port .sup).receiver = .answering [0x0D#8] := by decide +kernel

/-! ### Hypotheses of the statements: states and operands that meet them -/

/-- In TRIPPED with E_STOP asserted. -/
def estopped : State :=
  { fed with
    inputs := { fed.inputs with eStop := pinAt true }
    lnk := { fed.lnk with alerts := 1 }
    sgv := { fed.sgv with gov := .tripped, trips := 1 } }

/-- The state with a zone of its own in each mode and HEAT ON, in CREEP. -/
def heated : State :=
  { fed with
    rst := { fed.rst with line := { fed.rst.line with heat := true } }
    hsu := { fed.hsu with
      zones := ⟨{ Zone.reset with mode := .warming, target := some 1500, settle := some 5000, window := some 500 },
        { Zone.reset with mode := .settled, target := some 1500, window := some 500 },
        { Zone.reset with mode := .warming, target := some 1500 }, { Zone.reset with mode := .standby, target := some 1100 }⟩
      permit := some 3000 }
    sgv := { fed.sgv with gov := .creep, intent := true, flatRef := 3000, beltRef := 3000, holds := 0b010000#6 }
    fsu := { fed.fsu with webBreak := some 250 } }

/-- A splice in its phase, in CREEP, from A to B. -/
def splicing (ph : SplicePhase) : State :=
  { fed with
    fsu := { fed.fsu with
      phase := ph, limit := some 400, incoming := some .b, outgoing := some .a, matchCount := some 2000
      extend := ph == .press || ph == .cut, knife := ph == .cut, staB := if ph == .matching then .matching else .matched
      web := { SpeedWindow.reset with speed := 150 }, webBreak := some 250 }
    sgv := { fed.sgv with gov := .creep, intent := true, flatRef := 3000, beltRef := 3000 } }

/-- A port with an open slot. -/
def openAt (p : Port) (v : Slot) : State := fed.setSlot p v

theorem test_StepRunsFrontCommand_idle : State.reset.pending = [] ∧ step State.reset = .next State.reset := ⟨rfl, rfl⟩

theorem test_CommandsLeaveOtherUnits_hypotheses :
    (∃ t, exec .dancerTimeout idle = .next t) ∧ (∀ d, Instr.dancerTimeout ≠ .feedCount d) ∧ Instr.dancerTimeout ≠ .resetPin :=
  ⟨⟨_, rfl⟩, fun _ h => (nomatch h), fun h => (nomatch h)⟩

theorem test_GovernorLawsKept_hypotheses : GovernorLaw (striking.withPending [.feedCount .forward]) ∧
    ∃ t, step (striking.withPending [.feedCount .forward]) = .next t :=
  ⟨by unfold GovernorLaw; decide +kernel, _, rfl⟩

theorem test_GovernorLawsKept_reference_hypotheses : ReferenceLaw (heated.withPending [.feedCount .forward]) ∧
    ∃ t, step (heated.withPending [.feedCount .forward]) = .next t := by
  refine ⟨⟨by decide +kernel, by decide +kernel, by decide +kernel, ?_⟩, _, rfl⟩
  exact ⟨fun _ => ⟨30, rfl, by decide +kernel⟩, fun _ => rfl⟩

theorem test_CauseLawsKept_intent_hypotheses : IntentLaw (striking.withPending [.stop .sup []]) ∧ IntentLaw (splicing .cut) ∧
    IntentLaw { splicing .cut with sgv := { (splicing .cut).sgv with intent := false, stopPending := true } } := by
  refine ⟨⟨rfl, rfl⟩, ⟨rfl, fun h => (nomatch h)⟩, ⟨rfl, fun _ => rfl⟩⟩

theorem test_CauseLawsKept_emergencyStop_hypotheses : EmergencyStopLaw (estopped.withPending [.tripReset .sup []]) ∧
    estopped.asserted .eStop = true ∧ ∃ t, step (estopped.withPending [.tripReset .sup []]) = .next t :=
  ⟨⟨⟨rfl, rfl⟩, fun _ => by decide +kernel⟩, by decide +kernel, _, rfl⟩

theorem test_HeatLawKept_hypotheses : HeatLaw (heated.withPending [.zoneSettleExpiry .z1]) ∧
    ∃ t, step (heated.withPending [.zoneSettleExpiry .z1]) = .next t :=
  ⟨by unfold HeatLaw; decide +kernel, _, rfl⟩

theorem test_CauseLawsKept_hypotheses : CauseLaw (estopped.withPending [.webBreakExpiry]) ∧ estopped.hasTrip .eStop = true ∧
    ∃ t, step (estopped.withPending [.webBreakExpiry]) = .next t :=
  ⟨by unfold CauseLaw; decide +kernel, by decide +kernel, _, rfl⟩

theorem test_ActuatorLawKept_hypotheses :
    (∀ ph ∈ [SplicePhase.matching, .press, .cut, .retract], ActuatorLaw (splicing ph)) ∧ ActuatorLaw estopped ∧
      ActuatorLaw (after (.feedCount .forward) striking) ∧ ∃ t, step (splicing .press) = .next t :=
  ⟨by unfold ActuatorLaw; decide +kernel, by unfold ActuatorLaw; decide +kernel, by unfold ActuatorLaw; decide +kernel, _, rfl⟩

theorem test_StoreLawsKept_hypotheses : PanelLaw striking ∧ DoseLaw striking ∧ striking.rst.panels ≠ [] ∧ PoolLaw striking ∧
    striking.rst.pool ≠ [] ∧ ∃ t, step striking = .next t :=
  ⟨by unfold PanelLaw; decide +kernel, by unfold DoseLaw; decide +kernel, by decide, by unfold PoolLaw risingKeys; decide +kernel, by decide, _, rfl⟩

theorem test_ClaimLawKept_hypotheses : ClaimLaw (openAt .sup (.write 101 (.roll {}))) ∧
    (openAt .sup (.write 101 (.roll {}))).claims .sup .roll 101 = true := by
  refine ⟨⟨fun t k h => (nomatch h.2), fun p t k h => ?_, fun p => by cases p <;> rfl⟩, rfl⟩
  cases p
  · have h2 : (Table.roll == t && (101 == k)) = true := h
    obtain ⟨ht, hk⟩ := (Bool.and_eq_true _ _).mp h2
    rw [← eq_of_beq ht, ← eq_of_beq hk]; decide +kernel
  · exact nomatch h

theorem test_CeilingIsTheLeastComponent_hypotheses :
    (∃ d, Instr.feedCount .forward = .feedCount d) ∧ running.countedClasses.filterMap running.classCeiling = [550] ∧
      running.pfm.strikeCeiling = some 400 ∧ (splicing .press).spliceCeiling = some 150 :=
  ⟨⟨_, rfl⟩, by decide +kernel, rfl, rfl⟩

/-- Running on panels (40, 2), with the counts of lot 40 and of class 3 as the laws have them. -/
def lawful : State :=
  { running with rst := { running.rst with
      lots := [{ lot40 with good := 1 }], classes := [{ classAt 3 1500 with refCount := 3 }, classAt 4 1600]
      line := { running.rst.line with windowOpen := false } } }

theorem test_ReferenceCountsKept_hypotheses : TablesLaw lawful ∧ StationLaw lawful ∧ LineOrderLaw lawful ∧ CountLaw lawful ∧
    ∃ t, step (lawful.withPending [.feedCount .forward]) = .next t :=
  ⟨by unfold TablesLaw risingKeys; decide +kernel, by unfold StationLaw risingKeys; decide +kernel,
    by unfold LineOrderLaw risingKeys; decide +kernel, by unfold CountLaw TablesLaw risingKeys; refine ⟨?_, ?_, ?_, ?_, ?_⟩ <;> decide +kernel, _, rfl⟩

theorem test_StationLawKept_hypotheses : StationLaw fed ∧ StationLaw (splicing .matching) ∧ StationLaw (splicing .press) ∧
    StationLaw (after (.splice .sup []) { running with sgv := { running.sgv with gov := .creep } }) ∧
    ∃ t, step (fed.withPending [.start .sup []]) = .next t := by
  refine ⟨?_, ?_, ?_, ?_, _, rfl⟩ <;> (unfold StationLaw risingKeys; decide +kernel)

theorem test_LineOrderKept_hypotheses :
    let t := after (.feedCount .forward) lawful
    (WebExtentLaw lawful ∧ lawful.nearWeb) ∧ (LineOrderLaw t ∧ WebExtentLaw t ∧ t.nearWeb) ∧
      step (lawful.withPending [.feedCount .forward]) = .next t :=
  ⟨⟨by unfold WebExtentLaw; decide +kernel, by unfold State.nearWeb; decide +kernel⟩,
    ⟨by unfold LineOrderLaw risingKeys; decide +kernel, by unfold WebExtentLaw; decide +kernel, by unfold State.nearWeb; decide +kernel⟩,
    rfl⟩

theorem test_TallyLawKept_hypotheses : TallyLaw lawful ∧ TallyLaw (after (.feedCount .forward) lawful) ∧
    ((after (.feedCount .forward) lawful).lot? 40).map (·.started) = some 3 :=
  ⟨by unfold TallyLaw risingKeys; decide +kernel, by unfold TallyLaw risingKeys; decide +kernel, by decide +kernel⟩

/-- The laws that `TallyLawKept` rests on, and the last clause's own, before and after panel (40, 3) starts. -/
theorem test_TallyLawKept_grid_hypotheses :
    let t := after (.feedCount .forward) lawful
    CountLaw lawful ∧ PoolLaw lawful ∧ PanelGridLaw lawful ∧ lawful.nearW lawful.pfm.nextStart = true ∧ PanelGridLaw t ∧
      t.pfm.nextStart = some 613200 := by
  refine ⟨?_, by unfold PoolLaw risingKeys; decide +kernel, ⟨by decide +kernel, ?_, fun _ => ⟨by decide +kernel, by decide +kernel,
    by decide +kernel, 608800, 600000, 644000, by decide +kernel, by decide +kernel, by decide +kernel, by decide +kernel,
    by decide +kernel, ?_⟩⟩, by decide +kernel, ⟨by decide +kernel, ?_, fun _ => ⟨by decide +kernel, by decide +kernel,
    by decide +kernel, 613200, 600000, 644000, by decide +kernel, by decide +kernel, by decide +kernel, by decide +kernel,
    by decide +kernel, ?_⟩⟩, by decide +kernel⟩
  · unfold CountLaw TablesLaw risingKeys; refine ⟨?_, ?_, ?_, ?_, ?_⟩ <;> decide +kernel
  · unfold State.lengthsInRange; decide +kernel
  · intro l h
    have hl : l = { lot40 with good := 1 } := List.mem_singleton.mp h
    subst hl; exact ⟨600000, rfl, by decide +kernel, by decide +kernel⟩
  · unfold State.lengthsInRange; decide +kernel
  · intro l h
    have hl : l = { lot40 with good := 1, started := 3 } := List.mem_singleton.mp h
    subst hl; exact ⟨600000, rfl, by decide +kernel, by decide +kernel⟩

/-- R92 at the grid of lot 40: W in panel 7 not started, in a started panel, behind the head with and without panels started. -/
theorem test_keptByThreading :
    keptByThreading 628799 600000 4400 10 2 = 6 ∧ keptByThreading 628799 600000 4400 10 7 = 7 ∧
      keptByThreading 599999 600000 4400 10 0 = 0 ∧ keptByThreading 599999 600000 4400 10 2 = 2 := by decide +kernel

theorem test_CeilingIsTheLeastComponent_law_hypotheses : CeilingLaw running ∧ running.ceilingParts = [550, 400] :=
  ⟨by unfold CeilingLaw; decide +kernel, by decide +kernel⟩

/-- R112: the strike ceiling of the worked pattern, 600 counts at 150 ms, from the forming panel and from lot 40 alike. -/
theorem test_CeilingIsTheLeastComponent_strike_hypotheses :
    CountLaw lawful ∧ StrikeCeilingLaw lawful ∧ lawful.rst.line.strikePeriod = some 150 ∧
      (after (.feedCount .forward) lawful).pfm.strikeCeiling = some 400 := by
  refine ⟨?_, fun n hn => ?_, rfl, by decide +kernel⟩
  · unfold CountLaw TablesLaw risingKeys; refine ⟨?_, ?_, ?_, ?_, ?_⟩ <;> decide +kernel
  · obtain rfl : 150 = n := Option.some.inj hn
    refine ⟨fun m hm => ⟨400, rfl, ?_⟩, fun x hx => ⟨600, Or.inl ⟨_, rfl, rfl, rfl⟩, ?_⟩⟩
    · rcases hm with ⟨f, hf, _, rfl⟩ | ⟨l, hl, k, q, _, hk, hq, rfl⟩
      · obtain rfl := Option.some.inj hf; decide
      · have h : l = { lot40 with good := 1 } := List.mem_singleton.mp hl
        subst h
        obtain rfl : 6 = k := Option.some.inj hk
        obtain rfl : pattern6 = q := Option.some.inj hq
        decide
    · obtain rfl : 400 = x := Option.some.inj hx
      rfl

/-- At rest on a waste segment whose end is two counts off, the next panel start one count off the blades. -/
def quiet : State :=
  { idle with
    fsu := { idle.fsu with w := 30000 }
    ltr := { Ltr.reset with segment := .waste 0 30002 }
    pfm := { idle.pfm with nextStart := some 10002 } }

theorem test_FeedCountMovesTheWebAndChargesTheRoll_quiet_hypotheses :
    quiet.fsu.phase = .idle ∧ quiet.activeStation = none ∧ quiet.fsu.lockCount = none ∧ quiet.fsu.lossWatch = none ∧
      quiet.segmentExtent = some (0, 30002) ∧ coordDiff (Travel.forward.move quiet.fsu.w) 30002 = -1 ∧
      quiet.pfm.nextStart = some 10002 ∧ coordDiff (Travel.forward.move quiet.fsu.w) 10002 = 19999 ∧
      quiet.pfm.nextStrike = none ∧ quiet.pfm.stepTarget = none := by decide +kernel

theorem test_FeedCountMovesTheWebAndChargesTheRoll_charge_hypotheses :
    let s := { fed with rst := { fed.rst with rolls := [{ rollAt 101 .active (some .a) with remaining := 1 }] } }
    s.activeRoll? = some { rollAt 101 .active (some .a) with remaining := 1 } ∧ fed.activeRoll? = some (rollAt 101 .active (some .a)) ∧
      ((after (.feedCount .forward) s).roll? 101).map (·.remaining) = some 0 ∧
      ((after (.feedCount .reverse) s).roll? 101).map (·.remaining) = some 2 ∧
      (after (.feedCount .forward) s).hasStop .rollOut = true := by decide +kernel

/-- On waste, the next panel start about to reach the blades, 38 records in use, roll 101 ACTIVE. -/
def wasteDue : State :=
  { quiet with
    rst := { fed.rst with panels := List.replicate 38 (panelOf 0 2 0) }
    fsu := { fed.fsu with w := 30001 }, pfm := { quiet.pfm with forming := some (contextOf 2 0) } }

theorem test_PanelStarts_waste_hypotheses :
    wasteDue.pfm.nextStart = some 10002 ∧ coordDiff (wasteDue.fsu.w + 1) 10002 = 20000 ∧ wasteDue.pfm.nextStrike = none ∧
      wasteDue.webLots = [] ∧ wasteDue.segmentExtent = some (0, 30002) ∧
      (let s := { wasteDue with ltr := Ltr.reset }
       s.segmentExtent = none ∧ s.webLots = []) ∧
      wasteDue.rst.panels.length = 38 ∧ (wasteDue.activeRoll?.bind (·.cls)).bind wasteDue.class? = some (classAt 3 1500) ∧
      ({ wasteDue with fsu := quiet.fsu }.activeRoll? = none ∧ wasteDue.pfm.forming = some (contextOf 2 0)) := by decide +kernel

theorem test_PanelStarts_product_hypotheses :
    running.pfm.nextStart = some 608800 ∧ coordDiff (running.fsu.w + 1) 608800 = 20000 ∧ running.pfm.nextStrike = none ∧
      running.segmentExtent = some (600000, 644000) ∧ coordDiff (running.fsu.w + 1) 644000 < 0 ∧ running.rst.panels.length < 39 ∧
      running.webLots = [lot40] ∧ running.lot? 40 = some lot40 ∧ lot40.head = some 600000 ∧ lot40.tail = some 644000 ∧
      lot40.holds 608800 = true ∧ lot40.pattern = some 6 ∧ running.pattern? 6 = some pattern6 ∧
      lot40.started * 4400 = (coordDiff 608800 600000).toNat ∧
      (let flag := fun (j : Coord) =>
        (after (.feedCount .forward) { running with rst := { running.rst with lots := [{ lot40 with joints := [j] }] } }).rst.panels.map
          (·.joint)
       flag 608800 = [false, true] ∧ flag 613199 = [false, true] ∧ flag 613200 = [false, false] ∧ flag 608799 = [false, false]) := by
  decide +kernel

/-- 39 records: panel (40, 1), 90,000 counts past the blades at B 300,000, the oldest, and 38 of WASTE after it. -/
def fullTable : List Panel :=
  (panelOf 0 1 210000) :: ((List.range 38).map fun i => { panelOf (i + 1) (i + 2) 230000 with kind := .waste, key := ⟨0, i + 1⟩ })

/-- R139: with 39 records a PRODUCT and a WASTE start retire the oldest uncut; 38 stand and the new one makes 39. -/
theorem test_PanelStarts_full_hypotheses :
    let s := { running with rst := { running.rst with panels := fullTable, panelSerial := 39 } }
    let w := { wasteDue with rst := { wasteDue.rst with panels := fullTable, panelSerial := 39 } }
    let t := after (.feedCount .forward) s
    let u := after (.feedCount .forward) w
    (fullTable.drop 1).length = 38 ∧ (fullTable.map (·.serial)).Nodup ∧ (0 + 1 < 39) ∧ s.webLots = [lot40] ∧ w.webLots = [] ∧
      lot40.holds 608800 = true ∧ t.rst.panels.length = 39 ∧ t.rst.panels.map (·.cutFault) = true :: List.replicate 38 false ∧
      (t.lot? 40).map (fun l => (l.rejected.cut, l.started)) = some (1, 3) ∧ t.hasAlert .cutOverrun = true ∧
      t.exu.last = some { key := ⟨40, 1⟩, kind := .product, verdict := .rejected .cut, toReject := true } ∧
      t.rst.panels.getLast?.map (·.key) = some ⟨40, 3⟩ ∧ u.rst.panels.length = 39 ∧
      u.rst.panels.getLast?.map (·.key) = some ⟨0, 1⟩ := by decide +kernel

/-- In RUN one count before the end of lot 40's extent, with lot 41 waiting. -/
def ending : State :=
  { running with
    rst := { running.rst with
      lots := [{ lot40 with started := 10 },
        { Lot.created 41 with state := .queued, pattern := some 6, cls := some 3, ordered := some 5, planned := 5 }]
      order := [40, 41], panels := [] }
    fsu := { running.fsu with w := 643999 }
    pfm := { running.pfm with nextStart := some 630000 } }

theorem test_SegmentEndDecides_hypotheses :
    LineOrderLaw ending ∧ ending.segmentExtent = some (600000, 644000) ∧ coordDiff (ending.fsu.w + 1) 644000 = 0 ∧
      ending.fsu.phase = .idle ∧ ending.rst.line.autoSplice = false ∧ ending.pfm.nextStart = some 630000 ∧
      coordDiff (ending.fsu.w + 1) 630000 < 20000 ∧ ending.pfm.nextStrike = none ∧ ending.ltr.pendingJoint = none :=
  ⟨by unfold LineOrderLaw risingKeys; decide +kernel, by decide +kernel⟩

theorem test_SegmentEndDecides_outcomes :
    (let t := after (.feedCount .forward) ending
     (t.lot? 40).map (·.state) = some .done ∧ t.rst.order = [41] ∧ t.ltr.segment = .lot 41 ∧
       (t.lot? 41).map (fun l => (l.state, l.head, l.tail, l.joints)) = some (.feeding, some 644000, some 666000, [])) ∧
      (let t := after (.feedCount .forward)
        { ending with rst := { ending.rst with panels := [panelOf 0 10 0] }, ltr := { ending.ltr with pendingJoint := some 644000, starved := true } }
       (t.lot? 40).map (·.state) = some .fed ∧ t.rst.order = [40, 41] ∧ (t.lot? 41).map (·.joints) = some [644000] ∧
         t.ltr.pendingJoint = none ∧ t.ltr.starved = false) ∧
      (let t := after (.feedCount .forward) { ending with ltr := { ending.ltr with classChange := true } }
       t.ltr.segment = .waste 644000 649000 ∧ t.rst.order = [41] ∧ t.hasAlert .lotStarved = false) ∧
      (let t := after (.feedCount .forward) { ending with rst := { ending.rst with lots := [{ lot40 with started := 10 }], order := [40] } }
       t.ltr.segment = .waste 644000 649000 ∧ t.hasHold .lotStarved = true ∧ t.ltr.starved = true ∧ t.sgv.gov = .creep) := by
  decide +kernel

theorem test_StrikePointArrives_hypotheses :
    striking.pfm.nextStrike = some (609200, 1) ∧ striking.pfm.forming = some (contextOf 3 608800) ∧
      coordDiff (striking.fsu.w + 1) 609200 = 20000 ∧ striking.pfm.nextStart = some 613200 ∧
      coordDiff (striking.fsu.w + 1) 613200 < 20000 ∧ (contextOf 3 608800).laneMask ≠ 0#16 ∧ striking.pfm.cycle = .idle ∧
      striking.sgv.gov ≠ .tripped ∧ (contextOf 3 608800).steps[1 - 1]? = some ⟨400, 100, .left⟩ ∧
      striking.panel? ⟨40, 3⟩ = some (panelOf 1 3 300000) ∧
      (after (.feedCount .forward) striking).pfm.strikeFor = some ⟨40, 3⟩ ∧
      (let s := { striking with pfm := { striking.pfm with cycle := .back, bladeLimit := some 300 } }
       s.pfm.cycle ≠ .idle ∧ ((after (.feedCount .forward) s).panel? ⟨40, 3⟩).map (·.missed) = some 1) := by decide +kernel

theorem test_BeltCountBringsTailsToTheCutter_quiet_hypotheses :
    let s := { striking with exu := { striking.exu with b := 300000 + 3200 + 95000 - 2 } }
    (∀ p ∈ s.rst.panels, coordDiff (Travel.forward.move s.exu.b) p.head - (p.pleatedLen : Int) < 95000) ∧
      (after (.beltCount .forward) s).exu.b = 398199 ∧ (after (.beltCount .reverse) s).exu.b = 398197 := by decide +kernel

/-- Panel (40, 3) one belt count before its tail arrives. -/
def tailDue : State := { striking with exu := { striking.exu with b := 398199 } }

theorem test_BeltCountBringsTailsToTheCutter_tail_hypotheses :
    tailDue.rst.panels.filter (fun q => decide (95000 ≤ coordDiff (tailDue.exu.b + 1) q.head - (q.pleatedLen : Int))) =
        [panelOf 1 3 300000] ∧
      tailDue.exu.cycle = .idle ∧ tailDue.sgv.gov ≠ .tripped ∧ tailDue.lot? 40 = some lot40 ∧
      tailDue.rst.panelSerial = 1 + 1 ∧ tailDue.hasSerial (1 + 1) = false ∧
      ((after (.beltCount .forward) tailDue).lot? 40).map (·.good) = some 1 ∧
      (after (.beltCount .forward) tailDue).exu.cutSerial = some 1 ∧
      (let s := { tailDue with exu := { tailDue.exu with cycle := .stroke, cut := true, limit := some 250 } }
       (after (.beltCount .forward) s).exu.pendingFault = true ∧ (after (.beltCount .forward) s).hasAlert .cutOverrun = true) := by
  decide +kernel

theorem test_BeltCountBringsTailsToTheCutter_verdict_boundaries :
    let p := panelOf 0 1 0
    p.verdict false = .good ∧ { p with totalDose := 5000 }.verdict false = .good ∧
      { p with totalDose := 4999 }.verdict false = .rejected .shortDose ∧ { p with totalDose := 90000 }.verdict false = .good ∧
      { p with totalDose := 90001 }.verdict false = .rejected .overDose ∧
      { p with missed := 1, totalDose := 0 }.verdict false = .rejected .strike ∧ p.verdict true = .rejected .cut := by decide +kernel

theorem test_SpeedRefreshReadsTheWindows_hypotheses :
    let s := { fed with fsu := { fed.fsu with staB := .rundown } }
    s.station .b = .rundown ∧ (after (.speedRefresh 0 0) s).station .b = .seated ∧
      (after (.speedRefresh 0 3) s).station .b = .rundown ∧ (after (.speedRefresh 0 6000) s).fsu.surfB.speed = 5000 := by
  decide +kernel

theorem test_InputsAreDebounced_hypotheses :
    (idle.inputs.get .home).raw = true ∧ (idle.inputs.get .home).raw ≠ false ∧ (idle.inputs.get .home).level ≠ some false ∧
      ({ idle with inputs := { idle.inputs with home := pinFalling } }.inputs.get .home).level = some true ∧
      (idle.inputs.get .home).settle = none ∧ (State.reset.inputs.get .key).settle.isSome = true ∧
      (State.reset.port .sup).receiver = .waiting ∧ (State.reset.inputs.get .key).level = none ∧
      (let s := { State.reset with inputs := { idle.inputs with key := Pin.reset true } }
       ((after (.debounceSettle .key) s).port .sup).receiver = .hunting ∧
         ((after (.debounceSettle .key) State.reset).port .sup).receiver = .waiting) := by decide +kernel

theorem test_InputsAreDebounced_first_levels :
    let first := fun (i : Input) (v : Bool) => after (.debounceSettle i) { State.reset with inputs := State.reset.inputs.set i (Pin.reset v) }
    (Pin.reset true).level = none ∧ (Pin.reset true).settle.isSome = true ∧
      (first .staSeated true).fsu.staA = .seated ∧ (first .staSeated false).fsu.staA = .empty ∧ (first .stbSeated true).fsu.staB = .seated ∧
      (first .staSeated true).attn = false ∧ (first .home true).pfm.cycle = .idle ∧ (first .home false).pfm.cycle = .away ∧
      (first .cutHome true).exu.cycle = .idle ∧ (first .cutHome false).exu.cycle = .away ∧ (first .eStop false).sgv.gov = .stopped := by
  decide +kernel

/-- Inputs with one of them set aside. -/
def withPin (s : State) (i : Input) (v : Pin) : State := { s with inputs := s.inputs.set i v }

/-- In PRESS on lot 40, RETRACTED fallen and EXTENDED about to rise. -/
def pressing : State :=
  withPin (withPin
    { running with fsu := { (splicing .press).fsu with w := 628799 }, sgv := (splicing .press).sgv } .retracted (pinAt false))
    .extended pinRising

/-- After the joint, in CUT or RETRACT: A JOINED with its roll SPENT, B FEEDING. -/
def jointed (ph : SplicePhase) : State :=
  { running with
    rst := { running.rst with rolls := [rollAt 101 .spent (some .a), rollAt 102 .active (some .b)] }
    fsu := { (splicing ph).fsu with staA := .joined, staB := .feeding }, sgv := (splicing ph).sgv }

theorem test_SpliceHeadInputs_joint_hypotheses :
    StationLaw pressing ∧ pressing.rising .extended ∧ pressing.asserted .retracted = false ∧ pressing.fsu.phase = .press ∧
      pressing.fsu.incoming = some .b ∧ pressing.boundRoll? (Station.b).other = some (rollAt 101 .active (some .a)) ∧
      pressing.boundRoll? .b = some (rollAt 102 .prepared (some .b)) :=
  ⟨by unfold StationLaw risingKeys; decide +kernel, by unfold State.rising; decide +kernel, by decide +kernel⟩

theorem test_SpliceHeadInputs_joint_outcomes :
    let at' := fun (w : Coord) => after (.debounceSettle .extended) { pressing with fsu := { pressing.fsu with w := w } }
    ((at' 628799).lot? 40).map (·.joints) = some [628799] ∧ (at' 628799).fsu.phase = .cut ∧ (at' 628799).ltr.pendingJoint = none ∧
      ((at' 600000).lot? 40).map (·.joints) = some [600000] ∧ ((at' 643999).lot? 40).map (·.joints) = some [643999] ∧
      ((at' 644000).lot? 40).map (·.joints) = some [] ∧ (at' 644000).ltr.pendingJoint = some 644000 ∧
      (at' 599999).ltr.pendingJoint = none ∧ ((at' 599999).lot? 40).map (·.joints) = some [] ∧
      (at' 628799).rst.rolls.map (fun r => (r.state, r.remaining)) = [(.spent, 500000), (.active, 800000)] := by decide +kernel

theorem test_SpliceHeadInputs_sensor_hypotheses :
    let both := fun (s : State) => withPin (withPin s .retracted (pinAt true)) .extended pinRising
    let late := withPin (withPin (jointed .retract) .extended (pinAt true)) .retracted pinRising
    (∀ s ∈ [both fed, both (splicing .press), both (jointed .cut), both (jointed .retract)], StationLaw s) ∧ StationLaw late ∧
      (both fed).rising .extended ∧ late.rising .retracted :=
  ⟨by unfold StationLaw risingKeys; decide +kernel, by unfold StationLaw risingKeys; decide +kernel, by unfold State.rising; decide +kernel,
    by unfold State.rising; decide +kernel⟩

theorem test_SpliceHeadInputs_outcomes :
    let both := fun (s : State) => after (.debounceSettle .extended) (withPin (withPin s .retracted (pinAt true)) .extended pinRising)
    let done' := after (.debounceSettle .retracted) (withPin (jointed .retract) .retracted pinRising)
    (both (splicing .press)).fsu.outcome = .abandoned ∧ (both (splicing .press)).sgv.gov = .halting ∧
      (both (jointed .cut)).fsu.phase = .cut ∧ (both (jointed .cut)).sgv.stopPending = true ∧ (both fed).hasStop .spliceSensor = true ∧
      done'.fsu.outcome = .completed ∧ done'.fsu.staA = .rundown ∧ done'.fsu.staB = .feeding ∧ (jointed .retract).fsu.outgoing = some .a ∧
      (after (.debounceSettle .extended) (withPin (jointed .cut) .extended pinFalling)).hasStop .spliceSensor = true ∧
      (after (.debounceSettle .extended) (withPin (jointed .retract) .extended pinFalling)).hasStop .spliceSensor = false := by
  decide +kernel

theorem test_StationInputs_hypotheses :
    (∀ s ∈ [fed, splicing .matching, jointed .retract], StationLaw s) ∧ (withPin fed .staSeated pinFalling).falling (Station.a).seatedPin ∧
      (withPin fed .stbSeated pinRising).rising (Station.b).seatedPin ∧ fed.boundRoll? .b = some (rollAt 102 .prepared (some .b)) ∧
      fed.activeStation = some .a ∧ fed.boundRoll? .a = some (rollAt 101 .active (some .a)) ∧
      (withPin fed .staCoreNear pinRising).rising (Station.a).coreNear ∧ (withPin fed .staCoreNear pinFalling).falling (Station.a).coreNear ∧
      (withPin fed .key pinRising).rising .key ∧ (withPin fed .key pinFalling).falling .key :=
  ⟨by unfold StationLaw risingKeys; decide +kernel, by unfold State.falling; decide +kernel, by unfold State.rising; decide +kernel,
    by decide +kernel, by decide +kernel, by decide +kernel, by unfold State.rising; decide +kernel, by unfold State.falling; decide +kernel,
    by unfold State.rising; decide +kernel, by unfold State.falling; decide +kernel⟩

theorem test_StationInputs_outcomes :
    let fall := fun (x : Station) (s : State) => after (.debounceSettle x.seatedPin) (withPin s x.seatedPin pinFalling)
    let rise := fun (rolls : List Roll) => after (.debounceSettle .stbSeated)
      (withPin { fed with rst := { fed.rst with rolls := rolls }, fsu := { fed.fsu with staB := .empty } } .stbSeated pinRising)
    let near := fun (s : State) => after (.debounceSettle .staCoreNear) (withPin s .staCoreNear pinRising)
    let auto := { running with rst := { running.rst with line := { running.rst.line with autoSplice := true } } }
    (fall .b fed).fsu.staB = .empty ∧ ((fall .b fed).roll? 102).map (fun r => (r.state, r.station, r.leaderReady)) = some (.declared, none, false) ∧
      (fall .b (splicing .matching)).fsu.outcome = .abandoned ∧ (fall .a fed).sgv.gov = .tripped ∧
      ((fall .a fed).roll? 101).map (fun r => (r.state, r.station)) = some (.spent, none) ∧
      ((fall .a (jointed .retract)).roll? 101).map (·.station) = some none ∧
      ((rise [{ rollAt 103 .declared none with intended := some .b }]).roll? 103).map (·.state) = some .mounted ∧
      (rise []).hasAlert .rollUnknown = true ∧ (near fed).hasAlert .rollLow = true ∧
      (near auto).fsu.phase = .matching ∧ (near auto).rst.line.requested = some .b := by decide +kernel

theorem test_KnifeEndsInRetract_hypotheses :
    ({ splicing .cut with inputs := { fed.inputs with knifeDone := pinRising } }.rising .knifeDone ∧ (splicing .cut).fsu.phase = .cut) ∧
      (splicing .cut).fsu.limit.isSome = true := ⟨⟨⟨rfl, rfl, rfl⟩, rfl⟩, rfl⟩

theorem test_HomeInputsMoveTheCycles_home_hypotheses : ∀ cy : Cycle,
    { fed with inputs := { fed.inputs with home := pinFalling }, pfm := { fed.pfm with cycle := cy } }.falling .home ∧
      { fed with inputs := { fed.inputs with home := pinRising }, pfm := { fed.pfm with cycle := cy } }.rising .home :=
  fun _ => ⟨⟨rfl, rfl, rfl⟩, ⟨rfl, rfl, rfl⟩⟩

theorem test_HomeInputsMoveTheCycles_cutHome_hypotheses : ∀ cy : Cycle,
    { fed with inputs := { fed.inputs with cutHome := pinFalling }, exu := { fed.exu with cycle := cy } }.falling .cutHome ∧
      { fed with inputs := { fed.inputs with cutHome := pinRising }, exu := { fed.exu with cycle := cy } }.rising .cutHome :=
  fun _ => ⟨⟨rfl, rfl, rfl⟩, ⟨rfl, rfl, rfl⟩⟩

theorem test_TripsBringTheLineToRest_eStop_hypotheses :
    (let s := { splicing .press with inputs := { fed.inputs with eStop := pinRising } }
     (s.inputs.get .eStop).settle.isSome = true ∧ (s.inputs.get .eStop).raw = true ∧ (s.inputs.get .eStop).level ≠ some true ∧
       s.sgv.gov ≠ .tripped ∧ s.fsu.phase ≠ .idle ∧ (after (.debounceSettle .eStop) s).sgv.gov = .tripped) ∧
      (Pin.reset true).settle.isSome = true ∧ (Pin.reset true).raw = true ∧ (Pin.reset true).level ≠ some true := by decide +kernel

theorem test_PressureReadingMovesThePressureState_boundaries :
    let read := fun (n : Nat) (p : PressureState) =>
      (after (.senseReading .pressure n false) { fed with hsu := { fed.hsu with pressure := p } }).hsu.pressure
    read 299 .normal = .low ∧ read 300 .low = .low ∧ read 300 .normal = .normal ∧ read 330 .low = .low ∧ read 330 .unknown = .normal ∧
      read 331 .low = .normal ∧ read 2000 .low = .normal ∧ read 2001 .low = .low ∧
      (∀ n : Nat, n ≤ 2000 → Instr.dancerTimeout ≠ .senseReading .pressure (n : Int) false) ∧ Instr.dancerTimeout ≠ .resetPin := by
  refine ⟨by decide +kernel, by decide +kernel, by decide +kernel, by decide +kernel, by decide +kernel, by decide +kernel,
    by decide +kernel, by decide +kernel, fun _ _ h => (nomatch h), fun h => (nomatch h)⟩

theorem test_ZoneReadingIsJudged_boundaries :
    (let v := fun (z : ZoneId) (n : Nat) =>
       let x := (after (.senseReading (.zone z) n false) heated).hsu.zones.get z
       (x.mode, x.settle)
     v .z1 1520 = (.warming, some 5000) ∧ v .z1 1521 = (.warming, none) ∧ v .z3 1480 = (.warming, some 5000) ∧
       v .z2 1540 = (.settled, none) ∧ v .z2 1541 = (.warming, none) ∧ v .z4 4000 = (.standby, none)) ∧
      (2000 < (2001 : Int) ∧ 1000 < (1001 : Int) ∧ 4000 < (4001 : Int) ∧ (-1 : Int) < 0 ∧
        SenseKind.zone .z1 = .zone .z1) := by decide +kernel

theorem test_TensionLockFollowsTheDancer_boundaries :
    let lock := fun (n : Nat) (l : Bool) =>
      (after (.senseReading .dancer n false) { fed with fsu := { fed.fsu with locked := l, lockCount := some 7, dancerWindow := some 50 } }).fsu
    fed.rst.line.configured = true ∧ (lock 440 true).lockCount = some 7 ∧ (lock 439 true).locked = false ∧
      (lock 439 true).lossWatch = some 0 ∧ (lock 561 false).lockCount = none ∧ (lock 560 true).locked = true ∧
      (let s := { fed with fsu := { fed.fsu with lockCount := some 3000, lossWatch := some 5 } }
       s.fsu.lockCount = some 3000 ∧ s.fsu.locked = false ∧ (after .tensionLockCount s).fsu.locked = true) ∧
      (let s := { fed with fsu := { fed.fsu with lossWatch := some 20000, dancerWindow := some 50 } }
       s.fsu.locked = false ∧ (after .tensionWatchCount s).hasHold .tension = true ∧ s.fsu.dancerWindow.isSome = true) := by
  decide +kernel

theorem test_TensionLockFollowsTheDancer_counts :
    let at' := fun (g : Governor) (locked : Bool) (n m : Option Nat) =>
      after (.feedCount .forward)
        ({ running with fsu := { running.fsu with locked := locked, lockCount := n, lossWatch := m }, sgv := { running.sgv with gov := g } })
    (at' .run false (some 2999) (some 5)).fsu.locked = true ∧ (at' .run false (some 2999) (some 5)).fsu.lossWatch = none ∧
      (at' .run false (some 2998) (some 5)).fsu.locked = false ∧ (at' .run false (some 2998) (some 5)).fsu.lossWatch = some 6 ∧
      (at' .creep false none (some 5)).fsu.lossWatch = some 5 ∧
      (at' .run false none (some 19999)).hasHold .tension = true ∧ (at' .run false none (some 19999)).sgv.gov = .creep ∧
      (at' .run false none (some 19998)).hasHold .tension = false ∧ (at' .run true (some 3000) none).fsu.locked = true ∧
      (at' .run false (some 2999) (some 19999)).hasHold .tension = false := by decide +kernel

theorem test_MatchCountPressesTheHead_counts :
    let at' := fun (v : StationState) (n : Option Nat) (speed : Int) =>
      after (.feedCount .forward)
        ({ splicing .matching with fsu := { (splicing .matching).fsu with staB := v, matchCount := n, web := { SpeedWindow.reset with speed := speed } } })
    (splicing .matching).activeRoll? = some (rollAt 101 .active (some .a)) ∧ (at' .matching (some 1999) 150).fsu.staB = .matched ∧
      (at' .matching (some 1999) 150).fsu.phase = .press ∧ (at' .matching (some 1999) 151).fsu.phase = .matching ∧
      (at' .matching (some 1999) 151).fsu.staB = .matched ∧ (at' .matching (some 1998) 150).fsu.staB = .matching ∧
      (at' .matched (some 2000) 150).fsu.phase = .press := by decide +kernel

theorem test_MatchCountPressesTheHead_band :
    let at' := fun (v : StationState) (n : Option Nat) (web surf : Int) =>
      after (.speedRefresh 0 surf)
        ({ splicing .matching with fsu := { (splicing .matching).fsu with
             staB := v, matchCount := n, web := { SpeedWindow.reset with cur := web }, surfB := SpeedWindow.reset } })
    (at' .matching none 100 101).fsu.matchCount = some 0 ∧ (at' .matching (some 7) 100 99).fsu.matchCount = some 7 ∧
      (at' .matching (some 7) 100 102).fsu.matchCount = none ∧ (at' .matched (some 2000) 100 98).fsu.staB = .matching ∧
      (at' .matched (some 2000) 100 101).fsu.phase = .press ∧ (at' .matched (some 2000) 200 202).fsu.phase = .matching ∧
      (at' .matched (some 2000) 200 202).fsu.staB = .matched := by decide +kernel

theorem test_MatchCountPressesTheHead_boundaries :
    (splicing .matching).fsu.phase = .matching ∧ (splicing .matching).fsu.incoming = some .b ∧
      (splicing .matching).fsu.matchCount = some 2000 ∧ (splicing .matching).station .b = .matching ∧
      (after .matchCount (splicing .matching)).fsu.phase = .press ∧
      (let s := splicing .matching
       (after .matchCount { s with fsu := { s.fsu with web := { SpeedWindow.reset with speed := 151 } } }).fsu.phase = .matching) := by
  decide +kernel

theorem test_SpliceLimitsEndTheSplice_hypotheses :
    (splicing .matching).fsu.limit.isSome = true ∧ (splicing .press).fsu.phase = .press ∧
      (splicing .press).rst.line.autoSplice = false ∧ (splicing .press).fsu.incoming = some .b ∧
      (splicing .press).station .b = .matched ∧ (splicing .retract).fsu.phase = .retract ∧ (splicing .retract).running = true ∧
      (let s := { splicing .press with sgv := { (splicing .press).sgv with stopPending := true, intent := false } }
       (after .headLimitExpiry s).sgv.gov = .halting) := by decide +kernel

theorem test_TripsBringTheLineToRest_webBreak_hypotheses :
    running.fsu.webBreak.isSome = true ∧ running.sgv.gov ≠ .tripped ∧ (splicing .press).fsu.phase ≠ .idle ∧
      (splicing .press).fsu.webBreak.isSome = true ∧ (after .webBreakExpiry running).sgv.gov = .tripped := by decide +kernel

/-- R111, R151: what a trip by E_STOP leaves of the two cycles. -/
theorem test_TripsBringTheLineToRest_eStop_cycles :
    let at' := fun (c : Cycle) =>
      let t := after (.debounceSettle .eStop)
        { striking with
          inputs := { fed.inputs with eStop := pinRising }, pfm := { striking.pfm with cycle := c }, exu := { striking.exu with cycle := c } }
      (t.pfm.cycle, t.exu.cycle)
    [at' .idle, at' .stroke, at' .back, at' .away] = [(.idle, .idle), (.idle, .idle), (.away, .away), (.away, .away)] := by decide +kernel

theorem test_TripsBringTheLineToRest_intent_hypotheses :
    let s := { estopped with inputs := { fed.inputs with eStop := pinRising }, fsu := { fed.fsu with webBreak := some 250 } }
    IntentLaw s ∧ s.sgv.gov = .tripped ∧ (after (.debounceSettle .eStop) s).sgv.intent = false ∧
      (after .webBreakExpiry s).sgv.stopPending = false := ⟨⟨rfl, rfl⟩, by decide +kernel⟩

theorem test_ActuatorLimitsAreJams_hypotheses :
    (let s := { striking with
       rst := { striking.rst with panels := [{ panelOf 1 3 300000 with missed := 14 }] }
       pfm := { striking.pfm with cycle := .back, bladeLimit := some 300, strikeFor := some ⟨40, 3⟩ } }
     s.pfm.bladeLimit.isSome = true ∧ s.pfm.cycle = .back ∧ s.panel? ⟨40, 3⟩ = some { panelOf 1 3 300000 with missed := 14 } ∧
       (after .bladeLimitExpiry s).hasHold .strikeSaturated = true) ∧
      (let s := { tailDue with exu := { tailDue.exu with cycle := .stroke, cut := true, limit := some 250, cutSerial := some 1 } }
       s.exu.limit.isSome = true ∧ s.exu.cycle = .stroke ∧ s.exu.cutSerial = some 1 ∧
         (after .cutterLimitExpiry s).exu.pendingFault = true ∧ (after .cutterLimitExpiry s).sgv.gov = .halting) := by decide +kernel

/-- R127, R128: a panel in zone 1 takes the reading less 950, up to the dose's limit. -/
theorem test_DoseIntervalAddsDoses :
    let at' := fun (n d : Nat) => ({ heated with
      rst := { heated.rst with panels := [{ panelOf 0 1 0 with doses := ⟨d, 0, 0, 0⟩, totalDose := d }] }
      hsu := { heated.hsu with zones := heated.hsu.zones.map fun _ v => { v with fresh := true, reading := some n } }
      exu := { heated.exu with b := 11600 } } : State)
    let dose := fun (n d : Nat) => ((after .doseIntervalExpiry (at' n d)).rst.panels.map (·.totalDose))
    dose 1300 100 = [450] ∧ dose 950 100 = [100] ∧ dose 900 100 = [100] ∧ dose 1300 999999900 = [999999999] ∧
      (after .doseIntervalExpiry (at' 1300 0)).sgv.classSet = [3] := by decide +kernel

/-- R117, R118: a panel of class 4 whose midpoint lies 9,999 counts past the blades is the next panel of zone 1, at 10,000 its lead
panel; with no panel it is the ACTIVE roll's class 3, and with no roll the zones keep what they have. -/
theorem test_DoseIntervalAddsDoses_targets :
    let at' := fun (b : Coord) => ({ heated with
      rst := { heated.rst with panels := [{ panelOf 0 1 0 with cls := 4 }, { panelOf 1 2 4000 with cls := 3 }] }
      exu := { heated.exu with b := b } } : State)
    let bare := { heated with fsu := { heated.fsu with staA := .empty } }
    (at' 11599).targets .z1 4 ∧ (at' 11600).targets .z1 4 ∧ heated.targets .z1 3 ∧ (∀ c, ¬ bare.targets .z1 c) ∧
      ((after .doseIntervalExpiry (at' 11600)).hsu.zones.get .z1).target = some 1600 ∧
      ((after .doseIntervalExpiry (at' 11600)).hsu.zones.get .z1).settle = none ∧
      ((after .doseIntervalExpiry heated).hsu.zones.get .z1).settle = some 5000 ∧
      ((after .doseIntervalExpiry heated).hsu.zones.get .z2).targetClass = some 3 ∧
      (after .doseIntervalExpiry bare).hsu.zones.get .z1 = bare.hsu.zones.get .z1 := by
  refine ⟨Or.inr ⟨by decide +kernel, Or.inl ⟨_, ⟨[], _, rfl, by decide +kernel, by decide +kernel, by decide +kernel⟩, rfl⟩⟩,
    Or.inl ⟨_, ⟨[], _, rfl, by decide +kernel, by decide +kernel, by decide +kernel⟩, rfl⟩,
    Or.inr ⟨by decide +kernel, Or.inr ⟨by decide +kernel, rollAt 101 .active (some .a), by decide +kernel, rfl⟩⟩,
    fun c h => ?_, by decide +kernel, by decide +kernel, by decide +kernel, by decide +kernel, by decide +kernel⟩
  rcases h with ⟨q, ⟨before, after, hp, _⟩, _⟩ | ⟨_, ⟨q, ⟨before, after, hp, _⟩, _⟩ | ⟨_, r, hr, _⟩⟩
  · exact List.append_ne_nil_of_right_ne_nil before (List.cons_ne_nil q after) hp.symm
  · exact List.append_ne_nil_of_right_ne_nil before (List.cons_ne_nil q after) hp.symm
  · exact nomatch (show (none : Option Roll) = some r from hr)

theorem test_HeatTimersExpire_zone_hypotheses :
    (heated.hsu.zones.get .z1).settle.isSome = true ∧ (heated.hsu.zones.get .z1).mode = .warming ∧
      (heated.hsu.zones.get .z2).window.isSome = true ∧ heated.rst.line.heat = true ∧
      ((after (.zoneSettleExpiry .z1) heated).hsu.zones.get .z1).mode = .settled ∧
      ((after (.readingStale .z2) heated).hsu.zones.get .z2).mode = .warming := by decide +kernel

theorem test_HeatTimersExpire_permit_hypotheses : heated.hsu.permit.isSome = true ∧
    (after .heatPermitExpiry heated).rst.line.heat = false ∧ (after .heatPermitExpiry heated).sgv.gov = .halting := by decide +kernel

theorem test_GovernorTimersExpire_ramp_hypotheses :
    (let s := { splicing .matching with fsu := fed.fsu }
     s.sgv.gov = .creep ∧ s.sgv.intent = true ∧ s.sgv.holds = 0#6 ∧ s.sgv.stopPending = false ∧
       (∀ z ∈ allZones, (s.hsu.zones.get z).mode ≠ .warming) ∧ (after .rampIntervalExpiry s).sgv.gov = .run) ∧
      (running.sgv.gov = .run ∧ running.sgv.intent = true ∧ running.sgv.holds = 0#6 ∧
        (∀ z ∈ allZones, (running.hsu.zones.get z).mode ≠ .warming)) ∧ fed.sgv.gov ≠ .creep ∧ fed.sgv.gov ≠ .run := by
  decide +kernel

theorem test_GovernorTimersExpire_standstill_hypotheses :
    running.sgv.standWindow.isSome = true ∧
      (let s := fun (g : Governor) => { running with sgv := { running.sgv with gov := g }, pfm := { running.pfm with stepTarget := some (5, true) } }
       (after .standstillExpiry (s .halting)).sgv.gov = .stopped ∧ (after .standstillExpiry (s .stepping)).sgv.gov = .stopped ∧
         (s .stepping).pfm.stepTarget = some (5, true) ∧ (s .stepping).pfm.cycle = .idle) := by decide +kernel

/-! #### The wire -/

/-- The supervisor's receiver in a state of its own. -/
def hearing (r : Receiver) : State := fed.setReceiver .sup r

theorem test_ReceiverAbandonsAndAnswers_hypotheses :
    ((hearing (.receiving [2#8])).port .sup).receiver = .receiving [2#8] ∧ (fed.port .sup).receiver = .hunting ∧
      ((hearing (.answering [0#8])).port .sup).receiver = .answering [0#8] ∧ ((hearing .waiting).port .sup).receiver = .waiting ∧
      1 ≤ [0x4A#8].length ∧ [0#8, 0#8] ≠ bytesOf 2 (crc [1#8, 0x4A#8]).toNat ∧
      (after (.byteReceived .sup 0xA5#8 false) fed).port .sup = { fed.port .sup with receiver := .receiving [] } := by decide +kernel

theorem test_FramesAreTakenAsTheirRequests_boundaries :
    (fed.port .sup).receiver = .hunting ∧ (List.replicate 249 0#8 : List Byte).length ≤ 249 ∧
      ((nextOr fed (receiveAll .sup (frameOf (0x41#8 :: List.replicate 9 0#8)) fed)).port .sup).receiver = .answering [0x0D#8] ∧
      ((nextOr fed (receiveAll .sup (frameOf [0x41#8]) fed)).port .sup).receiver = .answering [0x00#8] := by decide +kernel

theorem test_InactivityEndsTheClaim_hypotheses :
    (fed.port .sup).inactivity = none ∧
      (let s := openAt .sup (.write 6 (.pattern {}))
       (s.port .sup).inactivity.isSome = true ∧ s.slot .sup = .write 6 (.pattern {}) ∧ s.neverCommitted .pattern 6 = false) ∧
      (let s := after (.create .sup (nameRecord .lot 7)) fed
       (s.port .sup).inactivity.isSome = true ∧ s.slot .sup = .write 7 (.lot {}) ∧ s.neverCommitted .lot 7 = true) := by decide +kernel

theorem test_RequestsTurnedAway_hypotheses :
    (hearing (.answering [0#8])).hears .sup = false ∧ (hearing .waiting).hears .sup = false ∧ fed.hears .sup = true ∧ fed.hears .pen = true ∧
      fed.keyAdmits .pen = false ∧ { fed with inputs := { fed.inputs with key := pinAt true } }.keyAdmits .sup = false ∧
      (fed.keyAdmits .sup = true ∧ fed.asserted .key = false) ∧ Table.lot ≠ .roll := by decide +kernel

/-! #### Line commands -/

theorem test_StartEntersCreep_hypotheses :
    fed.hears .sup = true ∧ fed.keyAdmits .sup = true ∧
      { fed with rst := Store.reset }.rst.line.configured = false ∧ fed.rst.line.configured = true ∧ running.sgv.gov = .run ∧
      running.sgv.intent = true ∧ estopped.sgv.gov ≠ .stopped ∧ fed.sgv.gov = .stopped ∧ idle.activeStation = none ∧
      (fed.addStop .rollOut).sgv.stops ≠ 0#5 ∧ fed.activeStation ≠ none ∧ fed.sgv.stops = 0#5 ∧ fed.ltr.segment = .none ∧
      quiet.ltr.segment ≠ .none ∧ (after (.start .sup []) fed).sgv.gov = .creep := by decide +kernel

/-- R103: a START with no segment opens one at W and starts a WASTE panel at W − 20,000. -/
theorem test_StartEntersCreep_first_panel :
    let s := { fed with fsu := { fed.fsu with w := 50000 } }
    let t := after (.start .sup []) s
    s.ltr.segment = .none ∧ s.webLots = [] ∧ s.rst.panels.length < 39 ∧ t.ltr.segment = .waste 50000 55000 ∧
      t.rst.panels.map (fun p => (p.key, p.kind, p.head, p.pleatedLen)) = [(⟨0, 1⟩, .waste, 0, 5000)] ∧
      t.pfm.nextStart = some 35000 := by decide +kernel

/-- R118, R120: at a START with HEAT ON the STANDBY zones take the ACTIVE roll's class, with no panel ahead of them. -/
theorem test_StartEntersCreep_targets :
    let s := { heated with sgv := fed.sgv, ltr := { Ltr.reset with segment := .waste 0 5000 } }
    let t := after (.start .sup []) s
    (s.hsu.zones.get .z4).mode = .standby ∧ t.rst.panels = [] ∧ t.activeRoll? = some (rollAt 101 .active (some .a)) ∧
      ((t.class? 3).bind fun k => k.setpoints.get .z4) = some 1500 ∧
      t.hsu.zones.get .z4 = { s.hsu.zones.get .z4 with mode := .warming, target := some 1500, targetClass := some 3, settle := none } := by
  decide +kernel

theorem test_StopHoldAndResume_stop_hypotheses :
    running.hears .sup = true ∧ (splicing .matching).fsu.phase = .matching ∧
      (splicing .matching).sgv.gov = .creep ∧ (splicing .retract).sgv.stopPending = false ∧
      (after (.stop .sup []) (splicing .matching)).sgv.gov = .halting ∧
      (after (.stop .sup []) (splicing .press)).sgv.stopPending = true ∧
      (after (.stop .sup []) { fed with sgv := { fed.sgv with gov := .stepping } }).sgv.gov = .halting := by decide +kernel

theorem test_StopHoldAndResume_hold_hypotheses :
    running.hears .sup = true ∧ running.keyAdmits .sup = true ∧ running.sgv.gov = .run ∧
      (after (.hold .sup []) running).sgv.gov = .creep ∧ (after (.resume .sup []) (running.setHold .host)).hasHold .host = false := by
  decide +kernel

theorem test_StepSetsATarget_hypotheses :
    fed.hears .sup = true ∧ fed.keyAdmits .sup = true ∧ fed.rst.line.configured = true ∧ running.sgv.gov ≠ .stopped ∧
      fed.sgv.gov = .stopped ∧ idle.activeStation = none ∧ fed.activeStation ≠ none ∧ fed.sgv.stops = 0#5 ∧ fed.sgv.trips = 0#3 ∧
      fed.pfm.cycle = .idle ∧ fed.pfm.forming = none ∧ fed.webLots = [] ∧ fed.rst.panels.length < 39 ∧
      (after (.stepLine .sup []) fed).pfm.stepTarget = some (1000, false) ∧
      (let s := { striking with sgv := fed.sgv }
       s.pfm.forming = some (contextOf 3 608800) ∧ (after (.stepLine .sup []) s).pfm.stepTarget = some (629200, false)) := by decide +kernel

/-- Running with lot 40 feeding and nothing in the way of a splice to B. -/
def ready : State := { running with sgv := { running.sgv with gov := .creep } }

theorem test_SpliceBeginsMatching_hypotheses :
    ready.hears .sup = true ∧ ready.keyAdmits .sup = true ∧ ready.running = true ∧ ready.fsu.phase = .idle ∧
      ready.rst.line.requested = some .b ∧ ready.station .b = .prepared ∧ ready.asserted .retracted = true ∧
      ready.asserted .extended = false ∧ (ready.boundRoll? .b).bind (·.cls) = some 3 ∧ ready.activeRoll?.bind (·.cls) = some 3 ∧
      ready.class? 3 = some (classAt 3 1500) ∧ ready.feedingLot? = some lot40 ∧ lot40.cls = some 3 ∧ lot40.joints.length < 4 ∧
      (after (.splice .sup []) ready).fsu.phase = .matching ∧
      (let four := { ready with rst := { ready.rst with lots := [{ lot40 with joints := [1, 2, 3, 4] }] } }
       ((after (.splice .sup []) four).port .sup).receiver = .answering [Status.notReady.code]) ∧
      (let other := { ready with rst := { ready.rst with lots := [{ lot40 with cls := some 4 }] } }
       ((after (.splice .sup []) other).port .sup).receiver = .answering [Status.classStep.code]) ∧
      ((after (.splice .sup []) fed).port .sup).receiver = .answering [Status.notReady.code] := by decide +kernel

theorem test_PermitAndClearAct_hypotheses :
    fed.hears .sup = true ∧ fed.hsu.permit = none ∧ heated.hsu.permit.isSome = true ∧ clearList [] = none ∧
      clearList [1#8, 0x12#8] = none ∧ clearList [2#8, 0x01#8, 0x11#8] = some [.eStop, .lotStarved] ∧
      (after (.clear .sup [1#8, 1#8]) estopped).hasTrip .eStop = true ∧
      (let s := { estopped with inputs := fed.inputs }
       (after (.clear .sup [1#8, 1#8]) s).hasTrip .eStop = false ∧ (after (.clear .sup [1#8, 1#8]) s).attn = false) := by decide +kernel

theorem test_TripResetReturnsToStopped_hypotheses :
    fed.sgv.gov ≠ .tripped ∧ estopped.keyAdmits .sup = true ∧ estopped.hears .sup = true ∧ estopped.sgv.gov = .tripped ∧
      estopped.asserted .eStop = true ∧
      (let s := { estopped with inputs := fed.inputs, sgv := { estopped.sgv with trips := 0#3 } }
       s.asserted .eStop = false ∧ s.sgv.trips = 0#3 ∧ s.sgv.standstill = true ∧ (after (.tripReset .sup []) s).sgv.gov = .stopped) := by
  decide +kernel

theorem test_LineResetActsOnEveryUnit_hypotheses :
    running.hears .sup = true ∧ running.sgv.gov = .run ∧ fed.sgv.gov = .stopped ∧ fed.sgv.standstill = true ∧
      estopped.sgv.gov = .tripped ∧ estopped.asserted .eStop = true ∧
      (after (.lineReset .sup []) estopped).sgv.gov = .tripped ∧
      (after (.lineReset .sup []) { estopped with inputs := fed.inputs }).sgv.gov = .stopped ∧
      (let s := { estopped with
         inputs := fed.inputs, fsu := { fed.fsu with staA := .seated }
         rst := { fed.rst with rolls := [rollAt 101 .new none, rollAt 102 .prepared (some .b)] } }
       (after (.lineReset .sup []) s).fsu.staB = .prepared ∧
         (after (.lineReset .sup []) s).rst.rolls = [rollAt 102 .prepared (some .b)]) := by decide +kernel

/-! #### Record commands -/

/-- The body a port is answering with. -/
def answer (p : Port) (t : State) : List Byte :=
  match (t.port p).receiver with
  | .answering body => body
  | .waiting => []
  | .hunting => []
  | .receiving _ => []

theorem test_StatusAndIdentAnswer :
    fed.hears .sup = true ∧ (answer .sup (after (.status .sup []) running)).length = 79 ∧
      answer .pen (after (.ident .pen [0#8]) fed) = [Status.outOfRange.code] := by decide +kernel

theorem test_CreateMakesTheRecord_boundaries :
    fed.slot .sup = .empty ∧ fed.hears .sup = true ∧ fed.pattern? 40 = none ∧ fed.class? 16 = none ∧ fed.roll? (2 ^ 32 - 1) = none ∧
      fed.rst.rolls.length < 12 ∧ fed.lot? 65535 = none ∧ fed.rst.lots.length < 32 ∧ (fed.pattern? 6).isSome = true ∧
      (fed.class? 3).isSome = true ∧ (fed.roll? 101).isSome = true ∧ (running.lot? 40).isSome = true ∧ running.slot .sup = .empty ∧
      (openAt .sup (.lost .lot 9)).slot .sup = .lost .lot 9 ∧
      (after (.create .sup (nameRecord .pattern 40)) fed).recordExists .pattern 40 = true ∧
      answer .sup (after (.create .sup (nameRecord .pattern 41)) fed) = [Status.outOfRange.code] := by decide +kernel

theorem test_OpenTakesTheRecord_hypotheses :
    fed.slot .sup = .empty ∧ fed.recordExists .cls 3 = true ∧ fed.recordExists .cls 5 = false ∧ fed.recordExists .line 0 = true ∧
      (openAt .pen (.write 101 (.roll {}))).claims (Port.sup).other .roll 101 = true ∧ fed.claims (Port.sup).other .roll 101 = false ∧
      fed.listing .lot = [] ∧ fed.listing .cls = [3, 4] ∧ (openAt .sup (.read .cls 3)).slot .sup = .read .cls 3 ∧
      answer .sup (after (.openRecord .sup (nameRecord .cls 0 ++ [0#8])) fed) = 0#8 :: nameRecord .cls 3 := by decide +kernel

theorem test_OpenTakesTheRecord_write :
    let open' := fun (t : Table) (k : Nat) (s : State) => answer .sup (after (.openRecord .sup (nameRecord t k ++ [1#8])) s)
    open' .cls 0 fed = 0#8 :: nameRecord .cls 3 ∧ open' .cls 5 fed = [Status.noSuchRecord.code] ∧ open' .lot 0 fed = [Status.end_.code] ∧
      open' .cls 0 (openAt .pen (.write 3 (.cls {}))) = [Status.held.code] ∧
      open' .cls 4 (openAt .sup (.read .cls 3)) = [Status.alreadyOpen.code] ∧
      open' .cls 4 (openAt .sup (.write 3 (.cls {}))) = [Status.alreadyOpen.code] ∧
      (after (.openRecord .sup (nameRecord .cls 0 ++ [1#8])) fed).slot .sup = .write 3 (.cls {}) := by decide +kernel

theorem test_GetReadsAndPutStages_boundaries :
    let w := openAt .sup (.write 0 (.line {}))
    fieldRow? .cls 0x7F = none ∧ (fieldRow? .cls 1).isSome = true ∧
      answer .sup (after (.getField .sup [2#8, 1#8]) (openAt .sup (.read .cls 3))) = 0#8 :: 2#8 :: 1#8 :: bytesOf 2 1500 ∧
      answer .sup (after (.getField .sup [2#8, 5#8]) (openAt .sup (.read .cls 3))) = [Status.outOfRange.code] ∧
      answer .sup (after (.getField .sup [2#8, 1#8]) (after (.responseSent .sup) (after (.create .sup (nameRecord .cls 9)) fed))) =
        [Status.wrongState.code] ∧
      (after (.putField .sup (0x10#8 :: 0#8 :: bytesOf 2 600)) w).slot .sup = .write 0 (.line { setSpeed := some 600 }) ∧
      answer .sup (after (.putField .sup (0x10#8 :: 0#8 :: bytesOf 2 601)) w) = [Status.outOfRange.code] ∧
      (fed.asserted .key = false ∧ fed.hears .pen = true) := by decide +kernel

/-- The checks of a PUT, each met by a record of one of the tables (R190, R191). -/
theorem test_GetReadsAndPutStages_checks :
    let put := fun (p : Port) (k : Nat) (st : Staging) (ops : List Byte) (s : State) =>
      answer p (after (.putField p ops) (s.setSlot p (.write k st)))
    let closed := { fed with rst := { fed.rst with line := { fed.rst.line with windowOpen := false } } }
    put .sup 6 (.pattern {}) [0x7F#8, 0#8, 1#8] fed = [Status.outOfRange.code] ∧
      put .sup 6 (.pattern {}) [0x07#8, 0#8, 1#8] fed = [Status.outOfRange.code] ∧
      put .sup 6 (.pattern {}) [0x20#8, 0#8, 1#8] fed = [Status.readOnly.code] ∧
      put .sup 102 (.roll {}) [0x22#8, 0#8, 1#8] fed = [Status.readOnly.code] ∧
      put .sup 0 (.line {}) [0x41#8, 0#8, 1#8] fed = [Status.readOnly.code] ∧
      put .sup 40 (.lot {}) [0x28#8, 0#8, 1#8] running = [Status.readOnly.code] ∧
      put .pen 102 (.roll {}) [0x01#8, 0#8, 1#8] fed = [Status.privilege.code] ∧
      put .pen 102 (.roll {}) [0x04#8, 0#8, 1#8] fed = [Status.ok.code] ∧
      put .pen 0 (.line {}) (0x10#8 :: 0#8 :: bytesOf 2 100) fed = [Status.keyPosition.code] ∧
      put .sup 0 (.line {}) [0x02#8, 0#8, 30#8] closed = [Status.fixed.code] ∧
      put .sup 0 (.line {}) [0x02#8, 0#8, 30#8] fed = [Status.ok.code] ∧
      put .sup 6 (.pattern {}) (0x03#8 :: 0#8 :: bytesOf 2 100) fed = [Status.locked.code] ∧
      put .sup 102 (.roll {}) [0x01#8, 0#8, 3#8] fed = [Status.locked.code] ∧
      put .sup 40 (.lot {}) (0x03#8 :: 0#8 :: bytesOf 2 9) running = [Status.ok.code] ∧
      put .sup 40 (.lot {}) [0x02#8, 0#8, 3#8] running = [Status.locked.code] ∧
      put .sup 3 (.cls {}) (0x04#8 :: 0#8 :: bytesOf 4 9000) lawful = [Status.locked.code] ∧
      put .sup 4 (.cls {}) (0x04#8 :: 0#8 :: bytesOf 4 9000) lawful = [Status.ok.code] := by decide +kernel

theorem test_CloseCommitsTheStagedFields_hypotheses :
    let close := fun (s : State) => after (.closeRecord .sup []) s
    (openAt .sup (.write 6 (.pattern {}))).neverCommitted .pattern 6 = false ∧
      (close ((striking.setSlot .sup (.write (PanelKey.toKey ⟨40, 3⟩) (.panel { reject := some true }))))).rst.panels.map (·.reject) = [true] ∧
      striking.panel? (panelKeyOf (PanelKey.toKey ⟨40, 3⟩)) = some (panelOf 1 3 300000) ∧
      (close (openAt .sup (.write 0 (.line { setSpeed := some 300 })))).rst.line.setSpeed = 300 ∧
      (close (openAt .sup (.write 0 (.line { setSpeed := some 300 })))).slot .sup = .empty ∧
      ((close (running.setSlot .sup (.write 40 (.lot { held := some true })))).lot? 40).map (·.held) = some true ∧
      (let s := after (.responseSent .sup) (after (.create .sup (nameRecord .lot 7)) fed)
       s.slot .sup = .write 7 (.lot {}) ∧ s.neverCommitted .lot 7 = true ∧ answer .sup (close s) = [Status.ok.code] ∧
         (close s).recordExists .lot 7 = false) ∧
      lot40.state ≠ .new ∧ lot40.pattern.isSome = true ∧ lot40.cls.isSome = true ∧ lot40.ordered.isSome = true ∧
      answer .sup (close (openAt .sup (.write 6 (.pattern { stepCount := some 1 })))) ≠ [0#8] := by decide +kernel

/-- Roll 103, seated on B, and roll 104, declared for A. -/
def mounted : State :=
  { fed with
    rst := { fed.rst with rolls := [rollAt 101 .active (some .a), { rollAt 103 .mounted (some .b) with leaderReady := false },
      { rollAt 104 .declared none with leaderReady := false, intended := some .a }, { Roll.created 105 with initLen := some 900 }] }
    fsu := { fed.fsu with staB := .seated } }

/-- The answer to a CLOSE with a staging copy, and what it leaves. -/
def closed (k : Nat) (st : Staging) (s : State) : State := after (.closeRecord .sup []) (s.setSlot .sup (.write k st))

theorem test_CloseCommitsARoll_hypotheses :
    StationLaw mounted ∧ mounted.roll? 103 = some { rollAt 103 .mounted (some .b) with leaderReady := false } ∧
      mounted.hears .sup = true ∧ (Staging.roll { leaderReady := some true }).isEmpty = false ∧
      mounted.class? 3 = some (classAt 3 1500) :=
  ⟨by unfold StationLaw risingKeys; decide +kernel, by decide +kernel⟩

theorem test_CloseCommitsARoll_outcomes :
    let reply := fun (k : Nat) (st : RollStage) (s : State) => answer .sup (closed k (.roll st) s)
    let rested := { mounted with fsu := { mounted.fsu with staA := .seated }, rst := { mounted.rst with rolls := mounted.rst.rolls.drop 1 } }
    reply 103 { cls := some 3 } mounted = [Status.locked.code] ∧ reply 104 { leaderReady := some true } mounted = [Status.wrongState.code] ∧
      reply 105 { initLen := some 800 } mounted = [Status.invalid.code, 1#8, 0#8] ∧
      reply 105 { cls := some 9 } mounted = [Status.invalid.code, 1#8, 0#8] ∧
      reply 105 { cls := some 3, intended := some (some .a) } mounted = [Status.invalid.code, 3#8, 0#8] ∧
      reply 105 { cls := some 3, intended := some (some .b) } mounted = [Status.ok.code] ∧
      ((closed 105 (.roll { cls := some 3 }) mounted).roll? 105).map (·.state) = some .declared ∧
      ((closed 103 (.roll { leaderReady := some true }) mounted).roll? 103).map (·.state) = some .prepared ∧
      StationLaw rested ∧ (closed 103 (.roll { leaderReady := some true }) rested).fsu.staB = .feeding ∧
      ((closed 102 (.roll { leaderReady := some false }) fed).roll? 102).map (·.state) = some .mounted ∧
      (closed 102 (.roll { leaderReady := some false }) (splicing .matching)).fsu.outcome = .abandoned ∧
      reply 102 { leaderReady := some false } (splicing .press) = [Status.wrongState.code] ∧
      reply 101 { leaderReady := some true } fed = [Status.wrongState.code] := by unfold StationLaw risingKeys; decide +kernel

/-- Lot 40 FEEDING and lots 41 to 43 waiting. -/
def queue : State :=
  { running with rst := { running.rst with
      lots := lot40 :: [41, 42, 43].map fun n =>
        { Lot.created n with state := .queued, pattern := some 6, cls := some 3, ordered := some 5, planned := 5 }
      order := [40, 41, 42, 43] } }

theorem test_CloseCommitsALot_hypotheses :
    LineOrderLaw queue ∧ queue.lot? 40 = some lot40 ∧ lot40.head.isSome = true ∧ queue.lotFlatLen lot40 = 4400 ∧
      queue.hears .sup = true ∧ (Staging.lot { place := some 0 }).isEmpty = false :=
  ⟨by unfold LineOrderLaw risingKeys; decide +kernel, by decide +kernel⟩

theorem test_CloseCommitsALot_outcomes :
    let reply := fun (k : Nat) (st : LotStage) => answer .sup (closed k (.lot st) queue)
    let order := fun (k : Nat) (st : LotStage) => (closed k (.lot st) queue).rst.order
    let ordered := fun (w : Coord) (n : Nat) => closed 40 (.lot { ordered := some n }) { queue with fsu := { queue.fsu with w := w } }
    let fresh := fun (w : Coord) (n : Nat) => closed 40 (.lot { ordered := some n })
      ({ queue with fsu := { queue.fsu with w := w } }.putLot { lot40 with started := 0 })
    reply 40 { place := some 0 } = [Status.locked.code] ∧ reply 41 { pattern := some 7 } = [Status.invalid.code, 1#8, 0#8] ∧
      reply 41 { cls := some 9 } = [Status.invalid.code, 2#8, 0#8] ∧ reply 41 { place := some 40 } = [Status.invalid.code, 7#8, 0#8] ∧
      order 41 { place := some 0 } = [40, 42, 43, 41] ∧ order 43 { place := some 41 } = [40, 43, 41, 42] ∧
      order 42 { place := some 42 } = [40, 41, 42, 43] ∧
      answer .sup (ordered 628799 6) = [Status.invalid.code, 3#8, 0#8] ∧ answer .sup (ordered 628799 7) = [Status.ok.code] ∧
      ((ordered 628799 7).lot? 40).map (·.tail) = some (some 630800) ∧ (ordered 630799 7).ltr.segment = .lot 40 ∧
      (ordered 630800 7).ltr.segment = .lot 41 ∧ answer .sup (fresh 600000 0) = [Status.ok.code] ∧
      answer .sup (fresh 600001 0) = [Status.invalid.code, 3#8, 0#8] ∧ answer .sup (ordered 600000 2) = [Status.ok.code] ∧
      answer .sup (ordered 600000 1) = [Status.invalid.code, 3#8, 0#8] := by decide +kernel

theorem test_CloseCommitsTheLineRecord_outcomes :
    let reply := fun (st : LineStage) (s : State) => answer .sup (closed 0 (.line st) s)
    let shut := { fed with rst := { fed.rst with line := { fed.rst.line with windowOpen := false } } }
    let bare := { fed with rst := { fed.rst with line := { LineRecord.reset with strikePeriod := some 150 } } }
    let rested := { mounted with
      fsu := { fed.fsu with staA := .empty }, inputs := { fed.inputs with staSeated := pinAt false }
      rst := { fed.rst with rolls := [rollAt 102 .prepared (some .b)], line := lineSet } }
    reply { creep := some 30 } shut = [Status.fixed.code] ∧ reply { strikePeriod := some 150 } bare = [Status.invalid.code, 2#8, 0#8] ∧
      reply { heat := some true } estopped = [Status.notReady.code] ∧ reply { heat := some true } bare = [Status.notConfigured.code] ∧
      (closed 0 (.line { creep := some 40 }) fed).rst.line.creep = some 40 ∧
      (closed 0 (.line { creep := some 40 }) fed).rst.line.windowOpen = false ∧
      (closed 0 (.line { heat := some true }) fed).hsu.permit = some 3000 ∧
      ((closed 0 (.line { heat := some true }) fed).hsu.zones.get .z1).mode = .standby ∧
      ((closed 0 (.line { heat := some true }) ({ splicing .matching with hsu := fed.hsu })).hsu.zones.get .z1).mode = .warming ∧
      (closed 0 (.line { heat := some false }) heated).hsu.permit = none ∧ StationLaw rested ∧
      (closed 0 (.line { requested := some (some .b) }) rested).fsu.staB = .feeding ∧
      (closed 0 (.line { trims := [(16, 7)] }) fed).rst.line.trims = lineSet.trims.set 15 7 := by
  unfold StationLaw risingKeys; decide +kernel

/-- The hypotheses of the two commits: class 3 with nothing naming it, a zone that targets it, and pattern 6 with a new trailer
or with its steps replaced. -/
theorem test_CommitsDefineClassesAndPatterns_hypotheses :
    fed.class? 3 = some (classAt 3 1500) ∧ (classAt 3 1500).refCount = 0 ∧
      (∀ z ∈ allZones, ((({} : ClassStage).setpoints.get z <|> (classAt 3 1500).setpoints.get z) : Option Nat).isSome = true) ∧
      (Staging.cls { maxBelt := some 300 }).isEmpty = false ∧ (Staging.pattern { trailer := some 1000 }).isEmpty = false ∧
      fed.pattern? 6 = some pattern6 ∧ PoolLaw fed ∧ (fed.stepsInView pattern6 {}).length = 4 :=
  ⟨by decide +kernel, by decide +kernel, by decide +kernel, by decide +kernel, by decide +kernel, by decide +kernel,
    by unfold PoolLaw risingKeys; decide +kernel, by decide +kernel⟩

theorem test_CommitsDefineClassesAndPatterns_outcomes :
    let free := { fed with rst := { fed.rst with patterns := [{ pattern6 with refCount := 0 }] } }
    let warm := { heated with hsu := { heated.hsu with
      zones := heated.hsu.zones.map fun _ v => { v with targetClass := some 3 } } }
    let made := fun (st : PatternStage) => (closed 6 (.pattern st) free).pattern? 6
    let temp := closed 3 (.cls { setpoints := ⟨some 1550, some 1550, none, some 1550⟩ }) warm
    (made { trailer := some 1000 }).map (fun q => (q.flatLen, q.pleatedLen, q.minStep, q.blockMap)) = some (4200, 3000, 600, [0]) ∧
      (made { stepCount := some 9, steps := (List.range 9).map fun k => (k + 1, ⟨600, 100, .left⟩) }).map (fun q => (q.stepCount, q.blockMap)) =
        some (9, [0, 1]) ∧
      answer .sup (closed 6 (.pattern { trailer := some 1000 }) fed) = [Status.locked.code] ∧
      ((closed 3 (.cls { maxBelt := some 300 }) fed).class? 3).map (fun c => (c.maxBelt, c.revision)) = some (some 300, 2) ∧
      (temp.hsu.zones.get .z1).target = some 1550 ∧ (temp.hsu.zones.get .z2).mode = .warming ∧
      temp.hsu.zones.get .z3 = warm.hsu.zones.get .z3 ∧ temp.hsu.zones.get .z4 = warm.hsu.zones.get .z4 := by decide +kernel

theorem test_NextMovesAlongTheListing_hypotheses :
    fed.listing .cls = [] ++ 3 :: 4 :: [] ∧ fed.listing .cls = [3] ++ [4] ∧ 4 ∉ [3] ∧
      (after (.nextRecord .sup []) (openAt .sup (.read .cls 3))).slot .sup = .read .cls 4 ∧
      answer .sup (after (.nextRecord .sup []) (openAt .sup (.read .cls 4))) = [Status.end_.code] ∧
      answer .sup (after (.nextRecord .sup []) (openAt .sup (.write 0 (.line {})))) = [Status.end_.code] := by decide +kernel

theorem test_NextMovesAlongTheListing_write :
    let next := fun (s : State) => after (.nextRecord .sup []) s
    let s := openAt .sup (.write 3 (.cls { maxBelt := some 300 }))
    (after (.closeRecord .sup []) s).says .sup .ok ∧ (next s).slot .sup = .write 4 (.cls {}) ∧
      ((next s).class? 3).map (·.maxBelt) = some (some 300) ∧ answer .sup (next s) = 0#8 :: nameRecord .cls 4 ∧
      answer .sup (next (openAt .sup (.write 3 (.cls { doseMin := some 90000 })))) ≠ [0#8] ∧
      (next (openAt .sup (.write 3 (.cls { doseMin := some 90000 })))).slot .sup = .write 3 (.cls { doseMin := some 90000 }) ∧
      answer .sup (next (s.setSlot .pen (.write 4 (.cls {})))) = Status.held.code :: nameRecord .cls 4 ∧
      (next (s.setSlot .pen (.write 4 (.cls {})))).slot .sup = .empty ∧
      answer .sup (next (openAt .sup (.write 4 (.cls {})))) = [Status.end_.code] := by
  refine ⟨by unfold State.says; decide +kernel, ?_⟩; decide +kernel

theorem test_DiscardDropsTheStaging_hypotheses :
    let s := after (.responseSent .sup) (after (.create .sup (nameRecord .lot 7)) fed)
    s.hears .sup = true ∧ s.slot .sup = .write 7 (.lot {}) ∧ s.neverCommitted .lot 7 = true ∧
      (after (.discard .sup []) s).recordExists .lot 7 = false ∧
      (openAt .sup (.write 3 (.cls {}))).neverCommitted .cls 3 = false ∧
      (openAt .sup (.lost .cls 3)).slot .sup = .lost .cls 3 := by decide +kernel

theorem test_RetireRemovesTheRecord_hypotheses :
    let s := { fed with rst := { fed.rst with
      rolls := [rollAt 101 .active (some .a), rollAt 103 .declared none, rollAt 104 .spent none, rollAt 105 .spent (some .b)]
      lots := [{ lot40 with state := .fed }, { lot40 with number := 41, state := .queued }, { lot40 with number := 42, state := .done }]
      patterns := [pattern6, { pattern6 with number := 7, refCount := 0 }], order := [40, 41], panels := [panelOf 0 1 0] } }
    s.hears .sup = true ∧ s.claims .sup .roll 103 = false ∧ s.claims .pen .roll 103 = false ∧
      (openAt .pen (.write 101 (.roll {}))).claims .pen .roll 101 = true ∧
      s.roll? 103 = some (rollAt 103 .declared none) ∧ s.roll? 104 = some (rollAt 104 .spent none) ∧
      s.roll? 105 = some (rollAt 105 .spent (some .b)) ∧ (after (.retire .sup (nameRecord .roll 103)) s).roll? 103 = none ∧
      (after (.retire .sup (nameRecord .lot 41)) s).rst.order = [40] ∧ (after (.retire .sup (nameRecord .lot 42)) s).lot? 42 = none ∧
      (after (.retire .sup (nameRecord .pattern 7)) s).pattern? 7 = none ∧
      ((after (.retire .sup (nameRecord .pattern 6)) s).pattern? 6).map (·.state) = some .retiring ∧
      answer .sup (after (.retire .sup (nameRecord .cls 3)) s) = [Status.inUse.code] := by decide +kernel

/-- R91 at the grid of lot 40 (head 600,000, F 4,400): W in panel 7, on its first count, behind the head; with W behind the panels started,
these are kept (log entry 37). -/
theorem test_RetireRemovesTheRecord_cancel :
    let cancel := fun (started : Nat) (w : Coord) =>
      ((after (.retire .sup (nameRecord .lot 40))
        ({ running with fsu := { running.fsu with w := w } }.putLot { lot40 with started := started })).lot? 40).map
        fun l => (l.planned, l.cancelled, l.tail)
    [cancel 2 628799, cancel 2 626400, cancel 2 626399, cancel 0 600000, cancel 0 599999, cancel 2 604399, cancel 2 599999] =
      [some (7, 3, some 630800), some (7, 3, some 630800), some (6, 4, some 626400), some (1, 9, some 604400),
        some (0, 10, some 600000), some (2, 8, some 608800), some (2, 8, some 608800)] := by decide +kernel

/-- R29, R42. -/
theorem test_RetireRemovesTheRecord_free :
    let s := { fed with rst := { fed.rst with patterns := [{ pattern6 with state := .retiring }], classes := [classAt 4 1600] } }
    answer .sup (after (.retire .sup (nameRecord .pattern 6)) s) = [Status.wrongState.code] ∧
      (after (.retire .sup (nameRecord .cls 4)) s).class? 4 = none ∧
      answer .sup (after (.retire .sup (nameRecord .cls 5)) s) = [Status.noSuchRecord.code] := by decide +kernel

theorem test_FindNamesTheRecordAtAPlace_places :
    let find := fun (place : Byte) (b : Coord) => answer .sup (after (.find .sup [place]) { running with exu := { running.exu with b := b } })
    let named := 0#8 :: nameRecord .panel (40 * 65536 + 2)
    let none' := [Status.noSuchRecord.code]
    let at' := fun (n : Nat) => (296800 + 1600 + BitVec.ofNat 40 n : Coord)
    find 4 (at' 9999) = none' ∧ find 4 (at' 10000) = named ∧ find 4 (at' 24999) = named ∧ find 4 (at' 25000) = none' ∧
      find 5 (at' 25000) = named ∧ find 6 (at' 40000) = named ∧ find 7 (at' 55000) = named ∧ find 8 (at' 70000) = named ∧
      find 8 (at' 89999) = named ∧ find 8 (at' 90000) = none' ∧ find 9 391799 = none' ∧ find 9 391800 = named ∧
      find 9 394999 = named ∧ find 9 395000 = none' := by decide +kernel

theorem test_FindNamesTheRecordAtAPlace_hypotheses :
    running.feedingLot? = some lot40 ∧ fed.feedingLot? = none ∧ running.pfm.forming.isSome = true ∧ fed.pfm.forming = none ∧
      running.panel? ⟨40, 2⟩ = some (panelOf 0 2 296800) ∧
      (let s := { running with exu := { running.exu with b := 308400 } }
       s.leadPanel .z1 = some (panelOf 0 2 296800) ∧
         answer .sup (after (.find .sup [4#8]) s) = 0#8 :: nameRecord .panel (40 * 65536 + 2)) ∧
      (let s := { running with exu := { running.exu with b := 391800 } }
       s.rst.panels = [] ++ panelOf 0 2 296800 :: [] ∧ (panelOf 0 2 296800).atCutter s.exu.b = true ∧
         answer .sup (after (.find .sup [9#8]) s) = 0#8 :: nameRecord .panel (40 * 65536 + 2)) := by decide +kernel

end Sys2Proof.Tests
end

section
/-! SUPPORT. The parts that every command but their own leaves as they stand: the queue, the inputs, W, B and the pressure state (R1, R2,
R11, R125), said once for every operation behind a request. -/

namespace Sys2Proof

/-- The commands that move W, B, an input or the pressure state. -/
def Instr.movesUnits : Instr → Bool
  | .resetPin => true
  | .feedCount _ => true
  | .beltCount _ => true
  | .debounceSettle _ => true
  | .senseReading _ _ _ => true
  | .rawInputChange _ _ => true
  | _ => false

end Sys2Proof

namespace Sys2Proof.Machine

/-- The queue, the inputs, W, B and the pressure state of one state are those of another. -/
def SharesUnits (s t : State) : Prop :=
  t.pending = s.pending ∧ t.inputs = s.inputs ∧ t.fsu.w = s.fsu.w ∧ t.exu.b = s.exu.b ∧ t.hsu.pressure = s.hsu.pressure

theorem SharesUnits.refl (s : State) : SharesUnits s s := ⟨rfl, rfl, rfl, rfl, rfl⟩

theorem SharesUnits.trans {s t u : State} (h : SharesUnits s t) (h' : SharesUnits t u) : SharesUnits s u := by
  obtain ⟨hp, hi, hw, hb, hpr⟩ := h
  obtain ⟨hp', hi', hw', hb', hpr'⟩ := h'
  exact ⟨hp'.trans hp, hi'.trans hi, hw'.trans hw, hb'.trans hb, hpr'.trans hpr⟩

theorem freshSlot_sharesUnits {s t : State} {p : Port} (h : s.freshSlot p = some t) : SharesUnits s t := by
  unfold State.freshSlot at h
  split at h <;> cases h <;> simp [SharesUnits]

/-- CREATE and OPEN act on the state that the slot check gives. -/
theorem answerCreate_sharesUnits (p : Port) (ops : List Byte) (s : State) : SharesUnits s (answerCreate p ops s).1 := by
  unfold answerCreate
  (repeat' split) <;> try exact SharesUnits.refl s
  rename_i hfresh
  exact (freshSlot_sharesUnits hfresh).trans (by simp [SharesUnits])

theorem answerOpen_sharesUnits (p : Port) (ops : List Byte) (s : State) : SharesUnits s (answerOpen p ops s).1 := by
  unfold answerOpen
  (repeat' split) <;> try exact SharesUnits.refl s
  rename_i hfresh
  exact (freshSlot_sharesUnits hfresh).trans (by simp [SharesUnits])

theorem foldl_clearKind_sharesUnits (kinds : List Alert) (s : State) : SharesUnits s (kinds.foldl State.clearKind s) := by
  induction kinds generalizing s with
  | nil => exact SharesUnits.refl s
  | cons a kinds ih => exact SharesUnits.trans (by simp [SharesUnits]) (ih (s.clearKind a))

theorem answerClear_sharesUnits (p : Port) (ops : List Byte) (s : State) : SharesUnits s (answerClear p ops s).1 := by
  unfold answerClear
  split
  · exact SharesUnits.refl s
  · rename_i kinds _
    have hend : SharesUnits (kinds.foldl State.clearKind s) (kinds.foldl State.clearKind s).endAct := by simp [SharesUnits]
    exact (foldl_clearKind_sharesUnits kinds s).trans hend

theorem bare_sharesUnits {s : State} (ops : List Byte) {g : State × Reply} (h : SharesUnits s g.1) : SharesUnits s (bare ops s g).1 := by
  unfold bare
  split
  · exact h
  · exact SharesUnits.refl s

theorem motion_sharesUnits {s : State} (p : Port) (ops : List Byte) {g : State × Reply} (h : SharesUnits s g.1) :
    SharesUnits s (motion p ops s g).1 := by
  refine bare_sharesUnits ops ?_
  split
  · exact h
  · exact SharesUnits.refl s

theorem supervisorOnly_sharesUnits {s : State} (p : Port) (ops : List Byte) {g : State × Reply} (h : SharesUnits s g.1) :
    SharesUnits s (supervisorOnly p ops s g).1 := by
  refine bare_sharesUnits ops ?_
  split
  · exact SharesUnits.refl s
  · exact h

/-- A request taken leaves what its answer leaves. -/
theorem takeRequest_sharesUnits {answer : State → State × Reply} (h : ∀ s, SharesUnits s (answer s).1) (s : State) (p : Port) :
    SharesUnits s (s.takeRequest p answer) := by
  unfold State.takeRequest
  split
  · have hrestart : SharesUnits s (s.restartInactivity p) := by simp [SharesUnits]
    exact (hrestart.trans (h _)).trans (by simp [SharesUnits])
  · exact SharesUnits.refl s

theorem answerClose_sharesUnits (p : Port) (ops : List Byte) (s : State) : SharesUnits s (answerClose p ops s).1 := by
  unfold answerClose
  split <;> simp [SharesUnits]

theorem answerNext_sharesUnits (p : Port) (ops : List Byte) (s : State) : SharesUnits s (answerNext p ops s).1 := by
  unfold answerNext
  split <;> simp [SharesUnits]

theorem answerBody_sharesUnits (p : Port) (body : List Byte) (s : State) : SharesUnits s (answerBody p body s).1 := by
  unfold answerBody
  split
  · simp [SharesUnits]
  · split
    · exact answerCreate_sharesUnits p _ s
    · exact answerOpen_sharesUnits p _ s
    · simp [SharesUnits]
    · simp [SharesUnits]
    · exact answerClose_sharesUnits p _ s
    · exact answerNext_sharesUnits p _ s
    · simp [SharesUnits]
    · simp [SharesUnits]
    · simp [SharesUnits]
    · exact motion_sharesUnits p _ (by simp [SharesUnits])
    · exact bare_sharesUnits _ (by simp [SharesUnits])
    · exact bare_sharesUnits _ (by simp [SharesUnits])
    · exact motion_sharesUnits p _ (by simp [SharesUnits])
    · exact motion_sharesUnits p _ (by simp [SharesUnits])
    · exact motion_sharesUnits p _ (by simp [SharesUnits])
    · exact supervisorOnly_sharesUnits p _ (by simp [SharesUnits])
    · exact answerClear_sharesUnits p _ s
    · exact motion_sharesUnits p _ (by simp [SharesUnits])
    · exact supervisorOnly_sharesUnits p _ (by simp [SharesUnits])
    · exact bare_sharesUnits _ (SharesUnits.refl s)
    · exact bare_sharesUnits _ (SharesUnits.refl s)
    · simp [SharesUnits]

theorem takeBody_sharesUnits (p : Port) (body : List Byte) (s : State) : SharesUnits s (s.takeRequest p (answerBody p body)) :=
  takeRequest_sharesUnits (answerBody_sharesUnits p body) s p

theorem takeByte_sharesUnits (s : State) (p : Port) (got : List Byte) (b : Byte) : SharesUnits s (s.takeByte p got b) := by
  unfold State.takeByte
  split
  · split <;> simp [SharesUnits]
  · dsimp only
    split
    · simp [SharesUnits]
    · split
      · simp [SharesUnits]
      · exact takeBody_sharesUnits p _ s

theorem execByteReceived_sharesUnits {p : Port} {b : Byte} {f : Bool} {s t : State}
    (h : execByteReceived p b f s = .next t) : SharesUnits s t := by
  unfold execByteReceived at h
  cases h
  split
  · exact SharesUnits.refl s
  · split <;> simp [SharesUnits]
  · split
    · simp [SharesUnits]
    · exact takeByte_sharesUnits s p _ b
  · exact SharesUnits.refl s

/-- Every other command leaves them all. -/
theorem exec_sharesUnits {c : Instr} {s t : State} (hc : c.movesUnits = false) (h : exec c s = .next t) : SharesUnits s t := by
  cases c with
  | resetPin | feedCount | beltCount | debounceSettle | senseReading | rawInputChange => cases hc
  | byteReceived p b f => exact execByteReceived_sharesUnits h
  | unknownCommand p => cases h; exact takeRequest_sharesUnits SharesUnits.refl s p
  | create p ops => cases h; exact takeBody_sharesUnits p (0x10#8 :: ops) s
  | openRecord p ops => cases h; exact takeBody_sharesUnits p (0x11#8 :: ops) s
  | getField p ops => cases h; exact takeBody_sharesUnits p (0x12#8 :: ops) s
  | putField p ops => cases h; exact takeBody_sharesUnits p (0x13#8 :: ops) s
  | closeRecord p ops => cases h; exact takeBody_sharesUnits p (0x14#8 :: ops) s
  | nextRecord p ops => cases h; exact takeBody_sharesUnits p (0x15#8 :: ops) s
  | discard p ops => cases h; exact takeBody_sharesUnits p (0x16#8 :: ops) s
  | retire p ops => cases h; exact takeBody_sharesUnits p (0x17#8 :: ops) s
  | find p ops => cases h; exact takeBody_sharesUnits p (0x18#8 :: ops) s
  | start p ops => cases h; exact takeBody_sharesUnits p (0x40#8 :: ops) s
  | stop p ops => cases h; exact takeBody_sharesUnits p (0x41#8 :: ops) s
  | hold p ops => cases h; exact takeBody_sharesUnits p (0x42#8 :: ops) s
  | resume p ops => cases h; exact takeBody_sharesUnits p (0x43#8 :: ops) s
  | stepLine p ops => cases h; exact takeBody_sharesUnits p (0x44#8 :: ops) s
  | splice p ops => cases h; exact takeBody_sharesUnits p (0x45#8 :: ops) s
  | permit p ops => cases h; exact takeBody_sharesUnits p (0x46#8 :: ops) s
  | clear p ops => cases h; exact takeBody_sharesUnits p (0x47#8 :: ops) s
  | tripReset p ops => cases h; exact takeBody_sharesUnits p (0x48#8 :: ops) s
  | lineReset p ops => cases h; exact takeBody_sharesUnits p (0x49#8 :: ops) s
  | status p ops => cases h; exact takeBody_sharesUnits p (0x4A#8 :: ops) s
  | ident p ops => cases h; exact takeBody_sharesUnits p (0x4B#8 :: ops) s
  | speedRefresh a b => cases h; simp [SharesUnits]
  | tensionLockCount => cases h; simp [SharesUnits]
  | tensionWatchCount => cases h; simp [SharesUnits]
  | matchCount => cases h; simp [SharesUnits]
  | doseIntervalExpiry => cases h; simp [SharesUnits]
  | interByteGapExpiry p => cases h; simp [SharesUnits]
  | frameAbandoned p cause => cases h; simp [SharesUnits]
  | dancerTimeout => cases h; split <;> simp [SharesUnits]
  | matchLimitExpiry => cases h; split <;> simp [SharesUnits]
  | headLimitExpiry => cases h; split <;> simp [SharesUnits]
  | knifeLimitExpiry => cases h; split <;> simp [SharesUnits]
  | retractLimitExpiry => cases h; split <;> simp [SharesUnits]
  | webBreakExpiry => cases h; split <;> simp [SharesUnits]
  | bladeLimitExpiry => cases h; split <;> simp [SharesUnits]
  | cutterLimitExpiry => cases h; split <;> simp [SharesUnits]
  | zoneSettleExpiry z => cases h; split <;> simp [SharesUnits]
  | readingStale z => cases h; split <;> simp [SharesUnits]
  | heatPermitExpiry => cases h; split <;> simp [SharesUnits]
  | standstillExpiry => cases h; split <;> simp [SharesUnits]
  | inactivityExpiry p => cases h; split <;> simp [SharesUnits]
  | responseSent p => cases h; split <;> simp [SharesUnits]
  | rampIntervalExpiry =>
    cases h
    split
    · split <;> simp [SharesUnits]
    all_goals simp [SharesUnits]

/-- Settles O2: every command but five kinds leaves all of these parts, and each of the five is said by its own operations' frames. -/
theorem commandsLeaveOtherUnits : Obligations.CommandsLeaveOtherUnits := by
  unfold Obligations.CommandsLeaveOtherUnits
  intro c s t h
  by_cases hc : c.movesUnits = false
  · obtain ⟨hp, hi, hw, hb, hpr⟩ := exec_sharesUnits hc h
    exact ⟨hp, fun _ _ => hw, fun _ _ => hb, fun _ _ _ => hi, fun _ _ => hpr⟩
  · cases c with
    | resetPin => cases h; simp
    | feedCount d => cases h; simp
    | beltCount d => cases h; cases d <;> simp [State.beltUnits]
    | debounceSettle i => cases h; split <;> simp
    | senseReading k v f => cases h; split <;> simp
    | rawInputChange i v => cases h; simp
    | _ => exact absurd rfl hc

end Sys2Proof.Machine
end

section
/-! SUPPORT. The line order (O12): the law asks a lot on the web for its pattern and a waiting lot for none, so a QUEUED lot that names no
pattern meets it until the entry decision of a feed count places that lot on the web. -/

namespace Sys2Proof.Machine

/-- A QUEUED lot of class 1 that names no pattern; no commit makes one (R80), and the law of the line order admits it. -/
def lotWithoutPattern : Lot := { Lot.created 1 with state := .queued, cls := some 1, ordered := some 1, planned := 1 }

/-- A line whose ACTIVE roll is of that lot's class and whose waste segment ends with the feed count that waits. -/
def beforePlacement : State :=
  { State.reset with
    pending := [.feedCount .forward]
    fsu := { Fsu.reset with staA := .feeding }
    ltr := { Ltr.reset with segment := .waste 0 1 }
    rst := { Store.reset with
      rolls := [{ Roll.created 1 with state := .active, cls := some 1, leaderReady := true, station := some .a }]
      lots := [lotWithoutPattern]
      order := [1] } }

theorem beforePlacement_lineOrderLaw : LineOrderLaw beforePlacement := by
  unfold LineOrderLaw risingKeys
  decide +kernel

/-- The feed count places the lot, which stands on the web without a pattern. -/
theorem beforePlacement_places :
    ∃ t, step beforePlacement = .next t ∧ ∃ l ∈ t.rst.lots, l.onWeb = true ∧ l.pattern = none := by
  refine ⟨_, rfl, ?_⟩
  decide +kernel

/-- Refutes O12 in its first half: a step takes `beforePlacement`, where the law holds, to a state with a lot on the web that has no
pattern, which the law excludes. -/
theorem not_lineOrderKept : ¬ Obligations.LineOrderKept := by
  unfold Obligations.LineOrderKept
  rintro ⟨hkept, -⟩
  obtain ⟨t, hstep, l, hl, hweb, hpattern⟩ := beforePlacement_places
  obtain ⟨-, -, -, -, -, -, -, -, -, hlots⟩ := hkept _ t beforePlacement_lineOrderLaw hstep
  obtain ⟨-, -, hsome⟩ := (hlots l hl).1 hweb
  rw [hpattern] at hsome
  cases hsome

end Sys2Proof.Machine
end

section
/-! SUPPORT. Power-on and RESET_PIN (O3). -/

namespace Sys2Proof.Machine

/-- RESET_PIN puts each input back to its wait for a first level, on the raw level of its own pin. -/
theorem Inputs.get_afterReset (p : Inputs) (i : Input) : p.afterReset.get i = Pin.reset (p.get i).raw := by
  cases i <;> rfl

theorem hasHold_reset (h : HoldReason) : State.reset.hasHold h = decide (h = .steamLow) := by
  cases h <;> decide

/-- Settles O3: RESET_PIN is `State.reset` but for the queue and the pins, and each item of `State.reset` is read off. -/
theorem powerOnAndResetPin : Obligations.PowerOnAndResetPin := by
  unfold Obligations.PowerOnAndResetPin
  refine ⟨fun s => ⟨_, rfl, rfl, fun i => Inputs.get_afterReset s.inputs i, rfl, rfl, rfl, rfl, rfl, rfl, rfl, rfl⟩, ?_⟩
  refine ⟨⟨rfl, rfl, rfl, rfl, rfl, rfl, rfl, rfl, ?stations, rfl⟩, by decide, by decide, by decide, ⟨?zones, rfl, rfl⟩, by decide,
    ⟨rfl, rfl, hasHold_reset, rfl, rfl, rfl, rfl, rfl, rfl⟩, ?ports, ?inputs, by decide⟩
  case stations => intro x; cases x <;> rfl
  case zones => intro z _; cases z <;> rfl
  case ports => intro p; cases p <;> rfl
  case inputs => intro i; cases i <;> exact ⟨rfl, rfl⟩

end Sys2Proof.Machine
end

section
/-! SUPPORT. Readings on SENSE (O29): which readings are taken, and what a zone makes of one. -/

namespace Sys2Proof.Machine

theorem readingIn_cast {hi n : Nat} (h : n ≤ hi) : readingIn hi (n : Int) = some n := by
  unfold readingIn
  rw [if_pos ⟨by omega, by omega⟩, Int.toNat_natCast]

theorem readingIn_outside {hi : Nat} {v : Int} (h : v < 0 ∨ (hi : Int) < v) : readingIn hi v = none := by
  unfold readingIn
  rw [if_neg (by omega)]

theorem validReading_faulted (k : SenseKind) (v : Int) : validReading k v true = none := rfl

theorem validReading_unfaulted (k : SenseKind) (v : Int) :
    validReading k v false = (greatestReading k).bind fun hi => readingIn hi v := rfl

/-- R12: what is faulted, of no kind, or out of the range of its kind is no reading. -/
theorem validReading_eq_none {k : SenseKind} {v : Int} {f : Bool}
    (h : f = true ∨ k = .unnamed ∨ v < 0 ∨ (k = .pressure ∧ 2000 < v) ∨ (k = .dancer ∧ 1000 < v) ∨ (∃ z, k = .zone z ∧ 4000 < v)) :
    validReading k v f = none := by
  cases f with
  | true => exact validReading_faulted k v
  | false =>
    rw [validReading_unfaulted]
    cases k with
    | unnamed => rfl
    | zone z => exact readingIn_outside (by simp at h; omega)
    | pressure => exact readingIn_outside (by simp at h; omega)
    | dancer => exact readingIn_outside (by simp at h; omega)

theorem withinBand_iff (target : Option Nat) (n band : Nat) :
    withinBand target n band = true ↔ ∃ t, target = some t ∧ t ≤ n + band ∧ n ≤ t + band := by
  cases target <;> simp [withinBand]

/-- A reading leaves a zone's target alone and makes it FRESH. -/
theorem Zone.take_frame (v : Zone) (n : Nat) :
    (v.take n).target = v.target ∧ (v.take n).targetClass = v.targetClass ∧ (v.take n).reading = some n ∧
      (v.take n).fresh = true ∧ (v.take n).window = some 500 := by
  unfold Zone.take
  dsimp only
  split
  · simp
  · split <;> simp
  · simp
  · simp

theorem Zone.take_of_idle {v : Zone} (n : Nat) (h : v.mode = .off ∨ v.mode = .standby) :
    (v.take n).mode = v.mode ∧ (v.take n).settle = v.settle := by
  rcases h with h | h <;> simp [Zone.take, h]

theorem Zone.take_of_warming {v : Zone} (n : Nat) (h : v.mode = .warming) :
    (v.take n).mode = .warming ∧
      (v.take n).settle = if withinBand v.target n 20 = true then some (v.settle.getD 5000) else none := by
  simp [Zone.take, h]

theorem Zone.take_of_settled {v : Zone} (n : Nat) (h : v.mode = .settled) :
    (v.take n).mode = (if withinBand v.target n 40 = true then .settled else .warming) ∧
      (v.take n).settle = if withinBand v.target n 40 = true then v.settle else none := by
  unfold Zone.take
  simp only [h]
  split <;> simp

/-- Settles O29: a taken reading is `Zone.take`, judged mode by mode; any other reading is no arrival. -/
theorem zoneReadingIsJudged : Obligations.ZoneReadingIsJudged := by
  unfold Obligations.ZoneReadingIsJudged
  refine ⟨fun z n s hn => ?_, fun k v f s h => ?_⟩
  · have hvalid : validReading (.zone z) (n : Int) false = some n := readingIn_cast hn
    have hexec : exec (.senseReading (.zone z) (n : Int) false) s =
        .next (s.setZone z ((s.hsu.zones.get z).take n)).endAct := by
      simp only [exec, execSenseReading, hvalid, State.takeReading]
    obtain ⟨htarget, hclass, hreading, hfresh, hwindow⟩ := Zone.take_frame (s.hsu.zones.get z) n
    refine ⟨(s.hsu.zones.get z).take n, completes_of_endAct hexec rfl, htarget, hclass, hreading, hfresh, hwindow,
      Zone.take_of_idle n, fun hm hnear => ?_, fun hm hnear => ?_, fun hm hnear => ?_, fun hm hnear => ?_⟩
    · obtain ⟨hmode, hsettle⟩ := Zone.take_of_warming n hm
      rw [if_pos ((withinBand_iff _ _ _).mpr hnear)] at hsettle
      exact ⟨hmode, hsettle⟩
    · obtain ⟨hmode, hsettle⟩ := Zone.take_of_warming n hm
      rw [if_neg fun hw => hnear ((withinBand_iff _ _ _).mp hw)] at hsettle
      exact ⟨hmode, hsettle⟩
    · obtain ⟨hmode, hsettle⟩ := Zone.take_of_settled n hm
      rw [if_pos ((withinBand_iff _ _ _).mpr hnear)] at hmode hsettle
      exact ⟨hmode, hsettle⟩
    · obtain ⟨hmode, hsettle⟩ := Zone.take_of_settled n hm
      rw [if_neg fun hw => hnear ((withinBand_iff _ _ _).mp hw)] at hmode hsettle
      exact ⟨hmode, hsettle⟩
  · show exec _ s = .next s
    simp only [exec, execSenseReading, validReading_eq_none h]

end Sys2Proof.Machine
end
section
/-! SUPPORT. The refresh of the speeds (O21): the band and the press judge a splice, the end of a run-down a station. -/

namespace Sys2Proof.Machine

/-- The band judged and the press tested touch no station that is in RUNDOWN. -/
theorem station_setStation_ne (s : State) {x y : Station} (v : StationState) (h : x ≠ y) : (s.setStation y v).station x = s.station x := by
  have hother : x = y.other := by cases x <;> cases y <;> simp_all [Station.other]
  rw [hother, station_setStation_other]

theorem judgeBand_station_rundown {s : State} {x : Station} (h : s.station x = .rundown) : s.judgeBand.station x = .rundown := by
  unfold State.judgeBand
  split
  · rename_i y _ _
    split
    · exact h
    · dsimp only
      split
      · rename_i hm
        have hne : x ≠ y := by
          rintro rfl
          exact absurd (hm.symm.trans h) (by decide)
        exact (station_setStation_ne _ _ hne).trans h
      · exact h
  · exact h

theorem pressTest_station (s : State) (x : Station) : s.pressTest.station x = s.station x := by
  unfold State.pressTest
  split
  · cases x <;> rfl
  · rfl

theorem surfSpeed_congr {s t : State} (ha : t.fsu.surfA = s.fsu.surfA) (hb : t.fsu.surfB = s.fsu.surfB) (x : Station) :
    t.surfSpeed x = s.surfSpeed x := by
  cases x
  · exact congrArg SpeedWindow.speed ha
  · exact congrArg SpeedWindow.speed hb

theorem endRundown_station_other (s : State) (x : Station) : (s.endRundown x).station x.other = s.station x.other := by
  unfold State.endRundown
  split
  · exact station_setStation_other s x _
  · rfl

theorem endRundown_station_of_rundown {s : State} {x : Station} (h : s.station x = .rundown) :
    (s.endRundown x).station x = if s.surfSpeed x = 0 then .seated else .rundown := by
  unfold State.endRundown
  split_ifs with hc h0 h0
  · exact station_setStation_self s x _
  · exact absurd hc.2 h0
  · exact absurd ⟨h, h0⟩ hc
  · exact h

/-- Both run-downs ended: a station in RUNDOWN is judged by its own speed alone. -/
theorem endRundowns_station {s : State} {x : Station} (h : s.station x = .rundown) :
    ((s.endRundown .a).endRundown .b).station x = if s.surfSpeed x = 0 then .seated else .rundown := by
  cases x with
  | a =>
    calc ((s.endRundown .a).endRundown .b).station .a
        = (s.endRundown .a).station .a := endRundown_station_other (s.endRundown .a) .b
      _ = _ := endRundown_station_of_rundown h
  | b =>
    have hb : (s.endRundown .a).station .b = .rundown := (endRundown_station_other s .a).trans h
    rw [endRundown_station_of_rundown hb, surfSpeed_congr (s := s) (by simp) (by simp)]

/-- Settles O21: the windows are slid at the front of the act and nothing after it writes them. -/
theorem speedRefreshReadsTheWindows : Obligations.SpeedRefreshReadsTheWindows := by
  unfold Obligations.SpeedRefreshReadsTheWindows
  intro a b s
  refine ⟨_, rfl, ?windows, ?rundown, by simp, by simp, by simp, by simp, by simp, by simp⟩
  case windows => simp [State.refreshSpeeds, SpeedWindow.refresh, SpeedWindow.count, clampSpeed]
  case rundown =>
    intro x hx
    have hjudged : (s.refreshSpeeds a b).judgeBand.pressTest.station x = .rundown := by
      rw [pressTest_station]
      exact judgeBand_station_rundown (by cases x <;> simpa [State.station] using hx)
    rw [station_endAct, endRundowns_station hjudged]
    rw [surfSpeed_congr (s := (s.refreshSpeeds a b).judgeBand.pressTest) (t := State.endAct _) (by simp) (by simp)]

end Sys2Proof.Machine
end

section
/-! SUPPORT. The debouncing of the inputs (O22): a pin's change, its settling, and the first level at its owner. -/

namespace Sys2Proof.Machine

theorem setPin_get_self (s : State) (i : Input) : s.setPin i (s.inputs.get i) = s := by
  cases i <;> rfl

@[simp] theorem settled_frame (s : State) (i : Input) (v : Bool) :
    (s.settled i v).rst = s.rst ∧ (s.settled i v).lnk = s.lnk ∧ (s.settled i v).fsu = s.fsu ∧ (s.settled i v).ltr = s.ltr ∧
      (s.settled i v).pfm = s.pfm ∧ (s.settled i v).hsu = s.hsu ∧ (s.settled i v).exu = s.exu := by
  simp [State.settled]

/-- Whatever an input's settling hands on, the pins stand as the settling left them. -/
theorem settleInput_inputs (s : State) (i : Input) :
    (s.settleInput i).inputs = (s.settled i (s.inputs.get i).raw).inputs := by
  unfold State.settleInput
  dsimp only
  split
  · simp [State.settled]
  · (repeat' split) <;> simp [State.settled]

theorem settled_inputs_get_self (s : State) (i : Input) (v : Bool) :
    (s.settled i v).inputs.get i = { raw := v, level := some v, settle := none } :=
  Inputs.get_set_self s.inputs i _

theorem settled_inputs_get_ne (s : State) {i j : Input} (v : Bool) (h : j ≠ i) :
    (s.settled i v).inputs.get j = s.inputs.get j :=
  Inputs.get_set_ne s.inputs _ h

/-- An input that has had no level hands its first one to its owner, and the ports may open. -/
theorem settleInput_first {s : State} {i : Input} (h : (s.inputs.get i).level = none) :
    s.settleInput i = ((s.settled i (s.inputs.get i).raw).firstLevel i (s.inputs.get i).raw).openPorts := by
  simp only [State.settleInput, h]
  rfl

theorem openPorts_port_waiting {s : State} {p : Port} (h : (s.port p).receiver = .waiting) :
    (s.openPorts.port p).receiver = if s.inputs.allKnown = true then .hunting else .waiting := by
  unfold State.openPorts
  split
  · cases p <;> simp_all [State.port, PortState.openEar]
  · exact h

theorem port_congr {s t : State} (hsup : t.lnk.sup = s.lnk.sup) (hpen : t.lnk.pen = s.lnk.pen) (p : Port) : t.port p = s.port p := by
  cases p
  · exact hsup
  · exact hpen

/-- A first level that is no assertion of E_STOP goes to its owner alone. -/
theorem firstLevel_quiet (s : State) {i : Input} {v : Bool} (h : i ≠ .eStop ∨ v = false) :
    (s.firstLevel i v).lnk = s.lnk ∧ (s.firstLevel i v).rst = s.rst ∧ (s.firstLevel i v).hsu = s.hsu ∧
      (s.firstLevel i v).ltr = s.ltr ∧ (s.firstLevel i v).fsu.w = s.fsu.w ∧ (i ≠ .home → (s.firstLevel i v).pfm = s.pfm) ∧
      (i ≠ .cutHome → (s.firstLevel i v).exu = s.exu) ∧
      ((∀ x : Station, i ≠ x.seatedPin) → (s.firstLevel i v).fsu.staA = s.fsu.staA ∧ (s.firstLevel i v).fsu.staB = s.fsu.staB) := by
  cases i with
  | eStop =>
    obtain rfl : v = false := by simpa using h
    simp [State.firstLevel]
  | staSeated =>
    simp only [State.firstLevel, State.setStation_frame, ne_eq, implies_true, true_and]
    exact fun hx => absurd rfl (hx .a)
  | stbSeated =>
    simp only [State.firstLevel, State.setStation_frame, ne_eq, implies_true, true_and]
    exact fun hx => absurd rfl (hx .b)
  | home => simp [State.firstLevel]
  | cutHome => simp [State.firstLevel]
  | staCoreNear | stbCoreNear | extended | retracted | knifeDone | key => simp [State.firstLevel]

theorem firstLevel_station (s : State) (x : Station) (v : Bool) :
    (s.firstLevel x.seatedPin v).station x = (if v = true then .seated else .empty) ∧
      (s.firstLevel x.seatedPin v).station x.other = s.station x.other := by
  cases x <;> exact ⟨rfl, rfl⟩

theorem station_openPorts (s : State) (x : Station) : s.openPorts.station x = s.station x := by
  cases x <;> simp [State.station]

/-- What RAW_INPUT_CHANGE makes of a pin. -/
theorem rawInputChange_debounces (i : Input) (v : Bool) (s : State) :
    ((s.inputs.get i).raw = v → Yields (.rawInputChange i v) s s) ∧
      ((s.inputs.get i).raw ≠ v → (s.inputs.get i).level = some v →
        Yields (.rawInputChange i v) s (s.setPin i { s.inputs.get i with raw := v, settle := none })) ∧
      ((s.inputs.get i).raw ≠ v → (s.inputs.get i).level ≠ some v →
        Yields (.rawInputChange i v) s (s.setPin i { s.inputs.get i with raw := v, settle := some 10 })) := by
  refine ⟨fun hsame => ?_, fun hdiff hback => ?_, fun hdiff haway => ?_⟩ <;>
    simp only [Yields, exec, execRawInputChange, Pin.change]
  · rw [if_pos hsame, setPin_get_self]
  · rw [if_neg hdiff, if_pos hback]
  · rw [if_neg hdiff, if_neg haway]

theorem exec_debounceSettle {i : Input} {s : State} (h : (s.inputs.get i).settle.isSome = true) :
    exec (.debounceSettle i) s = .next (s.settleInput i).endAct := by
  simp only [exec, execDebounceSettle, h, if_true]

/-- What DEBOUNCE_SETTLE makes of the pins and of a port that waits. -/
theorem debounceSettle_settles (i : Input) (s : State) :
    ((s.inputs.get i).settle = none → Yields (.debounceSettle i) s s) ∧
      ((s.inputs.get i).settle.isSome = true → ∃ t, exec (.debounceSettle i) s = .next t ∧
        t.inputs.get i = { raw := (s.inputs.get i).raw, level := some (s.inputs.get i).raw, settle := none } ∧
        (∀ j, j ≠ i → t.inputs.get j = s.inputs.get j) ∧
        ∀ p, (s.port p).receiver = .waiting → (s.inputs.get i).level = none →
          (t.port p).receiver = if t.inputs.allKnown = true then .hunting else .waiting) := by
  refine ⟨fun hnone => ?_, fun hsome => ?_⟩
  · simp [Yields, exec, execDebounceSettle, hnone]
  · have hinputs : (s.settleInput i).endAct.inputs = (s.settled i (s.inputs.get i).raw).inputs := by
      rw [← settleInput_inputs]
      simp
    refine ⟨_, exec_debounceSettle hsome, ?_, fun j hj => ?_, fun p hwait hfirst => ?_⟩
    · rw [hinputs, settled_inputs_get_self]
    · rw [hinputs, settled_inputs_get_ne s _ hj]
    · rw [hinputs, port_endAct, settleInput_first hfirst, openPorts_port_waiting]
      · simp
      · rw [port_congr (s := s) (by simp) (by simp), hwait]

/-- Settles O22: the pin by `Pin.change` and `settleInput`, the owners by `firstLevel`. -/
theorem inputsAreDebounced : Obligations.InputsAreDebounced := by
  unfold Obligations.InputsAreDebounced
  refine ⟨fun i v s => rawInputChange_debounces i v s, debounceSettle_settles, fun i s hsome hfirst hquiet => ?_⟩
  obtain ⟨hlnk, hrst, hhsu, hltr, hw, hpfm, hexu, hsta⟩ := firstLevel_quiet (s.settled i (s.inputs.get i).raw) hquiet
  refine ⟨_, exec_debounceSettle hsome, ?stations, ?others, ?home, ?blades, ?cutHome, ?exit, ?_⟩ <;> rw [settleInput_first hfirst]
  case stations =>
    rintro x rfl
    rw [station_endAct, station_endAct, station_openPorts, station_openPorts]
    exact firstLevel_station _ x _
  case others => simpa using hsta
  case home =>
    rintro rfl
    simp [State.firstLevel, State.bladesTo, depthsAtRest, cycleAt]
  case blades =>
    intro hi
    rw [endAct_unregulated]
    simp [State.unregulated, hpfm hi]
  case cutHome =>
    rintro rfl
    simp [State.firstLevel, State.cutterTo, cycleAt]
  case exit =>
    intro hi
    simp [hexu hi]
  · simp [hlnk, hrst, hhsu, hltr]

end Sys2Proof.Machine
end

section
/-! SUPPORT. FIND (O60): the record at a place, and the panel farthest past the blade bank of those between two distances. -/

namespace Sys2Proof.Machine

theorem findAt_restartInactivity (s : State) (p : Port) (place : Nat) :
    (s.restartInactivity p).findAt place = s.findAt place := by
  cases p <;> rfl

/-- FIND of a place in the list answers with what `findAt` names, and changes nothing. -/
theorem find_inList {p : Port} {s : State} {place : Byte} (hears : s.hears p = true) (hplace : 1 ≤ place.toNat ∧ place.toNat ≤ 9) :
    (∀ bs, s.findAt place.toNat = some bs → Yields (.find p [place]) s (s.answered p { status := .ok, payload := bs })) ∧
      (s.findAt place.toNat = none → Refuses (.find p [place]) s p .noSuchRecord) := by
  have htaken := State.takeRequest_taken (answerFind p [place]) hears
  refine ⟨fun bs hbs => ?_, fun hnone => ?_⟩
  · simp only [Yields, exec, execFind, htaken, answerFind, if_pos hplace, findAt_restartInactivity, hbs, State.answered]
  · simp only [Refuses, Yields, exec, execFind, htaken, answerFind, if_pos hplace, findAt_restartInactivity, hnone, State.answered, refuse]

theorem find_outOfList {p : Port} {s : State} {place : Byte} (hears : s.hears p = true) (hplace : place = 0#8 ∨ 9 < place.toNat) :
    Refuses (.find p [place]) s p .outOfRange := by
  have hnot : ¬ (1 ≤ place.toNat ∧ place.toNat ≤ 9) := by
    rcases hplace with rfl | h
    · decide
    · omega
  simp only [Refuses, Yields, exec, execFind, State.takeRequest_taken (answerFind p [place]) hears, answerFind, if_neg hnot, refuse,
    State.answered]

theorem farthest_eq_none_iff (b : Coord) (ps : List Panel) : farthest b ps = none ↔ ps = [] := (farthest_spec b ps).1

theorem farthest_greatest {b : Coord} {ps : List Panel} {q : Panel} (h : farthest b ps = some q) :
    q ∈ ps ∧ ∀ x ∈ ps, x.midDistance b ≤ q.midDistance b := by
  obtain ⟨before, after, rfl, hbefore, hafter⟩ := (farthest_spec b ps).2 q h
  refine ⟨by simp, fun x hx => ?_⟩
  rcases List.mem_append.mp hx with hx | hx
  · exact Int.le_of_lt (hbefore x hx)
  · rcases List.mem_cons.mp hx with rfl | hx
    · exact Int.le_refl _
    · exact hafter x hx

/-- A place of FIND that names, of the panels whose midpoint lies in [lo, hi), the one farthest past the blade bank. -/
theorem find_farthest {p : Port} {s : State} {place : Byte} {lo hi : Int} {lies : Panel → Bool} (hears : s.hears p = true)
    (hplace : 1 ≤ place.toNat ∧ place.toNat ≤ 9)
    (hat : s.findAt place.toNat = namePanel (farthest s.exu.b (s.rst.panels.filter lies)))
    (hlies : ∀ x, lies x = true ↔ lo ≤ x.midDistance s.exu.b ∧ x.midDistance s.exu.b < hi) :
    ((∀ q ∈ s.rst.panels, ¬ (lo ≤ q.midDistance s.exu.b ∧ q.midDistance s.exu.b < hi)) →
        Refuses (.find p [place]) s p .noSuchRecord) ∧
      ((∃ q ∈ s.rst.panels, lo ≤ q.midDistance s.exu.b ∧ q.midDistance s.exu.b < hi) →
        ∃ q ∈ s.rst.panels, lo ≤ q.midDistance s.exu.b ∧ q.midDistance s.exu.b < hi ∧
          (∀ x ∈ s.rst.panels, lo ≤ x.midDistance s.exu.b → x.midDistance s.exu.b < hi →
            x.midDistance s.exu.b ≤ q.midDistance s.exu.b) ∧
          Yields (.find p [place]) s (s.answered p { status := .ok, payload := nameRecord .panel q.key.toKey })) := by
  obtain ⟨hfound, hmissing⟩ := find_inList hears hplace
  refine ⟨fun hnone => hmissing ?_, fun ⟨x, hx, hxin⟩ => ?_⟩
  · have hempty : s.rst.panels.filter lies = [] :=
      List.filter_eq_nil_iff.mpr fun q hq h => hnone q hq ((hlies q).mp h)
    rw [hat, hempty]
    rfl
  · cases hfar : farthest s.exu.b (s.rst.panels.filter lies) with
    | none =>
      have hmem : x ∈ s.rst.panels.filter lies := List.mem_filter.mpr ⟨hx, (hlies x).mpr hxin⟩
      rw [(farthest_eq_none_iff _ _).mp hfar] at hmem
      cases hmem
    | some q =>
      obtain ⟨hmem, hgreatest⟩ := farthest_greatest hfar
      obtain ⟨hq, hqin⟩ := List.mem_filter.mp hmem
      obtain ⟨hlo, hhi⟩ := (hlies q).mp hqin
      refine ⟨q, hq, hlo, hhi, fun y hy hylo hyhi => ?_, hfound _ (by rw [hat, hfar]; rfl)⟩
      exact hgreatest y (List.mem_filter.mpr ⟨hy, (hlies y).mpr ⟨hylo, hyhi⟩⟩)

theorem inZone_iff (x : Panel) (b : Coord) (z : ZoneId) :
    x.inZone b z = true ↔ Config.zoneStart z ≤ x.midDistance b ∧ x.midDistance b < Config.zoneStart z + Config.zoneLength := by
  simp [Panel.inZone]

theorem inCooling_iff (x : Panel) (b : Coord) :
    x.inCooling b = true ↔ Config.coolingStart ≤ x.midDistance b ∧ x.midDistance b < Config.coolingEnd := by
  simp [Panel.inCooling]

theorem atCutter_iff (x : Panel) (b : Coord) :
    x.atCutter b = true ↔ 95000 ≤ coordDiff b x.head ∧ coordDiff b x.head - (x.pleatedLen : Int) < 95000 := by
  unfold Panel.atCutter
  rw [Bool.and_eq_true, decide_eq_true_iff, decide_eq_true_iff]
  rfl

/-- FIND at the splice point and at the blade. -/
theorem find_atSpliceAndBlade (p : Port) (s : State) (hears : s.hears p = true) :
    (∀ l, s.feedingLot? = some l →
        Yields (.find p [0x01#8]) s (s.answered p { status := .ok, payload := nameRecord .lot l.number })) ∧
      (s.feedingLot? = none → Refuses (.find p [0x01#8]) s p .noSuchRecord) ∧
      (∀ f l, s.pfm.forming = some f → f.kind = .product → s.lot? f.key.lot = some l →
        Yields (.find p [0x02#8]) s (s.answered p { status := .ok, payload := nameRecord .lot l.number })) ∧
      (∀ f q, s.pfm.forming = some f → s.panel? f.key = some q →
        Yields (.find p [0x03#8]) s (s.answered p { status := .ok, payload := nameRecord .panel q.key.toKey })) ∧
      (s.pfm.forming = none →
        Refuses (.find p [0x02#8]) s p .noSuchRecord ∧ Refuses (.find p [0x03#8]) s p .noSuchRecord) := by
  obtain ⟨hfound1, hmissing1⟩ := find_inList (place := 0x01#8) hears (by decide)
  obtain ⟨hfound2, hmissing2⟩ := find_inList (place := 0x02#8) hears (by decide)
  obtain ⟨hfound3, hmissing3⟩ := find_inList (place := 0x03#8) hears (by decide)
  refine ⟨fun l hl => hfound1 _ ?_, fun hnone => hmissing1 ?_, fun f l hf hkind hl => hfound2 _ ?_, fun f q hf hq => hfound3 _ ?_,
    fun hnone => ⟨hmissing2 ?_, hmissing3 ?_⟩⟩
  · show s.feedingLot?.map _ = _
    rw [hl]
    rfl
  · show s.feedingLot?.map _ = _
    rw [hnone]
    rfl
  · show s.bladeLot?.map _ = _
    simp [State.bladeLot?, hf, Option.filter_some, hkind, hl]
  · show namePanel (s.pfm.forming.bind _) = _
    simp [hf, hq, namePanel]
  · show s.bladeLot?.map _ = _
    simp [State.bladeLot?, hnone]
  · show namePanel (s.pfm.forming.bind _) = _
    simp [hnone, namePanel]

/-- FIND across the cutter. -/
theorem find_atCutter (p : Port) (s : State) (hears : s.hears p = true) :
    ((∀ q ∈ s.rst.panels, ¬ q.atCutter s.exu.b = true) → Refuses (.find p [0x09#8]) s p .noSuchRecord) ∧
      ∀ before q after, s.rst.panels = before ++ q :: after → (∀ x ∈ before, ¬ x.atCutter s.exu.b = true) →
        q.atCutter s.exu.b = true →
        Yields (.find p [0x09#8]) s (s.answered p { status := .ok, payload := nameRecord .panel q.key.toKey }) := by
  obtain ⟨hfound, hmissing⟩ := find_inList (place := 0x09#8) hears (by decide)
  refine ⟨fun hnone => hmissing ?_, fun before q after hpanels hbefore hq => hfound _ ?_⟩ <;>
    show namePanel (s.rst.panels.find? _) = _
  · rw [List.find?_eq_none.mpr hnone]
    rfl
  · rw [hpanels, List.find?_append, List.find?_eq_none.mpr hbefore, Option.none_or,
      List.find?_cons_of_pos (p := fun x : Panel => x.atCutter s.exu.b) hq]
    rfl

/-- Settles O60, place by place. -/
theorem findNamesTheRecordAtAPlace : Obligations.FindNamesTheRecordAtAPlace := by
  unfold Obligations.FindNamesTheRecordAtAPlace
  refine ⟨fun p s hears => ?_, fun p s place lo hi hears hplace => ?_, fun p s hears => ?_⟩
  · obtain ⟨hlot, hnolot, hblade, hforming, hnone⟩ := find_atSpliceAndBlade p s hears
    exact ⟨hlot, hnolot, hblade, hforming, hnone, fun place hout => find_outOfList hears hout⟩
  · simp only [List.mem_cons, Prod.mk.injEq, List.not_mem_nil, or_false] at hplace
    rcases hplace with ⟨rfl, rfl, rfl⟩ | ⟨rfl, rfl, rfl⟩ | ⟨rfl, rfl, rfl⟩ | ⟨rfl, rfl, rfl⟩ | ⟨rfl, rfl, rfl⟩
    · exact find_farthest hears (by decide) rfl fun x => inZone_iff x _ .z1
    · exact find_farthest hears (by decide) rfl fun x => inZone_iff x _ .z2
    · exact find_farthest hears (by decide) rfl fun x => inZone_iff x _ .z3
    · exact find_farthest hears (by decide) rfl fun x => inZone_iff x _ .z4
    · exact find_farthest hears (by decide) rfl fun x => inCooling_iff x _
  · obtain ⟨hnone, hfirst⟩ := find_atCutter p s hears
    simp only [atCutter_iff] at hnone hfirst
    exact ⟨hnone, hfirst⟩

end Sys2Proof.Machine
end

section
/-! SUPPORT. Tail arrivals (O20): the due tails, what one arrival does to the table, the lots and the outputs, and the verdict. -/

namespace Sys2Proof.Machine

/-! ### Due tails -/

theorem takeTails_of_none_due {s : State} (h : s.dueTails = []) (n : Nat) : s.takeTails n = s := by
  cases n with
  | zero => rfl
  | succ n => simp [State.takeTails, State.pickTail, h]

theorem allTails_of_none_due {s : State} (h : s.dueTails = []) : s.allTails = s := takeTails_of_none_due h _

/-- With one tail due, and none left due by its arrival, that arrival is all a belt count brings. -/
theorem allTails_of_one_due {s : State} {p : Panel} (h : s.dueTails = [p]) (hlast : (s.tailArrival p).dueTails = []) :
    s.allTails = s.tailArrival p := by
  have hmem : p ∈ s.rst.panels := List.mem_of_mem_filter (h ▸ List.mem_singleton_self p : p ∈ s.dueTails)
  obtain ⟨n, hn⟩ := Nat.exists_eq_succ_of_ne_zero (List.length_pos_of_mem hmem).ne'
  unfold State.allTails
  rw [hn]
  simp only [State.takeTails, State.pickTail, h, State.takeFreeIf, Bool.false_eq_true, if_false]
  exact takeTails_of_none_due hlast n

/-! ### What an arrival does to the records -/

/-- The cut fault set on the record of a serial. -/
def Panel.faultedIf (n : Nat) (q : Panel) : Panel := if q.serial = n then { q with cutFault := true } else q

theorem Panel.faultedIf_serial (n : Nat) (q : Panel) : (q.faultedIf n).serial = q.serial := by
  unfold Panel.faultedIf
  split <;> rfl

theorem Panel.faultedIf_tailDistance (n : Nat) (q : Panel) (b : Coord) : (q.faultedIf n).tailDistance b = q.tailDistance b := by
  unfold Panel.faultedIf
  split <;> rfl

/-- Where the record created next does not stand, none takes the fault. -/
theorem map_faultedIf_of_no_serial {s : State} {n : Nat} (h : ¬ s.hasSerial n = true) :
    s.rst.panels.map (Panel.faultedIf n) = s.rst.panels := by
  refine (List.map_congr_left fun q hq => ?_).trans (List.map_id _)
  have hne : ¬ q.serial = n := fun he => h (List.any_eq_true.mpr ⟨q, hq, by simpa using he⟩)
  unfold Panel.faultedIf
  rw [if_neg hne]
  rfl

theorem passCutFault_panels (s : State) (n : Nat) :
    (s.passCutFault n).rst.panels = s.rst.panels.map (Panel.faultedIf (n + 1)) := by
  unfold State.passCutFault
  split
  · rfl
  · rename_i h
    split <;> exact (map_faultedIf_of_no_serial h).symm

/-- The fault waits for the record created next where that has not been created (R146). -/
theorem passCutFault_pending {s : State} {n : Nat} (hnext : s.rst.panelSerial = n + 1) (hnone : s.hasSerial (n + 1) = false) :
    (s.passCutFault n).exu.pendingFault = true := by
  simp [State.passCutFault, hnext, hnone]

theorem uncutTail_panels (s : State) (n : Nat) :
    (s.uncutTail n).rst.panels = s.rst.panels.map (Panel.faultedIf (n + 1)) := by
  unfold State.uncutTail
  split <;> simp [passCutFault_panels]

theorem uncutTail_pendingFault (s : State) (n : Nat) : (s.uncutTail n).exu.pendingFault = (s.passCutFault n).exu.pendingFault := by
  unfold State.uncutTail
  split <;> simp

/-- CUT_OVERRUN is raised by a tail that is not cut, a trip apart (R145). -/
theorem uncutTail_alerts (s : State) (n : Nat) :
    (s.sgv.gov ≠ .tripped → (s.uncutTail n).hasAlert .cutOverrun = true) ∧
      (s.sgv.gov = .tripped → (s.uncutTail n).lnk.alerts = s.lnk.alerts) := by
  unfold State.uncutTail
  refine ⟨fun h => ?_, fun h => ?_⟩
  · simp [h, hasAlert_raiseAlert]
  · simp [h]

theorem retirePanel_panels (s : State) (p : Panel) (v : Verdict) :
    (s.retirePanel p v).rst.panels = s.rst.panels.filter fun q => q.serial != p.serial := by
  unfold State.retirePanel
  dsimp only
  split <;> simp [State.removePanel]

theorem retirePanel_last (s : State) (p : Panel) (v : Verdict) : (s.retirePanel p v).exu.last = some (p.disposition v) := by
  unfold State.retirePanel
  dsimp only
  split <;> simp [State.setLast]

theorem Lot.tally_number (l : Lot) (v : Verdict) : (l.tally v).number = l.number := by cases v <;> rfl

theorem lot?_number {s : State} {n : Nat} {l : Lot} (h : s.lot? n = some l) : l.number = n := by
  simpa using List.find?_some h

theorem lot?_congr {s t : State} (h : t.rst.lots = s.rst.lots) (n : Nat) : t.lot? n = s.lot? n := by
  unfold State.lot?
  rw [h]

theorem tallyPanel_lot? {s : State} {p : Panel} {l : Lot} (v : Verdict) (hkind : p.kind = .product) (hl : s.lot? p.key.lot = some l) :
    (s.tallyPanel p v).lot? p.key.lot = some (l.tally v) := by
  unfold State.tallyPanel
  rw [if_pos hkind, hl]
  have hself := lot?_putLot_self s (l.tally v)
  rwa [Lot.tally_number, lot?_number hl] at hself

theorem tallyPanel_of_waste {s : State} {p : Panel} (v : Verdict) (hkind : p.kind = .waste) : s.tallyPanel p v = s := by
  unfold State.tallyPanel
  rw [if_neg (by rw [hkind]; decide)]

/-- A completion changes a lot's state and nothing else of the table of lots. -/
theorem testCompletion_lot? {s : State} {n : Nat} {l : Lot} (h : s.lot? n = some l) :
    (s.testCompletion n).lot? n =
      some (if l.state = .fed ∧ l.started = l.planned ∧ s.hasPanelsOf n = false then { l with state := .done } else l) := by
  unfold State.testCompletion
  rw [h]
  dsimp only
  split
  · obtain rfl := lot?_number h
    rw [lot?_congr (s := s.putLot { l with state := .done }) (by simp)]
    exact lot?_putLot_self s { l with state := .done }
  · exact h

theorem retirePanel_lot? {s : State} {p : Panel} {l : Lot} (v : Verdict) (hkind : p.kind = .product) (hl : s.lot? p.key.lot = some l) :
    ∃ l', (s.retirePanel p v).lot? p.key.lot = some l' ∧ l'.good = (l.tally v).good ∧ l'.rejected = (l.tally v).rejected := by
  unfold State.retirePanel
  dsimp only
  rw [if_pos hkind]
  have htally : (((s.tallyPanel p v).removePanel p.serial).setLast (p.disposition v)).lot? p.key.lot = some (l.tally v) := by
    rw [lot?_congr (s := s.tallyPanel p v) (by simp), tallyPanel_lot? v hkind hl]
  rw [lot?_congr (congrArg Store.lots (State.retarget_frame _).2.2.1), testCompletion_lot? htally]
  exact ⟨_, rfl, by split <;> rfl, by split <;> rfl⟩

theorem retirePanel_lots_of_waste {s : State} {p : Panel} (v : Verdict) (hkind : p.kind = .waste) :
    (s.retirePanel p v).rst.lots = s.rst.lots := by
  unfold State.retirePanel
  dsimp only
  rw [if_neg (by rw [hkind]; decide)]
  simp [tallyPanel_of_waste v hkind]

/-! ### One tail arrival -/

/-- The state in which a tail's record is retired: the cut begun, or the fault passed on; and DIVERT driven. -/
def State.tailJudged (s : State) (p : Panel) : State :=
  (if s.cutMade then s.beginCut p.serial else s.uncutTail p.serial).setDivert (p.toReject (p.verdict (!s.cutMade)))

theorem tailArrival_eq (s : State) (p : Panel) :
    s.tailArrival p = (s.tailJudged p).retirePanel p (p.verdict (!s.cutMade)) := rfl

theorem tailJudged_lots (s : State) (p : Panel) : (s.tailJudged p).rst.lots = s.rst.lots := by
  unfold State.tailJudged
  split <;> simp

theorem tailArrival_panels (s : State) (p : Panel) :
    (s.tailArrival p).rst.panels =
      (if s.cutMade then s.rst.panels else s.rst.panels.map (Panel.faultedIf (p.serial + 1))).filter fun q => q.serial != p.serial := by
  rw [tailArrival_eq, retirePanel_panels]
  unfold State.tailJudged
  split <;> simp [uncutTail_panels]

/-- An arrival leaves no tail due but those that were, its own apart. -/
theorem dueTails_tailArrival {s : State} {p : Panel} (h : s.dueTails = [p]) : (s.tailArrival p).dueTails = [] := by
  have hdue : ∀ q ∈ s.rst.panels, Config.cutterPlace ≤ q.tailDistance s.exu.b → q = p := fun q hq hd =>
    List.mem_singleton.mp (h ▸ List.mem_filter.mpr ⟨hq, by simpa using hd⟩ : q ∈ [p])
  refine List.filter_eq_nil_iff.mpr fun q hq hd => ?_
  rw [tailArrival_panels] at hq
  obtain ⟨hq, hserial⟩ := List.mem_filter.mp hq
  simp only [State.tailArrival_frame, decide_eq_true_eq] at hd
  simp only [bne_iff_ne, ne_eq] at hserial
  split at hq
  · exact hserial (hdue q hq hd ▸ rfl)
  · obtain ⟨q', hq', rfl⟩ := List.mem_map.mp hq
    rw [Panel.faultedIf_tailDistance] at hd
    rw [Panel.faultedIf_serial] at hserial
    exact hserial (hdue q' hq' hd ▸ rfl)

theorem tailArrival_divert (s : State) (p : Panel) :
    (s.tailArrival p).exu.divert = p.toReject (p.verdict (!s.cutMade)) := by
  simp [tailArrival_eq, State.tailJudged, State.setDivert]

theorem tailArrival_last (s : State) (p : Panel) :
    (s.tailArrival p).exu.last = some (p.disposition (p.verdict (!s.cutMade))) := by
  rw [tailArrival_eq, retirePanel_last]

theorem tailArrival_lot? {s : State} {p : Panel} {l : Lot} (hkind : p.kind = .product) (hl : s.lot? p.key.lot = some l) :
    ∃ l', (s.tailArrival p).lot? p.key.lot = some l' ∧ l'.good = (l.tally (p.verdict (!s.cutMade))).good ∧
      l'.rejected = (l.tally (p.verdict (!s.cutMade))).rejected := by
  rw [tailArrival_eq]
  exact retirePanel_lot? _ hkind ((lot?_congr (tailJudged_lots s p) _).trans hl)

theorem tailArrival_lots_of_waste {s : State} {p : Panel} (hkind : p.kind = .waste) :
    (s.tailArrival p).rst.lots = s.rst.lots := by
  rw [tailArrival_eq, retirePanel_lots_of_waste _ hkind, tailJudged_lots]

/-- A tail that is cut (R141). -/
theorem tailArrival_of_cut {s : State} (p : Panel) (h : s.cutMade = true) :
    (s.tailArrival p).exu.cut = true ∧ (s.tailArrival p).exu.limit = some 250 ∧ (s.tailArrival p).exu.cycle = .stroke ∧
      (s.tailArrival p).exu.cutSerial = some p.serial ∧ (s.tailArrival p).exu.pendingFault = s.exu.pendingFault ∧
      (s.tailArrival p).rst.panels = s.rst.panels.filter fun q => q.serial != p.serial := by
  refine ⟨?_, ?_, ?_, ?_, ?_, by rw [tailArrival_panels, if_pos h]⟩ <;>
    simp [tailArrival_eq, State.tailJudged, h, State.beginCut]

/-- A tail that is not cut (R145, R146). -/
theorem tailArrival_of_uncut {s : State} (p : Panel) (h : s.cutMade = false) :
    (s.tailArrival p).exu.cut = s.exu.cut ∧ (s.tailArrival p).exu.limit = s.exu.limit ∧
      (s.tailArrival p).exu.cycle = s.exu.cycle ∧ (s.tailArrival p).exu.cutSerial = s.exu.cutSerial ∧
      (s.tailArrival p).rst.panels =
        (s.rst.panels.map (Panel.faultedIf (p.serial + 1))).filter (fun q => q.serial != p.serial) ∧
      (s.rst.panelSerial = p.serial + 1 → s.hasSerial (p.serial + 1) = false → (s.tailArrival p).exu.pendingFault = true) ∧
      (s.sgv.gov ≠ .tripped → (s.tailArrival p).hasAlert .cutOverrun = true) ∧
      (s.sgv.gov = .tripped → (s.tailArrival p).lnk.alerts = s.lnk.alerts) := by
  have halerts : (s.tailArrival p).lnk.alerts = (s.uncutTail p.serial).lnk.alerts := by
    simp [tailArrival_eq, State.tailJudged, h]
  obtain ⟨hraised, htripped⟩ := uncutTail_alerts s p.serial
  refine ⟨?_, ?_, ?_, ?_, by simp [tailArrival_panels, h], fun hnext hnone => ?_, fun hg => ?_, fun hg => halerts.trans (htripped hg)⟩
  iterate 4 simp [tailArrival_eq, State.tailJudged, h]
  · simp [tailArrival_eq, State.tailJudged, h, uncutTail_pendingFault, passCutFault_pending hnext hnone]
  · unfold State.hasAlert
    rw [halerts]
    exact hraised hg

/-! ### The verdict -/

/-- R147: the verdict is the first reason present. -/
theorem verdict_first_reason (p : Panel) (uncut : Bool) :
    (p.verdict uncut = .rejected .cut ↔ uncut = true ∨ p.cutFault = true) ∧
      (p.verdict uncut = .rejected .operator ↔ uncut = false ∧ p.cutFault = false ∧ p.reject = true) ∧
      (p.verdict uncut = .rejected .joint ↔ uncut = false ∧ p.cutFault = false ∧ p.reject = false ∧ p.joint = true) ∧
      (p.verdict uncut = .rejected .strike ↔
        uncut = false ∧ p.cutFault = false ∧ p.reject = false ∧ p.joint = false ∧ 0 < p.missed) ∧
      (p.verdict uncut = .rejected .overDose ↔
        uncut = false ∧ p.cutFault = false ∧ p.reject = false ∧ p.joint = false ∧ p.missed = 0 ∧ p.doseMax < p.totalDose) ∧
      (p.verdict uncut = .rejected .shortDose ↔
        uncut = false ∧ p.cutFault = false ∧ p.reject = false ∧ p.joint = false ∧ p.missed = 0 ∧
          p.totalDose ≤ p.doseMax ∧ p.totalDose < p.doseMin) ∧
      (p.verdict uncut = .good ↔
        uncut = false ∧ p.cutFault = false ∧ p.reject = false ∧ p.joint = false ∧ p.missed = 0 ∧
          p.totalDose ≤ p.doseMax ∧ p.doseMin ≤ p.totalDose) := by
  unfold Panel.verdict
  split_ifs with hcut hoperator hjoint hstrike hover hshort
  · simp only [Bool.or_eq_true] at hcut
    rcases hcut with h | h <;> simp [h]
  all_goals simp_all
  all_goals omega

/-! ### A belt count -/

theorem countBelt_dueTails_eq_nil {d : Travel} {s : State}
    (h : ∀ p ∈ s.rst.panels, coordDiff (d.move s.exu.b) p.head - (p.pleatedLen : Int) < 95000) : (s.countBelt d).dueTails = [] := by
  refine List.filter_eq_nil_iff.mpr fun p hp hdue => ?_
  have hlt := h p hp
  have hge : Config.cutterPlace ≤ coordDiff (d.move s.exu.b) p.head - (p.pleatedLen : Int) := of_decide_eq_true hdue
  simp only [Config.cutterPlace] at hge
  omega

theorem beltCount_quiet (d : Travel) (s : State)
    (h : d = .reverse ∨ ∀ p ∈ s.rst.panels, coordDiff (d.move s.exu.b) p.head - (p.pleatedLen : Int) < 95000) :
    Completes (.beltCount d) s
      { s with exu := { s.exu with b := d.move s.exu.b, belt := { s.exu.belt with cur := s.exu.belt.cur + d.sign } } } := by
  have hunits : (s.countBelt d).beltUnits d = s.countBelt d := by
    cases d with
    | reverse => rfl
    | forward => exact allTails_of_none_due (countBelt_dueTails_eq_nil (h.resolve_left (by decide)))
  have hexec : exec (.beltCount d) s = .next (s.countBelt d).endAct := by
    simp only [exec, execBeltCount, hunits]
  exact completes_of_endAct hexec rfl

theorem beltCount_one_tail {s : State} {p : Panel} (h : (s.countBelt .forward).dueTails = [p]) :
    exec (.beltCount .forward) s = .next ((s.countBelt .forward).tailArrival p).endAct := by
  simp only [exec, execBeltCount, State.beltUnits, allTails_of_one_due h (dueTails_tailArrival h)]

theorem cutMade_eq (s : State) : s.cutMade = (decide (s.exu.cycle = .idle) && decide (s.sgv.gov ≠ .tripped)) := by
  unfold State.cutMade
  cases s.exu.cycle <;> cases s.sgv.gov <;> rfl

theorem Panel.toReject_eq (p : Panel) (v : Verdict) : p.toReject v = !(decide (p.kind = .product) && decide (v = .good)) := rfl

/-- Settles O20: no tail due, one tail due, and the verdict. -/
theorem beltCountBringsTailsToTheCutter : Obligations.BeltCountBringsTailsToTheCutter := by
  unfold Obligations.BeltCountBringsTailsToTheCutter
  refine ⟨beltCount_quiet, fun s p hdue => ?_, verdict_first_reason⟩
  have hmade : (s.countBelt .forward).cutMade = (decide (s.exu.cycle = .idle) && decide (s.sgv.gov ≠ .tripped)) := by
    rw [cutMade_eq]
    simp
  have hlots : (s.countBelt .forward).lot? p.key.lot = s.lot? p.key.lot := rfl
  refine ⟨_, beltCount_one_tail hdue, ?divert, ?last, fun l hkind hl => ?product, fun hkind => ?waste, fun h => ?cut, fun h => ?uncut⟩
  case divert => simp only [State.endAct_frame, tailArrival_divert, hmade, Panel.toReject_eq]
  case last => simp only [State.endAct_frame, tailArrival_last, hmade, Panel.disposition, Panel.toReject_eq]
  case product =>
    rw [← hmade, lot?_congr (s := State.tailArrival _ p) (congrArg Store.lots (State.endAct_frame _).2.2.2.1)]
    exact tailArrival_lot? hkind (hlots.trans hl)
  case waste => simpa using tailArrival_lots_of_waste (s := s.countBelt .forward) hkind
  case cut => simpa using tailArrival_of_cut p (hmade.trans h)
  case uncut =>
    rw [hasAlert_endAct]
    simp only [State.endAct_frame]
    exact tailArrival_of_uncut p (hmade.trans h)

end Sys2Proof.Machine
end

section
/-! SUPPORT. A feed count (O16): the ways its parts can follow each other, what it leaves, the quiet count, and the ACTIVE roll. -/

namespace Sys2Proof.Machine

/-! ### FSU and LTR on one feed count -/

/-- The orders in which FSU's and LTR's parts of a forward count can stand (log entry 10). -/
theorem feedUnits_forward_cases (s : State) :
    s.feedUnits .forward = (s.fsuCount .forward).segmentArrival ∨
      s.feedUnits .forward = (s.takeFree.fsuCount .forward).segmentArrival ∨
      s.feedUnits .forward = s.takeFree.segmentArrival.fsuCount .forward := by
  simp only [State.feedUnits]
  split
  · split
    · exact Or.inr (Or.inl rfl)
    · exact Or.inr (Or.inr rfl)
  · exact Or.inl rfl

/-- What FSU's and LTR's parts each keep, both keep together in every order. -/
theorem feedUnits_relates {R : State → State → Prop} (htrans : ∀ {s t u}, R s t → R t u → R s u) (hfree : ∀ s, R s s.takeFree)
    (hcount : ∀ s d, R s (s.fsuCount d)) (hsegment : ∀ s, R s s.segmentArrival) (s : State) (d : Travel) : R s (s.feedUnits d) := by
  cases d with
  | reverse => exact hcount s .reverse
  | forward =>
    rcases feedUnits_forward_cases s with h | h | h <;> rw [h]
    · exact htrans (hcount s _) (hsegment _)
    · exact htrans (htrans (hfree s) (hcount _ _)) (hsegment _)
    · exact htrans (htrans (hfree s) (hsegment _)) (hcount _ _)

/-! ### The standstill window -/

/-- Where the standstill window has just been started in one state, it has in the other. -/
def KeepsStandstill (s t : State) : Prop :=
  s.sgv.standstill = false → s.sgv.standWindow = some 200 → t.sgv.standstill = false ∧ t.sgv.standWindow = some 200

theorem KeepsStandstill.trans {s t u : State} (h : KeepsStandstill s t) (h' : KeepsStandstill t u) : KeepsStandstill s u :=
  fun hs hw => have ⟨hs', hw'⟩ := h hs hw; h' hs' hw'

theorem keepsStandstill_of_eq {s t : State} (hs : t.sgv.standstill = s.sgv.standstill) (hw : t.sgv.standWindow = s.sgv.standWindow) :
    KeepsStandstill s t :=
  fun h h' => ⟨hs.trans h, hw.trans h'⟩

/-- The entry into HALTING starts the window itself (R161). -/
theorem enterHalting_keepsStandstill (s : State) : KeepsStandstill s s.enterHalting := by
  intro _ _
  unfold State.enterHalting
  dsimp only
  split <;> simp

theorem stopLine_keepsStandstill (s : State) : KeepsStandstill s s.stopLine := by
  unfold State.stopLine
  split
  · exact enterHalting_keepsStandstill s
  · split
    · exact fun h h' => ⟨h, h'⟩
    · exact enterHalting_keepsStandstill s
  · split
    · exact fun h h' => ⟨h, h'⟩
    · exact enterHalting_keepsStandstill s
  all_goals exact fun h h' => ⟨h, h'⟩

theorem rollOut_keepsStandstill (s : State) : KeepsStandstill s s.rollOut := by
  have hraise : ∀ u : State, KeepsStandstill u (u.raiseStop .rollOut) := fun u =>
    KeepsStandstill.trans (keepsStandstill_of_eq (by simp) (by simp)) (stopLine_keepsStandstill _)
  unfold State.rollOut
  refine KeepsStandstill.trans ?_ (hraise _)
  (repeat' split) <;> exact keepsStandstill_of_eq (by simp) (by simp)

/-- The three orders of the match count and a roll that runs out. -/
theorem matchAndRollOut_cases (s : State) (d : Travel) (out : Bool) :
    (out = false ∧ s.matchAndRollOut d out = s.matchPart d) ∨
      (out = true ∧ (s.matchAndRollOut d out = (s.matchPart d).rollOut ∨ s.matchAndRollOut d out = (s.matchPart d).rollOut.takeFree ∨
        s.matchAndRollOut d out = ((s.rollOut).matchPart d).takeFree)) := by
  unfold State.matchAndRollOut
  cases out with
  | false => exact Or.inl ⟨rfl, rfl⟩
  | true =>
    refine Or.inr ⟨rfl, ?_⟩
    simp only [if_true]
    split
    · split
      · exact Or.inr (Or.inl rfl)
      · exact Or.inr (Or.inr rfl)
    · exact Or.inl rfl

theorem matchAndRollOut_keepsStandstill (s : State) (d : Travel) (out : Bool) : KeepsStandstill s (s.matchAndRollOut d out) := by
  have hmatch : ∀ u : State, KeepsStandstill u (u.matchPart d) := fun u => keepsStandstill_of_eq (by simp) (by simp)
  have hfree : ∀ u : State, KeepsStandstill u u.takeFree := fun u => keepsStandstill_of_eq (by simp) (by simp)
  rcases matchAndRollOut_cases s d out with ⟨-, h⟩ | ⟨-, h | h | h⟩ <;> rw [h]
  · exact hmatch s
  · exact (hmatch s).trans (rollOut_keepsStandstill _)
  · exact ((hmatch s).trans (rollOut_keepsStandstill _)).trans (hfree _)
  · exact ((rollOut_keepsStandstill s).trans (hmatch _)).trans (hfree _)

/-- The parts of FSU's count, in their order. -/
theorem fsuCount_relates {R : State → State → Prop} (htrans : ∀ {s t u}, R s t → R t u → R s u) {s : State} {d : Travel}
    (hrefl : ∀ s, R s s) (htension : ∀ s, R s (s.tensionPart d)) (hcharge : ∀ s, R s (s.chargeRoll d)) (hjudge : ∀ s, R s s.judgeExpiring)
    (hmatch : ∀ s out, R s (s.matchAndRollOut d out)) (hsplice : ∀ s, R s s.autoSpliceTest) : R s (s.fsuCount d) := by
  unfold State.fsuCount
  refine htrans (htrans (htrans (htrans (htension s) (hcharge _)) (hjudge _)) (hmatch _ (s.rollsOut d))) ?_
  dsimp only
  split
  · exact hsplice _
  · exact hrefl _

theorem fsuCount_keepsStandstill (s : State) (d : Travel) : KeepsStandstill s (s.fsuCount d) :=
  fsuCount_relates (R := KeepsStandstill) KeepsStandstill.trans (fun _ h h' => ⟨h, h'⟩) (fun _ => keepsStandstill_of_eq (by simp) (by simp))
    (fun _ => keepsStandstill_of_eq (by simp) (by simp)) (fun _ => keepsStandstill_of_eq (by simp) (by simp))
    (fun u out => matchAndRollOut_keepsStandstill u d out) (fun _ => keepsStandstill_of_eq (by simp) (by simp))

theorem feedUnits_keepsStandstill (s : State) (d : Travel) : KeepsStandstill s (s.feedUnits d) :=
  feedUnits_relates (R := KeepsStandstill) KeepsStandstill.trans (fun _ => keepsStandstill_of_eq (by simp) (by simp))
    fsuCount_keepsStandstill (fun _ => keepsStandstill_of_eq (by simp) (by simp)) s d

/-! ### The Line record -/

/-- The Line record is another's but for the requested station. -/
def SharesLine (s t : State) : Prop := t.rst.line = { s.rst.line with requested := t.rst.line.requested }

theorem SharesLine.trans {s t u : State} (h : SharesLine s t) (h' : SharesLine t u) : SharesLine s u := by
  unfold SharesLine at *
  rw [h', h]

theorem sharesLine_of_eq {s t : State} (h : t.rst.line = s.rst.line) : SharesLine s t := by
  unfold SharesLine
  rw [h]

theorem autoSpliceTest_sharesLine (s : State) : SharesLine s s.autoSpliceTest := by
  unfold State.autoSpliceTest
  split
  · unfold State.attemptAutoSplice
    split
    · dsimp only
      split <;> simp [SharesLine]
    · exact sharesLine_of_eq rfl
  · exact sharesLine_of_eq rfl

theorem fsuCount_sharesLine (s : State) (d : Travel) : SharesLine s (s.fsuCount d) :=
  fsuCount_relates (R := SharesLine) SharesLine.trans (fun _ => sharesLine_of_eq rfl) (fun _ => sharesLine_of_eq (by simp))
    (fun _ => sharesLine_of_eq (by simp)) (fun _ => sharesLine_of_eq (by simp)) (fun _ _ => sharesLine_of_eq (by simp))
    autoSpliceTest_sharesLine

theorem feedUnits_sharesLine (s : State) (d : Travel) : SharesLine s (s.feedUnits d) :=
  feedUnits_relates (R := SharesLine) SharesLine.trans (fun _ => sharesLine_of_eq (by simp)) fsuCount_sharesLine
    (fun _ => sharesLine_of_eq (by simp)) s d

/-! ### The receivers -/

/-- Both ports' receivers are those of another state. -/
def SharesReceivers (s t : State) : Prop := ∀ p, (t.port p).receiver = (s.port p).receiver

theorem SharesReceivers.trans {s t u : State} (h : SharesReceivers s t) (h' : SharesReceivers t u) : SharesReceivers s u :=
  fun p => (h' p).trans (h p)

theorem sharesReceivers_of_ports {s t : State} (hsup : t.lnk.sup = s.lnk.sup) (hpen : t.lnk.pen = s.lnk.pen) : SharesReceivers s t :=
  fun p => congrArg PortState.receiver (port_congr hsup hpen p)

theorem sweep_sharesReceivers (s : State) : SharesReceivers s s.sweep := fun p => by cases p <;> rfl

theorem removePanel_sharesReceivers (s : State) (n : Nat) : SharesReceivers s (s.removePanel n) := sweep_sharesReceivers _

theorem testCompletion_sharesReceivers (s : State) (n : Nat) : SharesReceivers s (s.testCompletion n) := by
  unfold State.testCompletion
  split
  · exact fun _ => rfl
  · split
    · exact SharesReceivers.trans (sharesReceivers_of_ports (by simp) (by simp)) (sweep_sharesReceivers _)
    · exact fun _ => rfl

theorem retirePanel_sharesReceivers (s : State) (p : Panel) (v : Verdict) : SharesReceivers s (s.retirePanel p v) := by
  have hretarget : ∀ u : State, SharesReceivers u u.retarget := fun u => sharesReceivers_of_ports (by simp) (by simp)
  have hremove : SharesReceivers s (((s.tallyPanel p v).removePanel p.serial).setLast (p.disposition v)) :=
    ((sharesReceivers_of_ports (by simp) (by simp)).trans (removePanel_sharesReceivers (s.tallyPanel p v) p.serial)).trans
      (sharesReceivers_of_ports (by simp) (by simp))
  unfold State.retirePanel
  dsimp only
  split
  · exact (hremove.trans (testCompletion_sharesReceivers _ _)).trans (hretarget _)
  · exact hremove.trans (hretarget _)

theorem retireEarly_sharesReceivers (s : State) (p : Panel) : SharesReceivers s (s.retireEarly p) := by
  have hpass : SharesReceivers s (s.passCutFault p.serial) := sharesReceivers_of_ports (by simp) (by simp)
  have hraise : ∀ u : State, SharesReceivers u (u.raiseAlert .cutOverrun) := fun u => sharesReceivers_of_ports (by simp) (by simp)
  exact (hpass.trans (retirePanel_sharesReceivers _ p _)).trans (hraise _)

theorem makeRoom_sharesReceivers (s : State) : SharesReceivers s s.makeRoom := by
  unfold State.makeRoom
  split
  · split
    · exact fun _ => rfl
    · exact retireEarly_sharesReceivers s _
  · exact fun _ => rfl

theorem panelStart_sharesReceivers (s : State) (c : Coord) : SharesReceivers s (s.panelStart c) := by
  refine (makeRoom_sharesReceivers s).trans ?_
  unfold State.panelStart
  dsimp only
  split
  · split
    · exact sharesReceivers_of_ports (by simp) (by simp)
    · exact fun _ => rfl
  · exact sharesReceivers_of_ports (by simp) (by simp)

theorem formUnits_sharesReceivers (s : State) (d : Travel) : SharesReceivers s (s.formUnits d) := by
  cases d with
  | reverse => exact fun _ => rfl
  | forward =>
    have hstart : ∀ u : State, SharesReceivers u u.panelStartArrival := by
      intro u
      unfold State.panelStartArrival
      split
      · exact fun _ => rfl
      · split
        · exact panelStart_sharesReceivers u _
        · exact fun _ => rfl
    have hstrike : SharesReceivers s s.strikeArrival := sharesReceivers_of_ports (by simp) (by simp)
    have htarget : ∀ u : State, SharesReceivers u u.targetArrival := fun u => sharesReceivers_of_ports (by simp) (by simp)
    exact (hstrike.trans (hstart _)).trans (htarget _)

theorem segmentArrival_sharesReceivers (s : State) : SharesReceivers s s.segmentArrival := by
  have hentry : ∀ (u : State) (c : Coord), SharesReceivers u (u.entryDecision c) := fun u c =>
    sharesReceivers_of_ports (by simp) (by simp)
  have hfed : ∀ (u : State) (n : Nat), SharesReceivers u (u.makeFed n) := by
    intro u n
    unfold State.makeFed
    split
    · exact fun _ => rfl
    · exact SharesReceivers.trans (sharesReceivers_of_ports (by simp) (by simp)) (testCompletion_sharesReceivers _ _)
  unfold State.segmentArrival
  split
  · unfold State.segmentEnd
    split
    · exact (hfed s _).trans (hentry _ _)
    · exact hentry s _
    · exact fun _ => rfl
  · exact fun _ => rfl

theorem feedUnits_sharesReceivers (s : State) (d : Travel) : SharesReceivers s (s.feedUnits d) :=
  feedUnits_relates (R := SharesReceivers) SharesReceivers.trans (fun _ => sharesReceivers_of_ports (by simp) (by simp))
    (fun _ _ => sharesReceivers_of_ports (by simp) (by simp)) segmentArrival_sharesReceivers s d

end Sys2Proof.Machine
end

section
/-! SUPPORT. A feed count, continued (O16): the quiet count, and the ACTIVE roll's length. -/

namespace Sys2Proof.Machine

/-! ### A count that finds nothing to do -/

theorem tensionPart_idle {s : State} (hlock : s.fsu.lockCount = none) (hwatch : s.fsu.lossWatch = none) (d : Travel) :
    s.tensionPart d = s := by
  have hcount : s.countTension = s := by
    have hmap : s.fsu.lockCount.map (fun n => min lockCounts (n + 1)) = s.fsu.lockCount := by rw [hlock]; rfl
    have hmap' : (if s.sgv.gov = .run then s.fsu.lossWatch.map fun n => min watchCounts (n + 1) else s.fsu.lossWatch) =
        s.fsu.lossWatch := by rw [hwatch]; split <;> rfl
    unfold State.countTension
    rw [hmap, hmap']
  cases d with
  | reverse => rfl
  | forward => simp only [State.tensionPart, hcount, State.lockReached, hlock, State.watchReached, hwatch]

theorem matchPart_idle {s : State} (h : s.fsu.phase = .idle) (d : Travel) : s.matchPart d = s := by
  cases d <;> simp [State.matchPart, State.countMatch, State.matchReached, State.pressTest, h]

/-- With no ACTIVE roll, no splice and no tension count, FSU does nothing at a count. -/
theorem fsuCount_idle {s : State} (hphase : s.fsu.phase = .idle) (hactive : s.activeStation = none) (hlock : s.fsu.lockCount = none)
    (hwatch : s.fsu.lossWatch = none) (d : Travel) : s.fsuCount d = s := by
  have hroll : s.activeRoll? = none := by simp [State.activeRoll?, hactive]
  simp [State.fsuCount, tensionPart_idle hlock hwatch, State.chargeRoll, hroll, State.judgeExpiring, hactive, State.rollsOut,
    State.matchAndRollOut, matchPart_idle hphase, State.activeExpiring]

theorem reaches_eq_false_iff (x c : Coord) : reaches x c = false ↔ coordDiff x c < 0 := by
  simp [reaches]

theorem segmentDue_eq_false {s : State} (h : ∀ b e, s.segmentExtent = some (b, e) → coordDiff s.fsu.w e < 0) : s.segmentDue = false := by
  unfold State.segmentDue
  split
  · rfl
  · rename_i b e hext
    exact (reaches_eq_false_iff _ _).mpr (h b e hext)

theorem strikeArrival_notDue {s : State} (h : ∀ c k, s.pfm.nextStrike = some (c, k) → coordDiff s.fsu.w c < 20000) :
    s.strikeArrival = s := by
  unfold State.strikeArrival
  split
  · rename_i c k f hstrike _
    exact if_neg (Int.not_le.mpr (h c k hstrike))
  · rfl

theorem panelStartArrival_notDue {s : State} (h : ∀ c, s.pfm.nextStart = some c → coordDiff s.fsu.w c < 20000) :
    s.panelStartArrival = s := by
  unfold State.panelStartArrival
  split
  · rfl
  · rename_i c hstart
    exact if_neg (Int.not_le.mpr (h c hstart))

theorem targetArrival_none {s : State} (h : s.pfm.stepTarget = none) : s.targetArrival = s := by
  simp [State.targetArrival, h]

theorem formUnits_notDue {s : State} (hstart : ∀ c, s.pfm.nextStart = some c → coordDiff s.fsu.w c < 20000)
    (hstrike : ∀ c k, s.pfm.nextStrike = some (c, k) → coordDiff s.fsu.w c < 20000) (d : Travel) :
    s.formUnits d = match d with
      | .forward => s.targetArrival
      | .reverse => s := by
  cases d with
  | reverse => rfl
  | forward => simp only [State.formUnits, strikeArrival_notDue hstrike, panelStartArrival_notDue hstart]

/-- R1, R6, R57: the count that finds nothing to do. -/
theorem feedCount_quiet (d : Travel) (s : State) (hphase : s.fsu.phase = .idle) (hactive : s.activeStation = none)
    (hlock : s.fsu.lockCount = none) (hwatch : s.fsu.lossWatch = none)
    (hend : ∀ h e, s.segmentExtent = some (h, e) → coordDiff (d.move s.fsu.w) e < 0)
    (hstart : ∀ c, s.pfm.nextStart = some c → coordDiff (d.move s.fsu.w) c < 20000)
    (hstrike : ∀ c k, s.pfm.nextStrike = some (c, k) → coordDiff (d.move s.fsu.w) c < 20000) (htarget : s.pfm.stepTarget = none) :
    Completes (.feedCount d) s
      { s with
        fsu := { s.fsu with w := d.move s.fsu.w, web := { s.fsu.web with cur := s.fsu.web.cur + d.sign } }
        sgv := { s.sgv with standstill := false, standWindow := some 200 } } := by
  have hcount : (s.countWeb d).fsuCount d = s.countWeb d := fsuCount_idle (s := s.countWeb d) hphase hactive hlock hwatch d
  have hdue : (s.countWeb d).segmentDue = false := segmentDue_eq_false hend
  have hfeed : (s.countWeb d).feedUnits d = s.countWeb d := by
    cases d with
    | reverse => exact hcount
    | forward => simp [State.feedUnits, hdue, hcount, State.segmentArrival]
  have hform : (s.countWeb d).formUnits d = s.countWeb d := by
    rw [formUnits_notDue hstart hstrike]
    cases d with
    | reverse => rfl
    | forward => exact targetArrival_none htarget
  have hexec : exec (.feedCount d) s = .next (s.countWeb d).endAct := by
    simp only [exec, execFeedCount, hfeed, hform]
  exact completes_of_endAct hexec rfl

/-! ### The ACTIVE roll -/

/-- A record put over one of its own key is found wherever that one was. -/
theorem find?_upsert_of_find? {α : Type} {key : α → Nat} {test : α → Bool} {l : List α} {x y : α} (h : l.find? test = some x)
    (hkey : key y = key x) (htest : test y = true) : (upsert key y l).find? test = some y := by
  induction l with
  | nil => cases h
  | cons z zs ih =>
    unfold upsert
    split
    · exact List.find?_cons_of_pos htest
    · split
      · exact List.find?_cons_of_pos htest
      · rename_i hne
        by_cases hz : test z = true
        · rw [List.find?_cons_of_pos hz] at h
          cases h
          exact absurd hkey hne
        · rw [List.find?_cons_of_neg hz] at h ⊢
          exact ih h

theorem boundRoll?_station {s : State} {x : Station} {r : Roll} (h : s.boundRoll? x = some r) : r.station = some x := by
  simpa using List.find?_some h

theorem boundRoll?_putRoll {s : State} {x : Station} {r r' : Roll} (h : s.boundRoll? x = some r) (htag : r'.tag = r.tag)
    (hstation : r'.station = r.station) : (s.putRoll r').boundRoll? x = some r' :=
  find?_upsert_of_find? (key := Roll.tag) h htag (by simp [hstation, boundRoll?_station h])

theorem activeStation_congr {s t : State} (ha : t.fsu.staA = s.fsu.staA) (hb : t.fsu.staB = s.fsu.staB) :
    t.activeStation = s.activeStation := by
  unfold State.activeStation
  rw [ha, hb]

/-- A station that neither was nor becomes FEEDING leaves the active one. -/
theorem activeStation_setStation {s : State} {x : Station} {v : StationState} (hwas : s.station x ≠ .feeding) (hv : v ≠ .feeding) :
    (s.setStation x v).activeStation = s.activeStation := by
  cases x with
  | a =>
    show (if v = .feeding then some .a else if s.fsu.staB = .feeding then some .b else none) = s.activeStation
    have hwas' : s.fsu.staA ≠ .feeding := hwas
    unfold State.activeStation
    rw [if_neg hv, if_neg hwas']
  | b =>
    show (if s.fsu.staA = .feeding then some .a else if v = .feeding then some .b else none) = s.activeStation
    have hwas' : s.fsu.staB ≠ .feeding := hwas
    unfold State.activeStation
    rw [if_neg hv, if_neg hwas']

theorem roll?_congr {s t : State} (h : t.rst.rolls = s.rst.rolls) (tag : Nat) : t.roll? tag = s.roll? tag := by
  unfold State.roll?
  rw [h]

theorem boundRoll?_congr {s t : State} (h : t.rst.rolls = s.rst.rolls) (x : Station) : t.boundRoll? x = s.boundRoll? x := by
  unfold State.boundRoll?
  rw [h]

theorem activeRoll?_congr {s t : State} (hstation : t.activeStation = s.activeStation) (h : t.rst.rolls = s.rst.rolls) :
    t.activeRoll? = s.activeRoll? := by
  unfold State.activeRoll?
  rw [hstation]
  exact congrArg _ (funext fun x => boundRoll?_congr h x)

theorem activeRoll?_eq_some {s : State} {r : Roll} :
    s.activeRoll? = some r ↔ ∃ x, s.activeStation = some x ∧ s.boundRoll? x = some r := by
  unfold State.activeRoll?
  exact Option.bind_eq_some_iff

theorem releaseIncoming_activeStation (s : State) : s.releaseIncoming.activeStation = s.activeStation := by
  unfold State.releaseIncoming
  split
  · rfl
  · split
    · rename_i hwas
      exact activeStation_setStation (by rcases hwas with h | h <;> simp [h]) (by decide)
    · rfl

theorem abandonSplice_activeStation (s : State) (o : SpliceOutcome) : (s.abandonSplice o).activeStation = s.activeStation := by
  unfold State.abandonSplice
  split
  · rfl
  · split
    · exact releaseIncoming_activeStation s
    · rfl

theorem enterHalting_activeStation (s : State) : s.enterHalting.activeStation = s.activeStation := by
  unfold State.enterHalting
  dsimp only
  split
  · rw [abandonSplice_activeStation]
    exact activeStation_congr (by simp) (by simp)
  · exact activeStation_congr (by simp) (by simp)

theorem stopLine_activeStation (s : State) : s.stopLine.activeStation = s.activeStation := by
  unfold State.stopLine
  split
  · exact enterHalting_activeStation s
  · split
    · rfl
    · exact enterHalting_activeStation s
  · split
    · rfl
    · exact enterHalting_activeStation s
  all_goals rfl

theorem rollOut_activeStation (s : State) : s.rollOut.activeStation = s.activeStation := by
  have hraise : ∀ u : State, (u.raiseStop .rollOut).activeStation = u.activeStation := fun u => stopLine_activeStation _
  unfold State.rollOut
  rw [hraise]
  split
  · split
    · rfl
    · exact abandonSplice_activeStation s _
  · rfl

theorem matchReached_activeStation (s : State) : s.matchReached.activeStation = s.activeStation := by
  unfold State.matchReached
  split
  · split
    · rename_i hwas
      exact activeStation_setStation (by rw [hwas.2]; decide) (by decide)
    · rfl
  · rfl

theorem matchPart_activeStation (s : State) (d : Travel) : (s.matchPart d).activeStation = s.activeStation := by
  have hpress : ∀ u : State, u.pressTest.activeStation = u.activeStation := fun u => activeStation_congr (by simp) (by simp)
  have hcount : s.countMatch.activeStation = s.activeStation := by
    unfold State.countMatch
    split <;> rfl
  cases d with
  | reverse => exact hpress s
  | forward => exact (hpress _).trans ((matchReached_activeStation _).trans hcount)

theorem matchAndRollOut_activeStation (s : State) (d : Travel) (out : Bool) :
    (s.matchAndRollOut d out).activeStation = s.activeStation := by
  have hfree : ∀ u : State, u.takeFree.activeStation = u.activeStation := fun u => rfl
  rcases matchAndRollOut_cases s d out with ⟨-, h⟩ | ⟨-, h | h | h⟩ <;>
    simp only [h, hfree, rollOut_activeStation, matchPart_activeStation]

/-! ### The ACTIVE roll's length (R57) -/

/-- The ACTIVE roll of a state, on the active station and under its own tag. -/
def State.ActiveIs (s : State) (x : Station) (r : Roll) : Prop :=
  s.activeStation = some x ∧ s.boundRoll? x = some r ∧ s.roll? r.tag = some r

/-- Every roll but that of a tag stands as in another state. -/
def SharesOtherRolls (s t : State) (tag : Nat) : Prop := ∀ other, other ≠ tag → t.roll? other = s.roll? other

theorem putRoll_activeIs {s : State} {x : Station} {r r' : Roll} (hactive : s.activeStation = some x) (hbound : s.boundRoll? x = some r)
    (htag : r'.tag = r.tag) (hstation : r'.station = r.station) : (s.putRoll r').ActiveIs x r' :=
  ⟨hactive, boundRoll?_putRoll hbound htag hstation, roll?_putRoll_self s r'⟩

theorem putRoll_sharesOtherRolls (s : State) (r : Roll) : SharesOtherRolls s (s.putRoll r) r.tag :=
  fun _ hne => roll?_putRoll_ne s r hne

theorem Roll.charge_frame (r : Roll) (d : Travel) : (r.charge d).tag = r.tag ∧ (r.charge d).station = r.station := by
  cases d <;> exact ⟨rfl, rfl⟩

theorem chargeRoll_active {s : State} {r : Roll} (h : s.activeRoll? = some r) (d : Travel) :
    (∃ x, (s.chargeRoll d).ActiveIs x (r.charge d)) ∧ SharesOtherRolls s (s.chargeRoll d) r.tag := by
  obtain ⟨x, hactive, hbound⟩ := activeRoll?_eq_some.mp h
  obtain ⟨htag, hstation⟩ := r.charge_frame d
  unfold State.chargeRoll
  rw [h]
  exact ⟨⟨x, putRoll_activeIs hactive hbound htag hstation⟩, htag ▸ putRoll_sharesOtherRolls s (r.charge d)⟩

theorem judgeExpiring_active {s : State} {x : Station} {r : Roll} (h : s.ActiveIs x r) :
    (∃ r', s.judgeExpiring.ActiveIs x r' ∧ r'.tag = r.tag ∧ r'.remaining = r.remaining) ∧ SharesOtherRolls s s.judgeExpiring r.tag := by
  obtain ⟨hactive, hbound, hroll⟩ := h
  unfold State.judgeExpiring
  simp only [hactive, hbound]
  split
  · exact ⟨⟨_, putRoll_activeIs hactive hbound rfl rfl, rfl, rfl⟩, putRoll_sharesOtherRolls s { r with expiring := true }⟩
  · exact ⟨⟨r, ⟨hactive, hbound, hroll⟩, rfl, rfl⟩, fun _ _ => rfl⟩

theorem autoSpliceTest_roll {s : State} {x : Station} {r : Roll} (h : s.ActiveIs x r) :
    (∃ r', s.autoSpliceTest.roll? r.tag = some r' ∧ r'.remaining = r.remaining) ∧ SharesOtherRolls s s.autoSpliceTest r.tag := by
  obtain ⟨hactive, hbound, hroll⟩ := h
  have hactiveRoll : s.activeRoll? = some r := activeRoll?_eq_some.mpr ⟨x, hactive, hbound⟩
  unfold State.autoSpliceTest
  split
  · unfold State.attemptAutoSplice
    simp only [hactive, hactiveRoll]
    have hput : ∀ u : State, u.rst.rolls = upsert (·.tag) { r with attemptSpent := true } s.rst.rolls →
        (∃ r', u.roll? r.tag = some r' ∧ r'.remaining = r.remaining) ∧ SharesOtherRolls s u r.tag := fun u hu =>
      have hcongr := roll?_congr (s := s.putRoll { r with attemptSpent := true }) hu
      ⟨⟨_, (hcongr r.tag).trans (roll?_putRoll_self s { r with attemptSpent := true }), rfl⟩, fun other hne =>
        (hcongr other).trans (roll?_putRoll_ne s { r with attemptSpent := true } hne)⟩
    split
    · exact hput _ rfl
    · exact hput _ (by simp [State.putRoll])
  · exact ⟨⟨r, hroll, rfl⟩, fun _ _ => rfl⟩

/-- FSU's part of a feed count charges the ACTIVE roll and leaves every other. -/
theorem fsuCount_charges {s : State} {r : Roll} (h : s.activeRoll? = some r) (d : Travel) :
    (∃ r', (s.fsuCount d).roll? r.tag = some r' ∧ r'.remaining = (r.charge d).remaining) ∧
      SharesOtherRolls s (s.fsuCount d) r.tag := by
  have htension : (s.tensionPart d).activeRoll? = some r := by
    rw [activeRoll?_congr (s := s) (activeStation_congr (by simp) (by simp)) (by simp), h]
  obtain ⟨⟨x, hcharged⟩, hothers₁⟩ := chargeRoll_active htension d
  obtain ⟨⟨r₂, hjudged, htag₂, hremaining₂⟩, hothers₂⟩ := judgeExpiring_active hcharged
  rw [(r.charge_frame d).1] at htag₂ hothers₂
  have hothers : SharesOtherRolls s ((s.tensionPart d).chargeRoll d).judgeExpiring r.tag := fun other hne =>
    (hothers₂ other hne).trans ((hothers₁ other hne).trans (roll?_congr (by simp) other))
  have hmatched : ∀ out, (((s.tensionPart d).chargeRoll d).judgeExpiring.matchAndRollOut d out).ActiveIs x r₂ := fun out => by
    obtain ⟨hactive, hbound, hroll⟩ := hjudged
    refine ⟨(matchAndRollOut_activeStation _ d out).trans hactive, ?_, ?_⟩
    · rw [boundRoll?_congr (s := ((s.tensionPart d).chargeRoll d).judgeExpiring) (by simp), hbound]
    · rw [roll?_congr (s := ((s.tensionPart d).chargeRoll d).judgeExpiring) (by simp), hroll]
  have hrolls : ∀ out other, (((s.tensionPart d).chargeRoll d).judgeExpiring.matchAndRollOut d out).roll? other =
      ((s.tensionPart d).chargeRoll d).judgeExpiring.roll? other := fun out other => roll?_congr (by simp) other
  unfold State.fsuCount
  dsimp only
  split
  · obtain ⟨⟨r', hroll, hremaining⟩, hothers₄⟩ := autoSpliceTest_roll (hmatched (s.rollsOut d))
    rw [htag₂] at hroll hothers₄
    exact ⟨⟨r', hroll, hremaining.trans hremaining₂⟩, fun other hne =>
      (hothers₄ other hne).trans ((hrolls _ other).trans (hothers other hne))⟩
  · exact ⟨⟨r₂, htag₂ ▸ (hmatched _).2.2, hremaining₂⟩, fun other hne => (hrolls _ other).trans (hothers other hne)⟩

/-- FSU's and LTR's parts together. -/
theorem feedUnits_charges {s : State} {r : Roll} (h : s.activeRoll? = some r) (d : Travel) :
    (∃ r', (s.feedUnits d).roll? r.tag = some r' ∧ r'.remaining = (r.charge d).remaining) ∧
      SharesOtherRolls s (s.feedUnits d) r.tag := by
  have hsegment : ∀ (u : State), u.activeRoll? = some r → u.rst.rolls = s.rst.rolls →
      (∃ r', (u.fsuCount .forward).segmentArrival.roll? r.tag = some r' ∧ r'.remaining = (r.charge .forward).remaining) ∧
        SharesOtherRolls s (u.fsuCount .forward).segmentArrival r.tag := fun u hu hrolls => by
    have hroll : ∀ tag, (u.fsuCount .forward).segmentArrival.roll? tag = (u.fsuCount .forward).roll? tag :=
      fun tag => roll?_congr (by simp) tag
    obtain ⟨⟨r', hr', hremaining⟩, hothers⟩ := fsuCount_charges hu .forward
    exact ⟨⟨r', (hroll _).trans hr', hremaining⟩,
      fun other hne => (hroll other).trans ((hothers other hne).trans (roll?_congr hrolls other))⟩
  have hsame : s.takeFree.segmentArrival.activeRoll? = some r := by
    rw [activeRoll?_congr (s := s) (activeStation_congr (by simp) (by simp)) (by simp), h]
  cases d with
  | reverse => exact fsuCount_charges h .reverse
  | forward =>
    rcases feedUnits_forward_cases s with hcase | hcase | hcase <;> rw [hcase]
    · exact hsegment s h rfl
    · exact hsegment s.takeFree h rfl
    · obtain ⟨hcharged, hothers⟩ := fsuCount_charges hsame .forward
      exact ⟨hcharged, fun other hne => (hothers other hne).trans (roll?_congr (by simp) other)⟩

/-! ### The roll that runs out (R57) -/

/-- The ROLL_OUT stop cause and alert stand. -/
def State.HasRolledOut (s : State) : Prop := s.hasStop .rollOut = true ∧ s.hasAlert .rollOut = true

/-- An alert kind that stands in one state stands in the other. -/
def KeepsAlert (a : Alert) (s t : State) : Prop := s.hasAlert a = true → t.hasAlert a = true

theorem keepsAlert_of_alerts {a : Alert} {s t : State} (h : t.lnk.alerts = s.lnk.alerts) : KeepsAlert a s t := fun ha => by
  unfold State.hasAlert at *
  rwa [h]

theorem KeepsAlert.trans {a : Alert} {s t u : State} (h : KeepsAlert a s t) (h' : KeepsAlert a t u) : KeepsAlert a s u :=
  fun ha => h' (h ha)

theorem raiseAlert_keepsAlert (a b : Alert) (s : State) : KeepsAlert a s (s.raiseAlert b) := fun ha => by
  simp [hasAlert_raiseAlert, ha]

theorem dropAlert_keepsAlert {a b : Alert} (h : a ≠ b) (s : State) : KeepsAlert a s (s.dropAlert b) := fun ha => by
  simp [hasAlert_dropAlert, ha, h]

theorem State.HasRolledOut.of_keeps {s t : State} (h : s.HasRolledOut) (hstops : t.sgv.stops = s.sgv.stops) (halert : KeepsAlert .rollOut s t) :
    t.HasRolledOut := by
  obtain ⟨hstop, ha⟩ := h
  refine ⟨?_, halert ha⟩
  unfold State.hasStop at *
  rwa [hstops]

theorem rollOut_hasRolledOut (s : State) : s.rollOut.HasRolledOut := by
  unfold State.rollOut
  obtain ⟨hstop, halert, -⟩ := raiseStop_spec
    (if s.fsu.phase = .matching then (if s.incomingMatched then s.enterPress else s.abandonSplice .abandoned) else s) .rollOut
  exact ⟨hstop, halert⟩

theorem matchAndRollOut_hasRolledOut (s : State) (d : Travel) : (s.matchAndRollOut d true).HasRolledOut := by
  have hkeep : ∀ u : State, u.HasRolledOut → (u.matchPart d).HasRolledOut := fun u h =>
    h.of_keeps (by simp) (keepsAlert_of_alerts (by simp))
  rcases matchAndRollOut_cases s d true with ⟨hfalse, -⟩ | ⟨-, h | h | h⟩
  · cases hfalse
  all_goals rw [h]
  · exact rollOut_hasRolledOut _
  · exact rollOut_hasRolledOut _
  · exact hkeep _ (rollOut_hasRolledOut s)

theorem autoSpliceTest_keepsAlert (a : Alert) (s : State) : KeepsAlert a s s.autoSpliceTest := by
  unfold State.autoSpliceTest
  split
  · unfold State.attemptAutoSplice
    split
    · dsimp only
      split
      · exact raiseAlert_keepsAlert a .spliceFailed (State.setOutcome _ .refused)
      · exact keepsAlert_of_alerts (by simp)
    · exact id
  · exact id

theorem fsuCount_hasRolledOut {s : State} {d : Travel} (h : s.rollsOut d = true) : (s.fsuCount d).HasRolledOut := by
  unfold State.fsuCount
  dsimp only
  rw [h]
  split
  · exact (matchAndRollOut_hasRolledOut _ d).of_keeps (by simp) (autoSpliceTest_keepsAlert _ _)
  · exact matchAndRollOut_hasRolledOut _ d

/-- LTR touches no alert kind but its own. -/
theorem entryDecision_keepsAlert {a : Alert} (h : a ≠ .lotStarved) (s : State) (c : Coord) : KeepsAlert a s (s.entryDecision c) := by
  have hsettle : ∀ u : State, KeepsAlert a u u.settlePendingJoint := fun u => keepsAlert_of_alerts (by simp)
  refine KeepsAlert.trans ?_ (hsettle _)
  unfold State.decideNext
  split
  · exact keepsAlert_of_alerts (by simp)
  · split
    · unfold State.placeLot State.endStarvation
      dsimp only
      split
      · exact dropAlert_keepsAlert h _
      · exact fun ha => ha
    · unfold State.starve
      dsimp only
      split <;> exact raiseAlert_keepsAlert a .lotStarved (s.openWaste c)

theorem segmentArrival_keepsAlert {a : Alert} (h : a ≠ .lotStarved) (s : State) : KeepsAlert a s s.segmentArrival := by
  unfold State.segmentArrival
  split
  · unfold State.segmentEnd
    split
    · exact KeepsAlert.trans (keepsAlert_of_alerts (by simp)) (entryDecision_keepsAlert h _ _)
    · exact entryDecision_keepsAlert h s _
    · exact id
  · exact id

theorem missStrike_keepsAlert (a : Alert) (s : State) (k : PanelKey) : KeepsAlert a s (s.missStrike k) := by
  unfold State.missStrike
  split
  · exact id
  · split
    · exact id
    · dsimp only
      split
      · exact raiseAlert_keepsAlert a .strikeSaturated (s.changePanel k _)
      · exact id

theorem strikeArrival_keepsAlert (a : Alert) (s : State) : KeepsAlert a s s.strikeArrival := by
  unfold State.strikeArrival
  split
  · rename_i k f _ _
    split
    · have harm : ∀ u : State, KeepsAlert a u (u.armStrike f k) := fun u => id
      refine KeepsAlert.trans ?_ (harm _)
      unfold State.strikeOrMiss
      split
      · exact id
      · split
        · split
          · exact id
          · exact keepsAlert_of_alerts (by simp)
        · exact missStrike_keepsAlert a s _
    · exact id
  · exact id

theorem panelStart_keepsAlert (a : Alert) (s : State) (c : Coord) : KeepsAlert a s (s.panelStart c) := by
  have hroom : KeepsAlert a s s.makeRoom := by
    unfold State.makeRoom State.retireEarly
    split
    · split
      · exact id
      · exact KeepsAlert.trans (keepsAlert_of_alerts (by simp)) (raiseAlert_keepsAlert a .cutOverrun _)
    · exact id
  refine hroom.trans ?_
  unfold State.panelStart
  dsimp only
  split
  · split
    · exact keepsAlert_of_alerts (by simp)
    · exact id
  · exact keepsAlert_of_alerts (by simp)

theorem formUnits_keepsAlert (a : Alert) (s : State) (d : Travel) : KeepsAlert a s (s.formUnits d) := by
  cases d with
  | reverse => exact id
  | forward =>
    have hstart : ∀ u : State, KeepsAlert a u u.panelStartArrival := by
      intro u
      unfold State.panelStartArrival
      split
      · exact id
      · split
        · exact panelStart_keepsAlert a u _
        · exact id
    have htarget : ∀ u : State, KeepsAlert a u u.targetArrival := fun u => keepsAlert_of_alerts (by simp)
    exact ((strikeArrival_keepsAlert a s).trans (hstart _)).trans (htarget _)

/-- From 1 to 0 the stop cause and alert of a roll run out are raised, and stand at the end of the units' parts. -/
theorem feedUnits_hasRolledOut {s : State} {r : Roll} (h : s.activeRoll? = some r) (hlast : r.remaining = 1) :
    (s.feedUnits .forward).HasRolledOut := by
  have hkeep : ∀ u : State, u.HasRolledOut → u.segmentArrival.HasRolledOut := fun u hu =>
    hu.of_keeps (by simp) (segmentArrival_keepsAlert (by decide) u)
  have hout : ∀ u : State, u.activeRoll? = some r → u.rollsOut .forward = true := fun u hu => by simp [State.rollsOut, hu, hlast]
  rcases feedUnits_forward_cases s with hcase | hcase | hcase <;> rw [hcase]
  · exact hkeep _ (fsuCount_hasRolledOut (hout s h))
  · exact hkeep _ (fsuCount_hasRolledOut (hout s.takeFree h))
  · refine fsuCount_hasRolledOut (hout _ ?_)
    rw [activeRoll?_congr (s := s) (activeStation_congr (by simp) (by simp)) (by simp), h]

/-! ### The statement -/

theorem feedCount_moves (d : Travel) (s : State) :
    ∃ t, exec (.feedCount d) s = .next t ∧
      t.fsu.w = d.move s.fsu.w ∧ t.fsu.web = { s.fsu.web with cur := s.fsu.web.cur + d.sign } ∧
      t.fsu.surfA = s.fsu.surfA ∧ t.fsu.surfB = s.fsu.surfB ∧
      t.sgv.standstill = false ∧ t.sgv.standWindow = some 200 ∧
      t.exu = { s.exu with pendingFault := t.exu.pendingFault, last := t.exu.last } ∧
      t.hsu.pressure = s.hsu.pressure ∧ t.hsu.permit = s.hsu.permit ∧ (∀ p, (t.port p).receiver = (s.port p).receiver) ∧
      t.rst.line = { s.rst.line with requested := t.rst.line.requested } := by
  obtain ⟨hstand, hwindow⟩ := feedUnits_keepsStandstill (s.countWeb d) d rfl rfl
  have hline : SharesLine s ((s.countWeb d).feedUnits d) := (sharesLine_of_eq rfl).trans (feedUnits_sharesLine (s.countWeb d) d)
  have hports : SharesReceivers s (((s.countWeb d).feedUnits d).formUnits d) :=
    (feedUnits_sharesReceivers (s.countWeb d) d).trans (formUnits_sharesReceivers _ d)
  refine ⟨_, rfl, by simp [State.countWeb], by simp [State.countWeb, SpeedWindow.count], by simp, by simp, by simpa using hstand,
    by simpa using hwindow, ?exit, by simp, by simp, fun p => ?ports, by simpa [SharesLine] using hline⟩
  case exit =>
    obtain ⟨u, hu⟩ : ∃ u, u = ((s.countWeb d).feedUnits d).formUnits d := ⟨_, rfl⟩
    have hframe : u.exu.b = s.exu.b ∧ u.exu.belt = s.exu.belt ∧ u.exu.cycle = s.exu.cycle ∧ u.exu.limit = s.exu.limit ∧
        u.exu.cutSerial = s.exu.cutSerial ∧ u.exu.cut = s.exu.cut ∧ u.exu.divert = s.exu.divert := by simp [hu]
    obtain ⟨hb, hbelt, hcycle, hlimit, hserial, hcut, hdivert⟩ := hframe
    rw [← hu]
    simp only [State.endAct_frame, ← hb, ← hbelt, ← hcycle, ← hlimit, ← hserial, ← hcut, ← hdivert]
  case ports =>
    rw [port_endAct]
    exact hports p

theorem feedCount_charges (d : Travel) (s : State) (r : Roll) (h : s.activeRoll? = some r) :
    ∃ t r', exec (.feedCount d) s = .next t ∧ t.roll? r.tag = some r' ∧
      r'.remaining =
        (match d with
         | .forward => r.remaining - 1
         | .reverse => if r.remaining < r.initLen.getD 0 then r.remaining + 1 else r.remaining) ∧
      (d = .forward → r.remaining = 1 → t.hasStop .rollOut = true ∧ t.hasAlert .rollOut = true) ∧
      ∀ tag, tag ≠ r.tag → t.roll? tag = s.roll? tag := by
  have hactive : (s.countWeb d).activeRoll? = some r := h
  obtain ⟨⟨r', hroll, hremaining⟩, hothers⟩ := feedUnits_charges hactive d
  have hrolls : ∀ tag, (((s.countWeb d).feedUnits d).formUnits d).endAct.roll? tag = ((s.countWeb d).feedUnits d).roll? tag :=
    fun tag => roll?_congr (by simp) tag
  refine ⟨_, r', rfl, (hrolls _).trans hroll, ?_, ?_, fun tag hne => (hrolls tag).trans (hothers tag hne)⟩
  · rw [hremaining]
    cases d <;> rfl
  · rintro rfl hlast
    have hout : (((s.countWeb .forward).feedUnits .forward).formUnits .forward).HasRolledOut :=
      (feedUnits_hasRolledOut hactive hlast).of_keeps (by simp) (formUnits_keepsAlert _ _ _)
    rw [hasStop_endAct, hasAlert_endAct]
    exact hout

/-- Settles O16: the web, the quiet count and the ACTIVE roll. -/
theorem feedCountMovesTheWebAndChargesTheRoll : Obligations.FeedCountMovesTheWebAndChargesTheRoll :=
  ⟨⟨feedCount_moves, feedCount_quiet⟩, feedCount_charges⟩

end Sys2Proof.Machine
end

section
/-! SUPPORT. CLOSE of a staged record, and the commit of a class (O53). -/

namespace Sys2Proof.Machine

/-! ### CLOSE of a slot in WRITE -/

/-- The state after a CLOSE whose commit gave `u`. -/
def State.closedWith (u : State) (p : Port) : State :=
  ((u.setSlot p .empty).endAct).setReceiver p (.answering (say .ok).body)

/-- CLOSE with something staged commits it, empties the slot and answers OK (R192). -/
theorem closeRecord_of_commit {s u : State} {p : Port} {key : Nat} {st : Staging} (hears : s.hears p = true)
    (hslot : s.slot p = .write key st) (hstaged : st.isEmpty = false) (hcommit : (s.restartInactivity p).commit p key st = .ok u) :
    exec (.closeRecord p []) s = .next (u.closedWith p) := by
  have hslot' : (s.restartInactivity p).slot p = .write key st := by
    rw [← hslot]
    cases p <;> rfl
  have hclose : (s.restartInactivity p).close p = done (u.setSlot p .empty).endAct := by
    simp only [State.close, State.closeSlot, hslot', hstaged, hcommit, Bool.false_eq_true, if_false]
  have hanswer : answerClose p [] (s.restartInactivity p) = (s.restartInactivity p).close p := rfl
  simp only [exec, execClose, State.takeRequest_taken (answerClose p []) hears, hanswer, hclose, done, State.closedWith]

theorem closedWith_says (u : State) (p : Port) : (u.closedWith p).says p .ok := by
  unfold State.says State.closedWith State.setReceiver
  rw [port_setPort_self]
  rfl

theorem closedWith_slot (u : State) (p : Port) : (u.closedWith p).slot p = .empty := by
  unfold State.closedWith State.setReceiver State.slot
  rw [port_setPort_self, port_endAct]
  exact slot_setSlot_self u p .empty

theorem closedWith_frame (u : State) (p : Port) :
    (u.closedWith p).rst = u.rst ∧ (u.closedWith p).hsu = u.hsu ∧ (u.closedWith p).fsu.w = u.fsu.w ∧ (u.closedWith p).exu = u.exu ∧
      (u.closedWith p).ltr = u.ltr := by
  simp [State.closedWith]

/-! ### The commit of a class (R37, R40) -/

theorem class?_congr {s t : State} (h : t.rst.classes = s.rst.classes) (n : Nat) : t.class? n = s.class? n := by
  unfold State.class?
  rw [h]

theorem class?_number {s : State} {n : Nat} {c : FabricClass} (h : s.class? n = some c) : c.number = n := by
  simpa using List.find?_some h

theorem class?_putClass_ne (s : State) (c : FabricClass) {n : Nat} (h : n ≠ c.number) : (s.putClass c).class? n = s.class? n :=
  find?_upsert_ne FabricClass.number c s.rst.classes h

/-- A zone after a committed setpoint of a class is handed to it (R40). -/
def Zone.handed (v : Zone) (k : Nat) (setpoint : Option Nat) : Zone :=
  match setpoint with
  | none => v
  | some t =>
    if v.heating = true ∧ v.targetClass = some k ∧ v.target ≠ some t then { v with mode := .warming, target := some t, settle := none }
    else v

theorem Zone.handed_new {v : Zone} {k n : Nat} (hmode : v.mode = .warming ∨ v.mode = .settled) (hclass : v.targetClass = some k)
    (htarget : v.target ≠ some n) : v.handed k (some n) = { v with mode := .warming, target := some n, settle := none } := by
  have hheating : v.heating = true := by rcases hmode with h | h <;> simp [Zone.heating, h]
  exact if_pos ⟨hheating, hclass, htarget⟩

theorem Zone.handed_same {v : Zone} {k : Nat} {setpoint : Option Nat}
    (h : setpoint = none ∨ v.mode = .off ∨ v.mode = .standby ∨ v.targetClass ≠ some k ∨ v.target = setpoint) :
    v.handed k setpoint = v := by
  cases setpoint with
  | none => rfl
  | some t =>
    refine if_neg fun ⟨hheating, hclass, htarget⟩ => ?_
    rcases h with h | h | h | h | h
    · cases h
    · simp [Zone.heating, h] at hheating
    · simp [Zone.heating, h] at hheating
    · exact h hclass
    · exact htarget h

theorem handSetpoint_zone_self (st : ClassStage) (k : Nat) (s : State) (z : ZoneId) :
    (State.handSetpoint st k s z).hsu.zones.get z = (s.hsu.zones.get z).handed k (st.setpoints.get z) := by
  unfold State.handSetpoint
  cases st.setpoints.get z with
  | none => rfl
  | some t =>
    dsimp only
    unfold State.setpointCommitted Zone.handed
    dsimp only
    split
    · exact Four.get_set_self _ z _
    · rfl

theorem handSetpoint_zone_ne (st : ClassStage) (k : Nat) (s : State) {z y : ZoneId} (h : y ≠ z) :
    (State.handSetpoint st k s z).hsu.zones.get y = s.hsu.zones.get y := by
  unfold State.handSetpoint State.setpointCommitted
  split
  · rfl
  · dsimp only
    split
    · exact Four.get_set_ne _ _ h
    · rfl

/-- Setpoints handed to several zones: each zone's own, once. -/
theorem foldl_handSetpoint_zone (st : ClassStage) (k : Nat) (y : ZoneId) (zs : List ZoneId) (hnodup : zs.Nodup) (s : State) :
    (zs.foldl (State.handSetpoint st k) s).hsu.zones.get y =
      if y ∈ zs then (s.hsu.zones.get y).handed k (st.setpoints.get y) else s.hsu.zones.get y := by
  induction zs generalizing s with
  | nil => rfl
  | cons z zs ih =>
    obtain ⟨hz, hzs⟩ := List.nodup_cons.mp hnodup
    rw [List.foldl_cons, ih hzs]
    by_cases hy : y = z
    · subst hy
      rw [if_neg hz, if_pos List.mem_cons_self, handSetpoint_zone_self]
    · rw [handSetpoint_zone_ne st k s hy]
      simp [hy]

/-- A commit of a class that no check of R37 refuses. -/
theorem FabricClass.refusal_eq_none {c : FabricClass} {st : ClassStage}
    (hlocked : c.refCount = 0 ∨ (st.doseMin = none ∧ st.doseMax = none))
    (hset : ∀ z ∈ allZones, (inView (st.setpoints.get z) (c.setpoints.get z)).isSome = true)
    (hbelt : (inView st.maxBelt c.maxBelt).isSome = true) (hmin : (inView st.doseMin c.doseMin).isSome = true)
    (hmax : (inView st.doseMax c.doseMax).isSome = true)
    (hwindow : (inView st.doseMin c.doseMin).getD 0 < (inView st.doseMax c.doseMax).getD 0) : c.refusal st = none := by
  have hsetpoint : ∀ z, (setpointInView c st z).isNone = false := fun z => by
    rw [← Option.not_isSome, setpointInView, hset z (mem_allZones z)]
    rfl
  have hnone : ∀ {o : Option Nat}, o.isSome = true → o.isNone = false := fun ho => by rw [← Option.not_isSome, ho]; rfl
  have hunset : firstUnset (c.fieldsInView st) = none := by
    simp only [FabricClass.fieldsInView, firstUnset, hsetpoint, hnone hbelt, hnone hmin, hnone hmax, Bool.false_eq_true, if_false]
  have hunlocked : ¬ (c.refCount ≠ 0 ∧ (st.doseMin.isSome || st.doseMax.isSome) = true) := by
    rintro ⟨hcount, hstaged⟩
    rcases hlocked with h | ⟨h, h'⟩
    · exact hcount h
    · simp [h, h'] at hstaged
  unfold FabricClass.refusal
  rw [if_neg hunlocked, hunset]
  exact if_neg (Nat.not_le.mpr hwindow)

theorem commitClass_eq_ok {s : State} {k : Nat} {c : FabricClass} {st : ClassStage} (hclass : s.class? k = some c)
    (hrefusal : c.refusal st = none) :
    s.commitClass k st = .ok (allZones.foldl (State.handSetpoint st k) (s.putClass (c.written st))) := by
  simp only [State.commitClass, hclass, hrefusal]

/-- What the commit of a class leaves behind. -/
theorem committedClass_spec {s : State} {k : Nat} {c : FabricClass} (st : ClassStage) (hclass : s.class? k = some c) :
    let u := allZones.foldl (State.handSetpoint st k) (s.putClass (c.written st))
    u.class? k = some (c.written st) ∧ (∀ m, m ≠ k → u.class? m = s.class? m) ∧
      (∀ z, u.hsu.zones.get z = (s.hsu.zones.get z).handed k (st.setpoints.get z)) ∧
      u.rst.panels = s.rst.panels ∧ u.rst.lots = s.rst.lots ∧ u.rst.rolls = s.rst.rolls ∧ u.fsu = s.fsu ∧ u.exu = s.exu ∧ u.ltr = s.ltr := by
  intro u
  have hnumber : (c.written st).number = k := show c.number = k from class?_number hclass
  have hrst : u.rst = (s.putClass (c.written st)).rst := by simp [u, foldl_handSetpoint_frame]
  have hclasses : ∀ n, u.class? n = (s.putClass (c.written st)).class? n := fun n => class?_congr (by rw [hrst]) n
  refine ⟨?_, fun m hm => ?_, fun z => ?_, by simp [hrst], by simp [hrst], by simp [hrst], by simp [u, foldl_handSetpoint_frame],
    by simp [u, foldl_handSetpoint_frame], by simp [u, foldl_handSetpoint_frame]⟩
  · rw [hclasses, ← hnumber]
    exact class?_putClass_self s (c.written st)
  · rw [hclasses]
    exact class?_putClass_ne s _ (by rw [hnumber]; exact hm)
  · have hzones := foldl_handSetpoint_zone st k z allZones (by decide) (s.putClass (c.written st))
    rw [if_pos (mem_allZones z)] at hzones
    simpa using hzones

/-- CLOSE of a staged class (R37, R40). -/
theorem closeRecord_commitsClass (s : State) (p : Port) (k : Nat) (c : FabricClass) (st : ClassStage) (hears : s.hears p = true)
    (hslot : s.slot p = .write k (.cls st)) (hstaged : (Staging.cls st).isEmpty = false) (hclass : s.class? k = some c)
    (hrefusal : c.refusal st = none) :
    ∃ t, exec (.closeRecord p []) s = .next t ∧ t.says p .ok ∧ t.slot p = .empty ∧ t.class? k = some (c.written st) ∧
      (∀ m, m ≠ k → t.class? m = s.class? m) ∧
      (∀ z, t.hsu.zones.get z = (s.hsu.zones.get z).handed k (st.setpoints.get z)) ∧
      t.rst.panels = s.rst.panels ∧ t.rst.lots = s.rst.lots ∧ t.rst.rolls = s.rst.rolls ∧ t.fsu.w = s.fsu.w ∧
      t.exu = s.exu ∧ t.ltr = s.ltr := by
  have hrestart : (s.restartInactivity p).rst = s.rst ∧ (s.restartInactivity p).hsu = s.hsu ∧ (s.restartInactivity p).fsu = s.fsu ∧
      (s.restartInactivity p).exu = s.exu ∧ (s.restartInactivity p).ltr = s.ltr := by simp
  obtain ⟨hrst, hhsu, hfsu, hexu, hltr⟩ := hrestart
  have hclass' : (s.restartInactivity p).class? k = some c := (class?_congr (by rw [hrst]) k).trans hclass
  obtain ⟨hself, hothers, hzones, hpanels, hlots, hrolls, hfsu', hexu', hltr'⟩ := committedClass_spec st hclass'
  refine ⟨_, closeRecord_of_commit hears hslot hstaged (commitClass_eq_ok hclass' hrefusal), closedWith_says _ p, closedWith_slot _ p, ?_⟩
  generalize hu : allZones.foldl (State.handSetpoint st k) ((s.restartInactivity p).putClass (c.written st)) = u at *
  obtain ⟨crst, chsu, cw, cexu, cltr⟩ := closedWith_frame u p
  have hcongr : ∀ n, (u.closedWith p).class? n = u.class? n := fun n => class?_congr (by rw [crst]) n
  refine ⟨(hcongr k).trans hself, fun m hm => ?_, fun z => by rw [chsu, hzones, hhsu], by rw [crst, hpanels, hrst],
    by rw [crst, hlots, hrst], by rw [crst, hrolls, hrst], by rw [cw, hfsu', hfsu], by rw [cexu, hexu', hexu], by rw [cltr, hltr', hltr]⟩
  rw [hcongr, hothers m hm]
  exact class?_congr (by rw [hrst]) m

end Sys2Proof.Machine
end

section
/-! SUPPORT. The commit of a pattern (O53): the style rule, the blocks and the steps in them, and what the commit leaves of the others. -/

namespace Sys2Proof.Machine

/-! ### Steps in view -/

theorem filterMap_getElem?_of_full {α β : Type} {f : α → Option β} {l : List α} (h : (l.filterMap f).length = l.length) (i : Nat) :
    (l.filterMap f)[i]? = l[i]?.bind f := by
  have hsome : ∀ a ∈ l, (f a).isSome = true := List.filterMap_length_eq_length.mp h
  clear h
  induction l generalizing i with
  | nil => rfl
  | cons a l ih =>
    obtain ⟨b, hb⟩ := Option.isSome_iff_exists.mp (hsome a List.mem_cons_self)
    rw [List.filterMap_cons_some hb]
    cases i with
    | zero => simp [hb]
    | succ i => simpa using ih i fun x hx => hsome x (List.mem_cons_of_mem a hx)

theorem stepNumbers_length (n : Nat) : (stepNumbers n).length = n := by simp [stepNumbers]

theorem stepNumbers_getElem? {n i : Nat} (h : i < n) : (stepNumbers n)[i]? = some (i + 1) := by
  simp [stepNumbers, h]

/-- With as many steps in view as the count says, none is unset. -/
theorem unsetStep_eq_none {s : State} {q : Pattern} {st : PatternStage} (h : (s.stepsInView q st).length = st.countOver q) :
    s.unsetStep q st = none := by
  have hfull : ∀ k ∈ stepNumbers (st.countOver q), (s.stepInView q st k).isSome = true :=
    List.filterMap_length_eq_length.mp (h.trans (stepNumbers_length _).symm)
  refine List.find?_eq_none.mpr fun k hk => ?_
  rw [← Option.not_isSome, hfull k hk]
  decide

theorem stepsInView_getElem? {s : State} {q : Pattern} {st : PatternStage} (h : (s.stepsInView q st).length = st.countOver q) {i : Nat}
    (hi : i < st.countOver q) : (s.stepsInView q st)[i]? = s.stepInView q st (i + 1) := by
  unfold State.stepsInView
  rw [filterMap_getElem?_of_full (h.trans (stepNumbers_length _).symm), stepNumbers_getElem? hi]
  rfl

/-- A pattern's steps are a list, where its current steps are that list's. -/
theorem patternSteps_eq {t : State} {q : Pattern} {steps : List Step} (hlength : steps.length = q.stepCount)
    (h : ∀ i < q.stepCount, t.currentStep q (i + 1) = steps[i]?) : t.patternSteps q = steps := by
  have hmap : t.patternSteps q = (List.range q.stepCount).filterMap fun i => steps[i]? := by
    unfold State.patternSteps
    rw [List.filterMap_map]
    exact List.filterMap_congr fun i hi => h i (List.mem_range.mp hi)
  rw [hmap, ← hlength]
  refine List.ext_getElem? fun i => ?_
  have hfull : ((List.range steps.length).filterMap fun i => steps[i]?).length = (List.range steps.length).length :=
    List.filterMap_length_eq_length.mpr fun i hi => by simpa using hi
  rw [filterMap_getElem?_of_full hfull]
  by_cases hi : i < steps.length
  · simp [hi]
  · simp [hi]

/-! ### The style rule (R21) -/

theorem firstOffender_eq_none {offends : Nat → Direction → Direction → Bool} {k : Nat} {before : Direction} {ds : List Direction}
    (h : ∀ i b d, (before :: ds)[i]? = some b → ds[i]? = some d → offends (k + i) b d = false) :
    firstOffender offends k before ds = none := by
  induction ds generalizing k before with
  | nil => rfl
  | cons d ds ih =>
    have hfirst : offends k before d = false := h 0 before d rfl rfl
    have hrest : firstOffender offends (k + 1) d ds = none := ih fun i b e hb he => by
      have hnext := h (i + 1) b e hb he
      rwa [show k + (i + 1) = k + 1 + i by omega] at hnext
    simp only [firstOffender, hfirst, hrest, Bool.false_eq_true, if_false]

theorem styleOffence_knife {dirs : List Direction} (h : ∀ d ∈ dirs, dirs.head? = some d) : styleOffence .knife dirs = none := by
  cases dirs with
  | nil => rfl
  | cons d1 rest =>
    have hsame : firstOffender (fun _ _ d => d != d1) 2 d1 rest = none := firstOffender_eq_none fun i _ d _ hd => by
      have hd1 : some d1 = some d := h d (List.mem_cons_of_mem d1 (List.mem_of_getElem? hd))
      cases hd1
      simp
    simp [styleOffence, hsame]

theorem styleOffence_accordion {dirs : List Direction} (h : ∀ (i : Nat) d, dirs[i]? = some d → dirs[i + 1]? ≠ some d) :
    styleOffence .accordion dirs = none := by
  cases dirs with
  | nil => rfl
  | cons d1 rest =>
    have hturn : firstOffender (fun _ before d => d == before) 2 d1 rest = none := firstOffender_eq_none fun i b d hb hd => by
      have hne : d ≠ b := by
        rintro rfl
        exact h i d hb hd
      simpa using hne
    simp [styleOffence, hturn]

theorem styleOffence_box {dirs : List Direction} (heven : dirs.length % 2 = 0)
    (h : ∀ (i : Nat) d, dirs[i]? = some d → d = (if i % 2 = 0 then .right else .left)) : styleOffence .box dirs = none := by
  cases dirs with
  | nil => rfl
  | cons d1 rest =>
    have hpairs : firstOffender (fun k _ d => if k % 2 = 1 then d != .right else d != .left) 1 d1 (d1 :: rest) = none :=
      firstOffender_eq_none fun i _ d _ hd => by
        have hdir := h i d hd
        by_cases hi : i % 2 = 0
        · rw [if_pos hi] at hdir
          rw [if_pos (by omega), hdir]
          rfl
        · rw [if_neg hi] at hdir
          rw [if_neg (by omega), hdir]
          rfl
    have hlength : ¬ (d1 :: rest).length % 2 = 1 := by omega
    simp only [styleOffence, if_neg hlength, hpairs, Option.map_none]

/-! ### Slots of a block map (R23) -/

theorem slotOf_eq_some {blocks : List Nat} {k slot : Nat} :
    slotOf blocks k = some slot ↔ ∃ b, blocks[(k - 1) / 8]? = some b ∧ b * 8 + (k - 1) % 8 = slot := by
  simp [slotOf, Config.blockSlots]

theorem slotOf_block {blocks : List Nat} {k slot : Nat} (h : slotOf blocks k = some slot) : slot / 8 ∈ blocks := by
  obtain ⟨b, hb, rfl⟩ := slotOf_eq_some.mp h
  have hdiv : (b * 8 + (k - 1) % 8) / 8 = b := by omega
  rw [hdiv]
  exact List.mem_of_getElem? hb

theorem slotOf_injective {blocks : List Nat} (hnodup : blocks.Nodup) {j k slot : Nat} (hj : 1 ≤ j) (hk : 1 ≤ k)
    (h : slotOf blocks j = some slot) (h' : slotOf blocks k = some slot) : j = k := by
  obtain ⟨b, hb, hslot⟩ := slotOf_eq_some.mp h
  obtain ⟨b', hb', hslot'⟩ := slotOf_eq_some.mp h'
  have hblock : b = b' := by omega
  subst hblock
  have hlt : (j - 1) / 8 < blocks.length := (List.getElem?_eq_some_iff.mp hb).1
  have hindex : (j - 1) / 8 = (k - 1) / 8 := (List.getElem?_inj hlt hnodup).mp (hb.trans hb'.symm)
  omega

theorem slotOf_isSome {blocks : List Nat} {k : Nat} (hk : 1 ≤ k) (hroom : k ≤ blocks.length * 8) : ∃ slot, slotOf blocks k = some slot := by
  have hlt : (k - 1) / 8 < blocks.length := by omega
  exact ⟨_, slotOf_eq_some.mpr ⟨_, List.getElem?_eq_getElem hlt, rfl⟩⟩

/-- Steps written touch no slot but those of their own positions. -/
theorem poolRead_writeSteps_other {blocks : List Nat} {slot : Nat} {vs : List Step} {k : Nat} {pool : List (Nat × Step)}
    (h : ∀ j, k ≤ j → slotOf blocks j ≠ some slot) : poolRead (writeSteps blocks k vs pool) slot = poolRead pool slot := by
  induction vs generalizing k pool with
  | nil => rfl
  | cons v vs ih =>
    have hrest : ∀ j, k + 1 ≤ j → slotOf blocks j ≠ some slot := fun j hj => h j (by omega)
    unfold writeSteps
    split
    · exact ih hrest
    · rename_i other hother
      have hne : slot ≠ other := by
        rintro rfl
        exact h k (Nat.le_refl k) hother
      rw [ih hrest, poolRead_poolWrite_ne pool v hne]

/-- Each step written reads back from its slot. -/
theorem poolRead_writeSteps {blocks : List Nat} (hnodup : blocks.Nodup) {vs : List Step} {k i slot : Nat} {v : Step}
    {pool : List (Nat × Step)} (hk : 1 ≤ k) (hv : vs[i]? = some v) (hslot : slotOf blocks (k + i) = some slot) :
    poolRead (writeSteps blocks k vs pool) slot = some v := by
  induction vs generalizing k i pool with
  | nil => cases hv
  | cons w vs ih =>
    cases i with
    | zero =>
      obtain rfl : w = v := by simpa using hv
      have hother : ∀ j, k + 1 ≤ j → slotOf blocks j ≠ some slot := fun j hj hj' => by
        have := slotOf_injective hnodup (by omega) hk hj' hslot
        omega
      rw [Nat.add_zero] at hslot
      simp only [writeSteps, hslot]
      rw [poolRead_writeSteps_other hother, poolRead_poolWrite_self]
    | succ i =>
      have hslot' : slotOf blocks (k + 1 + i) = some slot := by rw [← hslot]; congr 1; omega
      have hv' : vs[i]? = some v := by simpa using hv
      unfold writeSteps
      split
      · exact ih (by omega) hv' hslot'
      · exact ih (by omega) hv' hslot'

/-- Blocks released empty no slot of another block. -/
theorem poolRead_poolRelease {blocks : List Nat} {pool : List (Nat × Step)} {slot : Nat} (h : slot / 8 ∉ blocks) :
    poolRead (poolRelease blocks pool) slot = poolRead pool slot := by
  have hsame : (fun e : Nat × Step => decide ((!blocks.contains (e.1 / Config.blockSlots)) = true ∧ (e.1 == slot) = true)) =
      fun e => e.1 == slot := by
    funext e
    by_cases he : e.1 = slot
    · simp [he, Config.blockSlots, h]
    · simp [he]
  unfold poolRead poolRelease
  rw [List.find?_filter, hsame]

/-! ### The commit -/

/-- What a pattern commit that is not refused does (R20, R24). -/
def State.committedPattern (s : State) (q : Pattern) (st : PatternStage) : State :=
  if st.reforms then s.reformPattern q st (s.stepsInView q st) else s.putPattern (q.written st (s.stepsInView q st))

/-- The record that such a commit leaves. -/
def State.committedRecord (s : State) (q : Pattern) (st : PatternStage) : Pattern :=
  if st.reforms then
    { q.written st (s.stepsInView q st) with
      blockMap := (s.blocksFreeTo q.number).take (blocksFor (s.stepsInView q st).length) }
  else q.written st (s.stepsInView q st)

theorem pattern?_congr {s t : State} (h : t.rst.patterns = s.rst.patterns) (n : Nat) : t.pattern? n = s.pattern? n := by
  unfold State.pattern?
  rw [h]

theorem pattern?_number {s : State} {n : Nat} {q : Pattern} (h : s.pattern? n = some q) : q.number = n := by
  simpa using List.find?_some h

theorem pattern?_mem {s : State} {n : Nat} {q : Pattern} (h : s.pattern? n = some q) : q ∈ s.rst.patterns := List.mem_of_find?_eq_some h

theorem committedRecord_number (s : State) (q : Pattern) (st : PatternStage) : (s.committedRecord q st).number = q.number := by
  unfold State.committedRecord
  split <;> rfl

theorem committedPattern_patterns (s : State) (q : Pattern) (st : PatternStage) :
    (s.committedPattern q st).rst.patterns = upsert (·.number) (s.committedRecord q st) s.rst.patterns := by
  unfold State.committedPattern State.committedRecord
  split <;> rfl

theorem committedPattern_pattern? (s : State) (q : Pattern) (st : PatternStage) :
    (s.committedPattern q st).pattern? q.number = some (s.committedRecord q st) ∧
      ∀ m, m ≠ q.number → (s.committedPattern q st).pattern? m = s.pattern? m := by
  have hcongr := pattern?_congr (s := s.putPattern (s.committedRecord q st)) (committedPattern_patterns s q st)
  refine ⟨?_, fun m hm => ?_⟩
  · rw [hcongr, ← committedRecord_number s q st, pattern?_putPattern_self]
  · rw [hcongr]
    exact find?_upsert_ne Pattern.number _ s.rst.patterns (by rwa [committedRecord_number])

theorem committedPattern_frame (s : State) (q : Pattern) (st : PatternStage) :
    (s.committedPattern q st).rst.panels = s.rst.panels ∧ (s.committedPattern q st).rst.lots = s.rst.lots ∧
      (s.committedPattern q st).fsu = s.fsu ∧ (s.committedPattern q st).exu = s.exu ∧ (s.committedPattern q st).ltr = s.ltr := by
  unfold State.committedPattern
  split <;> simp

theorem committedPattern_pool_kept {q : Pattern} {st : PatternStage} (h : st.reforms = false) (s : State) :
    (s.committedPattern q st).rst.pool = s.rst.pool := by
  simp [State.committedPattern, h]

theorem committedPattern_pool_moved {q : Pattern} {st : PatternStage} (h : st.reforms = true) (s : State) :
    (s.committedPattern q st).rst.pool =
      writeSteps ((s.blocksFreeTo q.number).take (blocksFor (s.stepsInView q st).length)) 1 (s.stepsInView q st)
        (poolRelease q.blockMap s.rst.pool) := by
  simp [State.committedPattern, h, State.reformPattern, State.putPattern]

theorem blocksFreeTo_nodup (s : State) (n : Nat) : (s.blocksFreeTo n).Nodup := List.nodup_range.filter _

/-- A block free to a pattern is held by no other. -/
theorem blocksFreeTo_disjoint {s : State} {n b : Nat} {x : Pattern} (hx : x ∈ s.rst.patterns) (hne : x.number ≠ n)
    (hb : b ∈ x.blockMap) : b ∉ s.blocksFreeTo n := fun hfree => by
  have hheld : b ∈ s.blocksHeldByOthers n := List.mem_flatMap.mpr ⟨x, List.mem_filter.mpr ⟨hx, by simpa using hne⟩, hb⟩
  have hnot := (List.mem_filter.mp hfree).2
  rw [List.contains_iff_mem.mpr hheld] at hnot
  cases hnot

/-- Two patterns hold no block in common (R23). -/
theorem PoolLaw.blocks_disjoint {s : State} (h : PoolLaw s) {x y : Pattern} (hx : x ∈ s.rst.patterns) (hy : y ∈ s.rst.patterns)
    (hne : x.number ≠ y.number) {b : Nat} (hb : b ∈ x.blockMap) : b ∉ y.blockMap := fun hb' => by
  obtain ⟨-, -, hnodup, -⟩ := h
  obtain ⟨-, hpairs⟩ := List.nodup_flatMap.mp hnodup
  have hsymm : Std.Symm (Function.onFun List.Disjoint Pattern.blockMap) := ⟨fun _ _ hd => List.Disjoint.symm hd⟩
  exact hpairs.forall hx hy (fun he => hne (he ▸ rfl)) hb hb'

end Sys2Proof.Machine
end

section
/-! SUPPORT. CLOSE of a staged pattern: no check of R20 refuses, and what the commit leaves (O53). -/

namespace Sys2Proof.Machine

/-! ### The checks -/

theorem PatternStage.reforms_iff (st : PatternStage) : st.reforms = true ↔ st.stepCount ≠ none ∨ st.steps ≠ [] := by
  simp [PatternStage.reforms, Option.isSome_iff_ne_none]

theorem blocksFor_eq (n : Nat) : blocksFor n = (n + 7) / 8 := rfl

/-- A commit of a pattern that no check of R20 refuses. -/
theorem patternRefusal_eq_none {s : State} {q : Pattern} {st : PatternStage} (hlocked : q.refCount = 0 ∨ st = { name := st.name })
    (hsteps : (s.stepsInView q st).length = st.countOver q)
    (hstyle : styleOffence (st.style.getD q.style) ((s.stepsInView q st).map (·.dir)) = none)
    (hpleated : 2500 ≤ pleatedLength (s.stepsInView q st) (st.trailer.getD q.trailer))
    (hflat : flatLength (s.stepsInView q st) (st.trailer.getD q.trailer) ≤ 60000)
    (hblocks : st.reforms = true → blocksFor (s.stepsInView q st).length ≤ (s.blocksFreeTo q.number).length) :
    s.patternRefusal q st = none := by
  have hunlocked : ¬ (q.refCount ≠ 0 ∧ st.locked = true) := by
    rintro ⟨hcount, hstaged⟩
    rcases hlocked with h | h
    · exact hcount h
    · rw [h] at hstaged
      cases hstaged
  have hroom : (st.reforms && decide ((s.blocksFreeTo q.number).length < blocksFor (s.stepsInView q st).length)) = false := by
    cases hreforms : st.reforms with
    | false => rfl
    | true => simpa using hblocks hreforms
  unfold State.patternRefusal
  rw [if_neg hunlocked, unsetStep_eq_none hsteps]
  simp only [hstyle]
  simp only [firstRefusal, hroom, decide_eq_false (Nat.not_lt.mpr hpleated), decide_eq_false (Nat.not_lt.mpr hflat), Bool.false_eq_true,
    if_false]

/-- The style rule of R21, in the statement's own words. -/
theorem styleOffence_eq_none {style : Style} {dirs : List Direction} (hknife : style = .knife → ∀ d ∈ dirs, dirs.head? = some d)
    (haccordion : style = .accordion → ∀ (i : Nat) d, dirs[i]? = some d → dirs[i + 1]? ≠ some d)
    (hbox : style = .box → dirs.length % 2 = 0 ∧
      ∀ (i : Nat) d, dirs[i]? = some d → d = (if i % 2 = 0 then .right else .left)) : styleOffence style dirs = none := by
  cases style with
  | knife => exact styleOffence_knife (hknife rfl)
  | accordion => exact styleOffence_accordion (haccordion rfl)
  | box =>
    obtain ⟨heven, hdirs⟩ := hbox rfl
    exact styleOffence_box heven hdirs

theorem commitPattern_eq_ok {s : State} {k : Nat} {q : Pattern} {st : PatternStage} (hpattern : s.pattern? k = some q)
    (hrefusal : s.patternRefusal q st = none) : s.commitPattern k st = .ok (s.committedPattern q st) := by
  simp only [State.commitPattern, hpattern, hrefusal, State.committedPattern]

/-! ### The least consumption (R8) -/

theorem minConsumption_le {steps : List Step} {x : Step} (h : x ∈ steps) : minConsumption steps ≤ x.consumption := by
  fun_induction minConsumption steps with
  | case1 => cases h
  | case2 st => rw [List.mem_singleton.mp h]
  | case3 st sts _ ih =>
    rcases List.mem_cons.mp h with rfl | h
    · exact Nat.min_le_left _ _
    · exact Nat.le_trans (Nat.min_le_right _ _) (ih h)

theorem minConsumption_mem {steps : List Step} (h : steps ≠ []) : minConsumption steps ∈ steps.map (·.consumption) := by
  fun_induction minConsumption steps with
  | case1 => exact absurd rfl h
  | case2 st => exact List.mem_singleton.mpr rfl
  | case3 st sts hsts ih =>
    rw [List.map_cons]
    rcases Nat.le_total st.consumption (minConsumption sts) with hle | hle
    · rw [Nat.min_eq_left hle]
      exact List.mem_cons_self
    · rw [Nat.min_eq_right hle]
      exact List.mem_cons_of_mem _ (ih fun hnil => hsts hnil)

/-! ### The record and its steps after the commit -/

theorem committedRecord_of_not_reforms {s : State} {q : Pattern} {st : PatternStage} (h : st.reforms = false) :
    s.committedRecord q st = q.written st (s.stepsInView q st) := by simp [State.committedRecord, h]

theorem committedRecord_of_reforms {s : State} {q : Pattern} {st : PatternStage} (h : st.reforms = true) :
    s.committedRecord q st = { q.written st (s.stepsInView q st) with
      blockMap := (s.blocksFreeTo q.number).take (blocksFor (s.stepsInView q st).length) } := by simp [State.committedRecord, h]

theorem written_state_ne_edit (q : Pattern) (st : PatternStage) (steps : List Step) : (q.written st steps).state ≠ .edit := by
  unfold Pattern.written
  dsimp only
  split
  · exact fun h => by cases h
  · assumption

theorem currentStep_congr {s t : State} {x : Pattern}
    (h : ∀ slot, slot / 8 ∈ x.blockMap → poolRead t.rst.pool slot = poolRead s.rst.pool slot) (k : Nat) :
    t.currentStep x k = s.currentStep x k := by
  unfold State.currentStep
  split
  · rfl
  · cases hslot : slotOf x.blockMap k with
    | none => rfl
    | some slot => exact h slot (slotOf_block hslot)

theorem patternSteps_congr {s t : State} {x : Pattern}
    (h : ∀ slot, slot / 8 ∈ x.blockMap → poolRead t.rst.pool slot = poolRead s.rst.pool slot) : t.patternSteps x = s.patternSteps x :=
  List.filterMap_congr fun k _ => currentStep_congr h k

theorem currentStep_of_current {s : State} {x : Pattern} {i : Nat} (hstate : x.state ≠ .edit) (hi : i < x.stepCount) :
    s.currentStep x (i + 1) = (slotOf x.blockMap (i + 1)).bind (poolRead s.rst.pool) :=
  if_neg (not_or.mpr ⟨hstate, not_or.mpr ⟨by omega, by omega⟩⟩)

/-- Steps moved read back as they were in view (R24). -/
theorem patternSteps_committed_moved {s : State} {q : Pattern} {st : PatternStage} (hreforms : st.reforms = true)
    (hsteps : (s.stepsInView q st).length = st.countOver q)
    (hblocks : blocksFor (s.stepsInView q st).length ≤ (s.blocksFreeTo q.number).length) :
    (s.committedPattern q st).patternSteps (s.committedRecord q st) = s.stepsInView q st := by
  rw [committedRecord_of_reforms hreforms]
  refine patternSteps_eq hsteps fun i hi => ?_
  have hi' : i < (s.stepsInView q st).length := hsteps ▸ hi
  rw [currentStep_of_current (by exact written_state_ne_edit q st (s.stepsInView q st)) hi, committedPattern_pool_moved hreforms]
  dsimp only
  have hnodup : ((s.blocksFreeTo q.number).take (blocksFor (s.stepsInView q st).length)).Nodup :=
    (List.take_sublist _ _).nodup (blocksFreeTo_nodup s q.number)
  have hroom : i + 1 ≤ ((s.blocksFreeTo q.number).take (blocksFor (s.stepsInView q st).length)).length * 8 := by
    rw [List.length_take, Nat.min_eq_left hblocks, blocksFor_eq]
    omega
  obtain ⟨slot, hslot⟩ := slotOf_isSome (Nat.le_add_left 1 i) hroom
  rw [hslot, Option.bind_some, List.getElem?_eq_getElem hi']
  exact poolRead_writeSteps hnodup (Nat.le_refl 1) (List.getElem?_eq_getElem hi') (by rw [Nat.add_comm]; exact hslot)

/-- With neither a step count nor a step staged the steps in view are the current ones. -/
theorem stepInView_of_not_reforms {s : State} {q : Pattern} {st : PatternStage} (h : st.reforms = false) (k : Nat) :
    s.stepInView q st k = s.currentStep q k := by
  have hsteps : st.steps = [] := by
    by_contra hne
    rw [(PatternStage.reforms_iff st).mpr (Or.inr hne)] at h
    cases h
  simp [State.stepInView, PatternStage.step?, hsteps, inView]

theorem countOver_of_not_reforms {q : Pattern} {st : PatternStage} (h : st.reforms = false) : st.countOver q = q.stepCount := by
  have hcount : st.stepCount = none := by
    by_contra hne
    rw [(PatternStage.reforms_iff st).mpr (Or.inl hne)] at h
    cases h
  simp [PatternStage.countOver, hcount]

/-- Steps not moved stand as they were. -/
theorem patternSteps_committed_kept {s : State} {q : Pattern} {st : PatternStage} (hreforms : st.reforms = false)
    (hsteps : (s.stepsInView q st).length = st.countOver q) (hsome : 1 ≤ st.countOver q) :
    (s.committedPattern q st).patternSteps (s.committedRecord q st) = s.stepsInView q st := by
  have hfirst : s.currentStep q 1 = some (s.stepsInView q st)[0] := by
    rw [← stepInView_of_not_reforms hreforms 1, ← stepsInView_getElem? hsteps hsome, List.getElem?_eq_getElem]
  have hstate : q.state ≠ .edit := fun hedit => by
    have hnone : s.currentStep q 1 = none := if_pos (Or.inl hedit)
    rw [hnone] at hfirst
    cases hfirst
  rw [committedRecord_of_not_reforms hreforms]
  refine patternSteps_eq hsteps fun i hi => ?_
  have hi' : i < st.countOver q := hi
  rw [stepsInView_getElem? hsteps hi', stepInView_of_not_reforms hreforms,
    currentStep_of_current hstate (by rw [← countOver_of_not_reforms hreforms]; exact hi'),
    currentStep_of_current (written_state_ne_edit q st _) hi, committedPattern_pool_kept hreforms]
  rfl

/-- A commit moves no step of another pattern (R23, R24). -/
theorem patternSteps_committed_other {s : State} {q x : Pattern} {st : PatternStage} (hlaw : PoolLaw s) (hq : q ∈ s.rst.patterns)
    (hx : x ∈ s.rst.patterns) (hne : x.number ≠ q.number) : (s.committedPattern q st).patternSteps x = s.patternSteps x := by
  refine patternSteps_congr fun slot hslot => ?_
  cases hreforms : st.reforms with
  | false => rw [committedPattern_pool_kept hreforms]
  | true =>
    have hwritten : ∀ j, 1 ≤ j →
        slotOf ((s.blocksFreeTo q.number).take (blocksFor (s.stepsInView q st).length)) j ≠ some slot := fun j _ hj =>
      blocksFreeTo_disjoint hx hne hslot (List.mem_of_mem_take (slotOf_block hj))
    rw [committedPattern_pool_moved hreforms, poolRead_writeSteps_other hwritten,
      poolRead_poolRelease (hlaw.blocks_disjoint hx hq hne hslot)]

end Sys2Proof.Machine
end

section
/-! CLOSE of a staged class and of a staged pattern (O53). -/

namespace Sys2Proof.Machine

/-- A request restarts a clock of its port, in the link part. -/
theorem restartInactivity_lnk (s : State) (p : Port) : ∃ l, s.restartInactivity p = { s with lnk := l } := by cases p <;> exact ⟨_, rfl⟩

/-- CLOSE of a staged pattern (R20, R24): what it leaves, in terms of the steps in view. -/
theorem closeRecord_commitsPattern {s : State} {p : Port} {k : Nat} {q : Pattern} {st : PatternStage} (hears : s.hears p = true)
    (hslot : s.slot p = .write k (.pattern st)) (hstaged : (Staging.pattern st).isEmpty = false) (hpattern : s.pattern? k = some q)
    (hrefusal : s.patternRefusal q st = none) (hsteps : (s.stepsInView q st).length = st.countOver q) (hsome : 1 ≤ st.countOver q)
    (hblocks : st.reforms = true → blocksFor (s.stepsInView q st).length ≤ (s.blocksFreeTo q.number).length) :
    ∃ t, exec (.closeRecord p []) s = .next t ∧ t.says p .ok ∧ t.slot p = .empty ∧ t.pattern? k = some (s.committedRecord q st) ∧
      (st.reforms = false → t.rst.pool = s.rst.pool) ∧ t.patternSteps (s.committedRecord q st) = s.stepsInView q st ∧
      (∀ m, m ≠ k → t.pattern? m = s.pattern? m ∧
        (PoolLaw s → ∀ x, s.pattern? m = some x → t.patternSteps x = s.patternSteps x)) ∧
      t.rst.panels = s.rst.panels ∧ t.rst.lots = s.rst.lots ∧ t.fsu.w = s.fsu.w ∧ t.exu = s.exu ∧ t.ltr = s.ltr := by
  obtain ⟨l, hl⟩ := restartInactivity_lnk s p
  obtain ⟨u, hu⟩ : ∃ u, { s with lnk := l }.committedPattern q st = u := ⟨_, rfl⟩
  have hrst : u.rst = (s.committedPattern q st).rst := by
    rw [← hu]
    unfold State.committedPattern
    split <;> rfl
  obtain ⟨hpanels, hlots, hfsu, hexu, hltr⟩ := committedPattern_frame { s with lnk := l } q st
  rw [hu] at hpanels hlots hfsu hexu hltr
  have hcommit : (s.restartInactivity p).commit p k (.pattern st) = .ok u := by
    rw [hl, ← hu]
    exact commitPattern_eq_ok hpattern hrefusal
  have hnumber : q.number = k := pattern?_number hpattern
  obtain ⟨crst, -, cw, cexu, cltr⟩ := closedWith_frame u p
  have ctables : (u.closedWith p).rst = (s.committedPattern q st).rst := crst.trans hrst
  obtain ⟨hself, hothers⟩ := committedPattern_pattern? s q st
  have hfind : ∀ m, (u.closedWith p).pattern? m = (s.committedPattern q st).pattern? m := fun m => pattern?_congr (by rw [ctables]) m
  have hread : ∀ x, (u.closedWith p).patternSteps x = (s.committedPattern q st).patternSteps x := fun x =>
    patternSteps_congr fun slot _ => by rw [ctables]
  refine ⟨_, closeRecord_of_commit hears hslot hstaged hcommit, closedWith_says u p, closedWith_slot u p, ?_, fun hkept => ?_, ?_,
    fun m hm => ⟨?_, fun hlaw x hx => ?_⟩, by rw [crst, hpanels], by rw [crst, hlots], by rw [cw, hfsu], by rw [cexu, hexu],
    by rw [cltr, hltr]⟩
  · rw [hfind, ← hnumber, hself]
  · rw [ctables, committedPattern_pool_kept hkept]
  · rw [hread]
    cases hreforms : st.reforms with
    | false => exact patternSteps_committed_kept hreforms hsteps hsome
    | true => exact patternSteps_committed_moved hreforms hsteps (hblocks hreforms)
  · rw [hfind, hothers m (by rwa [hnumber])]
  · rw [hread]
    exact patternSteps_committed_other hlaw (pattern?_mem hpattern) (pattern?_mem hx)
      (by rwa [pattern?_number hx, hnumber])

/-- What the record of a committed pattern holds (R17, R22, R24). -/
theorem committedRecord_spec (s : State) (q : Pattern) (st : PatternStage) :
    let steps := s.stepsInView q st
    let r := s.committedRecord q st
    r.state = (if q.state = .edit then .ready else q.state) ∧ r.revision = q.revision + 1 ∧ r.name = st.name.getD q.name ∧
      r.style = st.style.getD q.style ∧ r.trimRange = st.trimRange.getD q.trimRange ∧ r.laneMask = st.laneMask.getD q.laneMask ∧
      r.trailer = st.trailer.getD q.trailer ∧ r.stepCount = st.stepCount.getD q.stepCount ∧
      r.flatLen = flatLength steps (st.trailer.getD q.trailer) ∧ r.pleatedLen = pleatedLength steps (st.trailer.getD q.trailer) ∧
      r.refCount = q.refCount ∧ r.minStep = minConsumption steps := by
  intro steps r
  unfold r State.committedRecord
  split <;> exact ⟨rfl, rfl, rfl, rfl, rfl, rfl, rfl, rfl, rfl, rfl, rfl, rfl⟩

/-- Settles O53: the commits of a class and of a pattern. -/
theorem commitsDefineClassesAndPatterns : Obligations.CommitsDefineClassesAndPatterns := by
  unfold Obligations.CommitsDefineClassesAndPatterns
  refine ⟨fun s p k c st hears hslot hstaged hclass hlocked hset hbelt hmin hmax hwindow => ?_,
    fun s p k q st hears hslot hstaged hpattern => ?_⟩
  · have hrefusal : c.refusal st = none := FabricClass.refusal_eq_none hlocked hset hbelt hmin hmax hwindow
    obtain ⟨t, hexec, hsays, hempty, hself, hothers, hzones, hframe⟩ :=
      closeRecord_commitsClass s p k c st hears hslot hstaged hclass hrefusal
    refine ⟨t, c.written st, hexec, hsays, hempty, hself, rfl, rfl, rfl, rfl, fun z _ => ?_, rfl, rfl, rfl, hothers,
      fun z _ => ⟨fun n hn hmode htarget hne => ?_, fun hkept => ?_⟩, hframe⟩
    · cases z <;> rfl
    · rw [hzones, hn]
      exact Zone.handed_new hmode htarget hne
    · rw [hzones]
      exact Zone.handed_same hkept
  · intro n steps trailer style dirs flat pleated moves others blocks hlocked hsteps hsome hknife haccordion hbox hpleated hflat hroom
    have hnumber : q.number = k := pattern?_number hpattern
    have hblocks : s.blocksFreeTo q.number = blocks := by rw [hnumber]; rfl
    have hfree : st.reforms = true → blocksFor steps.length ≤ (s.blocksFreeTo q.number).length := fun hreforms => by
      rw [hblocks, blocksFor_eq, hsteps]
      exact hroom ((PatternStage.reforms_iff st).mp hreforms)
    have hlength : dirs.length = n := (List.length_map _).trans hsteps
    have hstyle : styleOffence style dirs = none :=
      styleOffence_eq_none hknife haccordion fun h => by rw [hlength]; exact hbox h
    have hrefusal : s.patternRefusal q st = none := patternRefusal_eq_none hlocked hsteps hstyle hpleated hflat hfree
    obtain ⟨t, hexec, hsays, hempty, hself, hpool, hread, hothers, hframe⟩ :=
      closeRecord_commitsPattern hears hslot hstaged hpattern hrefusal hsteps hsome hfree
    obtain ⟨hstate, hrevision, hname, hstyle', htrim, hmask, htrailer, hcount, hflatLen, hpleatedLen, hrefs, hmin⟩ :=
      committedRecord_spec s q st
    have hne : steps ≠ [] := List.ne_nil_of_length_pos (by omega)
    refine ⟨t, s.committedRecord q st, hexec, hsays, hempty, hself, hstate, hrevision, hname, hstyle', htrim, hmask, htrailer, hcount,
      hflatLen, hpleatedLen, hrefs, by rw [hmin]; exact minConsumption_mem hne, fun x hx => ?_, fun hmoves => ?_, fun hstay => ?_,
      fun _ => hread, hothers, hframe⟩
    · rw [hmin]
      exact minConsumption_le hx
    · rw [committedRecord_of_reforms ((PatternStage.reforms_iff st).mpr hmoves), hblocks, blocksFor_eq, hsteps]
    · have hreforms : st.reforms = false := by
        rw [← Bool.not_eq_true]
        exact fun h => hstay ((PatternStage.reforms_iff st).mp h)
      exact ⟨by rw [committedRecord_of_not_reforms hreforms]; rfl, hpool hreforms⟩

end Sys2Proof.Machine
end

section
/-! SUPPORT. FSU's part of a feed count with no splice under way and no auto-splice asked for (O18): what it leaves to LTR. -/

namespace Sys2Proof.Machine

/-! ### A stop with no splice under way -/

theorem enterHalting_idle {s : State} (h : s.fsu.phase = .idle) :
    s.enterHalting.ltr = s.ltr ∧ s.enterHalting.fsu.phase = .idle ∧ s.enterHalting.fsu.outcome = s.fsu.outcome := by
  unfold State.enterHalting
  dsimp only
  rw [if_neg (by simp [h])]
  simp [h]

theorem stopLine_idle {s : State} (h : s.fsu.phase = .idle) :
    s.stopLine.ltr = s.ltr ∧ s.stopLine.fsu.phase = .idle ∧ s.stopLine.fsu.outcome = s.fsu.outcome := by
  have hhead : ¬ s.fsu.phase.headOn = true := by rw [h]; decide
  unfold State.stopLine
  split
  · exact enterHalting_idle h
  · rw [if_neg hhead]
    exact enterHalting_idle h
  · rw [if_neg hhead]
    exact enterHalting_idle h
  all_goals exact ⟨rfl, h, rfl⟩

theorem matchAndRollOut_idle {s : State} (h : s.fsu.phase = .idle) (d : Travel) (out : Bool) :
    s.matchAndRollOut d out = if out then s.raiseStop .rollOut else s := by
  have hdue : s.matchDue d = false := by
    cases d <;> simp [State.matchDue, State.countMatch, State.matchReached, h]
  have hroll : s.rollOut = s.raiseStop .rollOut := by
    unfold State.rollOut
    rw [if_neg (by simp [h])]
  simp only [State.matchAndRollOut, hdue, matchPart_idle h, hroll, Bool.false_eq_true, if_false]

theorem autoSpliceTest_off {s : State} (h : s.rst.line.autoSplice = false) : s.autoSpliceTest = s := by
  simp [State.autoSpliceTest, State.autoSpliceReady, h]

/-! ### What the count keeps -/

/-- What of a roll no count changes. -/
def Roll.fabric (r : Roll) : Option Nat × Nat × Bool := (r.cls, r.tag, r.attemptSpent)

/-- What FSU's part of a feed count keeps where no splice is under way and none is attempted: LTR, the splice, the Line record, the
flags of starvation, and the ACTIVE roll but for its length. -/
structure CountsQuietly (s t : State) : Prop where
  ltr : t.ltr = s.ltr
  phase : t.fsu.phase = s.fsu.phase
  outcome : t.fsu.outcome = s.fsu.outcome
  line : t.rst.line = s.rst.line
  hold : t.hasHold .lotStarved = s.hasHold .lotStarved
  alert : t.hasAlert .lotStarved = s.hasAlert .lotStarved
  roll : t.activeRoll?.map Roll.fabric = s.activeRoll?.map Roll.fabric

theorem CountsQuietly.trans {s t u : State} (h : CountsQuietly s t) (h' : CountsQuietly t u) : CountsQuietly s u :=
  ⟨h'.ltr.trans h.ltr, h'.phase.trans h.phase, h'.outcome.trans h.outcome, h'.line.trans h.line, h'.hold.trans h.hold,
    h'.alert.trans h.alert, h'.roll.trans h.roll⟩

theorem hasAlert_congr {s t : State} (h : t.lnk.alerts = s.lnk.alerts) (a : Alert) : t.hasAlert a = s.hasAlert a := by
  unfold State.hasAlert
  rw [h]

theorem hasHold_congr {s t : State} (h : t.sgv.holds = s.sgv.holds) (a : HoldReason) : t.hasHold a = s.hasHold a := by
  unfold State.hasHold
  rw [h]

theorem tensionPart_hasHold {h : HoldReason} (hne : h ≠ .tension) (s : State) (d : Travel) :
    (s.tensionPart d).hasHold h = s.hasHold h := by
  have hlock : ∀ u : State, u.lockReached.hasHold h = u.hasHold h := fun u => by
    unfold State.lockReached
    split
    · rfl
    · split
      · rw [hasHold_dropHold, decide_eq_true hne, Bool.and_true]
        rfl
      · rfl
  have hwatch : ∀ u : State, u.watchReached.hasHold h = u.hasHold h := fun u => by
    unfold State.watchReached
    split
    · rfl
    · split
      · rw [hasHold_setHold, decide_eq_false hne, Bool.or_false]
      · rfl
  cases d with
  | reverse => rfl
  | forward => exact (hwatch _).trans (hlock _)

theorem countWeb_quiet (s : State) (d : Travel) : CountsQuietly s (s.countWeb d) := ⟨rfl, rfl, rfl, rfl, rfl, rfl, rfl⟩

theorem tensionPart_quiet (s : State) (d : Travel) : CountsQuietly s (s.tensionPart d) where
  ltr := by simp
  phase := by simp
  outcome := by simp
  line := by simp
  hold := tensionPart_hasHold (by decide) s d
  alert := hasAlert_congr (by simp) _
  roll := by rw [activeRoll?_congr (s := s) (activeStation_congr (by simp) (by simp)) (by simp)]

/-- The ACTIVE roll put back with the same fabric. -/
theorem putRoll_activeFabric {s : State} {x : Station} {r r' : Roll} (hactive : s.activeStation = some x) (hbound : s.boundRoll? x = some r)
    (htag : r'.tag = r.tag) (hstation : r'.station = r.station) (hfabric : r'.fabric = r.fabric) :
    (s.putRoll r').activeRoll?.map Roll.fabric = s.activeRoll?.map Roll.fabric := by
  have hr : s.activeRoll? = some r := activeRoll?_eq_some.mpr ⟨x, hactive, hbound⟩
  have hr' : (s.putRoll r').activeRoll? = some r' := activeRoll?_eq_some.mpr ⟨x, hactive, boundRoll?_putRoll hbound htag hstation⟩
  rw [hr, hr', Option.map_some, Option.map_some, hfabric]

theorem chargeRoll_quiet (s : State) (d : Travel) : CountsQuietly s (s.chargeRoll d) where
  ltr := by simp
  phase := by simp
  outcome := by simp
  line := by simp
  hold := hasHold_congr (by simp) _
  alert := hasAlert_congr (by simp) _
  roll := by
    cases hr : s.activeRoll? with
    | none => simp [State.chargeRoll, hr]
    | some r =>
      obtain ⟨x, hactive, hbound⟩ := activeRoll?_eq_some.mp hr
      obtain ⟨htag, hstation⟩ := r.charge_frame d
      have hfabric : (r.charge d).fabric = r.fabric := by cases d <;> rfl
      rw [← hr, ← putRoll_activeFabric hactive hbound htag hstation hfabric]
      simp [State.chargeRoll, hr]

theorem judgeExpiring_quiet (s : State) : CountsQuietly s s.judgeExpiring where
  ltr := by simp
  phase := by simp
  outcome := by simp
  line := by simp
  hold := hasHold_congr (by simp) _
  alert := by
    unfold State.judgeExpiring
    split
    · rfl
    · split
      · rfl
      · split
        · rw [hasAlert_raiseAlert]
          exact Bool.or_false _
        · rfl
  roll := by
    unfold State.judgeExpiring
    split
    · rfl
    · rename_i x hactive
      split
      · rfl
      · rename_i r hbound
        split
        · exact putRoll_activeFabric (r' := { r with expiring := true }) hactive hbound rfl rfl rfl
        · rfl

theorem raiseStop_quiet {s : State} (h : s.fsu.phase = .idle) : CountsQuietly s (s.raiseStop .rollOut) := by
  have hphase : ((s.raiseAlert StopCause.rollOut.alert).addStop .rollOut).fsu.phase = .idle := h
  obtain ⟨hltr, hidle, houtcome⟩ := stopLine_idle hphase
  refine ⟨hltr, hidle.trans h.symm, houtcome, by simp, hasHold_congr (by simp) _, ?_, ?_⟩
  · have halert : (s.raiseAlert StopCause.rollOut.alert).hasAlert .lotStarved = s.hasAlert .lotStarved := by
      rw [hasAlert_raiseAlert]
      exact Bool.or_false _
    exact (hasAlert_stopLine _ _).trans halert
  · rw [activeRoll?_congr (t := s.raiseStop .rollOut) (s := s) (stopLine_activeStation _) (by simp)]

/-- FSU's part of a count with no splice under way and auto-splice off. -/
theorem fsuCount_quiet {s : State} (hphase : s.fsu.phase = .idle) (hauto : s.rst.line.autoSplice = false) (d : Travel) :
    CountsQuietly s (s.fsuCount d) := by
  have hjudged : CountsQuietly s ((s.tensionPart d).chargeRoll d).judgeExpiring :=
    ((tensionPart_quiet s d).trans (chargeRoll_quiet _ d)).trans (judgeExpiring_quiet _)
  have hidle : ((s.tensionPart d).chargeRoll d).judgeExpiring.fsu.phase = .idle := hjudged.phase.trans hphase
  have hrolled : CountsQuietly s (((s.tensionPart d).chargeRoll d).judgeExpiring.matchAndRollOut d (s.rollsOut d)) := by
    rw [matchAndRollOut_idle hidle]
    split
    · exact hjudged.trans (raiseStop_quiet hidle)
    · exact hjudged
  have htest := autoSpliceTest_off (hrolled.line ▸ hauto)
  unfold State.fsuCount
  dsimp only
  rw [htest, ite_self]
  exact hrolled

/-- Such a count is no act on a splice, so the segment's end comes after it. -/
theorem feedUnits_quiet {s : State} (hphase : s.fsu.phase = .idle) (hauto : s.rst.line.autoSplice = false) :
    s.feedUnits .forward = (s.fsuCount .forward).segmentArrival := by
  have hquiet := fsuCount_quiet hphase hauto .forward
  have hroll : (s.fsuCount .forward).activeRoll?.any (fun r => r.attemptSpent && !(s.activeRoll?.any (·.attemptSpent))) = false := by
    have hsame := hquiet.roll
    cases hr : s.activeRoll? with
    | none =>
      rw [hr, Option.map_none, Option.map_eq_none_iff] at hsame
      rw [hsame]
      rfl
    | some r =>
      rw [hr, Option.map_some, Option.map_eq_some_iff] at hsame
      obtain ⟨r', hr', hfabric⟩ := hsame
      have hspent : r'.attemptSpent = r.attemptSpent := congrArg (·.2.2) hfabric
      rw [hr']
      simp [hspent]
  have hacts : s.spliceActs .forward = false := by
    unfold State.spliceActs
    rw [hquiet.phase, hquiet.outcome, hroll]
    simp
  simp only [State.feedUnits, hacts, Bool.and_false, Bool.false_eq_true, if_false]

end Sys2Proof.Machine
end

section
/-! SUPPORT. The end of the current segment, before the entry decision (O18): the segment's lot finished, and what that leaves. -/

namespace Sys2Proof.Machine

/-! ### What the statement speaks of -/

/-- The lot of the current segment once the segment has ended (R84, R93). -/
def Lot.finishedIn (s : State) (l : Lot) : Lot :=
  { l with state :=
      if l.started = l.planned ∧ ∀ p ∈ s.rst.panels, ¬ (p.kind = .product ∧ p.key.lot = l.number) then .done else .fed }

/-- A lot an entry decision may place (R85). -/
def State.MayEnter (s : State) (l : Lot) : Prop :=
  l.state = .queued ∧ l.held = false ∧
    ∃ r c, s.activeRoll? = some r ∧ r.cls = some c ∧ l.cls = some c ∧ (l.restriction = none ∨ l.restriction = some r.tag)

/-- The line order once the current segment has ended: a lot then DONE has left it (R84, R93). -/
def State.orderAfterEnd (s : State) : List Nat :=
  s.rst.order.filter fun m => !(decide (s.ltr.segment = .lot m) && (s.lot? m).any fun l => (l.finishedIn s).state == .done)

/-- The current segment's lot made FED and tested for completion, where the segment is a lot's. -/
def State.finishSegment (s : State) : State :=
  match s.ltr.segment with
  | .none => s
  | .lot n => s.makeFed n
  | .waste _ _ => s

theorem segmentEnd_eq {s : State} {h e : Coord} (hextent : s.segmentExtent = some (h, e)) :
    s.segmentEnd = s.finishSegment.entryDecision e := by
  unfold State.segmentEnd State.finishSegment
  rw [hextent]
  cases hsegment : s.ltr.segment with
  | none =>
    unfold State.segmentExtent at hextent
    rw [hsegment] at hextent
    cases hextent
  | lot n => rfl
  | waste b t => rfl

/-! ### Completion, and what it leaves of the other lots and of the patterns -/

theorem hasPanelsOf_eq_false_iff (s : State) (n : Nat) :
    s.hasPanelsOf n = false ↔ ∀ p ∈ s.rst.panels, ¬ (p.kind = .product ∧ p.key.lot = n) := by
  simp [State.hasPanelsOf]

theorem testCompletion_lot?_ne (s : State) {n m : Nat} (h : m ≠ n) : (s.testCompletion n).lot? m = s.lot? m := by
  unfold State.testCompletion
  split
  · rfl
  · rename_i l hl
    split
    · rw [lot?_congr (s := s.putLot { l with state := .done }) (by simp)]
      exact lot?_putLot_ne s { l with state := .done } (by rw [show Lot.number _ = n from lot?_number hl]; exact h)
    · rfl

/-- A pattern that a lot not DONE names outlives a recount (R26, R30). -/
theorem settleCounts_flatLen {s : State} {n : Nat} (h : patternRefs s.rst.lots n ≠ 0) :
    (s.settleCounts.pattern? n).map (·.flatLen) = (s.pattern? n).map (·.flatLen) := by
  have hkept : (fun p : Pattern =>
      decide ((!Pattern.spentRetiring { p with refCount := patternRefs s.rst.lots p.number }) = true ∧
        (p.number == n) = true)) = fun p => p.number == n := by
    funext p
    by_cases hp : p.number = n
    · simp [hp, Pattern.spentRetiring, h]
    · simp [hp]
  have hfind : s.settleCounts.pattern? n =
      (s.pattern? n).map fun p => { p with refCount := patternRefs s.rst.lots p.number } := by
    show ((s.rst.patterns.map fun p => { p with refCount := patternRefs s.rst.lots p.number }).filter _).find? _ = _
    rw [List.find?_filter, List.find?_map]
    exact congrArg (fun test => (s.rst.patterns.find? test).map _) hkept
  rw [hfind, Option.map_map]
  rfl

theorem patternRefs_ne_zero {lots : List Lot} {l : Lot} {n : Nat} (hmem : l ∈ lots) (hstate : l.state ≠ .done)
    (hpattern : l.pattern = some n) : patternRefs lots n ≠ 0 := by
  refine Nat.ne_of_gt (List.countP_pos_iff.mpr ⟨l, hmem, ?_⟩)
  simp [hstate, hpattern]

theorem lotFlatLen_congr {s t : State} (h : t.rst.patterns = s.rst.patterns) (l : Lot) : t.lotFlatLen l = s.lotFlatLen l := by
  unfold State.lotFlatLen State.pattern?
  rw [h]

theorem settleCounts_lotFlatLen {s : State} {m : Nat} {l : Lot} (hl : s.lot? m = some l) (hstate : l.state ≠ .done) :
    s.settleCounts.lotFlatLen l = s.lotFlatLen l := by
  unfold State.lotFlatLen
  cases hpattern : l.pattern with
  | none => rfl
  | some n =>
    simp only [Option.bind_some]
    rw [settleCounts_flatLen (patternRefs_ne_zero (List.mem_of_find?_eq_some hl) hstate hpattern)]

theorem testCompletion_lotFlatLen {s : State} {n m : Nat} {l : Lot} (hne : m ≠ n) (hl : s.lot? m = some l) (hstate : l.state ≠ .done) :
    (s.testCompletion n).lotFlatLen l = s.lotFlatLen l := by
  unfold State.testCompletion
  split
  · rfl
  · rename_i x hx
    split
    · have hput : ((s.putLot { x with state := .done }).leaveOrder n).lot? m = some l := by
        rw [lot?_congr (s := s.putLot { x with state := .done }) (by simp), ← hl]
        exact lot?_putLot_ne s { x with state := .done } (by rw [show Lot.number _ = n from lot?_number hx]; exact hne)
      rw [settleCounts_lotFlatLen hput hstate]
      exact lotFlatLen_congr (by simp) l
    · rfl

theorem testCompletion_order {s : State} {n : Nat} {l : Lot} (h : s.lot? n = some l) :
    (s.testCompletion n).rst.order =
      if l.state = .fed ∧ l.started = l.planned ∧ s.hasPanelsOf n = false then s.rst.order.filter (· != n) else s.rst.order := by
  unfold State.testCompletion
  rw [h]
  dsimp only
  split
  · simp [State.leaveOrder]
  · rfl

/-! ### A lot made FED -/

theorem makeFed_eq {s : State} {n : Nat} {l : Lot} (h : s.lot? n = some l) :
    s.makeFed n = (s.putLot { l with state := .fed }).testCompletion n := by
  unfold State.makeFed
  rw [h]

theorem putFed_lot? {s : State} {n : Nat} {l : Lot} (h : s.lot? n = some l) :
    (s.putLot { l with state := .fed }).lot? n = some { l with state := .fed } := by
  obtain rfl := lot?_number h
  exact lot?_putLot_self s { l with state := .fed }

theorem makeFed_lot? {s : State} {n : Nat} {l : Lot} (h : s.lot? n = some l) : (s.makeFed n).lot? n = some (l.finishedIn s) := by
  obtain rfl := lot?_number h
  have hpanels : (s.putLot { l with state := .fed }).hasPanelsOf l.number = false ↔
      ∀ p ∈ s.rst.panels, ¬ (p.kind = .product ∧ p.key.lot = l.number) := hasPanelsOf_eq_false_iff s l.number
  rw [makeFed_eq h, testCompletion_lot? (putFed_lot? h)]
  unfold Lot.finishedIn
  simp only [hpanels, true_and]
  split <;> rfl

theorem makeFed_lot?_ne {s : State} {n m : Nat} (hne : m ≠ n) : (s.makeFed n).lot? m = s.lot? m := by
  unfold State.makeFed
  split
  · rfl
  · rename_i l hl
    rw [testCompletion_lot?_ne _ hne]
    exact lot?_putLot_ne s { l with state := .fed } (by rw [show Lot.number _ = n from lot?_number hl]; exact hne)

theorem makeFed_lotFlatLen {s : State} {n m : Nat} {l x : Lot} (hn : s.lot? n = some l) (hne : m ≠ n) (hx : s.lot? m = some x)
    (hstate : x.state ≠ .done) : (s.makeFed n).lotFlatLen x = s.lotFlatLen x := by
  have hput : (s.putLot { l with state := .fed }).lot? m = some x := by
    rw [← hx]
    exact lot?_putLot_ne s { l with state := .fed } (by rw [show Lot.number _ = n from lot?_number hn]; exact hne)
  rw [makeFed_eq hn, testCompletion_lotFlatLen hne hput hstate]
  exact lotFlatLen_congr (by simp) x

theorem finishedIn_state (s : State) (l : Lot) : (l.finishedIn s).state = .done ∨ (l.finishedIn s).state = .fed := by
  unfold Lot.finishedIn
  dsimp only
  split
  · exact Or.inl rfl
  · exact Or.inr rfl

theorem finishedIn_done_iff (s : State) (l : Lot) :
    (l.finishedIn s).state = .done ↔ l.started = l.planned ∧ s.hasPanelsOf l.number = false := by
  rw [hasPanelsOf_eq_false_iff]
  unfold Lot.finishedIn
  dsimp only
  split <;> simp_all

theorem makeFed_order {s : State} {n : Nat} {l : Lot} (h : s.lot? n = some l) :
    (s.makeFed n).rst.order = if (l.finishedIn s).state = .done then s.rst.order.filter (· != n) else s.rst.order := by
  obtain rfl := lot?_number h
  have hpanels : (s.putLot { l with state := .fed }).hasPanelsOf l.number = s.hasPanelsOf l.number := rfl
  rw [makeFed_eq h, testCompletion_order (putFed_lot? h)]
  simp only [finishedIn_done_iff, hpanels, State.putLot_frame, true_and]

/-! ### The segment finished -/

/-- A state is another with its current segment finished and no entry decision made yet. -/
structure SegmentFinished (s v : State) : Prop where
  ltr : v.ltr = s.ltr
  panels : v.rst.panels = s.rst.panels
  line : v.rst.line = s.rst.line
  hold : v.hasHold .lotStarved = s.hasHold .lotStarved
  alert : v.hasAlert .lotStarved = s.hasAlert .lotStarved
  roll : v.activeRoll?.map Roll.fabric = s.activeRoll?.map Roll.fabric
  ended : ∀ n l, s.ltr.segment = .lot n → s.lot? n = some l → v.lot? n = some (l.finishedIn s)
  others : ∀ m, s.ltr.segment ≠ .lot m → v.lot? m = s.lot? m
  order : v.rst.order = s.orderAfterEnd
  flatLen : ∀ m l, s.ltr.segment ≠ .lot m → s.lot? m = some l → l.state ≠ .done → v.lotFlatLen l = s.lotFlatLen l

theorem orderAfterEnd_of_lot {s : State} {n : Nat} {l : Lot} (hsegment : s.ltr.segment = .lot n) (hl : s.lot? n = some l) :
    s.orderAfterEnd = if (l.finishedIn s).state = .done then s.rst.order.filter (· != n) else s.rst.order := by
  have hgone : ∀ m, (!(decide (s.ltr.segment = .lot m) && (s.lot? m).any fun l => (l.finishedIn s).state == .done)) =
      !(decide (m = n) && decide ((l.finishedIn s).state = .done)) := fun m => by
    by_cases hm : m = n
    · subst hm
      rw [hsegment, hl]
      simp [BEq.beq]
    · have hsegment' : s.ltr.segment ≠ .lot m := by
        rw [hsegment]
        exact fun h => hm (Segment.lot.inj h).symm
      simp [hm, hsegment']
  unfold State.orderAfterEnd
  rw [List.filter_congr fun m _ => hgone m]
  split
  · rename_i hdone
    exact List.filter_congr fun m _ => by simp [hdone, bne, BEq.beq]
  · rename_i hdone
    exact List.filter_eq_self.mpr fun m _ => by simp [hdone]

theorem orderAfterEnd_of_not_lot {s : State} (h : ∀ m, s.ltr.segment ≠ .lot m) : s.orderAfterEnd = s.rst.order :=
  List.filter_eq_self.mpr fun m _ => by simp [h m]

/-- Where the segment's lot, if it has one, is on record, `finishSegment` finishes it. -/
theorem finishSegment_spec {s : State} (hfound : ∀ n, s.ltr.segment = .lot n → (s.lot? n).isSome = true) :
    SegmentFinished s s.finishSegment := by
  by_cases hsegment : ∃ n, s.ltr.segment = .lot n
  · obtain ⟨n, hn⟩ := hsegment
    obtain ⟨l, hl⟩ := Option.isSome_iff_exists.mp (hfound n hn)
    have hfinish : s.finishSegment = s.makeFed n := by unfold State.finishSegment; rw [hn]
    have hne : ∀ m, s.ltr.segment ≠ .lot m → m ≠ n := fun m hm h => hm (h ▸ hn)
    rw [hfinish]
    exact {
      ltr := by simp
      panels := by simp
      line := by simp
      hold := hasHold_congr (by simp) _
      alert := hasAlert_congr (by simp) _
      roll := by rw [activeRoll?_congr (s := s) (activeStation_congr (by simp) (by simp)) (by simp)]
      ended := fun k x hk hx => by
        rw [hn] at hk
        cases hk
        rw [hl] at hx
        cases hx
        exact makeFed_lot? hl
      others := fun m hm => makeFed_lot?_ne (hne m hm)
      order := (makeFed_order hl).trans (orderAfterEnd_of_lot hn hl).symm
      flatLen := fun m x hm hx hstate => makeFed_lotFlatLen hl (hne m hm) hx hstate }
  · have hnone : ∀ m, s.ltr.segment ≠ .lot m := fun m hm => hsegment ⟨m, hm⟩
    have hfinish : s.finishSegment = s := by
      unfold State.finishSegment
      split
      · rfl
      · rename_i n hn
        exact absurd hn (hnone n)
      · rfl
    rw [hfinish]
    exact {
      ltr := rfl
      panels := rfl
      line := rfl
      hold := rfl
      alert := rfl
      roll := rfl
      ended := fun n _ hn _ => absurd hn (hnone n)
      others := fun _ _ => rfl
      order := (orderAfterEnd_of_not_lot hnone).symm
      flatLen := fun _ _ _ _ _ => rfl }

/-- FSU's part of the count and then the segment's end: finished as of the state before the count. -/
theorem SegmentFinished.of_count {s u v : State} (hcount : CountsQuietly s u) (hlots : u.rst.lots = s.rst.lots)
    (horder : u.rst.order = s.rst.order) (hpanels : u.rst.panels = s.rst.panels) (hpatterns : u.rst.patterns = s.rst.patterns)
    (h : SegmentFinished u v) : SegmentFinished s v := by
  have hlot : ∀ m, u.lot? m = s.lot? m := lot?_congr hlots
  have hfinished : ∀ l : Lot, l.finishedIn u = l.finishedIn s := fun l => by
    unfold Lot.finishedIn
    rw [hpanels]
  exact {
    ltr := h.ltr.trans hcount.ltr
    panels := h.panels.trans hpanels
    line := h.line.trans hcount.line
    hold := h.hold.trans hcount.hold
    alert := h.alert.trans hcount.alert
    roll := h.roll.trans hcount.roll
    ended := fun n l hn hl => by rw [h.ended n l (by rw [hcount.ltr, hn]) (by rw [hlot, hl]), hfinished]
    others := fun m hm => by rw [h.others m (by rwa [hcount.ltr]), hlot]
    order := by
      rw [h.order]
      unfold State.orderAfterEnd
      simp only [horder, hcount.ltr, hlot, hfinished]
    flatLen := fun m l hm hl hstate => by
      rw [h.flatLen m l (by rwa [hcount.ltr]) (by rw [hlot, hl]) hstate, lotFlatLen_congr hpatterns] }

end Sys2Proof.Machine
end

section
/-! SUPPORT. The entry decision at a segment's end (O18): which lot it finds, what each outcome does, and the pending joint. -/

namespace Sys2Proof.Machine

/-! ### Which lot may enter (R85) -/

theorem eligible_iff (s : State) (l : Lot) : s.eligible l = true ↔ s.MayEnter l := by
  unfold State.eligible State.MayEnter
  cases s.activeRoll? with
  | none => simp
  | some r =>
    have hcls : (l.cls.isSome = true ∧ l.cls = r.cls) ↔ ∃ c, r.cls = some c ∧ l.cls = some c := by
      rw [Option.isSome_iff_exists]
      exact ⟨fun ⟨⟨c, hc⟩, hsame⟩ => ⟨c, hsame ▸ hc, hc⟩, fun ⟨c, hr, hl⟩ => ⟨⟨c, hl⟩, hl.trans hr.symm⟩⟩
    simp only [Bool.and_eq_true, Bool.or_eq_true, beq_iff_eq, Bool.not_eq_true', Option.some.injEq]
    constructor
    · rintro ⟨⟨⟨⟨hstate, hheld⟩, hsome⟩, hsame⟩, hrestriction⟩
      obtain ⟨c, hr, hl⟩ := hcls.mp ⟨hsome, hsame⟩
      exact ⟨hstate, hheld, r, c, rfl, hr, hl, hrestriction⟩
    · rintro ⟨hstate, hheld, _, c, rfl, hr, hl, hrestriction⟩
      obtain ⟨hsome, hsame⟩ := hcls.mpr ⟨c, hr, hl⟩
      exact ⟨⟨⟨⟨hstate, hheld⟩, hsome⟩, hsame⟩, hrestriction⟩

theorem MayEnter_congr {s t : State} (h : t.activeRoll?.map Roll.fabric = s.activeRoll?.map Roll.fabric) (l : Lot) :
    t.MayEnter l ↔ s.MayEnter l := by
  have hroll : ∀ {s t : State}, t.activeRoll?.map Roll.fabric = s.activeRoll?.map Roll.fabric → t.MayEnter l → s.MayEnter l := by
    rintro s t h ⟨hstate, hheld, r, c, hr, hcls, hlot, hrestriction⟩
    rw [hr, Option.map_some] at h
    obtain ⟨r', hr', hfabric⟩ := Option.map_eq_some_iff.mp h.symm
    have hcls' : r'.cls = r.cls := congrArg (·.1) hfabric
    have htag' : r'.tag = r.tag := congrArg (·.2.1) hfabric
    exact ⟨hstate, hheld, r', c, hr', hcls'.trans hcls, hlot, htag'.symm ▸ hrestriction⟩
  exact ⟨hroll h, hroll h.symm⟩

theorem LineOrderLaw.feeding_iff {s : State} (h : LineOrderLaw s) {m : Nat} {l : Lot} (hl : s.lot? m = some l) :
    l.state = .feeding ↔ s.ltr.segment = .lot m := by
  obtain ⟨-, -, -, -, -, -, hfeeding, -⟩ := h
  have hiff := hfeeding l (List.mem_of_find?_eq_some hl)
  rwa [lot?_number hl] at hiff

/-- A lot that may enter is not the current segment's. -/
theorem LineOrderLaw.mayEnter_segment_ne {s : State} (h : LineOrderLaw s) {m : Nat} {l : Lot} (hl : s.lot? m = some l)
    (henter : s.MayEnter l) : s.ltr.segment ≠ .lot m := fun hm => by
  have hfeeding := (h.feeding_iff hl).mpr hm
  rw [henter.1] at hfeeding
  cases hfeeding

/-- With the segment finished, a lot that may enter is one that might before. -/
theorem SegmentFinished.mayEnter {s v : State} (h : SegmentFinished s v) {m : Nat} (hfound : (s.lot? m).isSome = true) {l : Lot}
    (hl : v.lot? m = some l) (henter : v.MayEnter l) : s.lot? m = some l ∧ s.MayEnter l := by
  by_cases hsegment : s.ltr.segment = .lot m
  · obtain ⟨x, hx⟩ := Option.isSome_iff_exists.mp hfound
    have hfinished := h.ended m x hsegment hx
    rw [hl] at hfinished
    cases hfinished
    rcases finishedIn_state s x with hstate | hstate <;> rw [henter.1] at hstate <;> cases hstate
  · rw [h.others m hsegment] at hl
    exact ⟨hl, (MayEnter_congr h.roll l).mp henter⟩

/-- What `firstEligible` looks for. -/
theorem firstEligible_test (v : State) (l : Lot) : (l.waiting && v.eligible l) = true ↔ v.MayEnter l := by
  rw [Bool.and_eq_true, eligible_iff]
  refine ⟨fun h => h.2, fun h => ⟨?_, h⟩⟩
  unfold Lot.waiting
  rw [h.1]
  rfl

/-- No number of a list found to be a lot that may enter. -/
theorem find?_eligible_eq_none {v : State} {ms : List Nat} (h : ∀ m ∈ ms, ∀ l, v.lot? m = some l → ¬ v.MayEnter l) :
    ((ms.filterMap v.lot?).find? fun l => l.waiting && v.eligible l) = none := by
  refine List.find?_eq_none.mpr fun l hl => ?_
  obtain ⟨m, hm, hlot⟩ := List.mem_filterMap.mp hl
  rw [firstEligible_test]
  exact h m hm l hlot

theorem SegmentFinished.find?_none {s v : State} (h : SegmentFinished s v) {ms : List Nat}
    (hfound : ∀ m ∈ ms, (s.lot? m).isSome = true) (hnone : ∀ m ∈ ms, ∀ l, s.lot? m = some l → ¬ s.MayEnter l)
    (test : Nat → Bool) : (((ms.filter test).filterMap v.lot?).find? fun l => l.waiting && v.eligible l) = none :=
  find?_eligible_eq_none fun m hm l hl henter => by
    have hmem : m ∈ ms := List.mem_of_mem_filter hm
    obtain ⟨hl', henter'⟩ := h.mayEnter (hfound m hmem) hl henter
    exact hnone m hmem l hl' henter'

theorem SegmentFinished.firstEligible_none {s v : State} (hlaw : LineOrderLaw s) (h : SegmentFinished s v)
    (hnone : ∀ m ∈ s.rst.order, ∀ l, s.lot? m = some l → ¬ s.MayEnter l) : v.firstEligible = none := by
  obtain ⟨-, -, -, -, hfound, -⟩ := hlaw
  unfold State.firstEligible
  rw [h.order]
  exact h.find?_none hfound hnone _

theorem SegmentFinished.firstEligible_some {s v : State} (hlaw : LineOrderLaw s) (h : SegmentFinished s v) {before after : List Nat}
    {l : Lot} (horder : s.rst.order = before ++ l.number :: after) (hl : s.lot? l.number = some l) (henter : s.MayEnter l)
    (hnone : ∀ m ∈ before, ∀ x, s.lot? m = some x → ¬ s.MayEnter x) : v.firstEligible = some l := by
  have hsegment : s.ltr.segment ≠ .lot l.number := hlaw.mayEnter_segment_ne hl henter
  obtain ⟨-, -, -, -, hfound, -⟩ := hlaw
  have hfound' : ∀ m ∈ before, (s.lot? m).isSome = true := fun m hm => hfound m (horder ▸ List.mem_append_left _ hm)
  have hlot : v.lot? l.number = some l := (h.others _ hsegment).trans hl
  have htest : (l.waiting && v.eligible l) = true := (firstEligible_test v l).mpr ((MayEnter_congr h.roll l).mpr henter)
  unfold State.firstEligible
  rw [h.order, State.orderAfterEnd, horder, List.filter_append, List.filterMap_append, List.find?_append, h.find?_none hfound' hnone,
    List.filter_cons_of_pos (by simp [hsegment]), List.filterMap_cons_some hlot]
  exact List.find?_cons_of_pos (p := fun l => l.waiting && v.eligible l) htest

/-- The lot found is on record and may enter. -/
theorem mayEnter_of_firstEligible {v : State} {l : Lot} (h : v.firstEligible = some l) : v.lot? l.number = some l ∧ v.MayEnter l := by
  obtain ⟨m, -, hlot⟩ := List.mem_filterMap.mp (List.mem_of_find?_eq_some h)
  have htest : (l.waiting && v.eligible l) = true :=
    List.find?_some (p := fun x : Lot => x.waiting && v.eligible x) (l := v.rst.order.filterMap v.lot?) h
  exact ⟨lot?_number hlot ▸ hlot, (firstEligible_test v l).mp htest⟩

/-! ### What each outcome does -/

theorem starve_spec (s : State) :
    s.starve.hasAlert .lotStarved = true ∧ s.starve.ltr.starved = true ∧
      s.starve.hasHold .lotStarved = (!s.ltr.starved || s.hasHold .lotStarved) := by
  have halert : (s.raiseAlert .lotStarved).hasAlert .lotStarved = true := by simp [hasAlert_raiseAlert]
  unfold State.starve
  dsimp only
  split
  · rename_i hstarved
    have hstarved' : s.ltr.starved = true := hstarved
    refine ⟨halert, hstarved, ?_⟩
    rw [hstarved']
    rfl
  · rename_i hstarved
    have hstarved' : s.ltr.starved = false := by simpa using hstarved
    refine ⟨halert, rfl, ?_⟩
    rw [hasHold_setHold, hstarved']
    simp

theorem endStarvation_spec (s : State) :
    s.endStarvation.ltr.starved = false ∧
      (s.ltr.starved = true → s.endStarvation.hasHold .lotStarved = false ∧ s.endStarvation.hasAlert .lotStarved = false) ∧
      (s.ltr.starved = false → s.endStarvation.hasHold .lotStarved = s.hasHold .lotStarved ∧
        s.endStarvation.hasAlert .lotStarved = s.hasAlert .lotStarved) := by
  unfold State.endStarvation
  split
  · rename_i hstarved
    refine ⟨rfl, fun _ => ⟨?_, ?_⟩, fun h => ?_⟩
    · have hdrop : ∀ u : State, ((u.dropHold .lotStarved).dropAlert .lotStarved).hasHold .lotStarved = false := fun u => by
        have hsame : ((u.dropHold .lotStarved).dropAlert .lotStarved).hasHold .lotStarved =
            (u.dropHold .lotStarved).hasHold .lotStarved := rfl
        rw [hsame, hasHold_dropHold]
        simp
      exact hdrop _
    · rw [hasAlert_dropAlert]
      simp
    · rw [h] at hstarved
      cases hstarved
  · rename_i hstarved
    exact ⟨by simpa using hstarved, fun h => absurd h hstarved, fun _ => ⟨rfl, rfl⟩⟩

/-- The lot placed at a segment start (R85). -/
def State.placedLot (s : State) (l : Lot) (c : Coord) : Lot :=
  ({ l with state := .feeding, head := some c } : Lot).replanOnWeb (s.lotFlatLen l)

theorem placeLot_spec (s : State) (l : Lot) (c : Coord) :
    (s.placeLot l c).ltr.segment = .lot l.number ∧ (s.placeLot l c).rst.order = (s.placeInOrder l.number).rst.order ∧
      (s.placeLot l c).lot? l.number = some (s.placedLot l c) ∧ (∀ m, m ≠ l.number → (s.placeLot l c).lot? m = s.lot? m) ∧
      (s.placeLot l c).ltr.starved = false ∧
      (s.ltr.starved = true → (s.placeLot l c).hasHold .lotStarved = false ∧ (s.placeLot l c).hasAlert .lotStarved = false) ∧
      (s.ltr.starved = false → (s.placeLot l c).hasHold .lotStarved = s.hasHold .lotStarved ∧
        (s.placeLot l c).hasAlert .lotStarved = s.hasAlert .lotStarved) := by
  obtain ⟨hstarved, hended, hkept⟩ :=
    endStarvation_spec (((s.placeInOrder l.number).putLot (s.placedLot l c)).setSegment (.lot l.number))
  have hlot : ∀ m, (s.placeLot l c).lot? m = ((s.placeInOrder l.number).putLot (s.placedLot l c)).lot? m := fun m =>
    lot?_congr (by rw [State.placeLot, (State.endStarvation_frame _).2.2.2.1]; rfl) m
  refine ⟨by simp [State.placeLot, State.setSegment], by simp [State.placeLot, State.setSegment],
    (hlot _).trans (lot?_putLot_self _ (s.placedLot l c)), fun m hm => ?_, hstarved, hended, hkept⟩
  rw [hlot, lot?_putLot_ne _ (s.placedLot l c) hm]
  rfl

/-! ### The pending joint (R87, R88) -/

theorem addJoint_eq_withJoint {l : Lot} (h : ¬ 4 ≤ l.joints.length) (j : Coord) (n : Nat) : l.addJoint j n = l.withJoint j n := by
  unfold Lot.addJoint Lot.withJoint
  rw [if_neg h]
  dsimp only
  split <;> rfl

theorem withJoint_number (l : Lot) (j : Coord) (n : Nat) : (l.withJoint j n).number = l.number := by
  unfold Lot.withJoint
  (repeat' split) <;> rfl

theorem assignJoint_lot? {s : State} {n : Nat} {l : Lot} (h : s.lot? n = some l) (j : Coord) :
    (s.assignJoint n j).lot? n = some (l.withJoint j (s.lotFlatLen l)) ∧ ∀ m, m ≠ n → (s.assignJoint n j).lot? m = s.lot? m := by
  have hnumber : (l.withJoint j (s.lotFlatLen l)).number = n := (withJoint_number l j _).trans (lot?_number h)
  unfold State.assignJoint
  simp only [h]
  split
  · rename_i hfull
    refine ⟨?_, fun _ _ => rfl⟩
    rw [h, Lot.withJoint, if_pos hfull]
  · rename_i hroom
    rw [addJoint_eq_withJoint hroom]
    have hlot : ∀ m, ((s.putLot (l.withJoint j (s.lotFlatLen l))).flagForming n j).lot? m =
        (s.putLot (l.withJoint j (s.lotFlatLen l))).lot? m := lot?_congr (by simp)
    refine ⟨?_, fun m hm => ?_⟩
    · rw [hlot, ← hnumber]
      exact lot?_putLot_self s _
    · rw [hlot]
      exact lot?_putLot_ne s _ (by rw [hnumber]; exact hm)

/-- A lot after an entry decision with the joint that was pending (R87). -/
def Lot.settled (l : Lot) (flatLen : Nat) : Option Coord → Lot
  | none => l
  | some j => if l.holds j then l.withJoint j flatLen else l

theorem settlePendingJoint_of_none {s : State} (h : s.ltr.pendingJoint = none) : s.settlePendingJoint = s := by
  simp only [State.settlePendingJoint, h]

theorem settlePendingJoint_pendingJoint (s : State) : s.settlePendingJoint.ltr.pendingJoint = none := by
  unfold State.settlePendingJoint
  split
  · assumption
  · dsimp only
    split
    · split
      · simp
      · rfl
    · rfl

theorem settlePendingJoint_lots_of_waste {s : State} {h t : Coord} (hsegment : s.ltr.segment = .waste h t) :
    s.settlePendingJoint.rst.lots = s.rst.lots := by
  unfold State.settlePendingJoint
  split
  · rfl
  · simp only [State.feedingLot?, hsegment]

theorem settlePendingJoint_lot? {s : State} {n : Nat} {l : Lot} (hsegment : s.ltr.segment = .lot n) (hl : s.lot? n = some l) :
    s.settlePendingJoint.lot? n = some (l.settled (s.lotFlatLen l) s.ltr.pendingJoint) ∧
      ∀ m, m ≠ n → s.settlePendingJoint.lot? m = s.lot? m := by
  have hnumber := lot?_number hl
  unfold State.settlePendingJoint
  cases hpending : s.ltr.pendingJoint with
  | none => exact ⟨hl, fun _ _ => rfl⟩
  | some j =>
    have hfeeding : State.feedingLot? { s with ltr := { s.ltr with pendingJoint := none } } = some l := by
      simp only [State.feedingLot?, hsegment]
      exact hl
    simp only [hfeeding, Lot.settled, hnumber]
    split
    · exact assignJoint_lot? (s := { s with ltr := { s.ltr with pendingJoint := none } }) hl j
    · exact ⟨hl, fun _ _ => rfl⟩

/-- What the pending joint's settling leaves of LTR's flags. -/
theorem settlePendingJoint_flags (s : State) :
    s.settlePendingJoint.hasHold .lotStarved = s.hasHold .lotStarved ∧
      s.settlePendingJoint.hasAlert .lotStarved = s.hasAlert .lotStarved :=
  ⟨hasHold_congr (by simp) _, hasAlert_congr (by simp) _⟩

end Sys2Proof.Machine
end

section
/-! The segment's end and its one entry decision (O18). -/

namespace Sys2Proof.Machine

/-! ### The entry decision -/

theorem decideNext_of_classChange {v : State} (h : v.ltr.classChange = true) (c : Coord) : v.decideNext c = v.openWaste c := if_pos h

theorem decideNext_of_none {v : State} (h : v.ltr.classChange = false) (hnone : v.firstEligible = none) (c : Coord) :
    v.decideNext c = (v.openWaste c).starve := by
  simp only [State.decideNext, h, hnone, Bool.false_eq_true, if_false]

theorem decideNext_of_some {v : State} {l : Lot} (h : v.ltr.classChange = false) (hsome : v.firstEligible = some l) (c : Coord) :
    v.decideNext c = v.placeLot l c := by
  simp only [State.decideNext, h, hsome, Bool.false_eq_true, if_false]

theorem openWaste_segment (v : State) (c : Coord) : (v.openWaste c).ltr.segment = .waste c (advance c v.wasteLength) := rfl

/-- With no lot to place the next segment is waste, and no lot and no place of the order changes (R86). -/
theorem entryDecision_waste {v : State} (h : v.ltr.classChange = true ∨ v.firstEligible = none) (c : Coord) :
    (v.entryDecision c).ltr.segment = .waste c (advance c v.wasteLength) ∧ (v.entryDecision c).rst.lots = v.rst.lots ∧
      (v.entryDecision c).rst.order = v.rst.order := by
  have hnext : (v.decideNext c).ltr.segment = .waste c (advance c v.wasteLength) ∧ (v.decideNext c).rst = v.rst := by
    cases hclass : v.ltr.classChange with
    | true =>
      rw [decideNext_of_classChange hclass]
      exact ⟨rfl, rfl⟩
    | false =>
      have hnone : v.firstEligible = none := h.resolve_left fun h => by
        rw [hclass] at h
        cases h
      rw [decideNext_of_none hclass hnone]
      exact ⟨by simpa using openWaste_segment v c, by simp⟩
  obtain ⟨hsegment, hrst⟩ := hnext
  refine ⟨by simpa [State.entryDecision] using hsegment, ?_, by simp [State.entryDecision, hrst]⟩
  exact (settlePendingJoint_lots_of_waste hsegment).trans (by rw [hrst])

/-- A class change pending leaves starvation as it was (R86). -/
theorem entryDecision_of_classChange {v : State} (h : v.ltr.classChange = true) (c : Coord) :
    (v.entryDecision c).ltr.starved = v.ltr.starved ∧ (v.entryDecision c).hasHold .lotStarved = v.hasHold .lotStarved ∧
      (v.entryDecision c).hasAlert .lotStarved = v.hasAlert .lotStarved := by
  obtain ⟨hhold, halert⟩ := settlePendingJoint_flags (v.openWaste c)
  unfold State.entryDecision
  rw [decideNext_of_classChange h]
  exact ⟨by simp, hhold, halert⟩

/-- No lot eligible: starvation (R86). -/
theorem entryDecision_of_none {v : State} (h : v.ltr.classChange = false) (hnone : v.firstEligible = none) (c : Coord) :
    (v.entryDecision c).hasAlert .lotStarved = true ∧ (v.entryDecision c).ltr.starved = true ∧
      (v.entryDecision c).hasHold .lotStarved = (!v.ltr.starved || v.hasHold .lotStarved) := by
  obtain ⟨hhold, halert⟩ := settlePendingJoint_flags (v.openWaste c).starve
  obtain ⟨hraised, hstarved, hheld⟩ := starve_spec (v.openWaste c)
  unfold State.entryDecision
  rw [decideNext_of_none h hnone, hhold, halert]
  exact ⟨hraised, by simpa using hstarved, hheld⟩

/-- The first eligible lot is placed and takes the pending joint where that lies in it (R85, R87). -/
theorem entryDecision_of_some {v : State} {l : Lot} (h : v.ltr.classChange = false) (hsome : v.firstEligible = some l) (c : Coord) :
    (v.entryDecision c).ltr.segment = .lot l.number ∧ (v.entryDecision c).rst.order = (v.placeInOrder l.number).rst.order ∧
      (v.entryDecision c).lot? l.number = some ((v.placedLot l c).settled (v.lotFlatLen l) v.ltr.pendingJoint) ∧
      (∀ m, m ≠ l.number → (v.entryDecision c).lot? m = v.lot? m) ∧ (v.entryDecision c).ltr.starved = false ∧
      (v.ltr.starved = true → (v.entryDecision c).hasHold .lotStarved = false ∧ (v.entryDecision c).hasAlert .lotStarved = false) ∧
      (v.ltr.starved = false → (v.entryDecision c).hasHold .lotStarved = v.hasHold .lotStarved ∧
        (v.entryDecision c).hasAlert .lotStarved = v.hasAlert .lotStarved) := by
  obtain ⟨hsegment, horder, hself, hothers, hstarved, hended, hkept⟩ := placeLot_spec v l c
  obtain ⟨hhold, halert⟩ := settlePendingJoint_flags (v.placeLot l c)
  obtain ⟨hsettled, hsettledOthers⟩ := settlePendingJoint_lot? hsegment hself
  have hflat : (v.placeLot l c).lotFlatLen (v.placedLot l c) = v.lotFlatLen l := lotFlatLen_congr (by simp) (v.placedLot l c)
  unfold State.entryDecision
  rw [decideNext_of_some h hsome, hhold, halert]
  refine ⟨by simpa using hsegment, by simpa using horder, ?_, fun m hm => (hsettledOthers m hm).trans (hothers m hm),
    by simpa using hstarved, hended, hkept⟩
  rw [hsettled, hflat]
  simp

/-- The finished segment's lot is not the one placed, so the decision leaves it. -/
theorem SegmentFinished.entryDecision_ended {s v : State} (h : SegmentFinished s v) {n : Nat} {l : Lot}
    (hsegment : s.ltr.segment = .lot n) (hl : s.lot? n = some l) (c : Coord) :
    (v.entryDecision c).lot? n = some (l.finishedIn s) := by
  have hended : v.lot? n = some (l.finishedIn s) := h.ended n l hsegment hl
  by_cases hwaste : v.ltr.classChange = true ∨ v.firstEligible = none
  · rw [lot?_congr (entryDecision_waste hwaste c).2.1, hended]
  · obtain ⟨hchange, hfound⟩ := not_or.mp hwaste
    obtain ⟨x, hx⟩ := Option.ne_none_iff_exists'.mp hfound
    have hne : n ≠ x.number := by
      rintro rfl
      obtain ⟨hlot, henter⟩ := mayEnter_of_firstEligible hx
      rw [hended] at hlot
      have hsame : l.finishedIn s = x := Option.some.inj hlot
      rcases finishedIn_state s l with hstate | hstate <;> rw [hsame, henter.1] at hstate <;> cases hstate
    obtain ⟨-, -, -, hothers, -⟩ := entryDecision_of_some (by simpa using hchange) hx c
    rw [hothers n hne, hended]

/-! ### The order after a placement (R81, R85) -/

/-- A number that stays in the order is on the web after the segment's end as before it. -/
theorem SegmentFinished.numberOnWeb {s v : State} (hlaw : LineOrderLaw s) (h : SegmentFinished s v) {m : Nat}
    (hm : m ∈ s.orderAfterEnd) : v.numberOnWeb m = s.numberOnWeb m := by
  obtain ⟨hmem, hstays⟩ := List.mem_filter.mp hm
  unfold State.numberOnWeb
  by_cases hsegment : s.ltr.segment = .lot m
  · obtain ⟨-, -, -, -, hfound, -⟩ := id hlaw
    obtain ⟨l, hl⟩ := Option.isSome_iff_exists.mp (hfound m hmem)
    have hfeeding : l.state = .feeding := (hlaw.feeding_iff hl).mpr hsegment
    have hfed : (l.finishedIn s).state = .fed := (finishedIn_state s l).resolve_left fun hdone => by
      simp [hsegment, hl, hdone] at hstays
    rw [h.ended m l hsegment hl, hl]
    simp [Lot.onWeb, hfeeding, hfed]
  · rw [h.others m hsegment]

theorem SegmentFinished.placedOrder {s v : State} (hlaw : LineOrderLaw s) (h : SegmentFinished s v) {l : Lot}
    (hl : s.lot? l.number = some l) (hqueued : l.state = .queued) :
    (v.placeInOrder l.number).rst.order =
      s.orderAfterEnd.filter s.numberOnWeb ++ l.number :: s.orderAfterEnd.filter fun m => m != l.number && !s.numberOnWeb m := by
  have hwaiting : s.numberOnWeb l.number = false := by simp [State.numberOnWeb, hl, Lot.onWeb, hqueued]
  have hweb : s.orderAfterEnd.filter (fun m => v.numberOnWeb m && m != l.number) = s.orderAfterEnd.filter s.numberOnWeb :=
    List.filter_congr fun m hm => by
      rw [h.numberOnWeb hlaw hm]
      by_cases hne : m = l.number
      · rw [hne, hwaiting]
        rfl
      · simp [hne]
  have hrest : s.orderAfterEnd.filter (fun m => !v.numberOnWeb m && m != l.number) =
      s.orderAfterEnd.filter (fun m => m != l.number && !s.numberOnWeb m) :=
    List.filter_congr fun m hm => by rw [h.numberOnWeb hlaw hm, Bool.and_comm]
  unfold State.placeInOrder
  dsimp only
  rw [h.order, List.filter_filter, List.filter_filter, hweb, hrest]

/-! ### The feed count -/

theorem segmentExtent_congr {s t : State} (hsegment : t.ltr.segment = s.ltr.segment) (hlots : t.rst.lots = s.rst.lots) :
    t.segmentExtent = s.segmentExtent := by
  unfold State.segmentExtent
  simp only [hsegment, lot?_congr hlots]

/-- The forward count that reaches the current segment's end, with no splice and no point at the blade due: the segment finished, one
entry decision, and the end of the act. -/
theorem feedCount_segmentEnd {s : State} {h e : Coord} (hextent : s.segmentExtent = some (h, e))
    (hdue : 0 ≤ coordDiff (s.fsu.w + 1) e) (hphase : s.fsu.phase = .idle) (hauto : s.rst.line.autoSplice = false)
    (hstart : ∀ c, s.pfm.nextStart = some c → coordDiff (s.fsu.w + 1) c < 20000)
    (hstrike : ∀ c k, s.pfm.nextStrike = some (c, k) → coordDiff (s.fsu.w + 1) c < 20000) :
    ∃ v, SegmentFinished s v ∧ v.fsu.w = s.fsu.w + 1 ∧
      exec (.feedCount .forward) s = .next ((v.entryDecision e).targetArrival).endAct := by
  obtain ⟨u, hu⟩ : ∃ u, u = (s.countWeb .forward).fsuCount .forward := ⟨_, rfl⟩
  have hquiet : CountsQuietly s u := by
    rw [hu]
    exact (countWeb_quiet s .forward).trans (fsuCount_quiet (s := s.countWeb .forward) hphase hauto .forward)
  have hframe : u.rst.lots = s.rst.lots ∧ u.rst.order = s.rst.order ∧ u.rst.panels = s.rst.panels ∧
      u.rst.patterns = s.rst.patterns ∧ u.fsu.w = s.fsu.w + 1 := by
    rw [hu]
    simp [State.countWeb, Travel.move]
  obtain ⟨hlots, horder, hpanels, hpatterns, hw⟩ := hframe
  have hextent' : u.segmentExtent = some (h, e) := (segmentExtent_congr (by rw [hquiet.ltr]) hlots).trans hextent
  have hreached : u.segmentDue = true := by
    simp only [State.segmentDue, hextent', reaches, hw]
    exact decide_eq_true hdue
  have hfound : ∀ n, u.ltr.segment = .lot n → (u.lot? n).isSome = true := fun n hn => by
    cases hl : u.lot? n with
    | some l => rfl
    | none => simp [State.segmentExtent, hn, hl] at hextent'
  have hfinished := finishSegment_spec hfound
  have hunits : (s.countWeb .forward).feedUnits .forward = u.finishSegment.entryDecision e := by
    rw [feedUnits_quiet (s := s.countWeb .forward) hphase hauto, ← hu, State.segmentArrival, if_pos hreached, segmentEnd_eq hextent']
  have hpoints : (u.finishSegment.entryDecision e).pfm.nextStart = s.pfm.nextStart ∧
      (u.finishSegment.entryDecision e).pfm.nextStrike = s.pfm.nextStrike ∧
      (u.finishSegment.entryDecision e).fsu.w = s.fsu.w + 1 := by
    rw [← hunits, feedUnits_quiet (s := s.countWeb .forward) hphase hauto]
    simp [State.countWeb, Travel.move]
  obtain ⟨hstart', hstrike', hw'⟩ := hpoints
  have hform : (u.finishSegment.entryDecision e).formUnits .forward = (u.finishSegment.entryDecision e).targetArrival :=
    formUnits_notDue (by rw [hstart', hw']; exact hstart) (by rw [hstrike', hw']; exact hstrike) .forward
  refine ⟨u.finishSegment, hfinished.of_count hquiet hlots horder hpanels hpatterns, by simpa using hw', ?_⟩
  show Host.Outcome.next ((((s.countWeb .forward).feedUnits .forward).formUnits .forward).endAct) = _
  rw [hunits, hform]

/-- What follows the decision in the act changes nothing the decision settled. -/
theorem actAfterDecision (u : State) :
    (u.targetArrival.endAct).fsu.w = u.fsu.w ∧ (u.targetArrival.endAct).ltr = u.ltr ∧ (u.targetArrival.endAct).rst = u.rst ∧
      (∀ m, (u.targetArrival.endAct).lot? m = u.lot? m) ∧
      (u.targetArrival.endAct).hasHold .lotStarved = u.hasHold .lotStarved ∧
      (u.targetArrival.endAct).hasAlert .lotStarved = u.hasAlert .lotStarved := by
  refine ⟨by simp, by simp, by simp, lot?_congr (by simp), ?_, ?_⟩
  · rw [endAct_hasHold (by decide)]
    exact hasHold_congr (by simp) _
  · rw [hasAlert_endAct]
    exact hasAlert_congr (by simp) _

/-- A reverse count makes no decision (R6). -/
theorem feedCount_reverse_keepsLots (s : State) :
    ∃ t, exec (.feedCount .reverse) s = .next t ∧ t.ltr = { s.ltr with classChange := t.ltr.classChange } ∧
      t.rst.lots = s.rst.lots ∧ t.rst.order = s.rst.order ∧ t.rst.panels = s.rst.panels := by
  obtain ⟨u, hu⟩ : ∃ u, u = (s.countWeb .reverse).fsuCount .reverse := ⟨_, rfl⟩
  have hltr : u.ltr.segment = s.ltr.segment ∧ u.ltr.pendingJoint = s.ltr.pendingJoint ∧ u.ltr.starved = s.ltr.starved := by
    rw [hu]
    simp
  obtain ⟨hsegment, hjoint, hstarved⟩ := hltr
  have hexec : exec (.feedCount .reverse) s = .next u.endAct := by
    rw [hu]
    rfl
  refine ⟨u.endAct, hexec, ?_, by simp [hu], by simp [hu], by simp [hu]⟩
  simp only [State.endAct_frame, ← hsegment, ← hjoint, ← hstarved]

/-! ### The statement -/

/-- The placed lot with the pending joint, in the statement's own words. -/
theorem placedLot_settled (v : State) (l : Lot) (c : Coord) (n : Nat) (hflat : v.lotFlatLen l = n) (joint : Option Coord) :
    let planned := l.ordered.getD 0 + l.makeupUsed - l.cancelled
    let tail := c + BitVec.ofNat 40 (planned * n)
    let placed : Lot := { l with state := .feeding, head := some c, planned := planned, tail := some tail }
    (v.placedLot l c).settled n joint =
      (match joint with
       | some j => if 0 ≤ coordDiff j c ∧ coordDiff j tail < 0 then placed.withJoint j n else placed
       | none => placed) := by
  intro planned tail placed
  have hplaced : v.placedLot l c = placed := by
    unfold State.placedLot
    rw [hflat]
    rfl
  rw [hplaced]
  cases joint with
  | none => rfl
  | some j =>
    have hholds : placed.holds j = true ↔ 0 ≤ coordDiff j c ∧ coordDiff j tail < 0 := by
      show (reaches j c && !reaches j tail) = true ↔ _
      simp [reaches]
    simp only [Lot.settled, hholds]

/-- Settles O18: the segment's end makes one entry decision. -/
theorem segmentEndDecides : Obligations.SegmentEndDecides := by
  unfold Obligations.SegmentEndDecides
  refine ⟨fun s h e hlaw hextent hdue hphase hauto hstart hstrike => ?_, feedCount_reverse_keepsLots⟩
  intro finished eligible order
  obtain ⟨v, hv, hw, hexec⟩ := feedCount_segmentEnd hextent hdue hphase hauto hstart hstrike
  obtain ⟨tw, tltr, trst, tlot, thold, talert⟩ := actAfterDecision (v.entryDecision e)
  have horder : v.rst.order = order := hv.order
  have hclass : v.ltr.classChange = s.ltr.classChange := by rw [hv.ltr]
  have hwasteful : s.ltr.classChange = true ∨ (∀ n ∈ s.rst.order, ∀ l, s.lot? n = some l → ¬ eligible l) →
      v.ltr.classChange = true ∨ v.firstEligible = none :=
    Or.imp hclass.trans (hv.firstEligible_none hlaw)
  refine ⟨_, hexec, by rw [tw]; simpa using hw, by rw [tltr]; exact settlePendingJoint_pendingJoint _, by rw [tltr]; simpa using hclass,
    fun hjoint => ?panels, fun n l hn hl => ?ended, fun hwaste => ?waste, fun hchange => ?change, fun hnochange hnone => ?starve,
    fun before l after hnochange hsplit hl henter hbefore => ?place⟩
  case panels =>
    have hnone : (v.decideNext e).ltr.pendingJoint = none := by rw [← hjoint, ← hv.ltr]; simp
    rw [trst, State.entryDecision, settlePendingJoint_of_none hnone, ← hv.panels]
    simp
  case ended =>
    rw [tlot]
    exact hv.entryDecision_ended hn hl e
  case waste =>
    obtain ⟨hsegment, hlots, horder'⟩ := entryDecision_waste (hwasteful hwaste) e
    refine ⟨?_, by rw [trst, horder', horder], fun m hm => ?_⟩
    · rw [tltr, hsegment, State.wasteLength, hv.line]
      rfl
    · rw [tlot, lot?_congr hlots, hv.others m hm]
  case change =>
    obtain ⟨hstarved, hhold, halert⟩ := entryDecision_of_classChange (hclass.trans hchange) e
    exact ⟨by rw [tltr, hstarved, hv.ltr], by rw [thold, hhold, hv.hold], by rw [talert, halert, hv.alert]⟩
  case starve =>
    obtain ⟨hraised, hstarved, hheld⟩ := entryDecision_of_none (hclass.trans hnochange) (hv.firstEligible_none hlaw hnone) e
    exact ⟨by rw [talert, hraised], by rw [tltr, hstarved], by rw [thold, hheld, hv.ltr, hv.hold]⟩
  case place =>
    intro planned tail placed
    have hfirst : v.firstEligible = some l := hv.firstEligible_some hlaw hsplit hl henter hbefore
    have hsegment : s.ltr.segment ≠ .lot l.number := hlaw.mayEnter_segment_ne hl henter
    have hqueued : l.state = .queued := henter.1
    have hflat : v.lotFlatLen l = s.lotFlatLen l := hv.flatLen _ l hsegment hl (by rw [hqueued]; decide)
    obtain ⟨hnext, hplaced, hself, hothers, hstarved, hended, hkept⟩ := entryDecision_of_some (hclass.trans hnochange) hfirst e
    refine ⟨by rw [tltr, hnext], by rw [tltr, hstarved], fun hs => ?_, fun hs => ?_, ?_, fun m hm hne => ?_, ?_⟩
    · rw [thold, talert]
      exact hended (by rw [hv.ltr, hs])
    · rw [thold, talert, ← hv.hold, ← hv.alert]
      exact hkept (by rw [hv.ltr, hs])
    · rw [trst, hplaced, hv.placedOrder hlaw hl hqueued]
      rfl
    · rw [tlot, hothers m hne, hv.others m hm]
    · rw [tlot, hself, hflat, hv.ltr]
      exact congrArg some (placedLot_settled v l e _ hflat _)

end Sys2Proof.Machine
end

section
/-! SUPPORT. Tables kept in key order (O9, O10): what `upsert` and `dropKey` do to a table whose keys rise. -/

namespace Sys2Proof.Machine

/-- Over a key that the table does not hold, `upsert` adds the record and nothing else. -/
theorem upsert_perm {α : Type} {key : α → Nat} {x : α} {l : List α} (h : ∀ y ∈ l, key y ≠ key x) : (upsert key x l).Perm (x :: l) := by
  induction l with
  | nil => exact List.Perm.refl _
  | cons y ys ih =>
    have hne : key x ≠ key y := fun he => h y List.mem_cons_self he.symm
    unfold upsert
    split
    · exact List.Perm.refl _
    · exact ((ih fun z hz => h z (List.mem_cons_of_mem y hz)).cons y).trans (List.Perm.swap x y ys)

/-- Over a key that the table holds, `upsert` replaces the record of that key. -/
theorem upsert_eq_map {α : Type} {key : α → Nat} {x : α} {l : List α} (hrising : risingKeys (l.map key)) (h : ∃ y ∈ l, key y = key x) :
    upsert key x l = l.map fun y => if key y = key x then x else y := by
  induction l with
  | nil => simp at h
  | cons y ys ih =>
    obtain ⟨hfirst, hrest⟩ := List.pairwise_cons.mp hrising
    have hlater : ∀ z ∈ ys, key y < key z := fun z hz => hfirst _ (List.mem_map_of_mem hz)
    obtain ⟨z, hz, hkey⟩ := h
    unfold upsert
    by_cases hxy : key x = key y
    · have hothers : ∀ w ∈ ys, ¬ key w = key x := fun w hw => by have := hlater w hw; omega
      rw [if_neg (by omega), if_pos hxy, List.map_cons, if_pos hxy.symm]
      congr 1
      exact ((List.map_congr_left fun w hw => if_neg (hothers w hw)).trans (List.map_id' ys)).symm
    · have hz' : z ∈ ys := (List.mem_cons.mp hz).resolve_left fun he => hxy (he ▸ hkey.symm)
      have := hlater z hz'
      rw [if_neg (by omega), if_neg hxy, List.map_cons, if_neg (Ne.symm hxy), ih hrest ⟨z, hz', hkey⟩]

theorem risingKeys_upsert {α : Type} {key : α → Nat} {l : List α} (x : α) (h : risingKeys (l.map key)) :
    risingKeys ((upsert key x l).map key) := by
  induction l with
  | nil => simp [upsert, risingKeys]
  | cons y ys ih =>
    obtain ⟨hfirst, hrest⟩ := List.pairwise_cons.mp h
    unfold upsert
    split
    · rename_i hlt
      refine List.pairwise_cons.mpr ⟨fun k hk => ?_, h⟩
      rcases List.mem_cons.mp hk with rfl | hk
      · exact hlt
      · exact Nat.lt_trans hlt (hfirst k hk)
    · split
      · rename_i heq
        refine List.pairwise_cons.mpr ⟨fun k hk => ?_, hrest⟩
        rw [heq]
        exact hfirst k hk
      · rename_i hnlt hne
        refine List.pairwise_cons.mpr ⟨fun k hk => ?_, ih hrest⟩
        obtain ⟨z, hz, rfl⟩ := List.mem_map.mp hk
        rcases mem_upsert key x z ys hz with rfl | hz
        · omega
        · exact hfirst _ (List.mem_map_of_mem hz)

theorem risingKeys_filter {α : Type} {key : α → Nat} {l : List α} (keep : α → Bool) (h : risingKeys (l.map key)) :
    risingKeys ((l.filter keep).map key) :=
  h.sublist (List.filter_sublist.map key)

/-- Two records of a table are one where their keys are. -/
theorem risingKeys_injective {α : Type} {key : α → Nat} {l : List α} (h : risingKeys (l.map key)) {x y : α} (hx : x ∈ l) (hy : y ∈ l)
    (hkey : key x = key y) : x = y :=
  List.inj_on_of_nodup_map (h.imp fun hlt => Nat.ne_of_lt hlt) hx hy hkey

theorem find?_key_eq_none {α : Type} {key : α → Nat} {l : List α} {k : Nat} :
    l.find? (fun y => key y == k) = none ↔ ∀ y ∈ l, key y ≠ k := by
  simp [List.find?_eq_none]

theorem length_upsert_of_mem {α : Type} {key : α → Nat} {x : α} {l : List α} (hrising : risingKeys (l.map key))
    (h : ∃ y ∈ l, key y = key x) : (upsert key x l).length = l.length := by
  rw [upsert_eq_map hrising h, List.length_map]

/-- A record put over one that a test judges alike leaves the count of the test. -/
theorem countP_upsert {α : Type} {key : α → Nat} {x y : α} {l : List α} (hrising : risingKeys (l.map key)) (hy : y ∈ l)
    (hkey : key x = key y) {test : α → Bool} (htest : test x = test y) : (upsert key x l).countP test = l.countP test := by
  rw [upsert_eq_map hrising ⟨y, hy, hkey.symm⟩, List.countP_map]
  refine List.countP_congr fun z hz => ?_
  dsimp only [Function.comp_apply]
  split
  · rename_i heq
    rw [risingKeys_injective hrising hz hy (heq.trans hkey), htest]
  · rfl

/-- What a table holds after `upsert`: the record, and those of other keys. -/
theorem mem_upsert_iff {α : Type} {key : α → Nat} {x z : α} {l : List α} (hrising : risingKeys (l.map key)) :
    z ∈ upsert key x l ↔ z = x ∨ (z ∈ l ∧ key z ≠ key x) := by
  by_cases h : ∃ y ∈ l, key y = key x
  · rw [upsert_eq_map hrising h, List.mem_map]
    constructor
    · rintro ⟨y, hy, rfl⟩
      split
      · exact Or.inl rfl
      · rename_i hne
        exact Or.inr ⟨hy, hne⟩
    · rintro (rfl | ⟨hz, hne⟩)
      · obtain ⟨y, hy, hkey⟩ := h
        exact ⟨y, hy, if_pos hkey⟩
      · exact ⟨z, hz, if_neg hne⟩
  · have hnone : ∀ y ∈ l, key y ≠ key x := fun y hy hkey => h ⟨y, hy, hkey⟩
    rw [(upsert_perm hnone).mem_iff, List.mem_cons]
    exact or_congr Iff.rfl ⟨fun hz => ⟨hz, hnone z hz⟩, fun hz => hz.1⟩

theorem mem_dropKey {α : Type} {key : α → Nat} {k : Nat} {l : List α} {x : α} : x ∈ dropKey key k l ↔ x ∈ l ∧ key x ≠ k := by
  simp [dropKey]

/-- A record that a test does not count may leave the table. -/
theorem countP_dropKey {α : Type} {key : α → Nat} {k : Nat} {l : List α} {test : α → Bool} (h : ∀ x ∈ l, key x = k → test x = false) :
    (dropKey key k l).countP test = l.countP test := by
  unfold dropKey
  rw [List.countP_filter]
  refine List.countP_congr fun x hx => ?_
  by_cases hkey : key x = k
  · simp [hkey, h x hx hkey]
  · simp [hkey]

theorem lot?_mem {s : State} {n : Nat} {l : Lot} (h : s.lot? n = some l) : l ∈ s.rst.lots := List.mem_of_find?_eq_some h

theorem roll?_mem {s : State} {n : Nat} {r : Roll} (h : s.roll? n = some r) : r ∈ s.rst.rolls := List.mem_of_find?_eq_some h

theorem roll?_tag {s : State} {n : Nat} {r : Roll} (h : s.roll? n = some r) : r.tag = n := by simpa using List.find?_some h

theorem class?_mem {s : State} {n : Nat} {c : FabricClass} (h : s.class? n = some c) : c ∈ s.rst.classes := List.mem_of_find?_eq_some h

theorem boundRoll?_mem {s : State} {x : Station} {r : Roll} (h : s.boundRoll? x = some r) : r ∈ s.rst.rolls :=
  List.mem_of_find?_eq_some h

end Sys2Proof.Machine
end


section
/-! SUPPORT. What the part does to its records (O9, O10): the moves that every act is made of, and the properties that survive them. -/

namespace Sys2Proof.Machine

/-- All of one state's tables but the panels, and its current segment, are another's. -/
def SharesBesidesPanels (s t : State) : Prop :=
  t.rst.patterns = s.rst.patterns ∧ t.rst.pool = s.rst.pool ∧ t.rst.classes = s.rst.classes ∧ t.rst.rolls = s.rst.rolls ∧
    t.rst.lots = s.rst.lots ∧ t.ltr.segment = s.ltr.segment

/-- One state's tables and its current segment are another's. -/
def SharesRecords (s t : State) : Prop := SharesBesidesPanels s t ∧ t.rst.panels = s.rst.panels

/-- A roll that takes the place of another in the table: a roll that is NEW and on no station stays so. -/
def Roll.Follows (r r' : Roll) : Prop :=
  r'.tag = r.tag ∧ r'.cls = r.cls ∧
    (r'.state = r.state ∧ r'.station = r.station ∨ r'.state ≠ .new ∧ (r.state ≠ .new ∨ r.station ≠ none))

/-- A lot with another's number, pattern and class. -/
def Lot.Follows (l l' : Lot) : Prop := l'.number = l.number ∧ l'.pattern = l.pattern ∧ l'.cls = l.cls

/-- A property of the records that survives each thing an act of the part does to them. The moves of the units come first, then
those of the record commands, then the resets. -/
structure RecordInvariant (P : State → Prop) : Prop where
  shares {s t : State} : P s → SharesRecords s t → P t
  panels {s t : State} : P s → SharesBesidesPanels s t → t.rst.panels.length ≤ s.rst.panels.length → (DoseLaw s → DoseLaw t) → P t
  /-- A panel starts where the oldest record has made room for it (R99, R139): `s` is the state before, `u` the one with room. -/
  start {s u : State} (f : FormContext) (joint : Bool) : P s → P u → (PanelLaw s → u.rst.panels.length < 39) →
    P (u.createPanel f joint)
  roll {s : State} {r r' : Roll} : P s → r ∈ s.rst.rolls → r.Follows r' → P (s.putRoll r')
  lot {s : State} {n : Nat} {l l' : Lot} : P s → s.lot? n = some l → l.Follows l' → l'.state = l.state → P (s.putLot l')
  placed {s : State} {n : Nat} {l l' : Lot} : P s → s.lot? n = some l → l.state = .queued → l.Follows l' → l'.state = .feeding →
    P ((s.putLot l').setSegment (.lot n))
  fed {s : State} {n : Nat} {l l' : Lot} : P s → s.lot? n = some l → l.state = .feeding ∨ s.ltr.segment = .lot n → l.Follows l' →
    l'.state = .fed → P ((s.putLot l').setSegment .none)
  noLotSegment {s : State} {v : Segment} : P s → (∀ n, v ≠ .lot n) → P (s.setSegment v)
  completed {s : State} {n : Nat} {l : Lot} : P s → s.lot? n = some l → l.state = .fed →
    P ((s.putLot { l with state := .done }).settleCounts)
  newPattern {s : State} {n : Nat} : P s → s.pattern? n = none → 1 ≤ n → n ≤ 40 → P (s.putPattern (Pattern.created n))
  newClass {s : State} {n : Nat} : P s → s.class? n = none → 1 ≤ n → n ≤ 16 → P (s.putClass (FabricClass.created n))
  newRoll {s : State} {n : Nat} : P s → s.roll? n = none → s.rst.rolls.length < 12 → P (s.putRoll (Roll.created n))
  newLot {s : State} {n : Nat} : P s → s.lot? n = none → s.rst.lots.length < 32 → P (s.putLot (Lot.created n))
  committedPattern {s : State} {n : Nat} {q : Pattern} {st : PatternStage} : P s → s.pattern? n = some q → s.patternRefusal q st = none →
    P (s.committedPattern q st)
  committedClass {s : State} {n : Nat} {c : FabricClass} (st : ClassStage) : P s → s.class? n = some c → P (s.putClass (c.written st))
  committedRoll {s : State} {n : Nat} {r : Roll} {st : RollStage} : P s → s.roll? n = some r → s.rollRefusal r st = none →
    P (s.putRoll (r.written st)).settleCounts
  committedLot {s : State} {n : Nat} {l : Lot} {st : LotStage} : P s → s.lot? n = some l → s.lotRefusal l st = none →
    P (s.putLot (l.written st)).settleCounts
  retiring {s : State} {n : Nat} {q : Pattern} : P s → s.pattern? n = some q → q.state = .ready →
    P (s.putPattern { q with state := .retiring })
  freedPattern {s : State} {n : Nat} {q : Pattern} : P s → s.pattern? n = some q → q.refCount = 0 → P (s.freePattern q)
  freedClass {s : State} {n : Nat} {c : FabricClass} : P s → s.class? n = some c → c.refCount = 0 → P (s.dropRecord .cls n)
  freedRoll {s : State} (n : Nat) : P s → P (s.dropRecord .roll n).settleCounts
  freedLot {s : State} {n : Nat} {l : Lot} : P s → s.lot? n = some l → l.state = .queued ∨ l.state = .done →
    P (s.dropRecord .lot n).settleCounts
  neverCommitted {s : State} {t : Table} {n : Nat} : P s → s.neverCommitted t n = true → P (s.dropRecord t n)
  lineReset {s : State} : P s → P { s.resetRecords with ltr := Ltr.reset }
  powerOn {s t : State} : P s → t.rst = Store.reset → t.ltr = Ltr.reset → P t

@[simp] theorem sharesBesidesPanels_iff (s t : State) : SharesBesidesPanels s t ↔
    t.rst.patterns = s.rst.patterns ∧ t.rst.pool = s.rst.pool ∧ t.rst.classes = s.rst.classes ∧ t.rst.rolls = s.rst.rolls ∧
      t.rst.lots = s.rst.lots ∧ t.ltr.segment = s.ltr.segment := Iff.rfl

@[simp] theorem sharesRecords_iff (s t : State) : SharesRecords s t ↔ SharesBesidesPanels s t ∧ t.rst.panels = s.rst.panels := Iff.rfl

theorem SharesRecords.refl (s : State) : SharesRecords s s := ⟨⟨rfl, rfl, rfl, rfl, rfl, rfl⟩, rfl⟩

/-- Counts settled on shared records are shared. -/
theorem settleCounts_sharesRecords {s t : State} (h : SharesRecords s t) : SharesRecords s.settleCounts t.settleCounts := by
  obtain ⟨⟨hpatterns, hpool, hclasses, hrolls, hlots, hsegment⟩, hpanels⟩ := h
  simp [State.settleCounts, State.recount, State.freeRetired, State.sweep, *]

theorem Roll.follows_of_eq {r r' : Roll} (htag : r'.tag = r.tag) (hcls : r'.cls = r.cls) (hstate : r'.state = r.state)
    (hstation : r'.station = r.station) : r.Follows r' :=
  ⟨htag, hcls, Or.inl ⟨hstate, hstation⟩⟩

end Sys2Proof.Machine
end


section
/-! SUPPORT. The acts of the units as moves of the records (O9, O10): lots, panels and the cutter. -/

namespace Sys2Proof.Machine

variable {P : State → Prop} {s : State}

/-! ### Panels whose doses stand -/

theorem doseLaw_map {s t : State} {g : Panel → Panel} (hg : ∀ p, (g p).doses = p.doses ∧ (g p).totalDose = p.totalDose)
    (hpanels : t.rst.panels = s.rst.panels.map g) (h : DoseLaw s) : DoseLaw t := by
  intro q hq
  rw [hpanels] at hq
  obtain ⟨p, hp, rfl⟩ := List.mem_map.mp hq
  obtain ⟨hdoses, htotal⟩ := hg p
  rw [hdoses, htotal]
  exact h p hp

/-- Panel records changed in anything but their doses. -/
theorem RecordInvariant.mapPanels (h : RecordInvariant P) (hs : P s) {t : State} (hshares : SharesBesidesPanels s t) {g : Panel → Panel}
    (hg : ∀ p, (g p).doses = p.doses ∧ (g p).totalDose = p.totalDose) (hpanels : t.rst.panels = s.rst.panels.map g) : P t :=
  h.panels hs hshares (by rw [hpanels, List.length_map]) (doseLaw_map hg hpanels)

theorem RecordInvariant.changePanel (h : RecordInvariant P) (hs : P s) (k : PanelKey) {g : Panel → Panel}
    (hg : ∀ p, (g p).doses = p.doses ∧ (g p).totalDose = p.totalDose) : P (s.changePanel k g) := by
  refine h.mapPanels hs (by simp) (g := fun p => if p.key = k then g p else p) (fun p => ?_) rfl
  split
  · exact hg p
  · exact ⟨rfl, rfl⟩

theorem RecordInvariant.passCutFault (h : RecordInvariant P) (hs : P s) (n : Nat) : P (s.passCutFault n) := by
  refine h.mapPanels hs (by simp) (fun p => ?_) (passCutFault_panels s n)
  unfold Panel.faultedIf
  split <;> exact ⟨rfl, rfl⟩

/-! ### A record retired (R139, R141, R149) -/

theorem Lot.follows_tally (l : Lot) (v : Verdict) : l.Follows (l.tally v) ∧ (l.tally v).state = l.state := by
  cases v <;> exact ⟨⟨rfl, rfl, rfl⟩, rfl⟩

theorem RecordInvariant.tallyPanel (h : RecordInvariant P) (hs : P s) (p : Panel) (v : Verdict) : P (s.tallyPanel p v) := by
  unfold State.tallyPanel
  split
  · split
    · exact hs
    · rename_i l hl
      obtain ⟨hfollows, hstate⟩ := l.follows_tally v
      exact h.lot hs hl hfollows hstate
  · exact hs

theorem RecordInvariant.removePanel (h : RecordInvariant P) (hs : P s) (n : Nat) : P (s.removePanel n) :=
  h.panels hs (by simp) (List.length_filter_le _ _) fun hlaw q hq => hlaw q (List.mem_of_mem_filter hq)

theorem RecordInvariant.testCompletion (h : RecordInvariant P) (hs : P s) (n : Nat) : P (s.testCompletion n) := by
  unfold State.testCompletion
  split
  · exact hs
  · rename_i l hl
    split
    · rename_i hfed
      exact h.shares (h.completed hs hl hfed.1) (settleCounts_sharesRecords (by simp))
    · exact hs

theorem RecordInvariant.retirePanel (h : RecordInvariant P) (hs : P s) (p : Panel) (v : Verdict) : P (s.retirePanel p v) := by
  have hshown : P (((s.tallyPanel p v).removePanel p.serial).setLast (p.disposition v)) :=
    h.shares (h.removePanel (h.tallyPanel hs p v) p.serial) (by simp)
  unfold State.retirePanel
  dsimp only
  split
  · exact h.shares (h.testCompletion hshown p.key.lot) (by simp)
  · exact h.shares hshown (by simp)

theorem RecordInvariant.retireEarly (h : RecordInvariant P) (hs : P s) (p : Panel) : P (s.retireEarly p) :=
  h.shares (h.retirePanel (h.passCutFault hs p.serial) p (p.verdict true)) (by simp [State.retireEarly])

theorem RecordInvariant.uncutTail (h : RecordInvariant P) (hs : P s) (n : Nat) : P (s.uncutTail n) := by
  unfold State.uncutTail
  dsimp only
  split
  · exact h.passCutFault hs n
  · exact h.shares (h.passCutFault hs n) (by simp)

theorem RecordInvariant.tailArrival (h : RecordInvariant P) (hs : P s) (p : Panel) : P (s.tailArrival p) := by
  refine h.retirePanel (s := s.tailJudged p) ?_ p (p.verdict !s.cutMade)
  unfold State.tailJudged
  split
  · exact h.shares hs (by simp)
  · exact h.shares (h.uncutTail hs p.serial) (by simp)

theorem RecordInvariant.takeTails (h : RecordInvariant P) (n : Nat) (hs : P s) : P (s.takeTails n) := by
  induction n generalizing s with
  | zero => exact hs
  | succ n ih =>
    unfold State.takeTails
    split
    · exact hs
    · rename_i p _ _
      exact ih (h.shares (h.tailArrival hs p) (by simp))

theorem RecordInvariant.failedStroke (h : RecordInvariant P) (hs : P s) : P s.failedStroke := by
  unfold State.failedStroke
  split
  · exact hs
  · exact h.passCutFault hs _

theorem RecordInvariant.cutterJam (h : RecordInvariant P) (hs : P s) : P s.cutterJam := by
  unfold State.cutterJam
  split
  · exact h.shares (h.failedStroke hs) (by simp)
  · exact h.shares hs (by simp)

theorem RecordInvariant.exitTrip (h : RecordInvariant P) (hs : P s) : P s.exitTrip := by
  unfold State.exitTrip
  split
  case h_2 => exact h.shares (h.failedStroke hs) (by simp)
  all_goals exact h.shares hs (by simp)

/-! ### The former (R98–R111) -/

theorem makeRoom_length {s : State} (h : PanelLaw s) : s.makeRoom.rst.panels.length < 39 := by
  have hroom : s.rst.panels.length ≤ 39 := h
  unfold State.makeRoom
  split
  · rename_i hfull
    have hfull' : 39 ≤ s.rst.panels.length := hfull
    split
    · rename_i hnil
      simp [hnil] at hfull'
    · rename_i p ps hcons
      have hgone : (s.retireEarly p).rst.panels.length < s.rst.panels.length := by
        have hpanels : (s.retireEarly p).rst.panels =
            (s.rst.panels.map (Panel.faultedIf (p.serial + 1))).filter fun q => q.serial != p.serial := by
          simp [State.retireEarly, retirePanel_panels, passCutFault_panels]
        rw [hpanels, ← List.length_map (f := Panel.faultedIf (p.serial + 1)) (as := s.rst.panels)]
        refine List.length_filter_lt_length_iff_exists.mpr ⟨p.faultedIf (p.serial + 1), ?_, by simp [Panel.faultedIf_serial]⟩
        exact List.mem_map_of_mem (hcons ▸ List.mem_cons_self)
      omega
  · rename_i hnot
    exact Nat.lt_of_not_le hnot

theorem RecordInvariant.makeRoom (h : RecordInvariant P) (hs : P s) : P s.makeRoom := by
  unfold State.makeRoom
  split
  · split
    · exact hs
    · exact h.retireEarly hs _
  · exact hs

theorem RecordInvariant.panelStart (h : RecordInvariant P) (hs : P s) (c : Coord) : P (s.panelStart c) := by
  have hroom : P s.makeRoom := h.makeRoom hs
  have hlength : PanelLaw s → s.makeRoom.rst.panels.length < 39 := makeRoom_length
  unfold State.panelStart
  dsimp only
  split
  · rename_i l hl
    have hlot : s.makeRoom.lot? l.number = some l := by
      obtain ⟨n, -, hn⟩ := List.mem_filterMap.mp (List.mem_of_mem_filter (List.mem_of_find?_eq_some hl))
      rwa [lot?_number hn]
    split
    · rename_i head p _ _
      have hcounted := h.lot hroom hlot (l' := { l with started := l.started + 1 }) ⟨rfl, rfl, rfl⟩ rfl
      exact h.shares (h.start (s.makeRoom.productContext l p head c) (jointIn l.joints c p.flatLen) hs hcounted hlength) (by simp)
    · exact hroom
  · have hindexed : P { s.makeRoom with pfm := { s.makeRoom.pfm with nextWaste := bumpWaste s.makeRoom.pfm.nextWaste } } :=
      h.shares hroom (SharesRecords.refl _)
    exact h.shares (h.start (s.makeRoom.wasteContext c) false hs hindexed hlength) (by simp)

theorem RecordInvariant.panelStartArrival (h : RecordInvariant P) (hs : P s) : P s.panelStartArrival := by
  unfold State.panelStartArrival
  split
  · exact hs
  · split
    · exact h.panelStart hs _
    · exact hs

theorem RecordInvariant.missStrike (h : RecordInvariant P) (hs : P s) (k : PanelKey) : P (s.missStrike k) := by
  have hcounted : P (s.changePanel k fun q => { q with missed := q.missed + 1 }) := h.changePanel hs k fun _ => ⟨rfl, rfl⟩
  unfold State.missStrike
  split
  · exact hs
  · split
    · exact hs
    · dsimp only
      split
      · exact h.shares hcounted (by simp)
      · exact hcounted

theorem RecordInvariant.strikeOrMiss (h : RecordInvariant P) (hs : P s) (f : FormContext) (k : Nat) : P (s.strikeOrMiss f k) := by
  unfold State.strikeOrMiss
  split
  · exact hs
  · split
    · split
      · exact hs
      · exact h.shares hs (by simp)
    · exact h.missStrike hs f.key

theorem RecordInvariant.strikeArrival (h : RecordInvariant P) (hs : P s) : P s.strikeArrival := by
  unfold State.strikeArrival
  split
  · rename_i c k f _ _
    split
    · exact h.shares (h.strikeOrMiss hs f k) (by simp)
    · exact hs
  · exact hs

theorem RecordInvariant.formUnits (h : RecordInvariant P) (hs : P s) (d : Travel) : P (s.formUnits d) := by
  cases d with
  | reverse => exact hs
  | forward => exact h.shares (h.panelStartArrival (h.strikeArrival hs)) (by simp [State.formUnits])

theorem RecordInvariant.missCurrent (h : RecordInvariant P) (hs : P s) : P s.missCurrent := by
  unfold State.missCurrent
  split
  · exact hs
  · exact h.missStrike hs _

theorem RecordInvariant.bladeTrip (h : RecordInvariant P) (hs : P s) : P s.bladeTrip := by
  unfold State.bladeTrip
  split
  case h_2 | h_3 => exact h.shares (h.missCurrent hs) (by simp)
  all_goals exact h.shares hs (by simp)

/-! ### The tracker (R84–R92) -/

theorem Lot.follows_addJoint (l : Lot) (j : Coord) (n : Nat) : l.Follows (l.addJoint j n) ∧ (l.addJoint j n).state = l.state := by
  unfold Lot.addJoint
  dsimp only
  split <;> exact ⟨⟨rfl, rfl, rfl⟩, rfl⟩

theorem RecordInvariant.flagForming (h : RecordInvariant P) (hs : P s) (n : Nat) (j : Coord) : P (s.flagForming n j) := by
  unfold State.flagForming
  split
  · exact hs
  · split
    · exact h.changePanel hs _ fun _ => ⟨rfl, rfl⟩
    · exact hs

theorem RecordInvariant.assignJoint (h : RecordInvariant P) (hs : P s) (n : Nat) (j : Coord) : P (s.assignJoint n j) := by
  unfold State.assignJoint
  split
  · exact hs
  · rename_i l hl
    split
    · exact hs
    · obtain ⟨hfollows, hstate⟩ := l.follows_addJoint j (s.lotFlatLen l)
      exact h.flagForming (h.lot hs hl hfollows hstate) n j

theorem RecordInvariant.settlePendingJoint (h : RecordInvariant P) (hs : P s) : P s.settlePendingJoint := by
  unfold State.settlePendingJoint
  split
  · exact hs
  · have htaken : P { s with ltr := { s.ltr with pendingJoint := none } } := h.shares hs (by simp)
    dsimp only
    split
    · split
      · exact h.assignJoint htaken _ _
      · exact htaken
    · exact htaken

theorem RecordInvariant.openWaste (h : RecordInvariant P) (hs : P s) (c : Coord) : P (s.openWaste c) :=
  h.noLotSegment hs fun _ he => by cases he

theorem RecordInvariant.placeLot (h : RecordInvariant P) (hs : P s) {l : Lot} (hl : s.lot? l.number = some l) (hqueued : l.state = .queued)
    (c : Coord) : P (s.placeLot l c) := by
  have hplaced : P ((s.putLot (s.placedLot l c)).setSegment (.lot l.number)) := h.placed hs hl hqueued ⟨rfl, rfl, rfl⟩ rfl
  exact h.shares hplaced (by simp [State.placeLot, State.placedLot, State.putLot, State.placeInOrder, State.setSegment])

theorem RecordInvariant.decideNext (h : RecordInvariant P) (hs : P s) (c : Coord) : P (s.decideNext c) := by
  unfold State.decideNext
  split
  · exact h.openWaste hs c
  · split
    · rename_i l hl
      obtain ⟨hfound, hqueued, -⟩ := mayEnter_of_firstEligible hl
      exact h.placeLot hs hfound hqueued c
    · exact h.shares (h.openWaste hs c) (by simp)

theorem RecordInvariant.entryDecision (h : RecordInvariant P) (hs : P s) (c : Coord) : P (s.entryDecision c) :=
  h.settlePendingJoint (h.decideNext hs c)

/-- The entry decision does not look at the segment that ends (R85, R86). -/
theorem setSegment_decideNext (s : State) (v : Segment) (c : Coord) : (s.setSegment v).decideNext c = s.decideNext c := rfl

theorem testCompletion_setSegment (s : State) (v : Segment) (n : Nat) :
    (s.setSegment v).testCompletion n = (s.testCompletion n).setSegment v := by
  have hlot : (s.setSegment v).lot? n = s.lot? n := rfl
  have hpanels : (s.setSegment v).hasPanelsOf n = s.hasPanelsOf n := rfl
  unfold State.testCompletion
  rw [hlot, hpanels]
  split
  · rfl
  · split <;> rfl

/-- A FEEDING lot finished and the next segment opened at its end, in one move (R84). -/
theorem RecordInvariant.lotEnded (h : RecordInvariant P) (hs : P s) {n : Nat} {l : Lot} (hl : s.lot? n = some l)
    (hfeeding : l.state = .feeding ∨ s.ltr.segment = .lot n) (c : Coord) : P ((s.makeFed n).entryDecision c) := by
  have hfed : P ((s.putLot { l with state := .fed }).setSegment .none) := h.fed hs hl hfeeding ⟨rfl, rfl, rfl⟩ rfl
  have hnext := h.entryDecision (h.testCompletion hfed n) c
  rwa [testCompletion_setSegment, State.entryDecision, setSegment_decideNext, ← makeFed_eq hl] at hnext

theorem RecordInvariant.segmentEnd (h : RecordInvariant P) (hs : P s) : P s.segmentEnd := by
  unfold State.segmentEnd
  split
  · rename_i n _ t hsegment hextent
    unfold State.segmentExtent at hextent
    rw [hsegment] at hextent
    dsimp only at hextent
    split at hextent
    · rename_i l hl
      exact h.lotEnded hs hl (Or.inr hsegment) t
    · cases hextent
  · exact h.entryDecision hs _
  · exact hs

theorem RecordInvariant.segmentArrival (h : RecordInvariant P) (hs : P s) : P s.segmentArrival := by
  unfold State.segmentArrival
  split
  · exact h.segmentEnd hs
  · exact hs

theorem RecordInvariant.handJoint (h : RecordInvariant P) (hs : P s) (j : Coord) : P (s.handJoint j) := by
  unfold State.handJoint
  split
  · exact hs
  · split
    · split
      · exact h.assignJoint hs _ j
      · exact hs
    · split
      · split
        · exact h.shares hs (by simp)
        · exact hs
      · exact hs

/-- The lot that the current segment names, on record. -/
theorem feedingLot?_eq_some {s : State} {l : Lot} (h : s.feedingLot? = some l) :
    s.ltr.segment = .lot l.number ∧ s.lot? l.number = some l := by
  unfold State.feedingLot? at h
  split at h
  · rename_i n hsegment
    rw [lot?_number h]
    exact ⟨hsegment, h⟩
  · cases h

/-- Waste opened in place of the segment that ends (R92). -/
theorem RecordInvariant.openWasteFrom (h : RecordInvariant P) (hs : P (s.setSegment .none)) (c : Coord) : P (s.openWasteFrom c) := by
  have hopen : ∀ b e, P (s.setSegment (.waste b e)) := fun b e => h.noLotSegment (s := s.setSegment .none) hs fun _ he => by cases he
  unfold State.openWasteFrom
  dsimp only
  split <;> exact hopen _ _

theorem RecordInvariant.endLotByThreading (h : RecordInvariant P) (hs : P s) {l : Lot} (hl : s.feedingLot? = some l) :
    P (s.endLotByThreading l) := by
  obtain ⟨hsegment, hfound⟩ := feedingLot?_eq_some hl
  unfold State.endLotByThreading
  split
  · exact hs
  · refine h.testCompletion (h.settlePendingJoint (h.openWasteFrom ?_ _)) l.number
    exact h.fed hs hfound (Or.inr hsegment) ⟨rfl, rfl, rfl⟩ rfl

theorem RecordInvariant.threadUnderLot (h : RecordInvariant P) (hs : P s) : P s.threadUnderLot := by
  unfold State.threadUnderLot
  split
  · rename_i hl _
    split
    · exact h.assignJoint hs _ _
    · exact h.endLotByThreading hs hl
  · exact hs

theorem RecordInvariant.tailMoved (h : RecordInvariant P) (hs : P s) {n : Nat} {l : Lot} (hl : s.lot? n = some l)
    (hfeeding : l.state = .feeding) : P (s.tailMoved n) := by
  unfold State.tailMoved
  rw [hl]
  dsimp only
  split
  · exact hs
  · split
    · exact h.lotEnded hs hl (Or.inl hfeeding) _
    · exact hs

end Sys2Proof.Machine
end


section
/-! SUPPORT. The acts of the units as moves of the records, continued (O9, O10): the rolls, the splice, the governor and the inputs. -/

namespace Sys2Proof.Machine

variable {P : State → Prop} {s : State}

/-! ### The ACTIVE roll and threading (R56–R58, R61) -/

/-- A roll on a station that takes another state than NEW. -/
theorem Roll.follows_of_bound {s : State} {x : Station} {r r' : Roll} (h : s.boundRoll? x = some r) (htag : r'.tag = r.tag)
    (hcls : r'.cls = r.cls) (hstate : r'.state ≠ .new) : r.Follows r' :=
  ⟨htag, hcls, Or.inr ⟨hstate, Or.inr (by rw [boundRoll?_station h]; exact Option.some_ne_none x)⟩⟩

/-- A roll that was not NEW, in a state that is not NEW. -/
theorem Roll.follows_of_committed {r r' : Roll} (hwas : r.state ≠ .new) (htag : r'.tag = r.tag) (hcls : r'.cls = r.cls)
    (hstate : r'.state ≠ .new) : r.Follows r' :=
  ⟨htag, hcls, Or.inr ⟨hstate, Or.inl hwas⟩⟩

theorem activeRoll?_mem {s : State} {r : Roll} (h : s.activeRoll? = some r) : r ∈ s.rst.rolls := by
  obtain ⟨x, -, hx⟩ := Option.bind_eq_some_iff.mp h
  exact boundRoll?_mem hx

theorem RecordInvariant.judgeExpiring (h : RecordInvariant P) (hs : P s) : P s.judgeExpiring := by
  unfold State.judgeExpiring
  split
  · exact hs
  · split
    · exact hs
    · rename_i r hr
      split
      · exact h.shares (h.roll hs (boundRoll?_mem hr) (r' := { r with expiring := true }) (Roll.follows_of_eq rfl rfl rfl rfl)) (by simp)
      · exact hs

theorem RecordInvariant.retarget (h : RecordInvariant P) (hs : P s) : P s.retarget := h.shares hs (by simp)

theorem RecordInvariant.thread (h : RecordInvariant P) (hs : P s) (x : Station) : P (s.thread x) := by
  have hfeeding : P (s.setStation x .feeding) := h.shares hs (by simp)
  have hthreaded : P (match (s.setStation x .feeding).boundRoll? x with
      | none => s.setStation x .feeding
      | some r => (s.setStation x .feeding).putRoll { r with state := .active, remaining := r.initLen.getD 0 }) := by
    split
    · exact hfeeding
    · rename_i r hr
      exact h.roll hfeeding (boundRoll?_mem hr) (Roll.follows_of_bound hr rfl rfl (by simp))
  unfold State.thread
  exact h.retarget (h.threadUnderLot (h.judgeExpiring (h.shares hthreaded (SharesRecords.refl _))))

theorem RecordInvariant.threadTest (h : RecordInvariant P) (hs : P s) : P s.threadTest := by
  unfold State.threadTest
  split
  · exact hs
  · split
    · exact h.thread hs _
    · exact hs

theorem RecordInvariant.attemptAutoSplice (h : RecordInvariant P) (hs : P s) : P s.attemptAutoSplice := by
  unfold State.attemptAutoSplice
  split
  · rename_i x r _ hr
    have hasked : P { s with rst := { s.rst with line := { s.rst.line with requested := some x.other } } } :=
      h.shares hs (SharesRecords.refl _)
    have hspent := h.roll hasked (activeRoll?_mem hr) (r' := { r with attemptSpent := true }) (Roll.follows_of_eq rfl rfl rfl rfl)
    dsimp only
    split <;> exact h.shares hspent (by simp)
  · exact hs

theorem RecordInvariant.autoSpliceTest (h : RecordInvariant P) (hs : P s) : P s.autoSpliceTest := by
  unfold State.autoSpliceTest
  split
  · exact h.attemptAutoSplice hs
  · exact hs

theorem RecordInvariant.afterSplice (h : RecordInvariant P) (hs : P s) : P s.afterSplice :=
  h.autoSpliceTest (s := s.haltIfPending) (h.shares hs (by simp))

theorem RecordInvariant.failSplice (h : RecordInvariant P) (hs : P s) (o : SpliceOutcome) : P (s.failSplice o) :=
  h.afterSplice (h.shares hs (by simp))

/-! ### The governor's entries (R154, R159–R161) -/

theorem RecordInvariant.enterTripped (h : RecordInvariant P) (hs : P s) : P s.enterTripped := by
  have habandoned : P (({ s with sgv := { s.sgv with gov := .tripped, intent := false, stopPending := false } }).abandonSplice .abandoned) :=
    h.shares hs (by simp)
  unfold State.enterTripped
  dsimp only
  exact h.shares (h.exitTrip (h.bladeTrip habandoned)) (by simp)

theorem RecordInvariant.raiseTrip (h : RecordInvariant P) (hs : P s) (c : TripCause) : P (s.raiseTrip c) := by
  have hraised : P ((s.raiseAlert c.alert).addTrip c) := h.shares hs (by simp)
  unfold State.raiseTrip
  dsimp only
  split
  · exact hraised
  · exact h.enterTripped hraised

theorem RecordInvariant.enterStopped (h : RecordInvariant P) (hs : P s) : P s.enterStopped :=
  h.threadTest (h.shares hs (by simp))

theorem RecordInvariant.assertEStop (h : RecordInvariant P) (hs : P s) : P s.assertEStop := by
  have htripped : P (s.raiseTrip .eStop) := h.raiseTrip hs .eStop
  unfold State.assertEStop
  split
  · split
    · exact h.shares (h.raiseTrip (s := s.heatEStop) (h.shares hs (by simp)) .eStop) (by simp)
    · exact h.shares htripped (by simp)
  · exact h.shares htripped (by simp)

theorem RecordInvariant.testStep (h : RecordInvariant P) (hs : P s) : P s.testStep := by
  unfold State.testStep
  split
  · exact h.enterStopped hs
  · exact hs

theorem RecordInvariant.standStill (h : RecordInvariant P) (hs : P s) : P s.standStill := by
  have hstill : P { s with sgv := { s.sgv with standstill := true, standWindow := none } } := h.shares hs (SharesRecords.refl _)
  unfold State.standStill
  dsimp only
  split
  · exact h.enterStopped hstill
  · exact h.testStep hstill

theorem RecordInvariant.enterRun (h : RecordInvariant P) (hs : P s) : P s.enterRun :=
  h.autoSpliceTest (h.shares hs (SharesRecords.refl _))

/-! ### The joint and the end of a splice (R65–R67) -/

theorem RecordInvariant.spendOutgoing (h : RecordInvariant P) (hs : P s) : P s.spendOutgoing := by
  unfold State.spendOutgoing
  split
  · exact hs
  · rename_i x _
    have hjoined : P (s.setStation x .joined) := h.shares hs (by simp)
    dsimp only
    split
    · exact hjoined
    · rename_i r hr
      refine h.roll hjoined ?_ (Roll.follows_of_bound hr rfl rfl (by simp))
      simpa using boundRoll?_mem hr

theorem RecordInvariant.feedIncoming (h : RecordInvariant P) (hs : P s) : P s.feedIncoming := by
  unfold State.feedIncoming
  split
  · exact hs
  · rename_i x _
    have hfeeding : P (s.setStation x .feeding) := h.shares hs (by simp)
    dsimp only
    split
    · exact hfeeding
    · rename_i r hr
      refine h.roll hfeeding ?_ (Roll.follows_of_bound hr rfl rfl (by simp))
      simpa using boundRoll?_mem hr

theorem RecordInvariant.makeJoint (h : RecordInvariant P) (hs : P s) : P s.makeJoint := by
  have hfed : P (s.spendOutgoing.feedIncoming.setClassChange false) := h.shares (h.feedIncoming (h.spendOutgoing hs)) (by simp)
  have hjudged : P ((s.spendOutgoing.feedIncoming.setClassChange false).handJoint s.fsu.w).judgeExpiring :=
    h.judgeExpiring (h.handJoint hfed s.fsu.w)
  exact h.shares (t := s.makeJoint) hjudged (by simp [State.makeJoint])

theorem RecordInvariant.completeSplice (h : RecordInvariant P) (hs : P s) : P s.completeSplice := h.afterSplice (h.shares hs (by simp))

theorem RecordInvariant.retractTimeout (h : RecordInvariant P) (hs : P s) : P s.retractTimeout := h.afterSplice (h.shares hs (by simp))

/-! ### A feed count (R57, R84, R98) -/

theorem Roll.follows_charge (r : Roll) (d : Travel) : r.Follows (r.charge d) := by
  cases d <;> exact Roll.follows_of_eq rfl rfl rfl rfl

theorem RecordInvariant.chargeRoll (h : RecordInvariant P) (hs : P s) (d : Travel) : P (s.chargeRoll d) := by
  unfold State.chargeRoll
  split
  · exact hs
  · rename_i r hr
    exact h.roll hs (activeRoll?_mem hr) (r.follows_charge d)

theorem RecordInvariant.fsuCount (h : RecordInvariant P) (hs : P s) (d : Travel) : P (s.fsuCount d) :=
  fsuCount_relates (R := fun s t => P s → P t) (fun h h' hs => h' (h hs)) (fun _ hs => hs) (fun _ hs => h.shares hs (by simp))
    (fun _ hs => h.chargeRoll hs d) (fun _ hs => h.judgeExpiring hs) (fun _ _ hs => h.shares hs (by simp))
    (fun _ hs => h.autoSpliceTest hs) hs

theorem RecordInvariant.feedUnits (h : RecordInvariant P) (hs : P s) (d : Travel) : P (s.feedUnits d) :=
  feedUnits_relates (R := fun s t => P s → P t) (fun h h' hs => h' (h hs)) (fun _ hs => h.shares hs (by simp))
    (fun _ d hs => h.fsuCount hs d) (fun _ hs => h.segmentArrival hs) s d hs

/-! ### The inputs (R53, R54, R58, R65–R71, R107) -/

theorem RecordInvariant.bindRoll (h : RecordInvariant P) (hs : P s) (x : Station) {r : Roll} (hr : r ∈ s.rst.rolls)
    (hdeclared : r.state = .declared) : P (s.bindRoll x r) :=
  h.roll hs hr (Roll.follows_of_committed (by simp [hdeclared]) rfl rfl (by simp))

theorem RecordInvariant.seatedRise (h : RecordInvariant P) (hs : P s) (x : Station) : P (s.seatedRise x) := by
  have hseated : P (s.setStation x .seated) := h.shares hs (by simp)
  unfold State.seatedRise
  dsimp only
  split
  · rename_i r hr
    have hstate := List.find?_some hr
    simp only [Bool.and_eq_true, beq_iff_eq] at hstate
    exact h.bindRoll hseated x (List.mem_of_find?_eq_some hr) hstate.1
  · exact h.shares hseated (by simp)

theorem RecordInvariant.returnRoll (h : RecordInvariant P) (hs : P s) {r : Roll} (hr : r ∈ s.rst.rolls) (hstate : r.state ≠ .new) :
    P (s.returnRoll r) :=
  h.roll hs hr (Roll.follows_of_committed hstate rfl rfl (by simp))

theorem RecordInvariant.unbindRoll (h : RecordInvariant P) (hs : P s) {r : Roll} (hr : r ∈ s.rst.rolls) : P (s.unbindRoll r) := by
  unfold State.unbindRoll
  split
  · rename_i hstate
    exact h.returnRoll hs hr (by simp [hstate])
  · rename_i hstate
    exact h.returnRoll hs hr (by simp [hstate])
  · rename_i hstate
    exact h.roll hs hr (Roll.follows_of_committed (by simp [hstate]) rfl rfl (by simp))
  · rename_i hstate
    exact h.roll hs hr (Roll.follows_of_committed (by simp [hstate]) rfl rfl (by simp [hstate]))
  · exact hs
  · exact hs

theorem RecordInvariant.emptyStation (h : RecordInvariant P) (hs : P s) (x : Station) : P (s.emptyStation x) := by
  have hempty : P (s.setStation x .empty) := h.shares hs (by simp)
  unfold State.emptyStation
  dsimp only
  split
  · exact hempty
  · rename_i r hr
    exact h.unbindRoll hempty (by simpa using boundRoll?_mem hr)

theorem RecordInvariant.seatedFall (h : RecordInvariant P) (hs : P s) (x : Station) : P (s.seatedFall x) := by
  have habandoned : P ((s.abandonSplice .abandoned).emptyStation x) :=
    h.emptyStation (s := s.abandonSplice .abandoned) (h.shares hs (by simp)) x
  unfold State.seatedFall
  split
  case h_1 | h_2 => exact h.afterSplice habandoned
  case h_3 => exact h.retarget (h.raiseTrip (h.emptyStation hs x) .rollUnseated)
  all_goals exact h.emptyStation hs x

/-- Expiring judged, and the auto-splice test where it has just been set (R58, R61). -/
theorem RecordInvariant.judgeThenTest (h : RecordInvariant P) (hs : P s) (c : Bool) :
    P (if c then s.judgeExpiring.autoSpliceTest else s.judgeExpiring) := by
  split
  · exact h.autoSpliceTest (h.judgeExpiring hs)
  · exact h.judgeExpiring hs

theorem RecordInvariant.coreNearRise (h : RecordInvariant P) (hs : P s) (x : Station) : P (s.coreNearRise x) := by
  unfold State.coreNearRise
  split
  · exact h.judgeThenTest hs _
  · exact hs

theorem RecordInvariant.headFault (h : RecordInvariant P) (hs : P s) : P s.headFault := by
  have hraised : P (s.raiseStop .spliceSensor) := h.shares hs (by simp)
  unfold State.headFault
  dsimp only
  split
  · exact h.afterSplice (s := (s.raiseStop .spliceSensor).abandonSplice .abandoned) (h.shares hraised (by simp))
  · exact hraised

theorem RecordInvariant.extendedRise (h : RecordInvariant P) (hs : P s) : P s.extendedRise := by
  unfold State.extendedRise
  split
  · exact h.headFault hs
  · split
    · exact h.makeJoint hs
    · exact hs

theorem RecordInvariant.retractedRise (h : RecordInvariant P) (hs : P s) : P s.retractedRise := by
  have hjudged : P (if s.headConflict then s.headFault else s) := by
    split
    · exact h.headFault hs
    · exact hs
  unfold State.retractedRise
  dsimp only
  generalize (if s.headConflict then s.headFault else s) = u at hjudged ⊢
  split
  · exact h.completeSplice hjudged
  · exact hjudged

theorem RecordInvariant.homeRise (h : RecordInvariant P) (hs : P s) : P s.homeRise := by
  have hidle : P (s.bladesTo .idle).testStep := h.testStep (h.shares hs (by simp))
  unfold State.homeRise
  split
  case h_1 | h_2 => exact hidle
  all_goals exact hs

theorem RecordInvariant.inputRise (h : RecordInvariant P) (hs : P s) (i : Input) : P (s.inputRise i) := by
  cases i with
  | staSeated => exact h.seatedRise hs .a
  | stbSeated => exact h.seatedRise hs .b
  | staCoreNear => exact h.coreNearRise hs .a
  | stbCoreNear => exact h.coreNearRise hs .b
  | extended => exact h.extendedRise hs
  | retracted => exact h.retractedRise hs
  | knifeDone => exact h.shares (t := s.knifeDoneRise) hs (by simp)
  | home => exact h.homeRise hs
  | cutHome => exact h.shares (t := s.cutHomeRise) hs (by simp)
  | eStop => exact h.assertEStop hs
  | key => exact hs

theorem RecordInvariant.inputFall (h : RecordInvariant P) (hs : P s) (i : Input) : P (s.inputFall i) := by
  cases i with
  | staSeated => exact h.seatedFall hs .a
  | stbSeated => exact h.seatedFall hs .b
  | extended => exact h.shares (t := s.extendedFall) hs (by simp)
  | home => exact h.shares (t := s.homeFall) hs (by simp)
  | cutHome => exact h.shares (t := s.cutHomeFall) hs (by simp)
  | staCoreNear | stbCoreNear | retracted | knifeDone | eStop | key => exact hs

theorem RecordInvariant.firstLevel (h : RecordInvariant P) (hs : P s) (i : Input) (level : Bool) : P (s.firstLevel i level) := by
  cases i with
  | eStop =>
    unfold State.firstLevel
    dsimp only
    split
    · exact h.assertEStop hs
    · exact hs
  | staSeated | stbSeated | home | cutHome => exact h.shares hs (by simp [State.firstLevel])
  | staCoreNear | stbCoreNear | extended | retracted | knifeDone | key => exact hs

theorem RecordInvariant.openPorts (h : RecordInvariant P) (hs : P s) : P s.openPorts := h.shares hs (by simp)

theorem RecordInvariant.settleInput (h : RecordInvariant P) (hs : P s) (i : Input) : P (s.settleInput i) := by
  have hsettled : ∀ v : Pin, P (s.setPin i v) := fun v => h.shares hs (by simp)
  unfold State.settleInput
  dsimp only
  split
  · exact h.openPorts (h.firstLevel (hsettled _) i _)
  · split
    · exact hsettled _
    · split
      · exact h.inputRise (hsettled _) i
      · exact h.inputFall (hsettled _) i

end Sys2Proof.Machine
end


section
/-! SUPPORT. The record commands as moves of the records (O9, O10): CREATE, the ends of opens, RETIRE and the commits. -/

namespace Sys2Proof.Machine

variable {P : State → Prop} {s : State}

theorem RecordInvariant.setSlot (h : RecordInvariant P) (hs : P s) (p : Port) (v : Slot) : P (s.setSlot p v) := h.shares hs (by simp)

theorem RecordInvariant.sweep (h : RecordInvariant P) (hs : P s) : P s.sweep := h.shares hs (by simp)

theorem RecordInvariant.endAct (h : RecordInvariant P) (hs : P s) : P s.endAct := h.shares hs (by simp)

/-! ### CREATE (R18, R36, R48, R79) -/

theorem RecordInvariant.createPattern (h : RecordInvariant P) (hs : P s) (p : Port) {n : Nat} (hn : n ≠ 0) :
    P (s.createPattern p n).1 := by
  unfold State.createPattern
  split
  · exact hs
  · rename_i hle
    split
    · exact hs
    · rename_i hfree
      exact h.setSlot (h.newPattern hs (by simpa using hfree) (Nat.pos_of_ne_zero hn) (Nat.le_of_not_lt hle)) p _

theorem RecordInvariant.createClass (h : RecordInvariant P) (hs : P s) (p : Port) {n : Nat} (hn : n ≠ 0) :
    P (s.createClass p n).1 := by
  unfold State.createClass
  split
  · exact hs
  · rename_i hle
    split
    · exact hs
    · rename_i hfree
      exact h.setSlot (h.newClass hs (by simpa using hfree) (Nat.pos_of_ne_zero hn) (Nat.le_of_not_lt hle)) p _

theorem RecordInvariant.createRoll (h : RecordInvariant P) (hs : P s) (p : Port) (n : Nat) (st : RollStage) (inRange : Bool) :
    P (s.createRoll p n st inRange).1 := by
  unfold State.createRoll
  split
  · exact hs
  · rename_i hfree
    split
    · exact hs
    · rename_i hroom
      split
      · exact hs
      · exact h.setSlot (h.newRoll hs (by simpa using hfree) (Nat.lt_of_not_le hroom)) p _

theorem RecordInvariant.createLot (h : RecordInvariant P) (hs : P s) (p : Port) (n : Nat) : P (s.createLot p n).1 := by
  unfold State.createLot
  split
  · exact hs
  · split
    · exact hs
    · rename_i hfree
      split
      · exact hs
      · rename_i hroom
        have hnew : P (s.putLot (Lot.created n)) := h.newLot hs (by simpa using hfree) (Nat.lt_of_not_le hroom)
        exact h.shares hnew (by simp [State.openCreated])

/-- No record has the key 0. -/
theorem createdUnlessZero (hs : P s) {n : Nat} {a : State × Reply} (h : n ≠ 0 → P a.1) :
    P (if n = 0 then refuse s .outOfRange else a).1 := by
  split
  · exact hs
  · rename_i hn
    exact h hn

theorem RecordInvariant.createIn (h : RecordInvariant P) (hs : P s) (p : Port) (t : Table) (n : Nat) (st : RollStage) (inRange : Bool) :
    P (s.createIn p t n st inRange).1 := by
  cases t with
  | line | panel => exact hs
  | pattern => exact createdUnlessZero hs fun hn => h.createPattern hs p hn
  | cls => exact createdUnlessZero hs fun hn => h.createClass hs p hn
  | roll => exact createdUnlessZero hs fun _ => h.createRoll hs p n st inRange
  | lot => exact createdUnlessZero hs fun _ => h.createLot hs p n

theorem RecordInvariant.freshSlot (h : RecordInvariant P) (hs : P s) {t : State} {p : Port} (ht : s.freshSlot p = some t) : P t := by
  unfold State.freshSlot at ht
  split at ht <;> cases ht
  · exact hs
  · exact h.setSlot hs p .empty

/-! ### The ends of opens, and RETIRE (R29, R42, R51, R90, R184, R192) -/

theorem RecordInvariant.endOpen (h : RecordInvariant P) (hs : P s) (p : Port) : P (s.endOpen p) := by
  have hclosed : P (s.setSlot p .empty) := h.setSlot hs p .empty
  unfold State.endOpen
  dsimp only
  split
  · split
    · rename_i hnew
      exact h.sweep (h.neverCommitted hclosed hnew)
    · exact hclosed
  all_goals exact hclosed

theorem RecordInvariant.retirePattern (h : RecordInvariant P) (hs : P s) (n : Nat) : P (s.retirePattern n).1 := by
  unfold State.retirePattern
  split
  · exact hs
  · split
    · exact hs
    · rename_i q hq
      split
      · exact hs
      · exact hs
      · rename_i hready
        split
        · rename_i hcount
          exact h.freedPattern hs hq hcount
        · exact h.retiring hs hq hready

theorem RecordInvariant.retireClass (h : RecordInvariant P) (hs : P s) (n : Nat) : P (s.retireClass n).1 := by
  unfold State.retireClass
  split
  · exact hs
  · split
    · exact hs
    · rename_i c hc
      split
      · exact hs
      · split
        · exact hs
        · rename_i hfree
          have hcount : c.refCount = 0 := Decidable.not_not.mp (not_or.mp hfree).1
          exact h.shares (h.freedClass hs hc hcount) (by simp [done])

theorem RecordInvariant.retireRoll (h : RecordInvariant P) (hs : P s) (n : Nat) : P (s.retireRoll n).1 := by
  unfold State.retireRoll
  split
  · exact hs
  · split
    case h_2 => exact h.freedRoll n hs
    case h_3 =>
      split
      · exact h.freedRoll n hs
      · exact hs
    all_goals exact hs

theorem Lot.follows_cutTo (l : Lot) (kept len : Nat) : l.Follows (l.cutTo kept len) := ⟨rfl, rfl, rfl⟩

theorem RecordInvariant.cancelLot (h : RecordInvariant P) (hs : P s) {n : Nat} {l : Lot} (hl : s.lot? n = some l) : P (s.cancelLot l) := by
  unfold State.cancelLot
  split
  · exact hs
  · exact h.lot hs hl (l.follows_cutTo _ _) rfl

theorem RecordInvariant.retireLot (h : RecordInvariant P) (hs : P s) (n : Nat) : P (s.retireLot n).1 := by
  unfold State.retireLot
  split
  · exact hs
  · rename_i l hl
    split
    · exact hs
    · rename_i hstate
      exact h.freedLot hs hl (Or.inl hstate)
    · exact h.endAct (h.cancelLot hs hl)
    · exact hs
    · rename_i hstate
      exact h.freedLot hs hl (Or.inr hstate)

theorem RecordInvariant.retireIn (h : RecordInvariant P) (hs : P s) (t : Table) (n : Nat) : P (s.retireIn t n).1 := by
  unfold State.retireIn
  split
  · exact hs
  · split
    · exact hs
    · split
      · exact hs
      · cases t with
        | pattern => exact h.retirePattern hs n
        | cls => exact h.retireClass hs n
        | roll => exact h.retireRoll hs n
        | lot => exact h.retireLot hs n
        | panel | line => exact hs

/-! ### Commits (R20, R37, R49, R80, R137, R174) -/

theorem RecordInvariant.commitPattern (h : RecordInvariant P) (hs : P s) {n : Nat} {st : PatternStage} {t : State}
    (ht : s.commitPattern n st = .ok t) : P t := by
  unfold State.commitPattern at ht
  split at ht
  · cases ht
  · rename_i q hq
    split at ht
    · cases ht
    · rename_i hrefusal
      cases ht
      exact h.committedPattern hs hq hrefusal

theorem RecordInvariant.commitClass (h : RecordInvariant P) (hs : P s) {n : Nat} {st : ClassStage} {t : State}
    (ht : s.commitClass n st = .ok t) : P t := by
  unfold State.commitClass at ht
  split at ht
  · cases ht
  · rename_i c hc
    split at ht
    · cases ht
    · cases ht
      exact h.shares (h.committedClass st hs hc) (by simp [foldl_handSetpoint_frame])

theorem roll?_settleCounts (s : State) (n : Nat) : s.settleCounts.roll? n = s.roll? n := roll?_congr (by simp) n

theorem RecordInvariant.prepareRoll (h : RecordInvariant P) (hs : P s) {r : Roll} (hr : r ∈ s.rst.rolls) (hstate : r.state ≠ .new)
    (x : Station) : P (s.prepareRoll r x) := by
  have hprepared : P ((s.putRoll { r with state := .prepared }).setStation x .prepared) :=
    h.shares (h.roll hs hr (Roll.follows_of_committed (r' := { r with state := .prepared }) hstate rfl rfl (by simp))) (by simp)
  unfold State.prepareRoll
  dsimp only
  refine h.autoSpliceTest ?_
  split
  · exact h.threadTest hprepared
  · exact hprepared

theorem RecordInvariant.unprepareRoll (h : RecordInvariant P) (hs : P s) {r : Roll} (hr : r ∈ s.rst.rolls) (hstate : r.state ≠ .new)
    (x : Station) : P (s.unprepareRoll r x) := by
  have hfollows : r.Follows { r with state := .mounted } := Roll.follows_of_committed hstate rfl rfl (by simp)
  unfold State.unprepareRoll
  split
  · have habandoned : P (s.abandonSplice .abandoned) := h.shares hs (by simp)
    exact h.afterSplice (h.shares (h.roll habandoned (by simpa using hr) hfollows) (by simp))
  · exact h.shares (h.roll hs hr hfollows) (by simp)

theorem RecordInvariant.leaderCommitted (h : RecordInvariant P) (hs : P s) {r : Roll} (hr : r ∈ s.rst.rolls) (v : Option Bool) :
    P (s.leaderCommitted r v) := by
  unfold State.leaderCommitted
  split
  · rename_i hstate _
    exact h.prepareRoll hs hr (by simp [hstate]) _
  · rename_i hstate _
    exact h.unprepareRoll hs hr (by simp [hstate]) _
  · exact hs

/-- A DECLARED roll has no leader to take effect (R50). -/
theorem leaderCommitted_of_declared {r : Roll} (h : r.state = .declared) (s : State) (v : Option Bool) : s.leaderCommitted r v = s := by
  unfold State.leaderCommitted
  split
  · rename_i hstate _
    rw [h] at hstate
    cases hstate
  · rename_i hstate _
    rw [h] at hstate
    cases hstate
  · rfl

theorem bindCommitted_of_not_declared {r : Roll} (h : r.state ≠ .declared) (s : State) : s.bindCommitted r = s := by
  unfold State.bindCommitted
  split
  · rename_i hstate _
    exact absurd hstate h
  · rfl

theorem RecordInvariant.bindCommitted (h : RecordInvariant P) (hs : P s) {r : Roll} (hr : r ∈ s.rst.rolls) : P (s.bindCommitted r) := by
  unfold State.bindCommitted
  split
  · rename_i hstate _
    split
    · exact h.bindRoll hs _ hr hstate
    · exact hs
  · exact hs

theorem RecordInvariant.commitRoll (h : RecordInvariant P) (hs : P s) {n : Nat} {st : RollStage} {t : State}
    (ht : s.commitRoll n st = .ok t) : P t := by
  unfold State.commitRoll at ht
  split at ht
  · cases ht
  · rename_i r hr
    split at ht
    · cases ht
    · rename_i hrefusal
      cases ht
      have hwritten : P (s.putRoll (r.written st)).settleCounts := h.committedRoll hs hr hrefusal
      have hmem : r.written st ∈ (s.putRoll (r.written st)).settleCounts.rst.rolls := by
        refine roll?_mem (n := (r.written st).tag) ?_
        rw [roll?_settleCounts, roll?_putRoll_self]
      by_cases hdeclared : (r.written st).state = .declared
      · rw [leaderCommitted_of_declared hdeclared]
        exact h.bindCommitted hwritten hmem
      · rw [bindCommitted_of_not_declared hdeclared]
        exact h.leaderCommitted hwritten hmem _

theorem RecordInvariant.orderedCommitted (h : RecordInvariant P) (hs : P s) {n : Nat} {l : Lot} (hl : s.lot? n = some l) (st : LotStage) :
    P (s.orderedCommitted l st) := by
  unfold State.orderedCommitted
  split
  · rename_i hfeeding
    have hput : (s.putLot (l.retail (s.lotFlatLen l))).lot? l.number = some (l.retail (s.lotFlatLen l)) :=
      lot?_putLot_self s (l.retail (s.lotFlatLen l))
    exact h.tailMoved (h.lot hs hl (l' := l.retail (s.lotFlatLen l)) ⟨rfl, rfl, rfl⟩ rfl) hput hfeeding.1
  · exact hs

theorem RecordInvariant.commitLot (h : RecordInvariant P) (hs : P s) {n : Nat} {st : LotStage} {t : State}
    (ht : s.commitLot n st = .ok t) : P t := by
  unfold State.commitLot at ht
  split at ht
  · cases ht
  · rename_i l hl
    split at ht
    · cases ht
    · rename_i hrefusal
      cases ht
      have hwritten : P ((s.putLot (l.written st)).placeCommitted n st).settleCounts :=
        h.shares (h.committedLot hs hl hrefusal) (settleCounts_sharesRecords (by simp))
      have hlot : ((s.putLot (l.written st)).placeCommitted n st).settleCounts.lot? (l.written st).number = some (l.written st) := by
        rw [lot?_congr (s := s.putLot (l.written st)) (by simp), lot?_putLot_self]
      exact h.orderedCommitted hwritten hlot st

theorem RecordInvariant.when {f : State → State} (hf : ∀ {u : State}, P u → P (f u)) (hs : P s) (c : Bool) : P (s.when c f) := by
  unfold State.when
  split
  · exact hf hs
  · exact hs

theorem RecordInvariant.heatCommitted (h : RecordInvariant P) (hs : P s) (v : Option Bool) : P (s.heatCommitted v) := h.shares hs (by simp)

theorem RecordInvariant.configuredCommitted (h : RecordInvariant P) (hs : P s) : P s.configuredCommitted := by
  unfold State.configuredCommitted
  split
  · exact h.autoSpliceTest (h.judgeExpiring hs)
  · exact h.judgeExpiring hs

theorem RecordInvariant.lineCommitted (h : RecordInvariant P) (hs : P s) (old : LineRecord) (st : LineStage) :
    P (s.lineCommitted old st) := by
  unfold State.lineCommitted
  have htension := RecordInvariant.when (P := P) (f := State.clearTension) (fun hu => h.shares hu (by simp)) hs
    (old.setSpeed != s.rst.line.setSpeed)
  have hconfigured := RecordInvariant.when (P := P) (f := State.configuredCommitted) h.configuredCommitted htension
    (!old.configured && s.rst.line.configured)
  have hstandby := RecordInvariant.when (P := P) (f := State.standbyCommitted) (fun hu => h.shares hu (by simp)) hconfigured
    (old.standby != s.rst.line.standby)
  have hheat := h.heatCommitted hstandby st.heat
  have hthread := RecordInvariant.when (P := P) (f := State.threadTest) h.threadTest hheat (old.requested != s.rst.line.requested)
  exact RecordInvariant.when (P := P) (f := State.autoSpliceTest) h.autoSpliceTest hthread (!old.autoSplice && s.rst.line.autoSplice)

theorem RecordInvariant.commit (h : RecordInvariant P) (hs : P s) {p : Port} {n : Nat} {st : Staging} {t : State}
    (ht : s.commit p n st = .ok t) : P t := by
  cases st with
  | pattern g => exact h.commitPattern hs ht
  | cls g => exact h.commitClass hs ht
  | roll g => exact h.commitRoll hs ht
  | lot g => exact h.commitLot hs ht
  | panel g =>
    simp only [State.commit, State.commitPanel] at ht
    split at ht <;> cases ht
    exact h.changePanel hs _ fun _ => ⟨rfl, rfl⟩
  | line g =>
    simp only [State.commit, State.commitLine] at ht
    split at ht <;> cases ht
    refine h.lineCommitted ?_ _ _
    exact h.shares hs (SharesRecords.refl s)

theorem RecordInvariant.closeSlot (h : RecordInvariant P) (hs : P s) {p : Port} {t : State} (ht : s.closeSlot p = .ok t) : P t := by
  unfold State.closeSlot at ht
  split at ht
  · split at ht
    · cases ht
      exact h.endOpen hs p
    · split at ht
      · cases ht
      · rename_i hcommit
        cases ht
        exact h.setSlot (h.commit hs hcommit) p .empty
  · cases ht
    exact h.endOpen hs p
  · cases ht
    exact hs
  · cases ht
    exact hs

theorem RecordInvariant.close (h : RecordInvariant P) (hs : P s) (p : Port) : P (s.close p).1 := by
  unfold State.close
  split
  · exact hs
  · exact h.setSlot hs p .empty
  · exact h.endOpen hs p
  · split
    · exact hs
    · rename_i hclosed
      exact h.endAct (h.closeSlot hs hclosed)

theorem RecordInvariant.openNext (h : RecordInvariant P) (hs : P s) (p : Port) (t : Table) (k : Option Nat) (write : Bool) :
    P (s.openNext p t k write).1 := h.shares hs (by simp)

theorem RecordInvariant.next (h : RecordInvariant P) (hs : P s) (p : Port) : P (s.next p).1 := by
  unfold State.next
  split
  · exact hs
  · exact h.setSlot hs p .empty
  · exact h.openNext (h.endOpen hs p) p _ _ _
  · split
    · exact hs
    · rename_i hclosed
      exact h.openNext (h.endAct (h.closeSlot hs hclosed)) p _ _ _

theorem RecordInvariant.discard (h : RecordInvariant P) (hs : P s) (p : Port) : P (s.discard p).1 := by
  unfold State.discard
  split
  · exact hs
  · exact h.setSlot hs p .empty
  · exact h.endOpen hs p
  · exact h.endOpen hs p

end Sys2Proof.Machine
end


section
/-! SUPPORT. Every command as moves of the records (O9, O10): the line commands, the requests, the units' commands, and one step. -/

namespace Sys2Proof.Machine

variable {P : State → Prop} {s : State}

/-! ### The line commands -/

theorem RecordInvariant.firstSegment (h : RecordInvariant P) (hs : P s) : P s.firstSegment := by
  unfold State.firstSegment
  split
  · exact h.panelStart (h.entryDecision hs _) _
  · exact hs

theorem RecordInvariant.takeFree (h : RecordInvariant P) (hs : P s) : P s.takeFree := h.shares hs (by simp)

theorem RecordInvariant.startUnits (h : RecordInvariant P) (hs : P s) : P s.startUnits := by
  have hfree : P s.takeFree := h.takeFree hs
  unfold State.startUnits
  split
  · split
    · exact h.firstSegment (h.autoSpliceTest hfree)
    · exact h.autoSpliceTest (h.firstSegment hfree)
  · exact h.firstSegment (h.autoSpliceTest hs)

theorem RecordInvariant.startLine (h : RecordInvariant P) (hs : P s) : P s.startLine := by
  have hready : P (State.closeWindow { s with sgv := { s.sgv with gov := .creep, intent := true } }).clearTension := h.shares hs (by simp)
  exact h.endAct (h.shares (h.startUnits hready) (by simp))

theorem RecordInvariant.tryStart (h : RecordInvariant P) (hs : P s) : P s.tryStart.1 := by
  unfold State.tryStart
  split
  · exact hs
  · split
    · split
      · exact hs
      · split
        · exact hs
        · exact h.startLine hs
    · split <;> exact hs

theorem RecordInvariant.resetTrip (h : RecordInvariant P) (hs : P s) : P s.resetTrip.1 := by
  unfold State.resetTrip
  split
  · exact hs
  · split
    · exact hs
    · split
      · exact hs
      · split
        · exact hs
        · exact h.endAct (h.enterStopped hs)

theorem RecordInvariant.beginStep (h : RecordInvariant P) (hs : P s) : P s.beginStep := by
  have hfirst : P s.firstStepPanel := by
    unfold State.firstStepPanel
    split
    · exact h.panelStart hs _
    · exact hs
  exact h.shares hfirst (by simp [State.beginStep])

theorem RecordInvariant.tryStep (h : RecordInvariant P) (hs : P s) : P s.tryStep.1 := by
  unfold State.tryStep
  split
  · exact hs
  · split
    · exact hs
    · split
      · exact hs
      · split
        · exact hs
        · split
          · exact hs
          · exact h.beginStep hs

theorem RecordInvariant.foldl_clearKind (h : RecordInvariant P) (kinds : List Alert) (hs : P s) : P (kinds.foldl State.clearKind s) := by
  induction kinds generalizing s with
  | nil => exact hs
  | cons a kinds ih => exact ih (h.shares hs (by simp))

/-- LINE_RESET leaves the segment with the lots: both as the reset of LTR and of the lots on the web say (R95, R175). -/
theorem RecordInvariant.resetLine (h : RecordInvariant P) (hs : P s) : P s.resetLine :=
  h.shares (h.lineReset hs) (by simp [State.resetLine, State.resetFeed])

theorem RecordInvariant.lineResetAnswer (h : RecordInvariant P) (hs : P s) : P s.lineReset.1 := by
  unfold State.lineReset
  split
  · exact h.resetLine hs
  · exact hs

/-! ### The requests -/

theorem RecordInvariant.bare (hs : P s) (ops : List Byte) {g : State × Reply} (hg : P g.1) : P (bare ops s g).1 := by
  unfold Machine.bare
  split
  · exact hg
  · exact hs

theorem RecordInvariant.motion (hs : P s) (p : Port) (ops : List Byte) {g : State × Reply} (hg : P g.1) : P (motion p ops s g).1 := by
  refine RecordInvariant.bare hs ops ?_
  split
  · exact hg
  · exact hs

theorem RecordInvariant.supervisorOnly (hs : P s) (p : Port) (ops : List Byte) {g : State × Reply} (hg : P g.1) :
    P (supervisorOnly p ops s g).1 := by
  refine RecordInvariant.bare hs ops ?_
  split
  · exact hs
  · exact hg

theorem RecordInvariant.answerCreate (h : RecordInvariant P) (hs : P s) (p : Port) (ops : List Byte) : P (answerCreate p ops s).1 := by
  unfold Machine.answerCreate
  split
  · exact hs
  · split
    · exact hs
    · split
      · exact hs
      · split
        · exact hs
        · split
          · exact hs
          · rename_i hfresh
            exact h.createIn (h.freshSlot hs hfresh) p _ _ _ _

theorem RecordInvariant.answerOpen (h : RecordInvariant P) (hs : P s) (p : Port) (ops : List Byte) : P (answerOpen p ops s).1 := by
  unfold Machine.answerOpen
  split
  · exact hs
  · split
    · exact hs
    · split
      · exact hs
      · split
        · exact hs
        · split
          · exact hs
          · rename_i hfresh
            exact h.shares (h.freshSlot hs hfresh) (by simp)

theorem RecordInvariant.answerClose (h : RecordInvariant P) (hs : P s) (p : Port) (ops : List Byte) : P (answerClose p ops s).1 := by
  unfold Machine.answerClose
  split
  · exact h.close hs p
  · exact hs

theorem RecordInvariant.answerNext (h : RecordInvariant P) (hs : P s) (p : Port) (ops : List Byte) : P (answerNext p ops s).1 := by
  unfold Machine.answerNext
  split
  · exact h.next hs p
  · exact hs

theorem RecordInvariant.answerDiscard (h : RecordInvariant P) (hs : P s) (p : Port) (ops : List Byte) : P (answerDiscard p ops s).1 := by
  unfold Machine.answerDiscard
  split
  · exact h.discard hs p
  · exact hs

theorem RecordInvariant.answerRetire (h : RecordInvariant P) (hs : P s) (p : Port) (ops : List Byte) : P (answerRetire p ops s).1 := by
  unfold Machine.answerRetire
  split
  · exact hs
  · split
    · split
      · exact hs
      · split
        · exact hs
        · exact h.retireIn hs _ _
    · exact hs

theorem RecordInvariant.answerClear (h : RecordInvariant P) (hs : P s) (p : Port) (ops : List Byte) : P (answerClear p ops s).1 := by
  unfold Machine.answerClear
  split
  · exact hs
  · exact h.endAct (h.foldl_clearKind _ hs)

theorem RecordInvariant.answerBody (h : RecordInvariant P) (hs : P s) (p : Port) (body : List Byte) : P (answerBody p body s).1 := by
  unfold Machine.answerBody
  split
  · exact hs
  · split
    · exact h.answerCreate hs p _
    · exact h.answerOpen hs p _
    · exact h.shares hs (by simp)
    · exact h.shares hs (by simp)
    · exact h.answerClose hs p _
    · exact h.answerNext hs p _
    · exact h.answerDiscard hs p _
    · exact h.answerRetire hs p _
    · exact h.shares hs (by simp)
    · exact RecordInvariant.motion hs p _ (h.tryStart hs)
    · exact RecordInvariant.bare hs _ (h.shares hs (by simp))
    · exact RecordInvariant.bare hs _ (h.shares hs (by simp))
    · exact RecordInvariant.motion hs p _ (h.shares hs (by simp))
    · exact RecordInvariant.motion hs p _ (h.tryStep hs)
    · exact RecordInvariant.motion hs p _ (h.shares hs (by simp))
    · exact RecordInvariant.supervisorOnly hs p _ (h.shares hs (by simp))
    · exact h.answerClear hs p _
    · exact RecordInvariant.motion hs p _ (h.resetTrip hs)
    · exact RecordInvariant.supervisorOnly hs p _ (h.lineResetAnswer hs)
    · exact RecordInvariant.bare hs _ hs
    · exact RecordInvariant.bare hs _ hs
    · exact hs

theorem RecordInvariant.takeRequest (h : RecordInvariant P) {answer : State → State × Reply} (hanswer : ∀ {s}, P s → P (answer s).1)
    (hs : P s) (p : Port) : P (s.takeRequest p answer) := by
  unfold State.takeRequest
  split
  · exact h.shares (hanswer (h.shares hs (t := s.restartInactivity p) (by simp))) (by simp)
  · exact hs

theorem RecordInvariant.takeBody (h : RecordInvariant P) (hs : P s) (p : Port) (body : List Byte) :
    P (s.takeRequest p (Machine.answerBody p body)) :=
  h.takeRequest (fun hu => h.answerBody hu p body) hs p

theorem RecordInvariant.abandonFrame (h : RecordInvariant P) (hs : P s) (p : Port) : P (s.abandonFrame p) := h.shares hs (by simp)

theorem RecordInvariant.setReceiver (h : RecordInvariant P) (hs : P s) (p : Port) (v : Receiver) : P (s.setReceiver p v) :=
  h.shares hs (by simp)

theorem RecordInvariant.takeByte (h : RecordInvariant P) (hs : P s) (p : Port) (got : List Byte) (b : Byte) : P (s.takeByte p got b) := by
  unfold State.takeByte
  split
  · split
    · exact h.setReceiver hs p _
    · exact h.abandonFrame hs p
  · dsimp only
    split
    · exact h.setReceiver hs p _
    · split
      · exact h.abandonFrame hs p
      · exact h.takeBody hs p _

theorem RecordInvariant.byteReceived (h : RecordInvariant P) (hs : P s) {p : Port} {b : Byte} {f : Bool} {t : State}
    (ht : execByteReceived p b f s = .next t) : P t := by
  unfold execByteReceived at ht
  cases ht
  split
  · exact hs
  · split
    · exact h.setReceiver hs p _
    · exact hs
  · split
    · exact h.abandonFrame hs p
    · exact h.takeByte hs p _ b
  · exact hs

/-! ### The dose -/

/-- The dose law of one panel (R122). -/
def Panel.Dosed (p : Panel) : Prop :=
  p.totalDose = p.doses.z1 + p.doses.z2 + p.doses.z3 + p.doses.z4 ∧ ∀ z ∈ allZones, p.doses.get z ≤ doseLimit

theorem doseLaw_iff (s : State) : DoseLaw s ↔ ∀ p ∈ s.rst.panels, p.Dosed := Iff.rfl

theorem Panel.Dosed.addDose {p : Panel} (h : p.Dosed) (z : ZoneId) (n : Nat) : (p.addDose z n).Dosed := by
  obtain ⟨htotal, hlimit⟩ := h
  have hroom : p.doses.get z ≤ doseLimit := hlimit z (by cases z <;> decide)
  refine ⟨?_, fun w hw => ?_⟩
  · cases z <;> simp [Panel.addDose, Four.set, Four.get, htotal] <;> omega
  · have := hlimit w hw
    cases z <;> cases w <;> simp_all [Panel.addDose, Four.set, Four.get] <;> omega

theorem Panel.Dosed.accrue {p : Panel} (h : p.Dosed) (b : Coord) (zones : Four Zone) (zs : List ZoneId) :
    (zs.foldl (Panel.doseFrom b zones) p).Dosed := by
  induction zs generalizing p with
  | nil => exact h
  | cons z zs ih =>
    refine ih ?_
    unfold Panel.doseFrom
    split
    · exact h.addDose z _
    · exact h

theorem RecordInvariant.accrue (h : RecordInvariant P) (hs : P s) : P s.accrue := by
  refine h.panels hs (by simp) (by simp [State.accrue]) fun hdose => (doseLaw_iff _).mpr fun p hp => ?_
  obtain ⟨q, hq, rfl⟩ := List.mem_map.mp hp
  exact Panel.Dosed.accrue ((doseLaw_iff s).mp hdose q hq) _ _ _

/-! ### Every command -/

theorem RecordInvariant.beltUnits (h : RecordInvariant P) (hs : P s) (d : Travel) : P (s.beltUnits d) := by
  cases d with
  | forward => exact h.takeTails _ hs
  | reverse => exact hs

theorem RecordInvariant.raiseStop (h : RecordInvariant P) (hs : P s) (c : StopCause) : P (s.raiseStop c) := h.shares hs (by simp)

theorem RecordInvariant.exec (h : RecordInvariant P) (hs : P s) {c : Instr} {t : State} (ht : exec c s = .next t) : P t := by
  cases c with
  | resetPin => cases ht; exact h.powerOn hs rfl rfl
  | feedCount d =>
    cases ht
    have hcounted : P (s.countWeb d) := h.shares hs (by simp)
    exact h.endAct (h.formUnits (h.feedUnits hcounted d) d)
  | beltCount d =>
    cases ht
    have hcounted : P (s.countBelt d) := h.shares hs (by simp)
    exact h.endAct (h.beltUnits hcounted d)
  | speedRefresh a b => cases ht; exact h.shares hs (by simp)
  | debounceSettle i =>
    cases ht
    split
    · exact h.endAct (h.settleInput hs i)
    · exact hs
  | senseReading k v f => cases ht; split <;> exact h.shares hs (by simp)
  | rawInputChange i v => cases ht; exact h.shares hs (by simp)
  | tensionLockCount => cases ht; exact h.shares hs (by simp)
  | tensionWatchCount => cases ht; exact h.shares hs (by simp)
  | matchCount => cases ht; exact h.shares hs (by simp)
  | interByteGapExpiry p => cases ht; exact h.shares hs (by simp)
  | frameAbandoned p cause => cases ht; exact h.shares hs (by simp)
  | dancerTimeout => cases ht; split <;> exact h.shares hs (by simp)
  | knifeLimitExpiry => cases ht; split <;> exact h.shares hs (by simp)
  | zoneSettleExpiry z => cases ht; split <;> exact h.shares hs (by simp)
  | readingStale z => cases ht; split <;> exact h.shares hs (by simp)
  | heatPermitExpiry => cases ht; split <;> exact h.shares hs (by simp)
  | responseSent p => cases ht; split <;> exact h.shares hs (by simp)
  | matchLimitExpiry =>
    cases ht
    split
    · exact h.endAct (h.failSplice hs _)
    · exact hs
  | headLimitExpiry =>
    cases ht
    split
    · exact h.endAct (h.failSplice hs _)
    · exact hs
  | retractLimitExpiry =>
    cases ht
    split
    · exact h.endAct (h.retractTimeout hs)
    · exact hs
  | webBreakExpiry =>
    cases ht
    split
    · exact h.endAct (h.raiseTrip hs _)
    · exact hs
  | bladeLimitExpiry =>
    cases ht
    split
    · exact h.shares (h.missCurrent hs) (by simp)
    · exact hs
  | cutterLimitExpiry =>
    cases ht
    split
    · exact h.endAct (h.raiseStop (h.cutterJam hs) _)
    · exact hs
  | standstillExpiry =>
    cases ht
    split
    · exact h.endAct (h.standStill hs)
    · exact hs
  | inactivityExpiry p =>
    cases ht
    split
    · exact h.endOpen hs p
    · exact hs
  | doseIntervalExpiry => cases ht; exact h.endAct (h.retarget (h.accrue hs))
  | rampIntervalExpiry =>
    cases ht
    split
    · split
      · exact h.endAct (h.enterRun hs)
      · exact h.endAct hs
    all_goals exact h.shares hs (by simp)
  | byteReceived p b f => exact h.byteReceived hs ht
  | unknownCommand p => cases ht; exact h.takeRequest (answer := answerUnknown) (fun hu => hu) hs p
  | create p ops => cases ht; exact h.takeBody hs p (0x10#8 :: ops)
  | openRecord p ops => cases ht; exact h.takeBody hs p (0x11#8 :: ops)
  | getField p ops => cases ht; exact h.takeBody hs p (0x12#8 :: ops)
  | putField p ops => cases ht; exact h.takeBody hs p (0x13#8 :: ops)
  | closeRecord p ops => cases ht; exact h.takeBody hs p (0x14#8 :: ops)
  | nextRecord p ops => cases ht; exact h.takeBody hs p (0x15#8 :: ops)
  | discard p ops => cases ht; exact h.takeBody hs p (0x16#8 :: ops)
  | retire p ops => cases ht; exact h.takeBody hs p (0x17#8 :: ops)
  | find p ops => cases ht; exact h.takeBody hs p (0x18#8 :: ops)
  | start p ops => cases ht; exact h.takeBody hs p (0x40#8 :: ops)
  | stop p ops => cases ht; exact h.takeBody hs p (0x41#8 :: ops)
  | hold p ops => cases ht; exact h.takeBody hs p (0x42#8 :: ops)
  | resume p ops => cases ht; exact h.takeBody hs p (0x43#8 :: ops)
  | stepLine p ops => cases ht; exact h.takeBody hs p (0x44#8 :: ops)
  | splice p ops => cases ht; exact h.takeBody hs p (0x45#8 :: ops)
  | permit p ops => cases ht; exact h.takeBody hs p (0x46#8 :: ops)
  | clear p ops => cases ht; exact h.takeBody hs p (0x47#8 :: ops)
  | tripReset p ops => cases ht; exact h.takeBody hs p (0x48#8 :: ops)
  | lineReset p ops => cases ht; exact h.takeBody hs p (0x49#8 :: ops)
  | status p ops => cases ht; exact h.takeBody hs p (0x4A#8 :: ops)
  | ident p ops => cases ht; exact h.takeBody hs p (0x4B#8 :: ops)

/-- What survives each move of the records is kept by every step. -/
theorem RecordInvariant.step (h : RecordInvariant P) (hs : P s) {t : State} (ht : step s = .next t) : P t := by
  unfold Machine.step at ht
  split at ht
  · cases ht
    exact hs
  · refine h.exec ?_ ht
    exact h.shares hs (SharesRecords.refl s)

end Sys2Proof.Machine
end

section
/-! SUPPORT. The step pool (R23): the moves of the records that keep its law (O9). -/

namespace Sys2Proof.Machine

/-- What the law of the pool asks of one pattern's steps (R23). -/
def Pattern.StepsHeld (s : State) (q : Pattern) : Prop :=
  q.blockMap.length = (if q.state = .edit then 0 else (q.stepCount + 7) / 8) ∧
    (q.state ≠ .edit → (s.patternSteps q).length = q.stepCount)

theorem Pattern.StepsHeld.congr {s t : State} {q x : Pattern} (h : q.StepsHeld s) (hblocks : x.blockMap = q.blockMap)
    (hcount : x.stepCount = q.stepCount) (hedit : x.state = .edit ↔ q.state = .edit)
    (hread : ∀ slot, slot / 8 ∈ q.blockMap → poolRead t.rst.pool slot = poolRead s.rst.pool slot) : x.StepsHeld t := by
  have hsteps : t.patternSteps x = s.patternSteps q := by
    have hcurrent : t.currentStep x = t.currentStep q := by
      funext k
      simp only [State.currentStep, hblocks, hcount, hedit]
    rw [← patternSteps_congr hread]
    simp only [State.patternSteps, hcount, hcurrent]
  obtain ⟨hlength, hcurrent⟩ := h
  refine ⟨?_, fun hstate => ?_⟩
  · simp only [hblocks, hcount, hedit, hlength]
  · rw [hsteps, hcount]
    exact hcurrent fun he => hstate (hedit.mpr he)

theorem PoolLaw.stepsHeld {s : State} (h : PoolLaw s) {q : Pattern} (hq : q ∈ s.rst.patterns) : q.StepsHeld s := by
  obtain ⟨-, -, -, -, -, hsteps, -⟩ := h
  exact hsteps q hq

theorem PoolLaw.rising {s : State} (h : PoolLaw s) : risingKeys (s.rst.patterns.map (·.number)) := by
  obtain ⟨-, hrising, -⟩ := h
  exact hrising

theorem PoolLaw.wf {s : State} (h : PoolLaw s) : poolWf s.rst.pool = true := by
  obtain ⟨hwf, -⟩ := h
  exact hwf

theorem PoolLaw.block_owner {s : State} (h : PoolLaw s) {e : Nat × Step} (he : e ∈ s.rst.pool) :
    ∃ q ∈ s.rst.patterns, e.1 / 8 ∈ q.blockMap := by
  obtain ⟨-, -, -, -, -, -, hpool⟩ := h
  exact List.mem_flatMap.mp (hpool e he)

theorem PoolLaw.own_blocks {s : State} (h : PoolLaw s) {q : Pattern} (hq : q ∈ s.rst.patterns) :
    q.blockMap.Nodup ∧ ∀ b ∈ q.blockMap, b < 128 := by
  obtain ⟨-, -, hnodup, hlt, -⟩ := h
  exact ⟨(List.nodup_flatMap.mp hnodup).1 q hq, fun b hb => hlt b (List.mem_flatMap.mpr ⟨q, hq, hb⟩)⟩

/-- Distinct blocks below 128 and the rest of the 128 are 128. -/
theorem heldBlocks_freeBlocks_length {s : State} (hnodup : s.heldBlocks.Nodup) (hlt : ∀ b ∈ s.heldBlocks, b < 128) :
    s.heldBlocks.length + s.freeBlocks.length = 128 := by
  have hheld : s.heldBlocks.Perm ((List.range 128).filter s.heldBlocks.contains) := by
    refine (List.perm_ext_iff_of_nodup hnodup (List.nodup_range.filter _)).mpr fun b => ?_
    simpa using hlt b
  have hsplit := List.length_eq_length_filter_add (l := List.range 128) s.heldBlocks.contains
  rw [List.length_range] at hsplit
  rw [hheld.length_eq]
  exact hsplit.symm

/-- The law of the pool, said pattern by pattern. -/
theorem PoolLaw.intro {s : State} (hwf : poolWf s.rst.pool = true) (hrising : risingKeys (s.rst.patterns.map (·.number)))
    (hown : ∀ q ∈ s.rst.patterns, q.blockMap.Nodup ∧ ∀ b ∈ q.blockMap, b < 128)
    (hdisjoint : ∀ x ∈ s.rst.patterns, ∀ y ∈ s.rst.patterns, x.number < y.number → List.Disjoint x.blockMap y.blockMap)
    (hsteps : ∀ q ∈ s.rst.patterns, q.StepsHeld s) (hpool : ∀ e ∈ s.rst.pool, ∃ q ∈ s.rst.patterns, e.1 / 8 ∈ q.blockMap) :
    PoolLaw s := by
  have hnodup : s.heldBlocks.Nodup := List.nodup_flatMap.mpr
    ⟨fun q hq => (hown q hq).1, (List.pairwise_map.mp hrising).imp_of_mem fun hx hy hlt => hdisjoint _ hx _ hy hlt⟩
  have hlt : ∀ b ∈ s.heldBlocks, b < 128 := fun b hb => by
    obtain ⟨q, hq, hmem⟩ := List.mem_flatMap.mp hb
    exact (hown q hq).2 b hmem
  exact ⟨hwf, hrising, hnodup, hlt, heldBlocks_freeBlocks_length hnodup hlt, hsteps,
    fun e he => List.mem_flatMap.mpr (hpool e he)⟩

theorem poolLaw_congr {s t : State} (hpatterns : t.rst.patterns = s.rst.patterns) (hpool : t.rst.pool = s.rst.pool) (h : PoolLaw s) :
    PoolLaw t := by
  have hheld : t.heldBlocks = s.heldBlocks := by simp only [State.heldBlocks, hpatterns]
  have hfree : t.freeBlocks = s.freeBlocks := by simp only [State.freeBlocks, hheld]
  unfold PoolLaw
  rw [hheld, hfree, hpatterns, hpool]
  obtain ⟨hwf, hrising, hnodup, hlt, hcount, hsteps, hentries⟩ := h
  exact ⟨hwf, hrising, hnodup, hlt, hcount,
    fun q hq => Pattern.StepsHeld.congr (hsteps q hq) rfl rfl Iff.rfl fun _ _ => by rw [hpool], hentries⟩

/-- Patterns leave the table, and their blocks the pool. -/
theorem PoolLaw.filter {s t : State} (h : PoolLaw s) (keep : Pattern → Bool) (hpatterns : t.rst.patterns = s.rst.patterns.filter keep)
    (hpool : t.rst.pool = poolRelease ((s.rst.patterns.filter fun q => !keep q).flatMap (·.blockMap)) s.rst.pool) : PoolLaw t := by
  have hmem : ∀ {q}, q ∈ t.rst.patterns → q ∈ s.rst.patterns ∧ keep q = true := fun hq => by
    rw [hpatterns] at hq
    exact List.mem_filter.mp hq
  have hreleased : ∀ {q b}, q ∈ t.rst.patterns → b ∈ q.blockMap →
      b ∉ (s.rst.patterns.filter fun q => !keep q).flatMap (·.blockMap) := fun {q b} hq hb hrel => by
    obtain ⟨x, hx, hbx⟩ := List.mem_flatMap.mp hrel
    obtain ⟨hx, hgone⟩ := List.mem_filter.mp hx
    obtain ⟨hq, hkeep⟩ := hmem hq
    refine h.blocks_disjoint hq hx (fun hkey => ?_) hb hbx
    rw [← risingKeys_injective h.rising hq hx hkey, hkeep] at hgone
    cases hgone
  refine PoolLaw.intro ?_ ?_ (fun q hq => h.own_blocks (hmem hq).1) (fun x hx y hy hlt b hb hb' => ?_) (fun q hq => ?_) fun e he => ?_
  · rw [hpool]
    exact poolRelease_wf _ _ h.wf
  · rw [hpatterns]
    exact risingKeys_filter keep h.rising
  · exact h.blocks_disjoint (hmem hx).1 (hmem hy).1 (Nat.ne_of_lt hlt) hb hb'
  · refine (h.stepsHeld (hmem hq).1).congr rfl rfl Iff.rfl fun slot hslot => ?_
    rw [hpool, poolRead_poolRelease (hreleased hq hslot)]
  · rw [hpool] at he
    obtain ⟨he, hstays⟩ := List.mem_filter.mp he
    obtain ⟨q, hq, hb⟩ := h.block_owner he
    refine ⟨q, ?_, hb⟩
    rw [hpatterns]
    refine List.mem_filter.mpr ⟨hq, ?_⟩
    by_contra hgone
    have hrel : e.1 / 8 ∈ (s.rst.patterns.filter fun q => !keep q).flatMap (·.blockMap) :=
      List.mem_flatMap.mpr ⟨q, List.mem_filter.mpr ⟨hq, by simpa using hgone⟩, hb⟩
    rw [show e.1 / Config.blockSlots = e.1 / 8 from rfl, List.contains_iff_mem.mpr hrel] at hstays
    cases hstays

/-- A record put into the table: new, or over the one of its number. -/
theorem PoolLaw.put {s t : State} {x : Pattern} (h : PoolLaw s) (hpatterns : t.rst.patterns = upsert (·.number) x s.rst.patterns)
    (hwf : poolWf t.rst.pool = true) (hown : x.blockMap.Nodup ∧ ∀ b ∈ x.blockMap, b < 128)
    (hothers : ∀ y ∈ s.rst.patterns, y.number ≠ x.number → List.Disjoint y.blockMap x.blockMap)
    (hread : ∀ y ∈ s.rst.patterns, y.number ≠ x.number → ∀ slot, slot / 8 ∈ y.blockMap →
      poolRead t.rst.pool slot = poolRead s.rst.pool slot)
    (hsteps : x.StepsHeld t)
    (hpool : ∀ e ∈ t.rst.pool, e.1 / 8 ∈ x.blockMap ∨ ∃ y ∈ s.rst.patterns, y.number ≠ x.number ∧ e.1 / 8 ∈ y.blockMap) :
    PoolLaw t := by
  have hmem : ∀ {z}, z ∈ t.rst.patterns ↔ z = x ∨ (z ∈ s.rst.patterns ∧ z.number ≠ x.number) := fun {z} => by
    rw [hpatterns]
    exact mem_upsert_iff h.rising
  refine PoolLaw.intro hwf ?_ (fun q hq => ?_) (fun y hy z hz hlt => ?_) (fun q hq => ?_) fun e he => ?_
  · rw [hpatterns]
    exact risingKeys_upsert x h.rising
  · rcases hmem.mp hq with rfl | ⟨hq, -⟩
    · exact hown
    · exact h.own_blocks hq
  · rcases hmem.mp hy with rfl | ⟨hy, hyx⟩
    · rcases hmem.mp hz with rfl | ⟨hz, hzy⟩
      · exact absurd hlt (Nat.lt_irrefl _)
      · exact (hothers z hz hzy).symm
    · rcases hmem.mp hz with rfl | ⟨hz, -⟩
      · exact hothers y hy hyx
      · exact fun b hb hb' => h.blocks_disjoint hy hz (Nat.ne_of_lt hlt) hb hb'
  · rcases hmem.mp hq with rfl | ⟨hq, hqx⟩
    · exact hsteps
    · exact (h.stepsHeld hq).congr rfl rfl Iff.rfl (hread q hq hqx)
  · rcases hpool e he with hb | ⟨y, hy, hyx, hb⟩
    · exact ⟨x, hmem.mpr (Or.inl rfl), hb⟩
    · exact ⟨y, hmem.mpr (Or.inr ⟨hy, hyx⟩), hb⟩

/-- A record put over one with its blocks, the pool as it stands. -/
theorem PoolLaw.put_over {s t : State} {q x : Pattern} (h : PoolLaw s) (hq : q ∈ s.rst.patterns)
    (hpatterns : t.rst.patterns = upsert (·.number) x s.rst.patterns) (hpool : t.rst.pool = s.rst.pool) (hnumber : x.number = q.number)
    (hblocks : x.blockMap = q.blockMap) (hsteps : x.StepsHeld t) : PoolLaw t := by
  refine h.put hpatterns (hpool ▸ h.wf) (hblocks ▸ h.own_blocks hq) (fun y hy hyx b hb hb' => ?_) (fun _ _ _ _ _ => by rw [hpool]) hsteps
    fun e he => ?_
  · exact h.blocks_disjoint hy hq (hnumber ▸ hyx) hb (hblocks ▸ hb')
  · rw [hpool] at he
    obtain ⟨y, hy, hb⟩ := h.block_owner he
    by_cases hyx : y.number = x.number
    · rw [hblocks, ← risingKeys_injective h.rising hy hq (hyx.trans hnumber)]
      exact Or.inl hb
    · exact Or.inr ⟨y, hy, hyx, hb⟩

/-! ### Counts, and patterns freed -/

theorem PoolLaw.recount {s : State} (h : PoolLaw s) : PoolLaw s.recount := by
  have hmem : ∀ {q}, q ∈ s.recount.rst.patterns → ∃ x ∈ s.rst.patterns, { x with refCount := patternRefs s.rst.lots x.number } = q :=
    fun hq => List.mem_map.mp hq
  refine PoolLaw.intro h.wf ?_ (fun q hq => ?_) (fun x hx y hy hlt b hb hb' => ?_) (fun q hq => ?_) fun e he => ?_
  · have hkeys : s.recount.rst.patterns.map (·.number) = s.rst.patterns.map (·.number) := by simp [State.recount]
    rw [hkeys]
    exact h.rising
  · obtain ⟨x, hx, rfl⟩ := hmem hq
    exact h.own_blocks (q := x) hx
  · obtain ⟨v, hv, rfl⟩ := hmem hx
    obtain ⟨w, hw, rfl⟩ := hmem hy
    exact h.blocks_disjoint hv hw (Nat.ne_of_lt hlt) hb hb'
  · obtain ⟨x, hx, rfl⟩ := hmem hq
    exact (h.stepsHeld hx).congr rfl rfl Iff.rfl fun _ _ => rfl
  · obtain ⟨x, hx, hb⟩ := h.block_owner he
    exact ⟨_, List.mem_map_of_mem hx, hb⟩

theorem PoolLaw.freeRetired {s : State} (h : PoolLaw s) : PoolLaw s.freeRetired :=
  h.filter (fun q => !q.spentRetiring) rfl (by simp [State.freeRetired])

theorem PoolLaw.settleCounts {s : State} (h : PoolLaw s) : PoolLaw s.settleCounts :=
  poolLaw_congr (by simp [State.settleCounts]) (by simp [State.settleCounts]) h.recount.freeRetired

/-- A pattern that holds no blocks leaves none behind. -/
theorem poolRelease_of_no_blocks {qs : List Pattern} (h : ∀ q ∈ qs, q.blockMap = []) (pool : List (Nat × Step)) :
    poolRelease (qs.flatMap (·.blockMap)) pool = pool := by
  have hnil : qs.flatMap (·.blockMap) = [] := List.flatMap_eq_nil_iff.mpr h
  simp [poolRelease, hnil]

theorem PoolLaw.blockMap_of_edit {s : State} (h : PoolLaw s) {q : Pattern} (hq : q ∈ s.rst.patterns) (hstate : q.state = .edit) :
    q.blockMap = [] := by
  have hlength := (h.stepsHeld hq).1
  rw [if_pos hstate] at hlength
  exact List.length_eq_zero_iff.mp hlength

/-- Only patterns in EDIT leave: the pool stands as it is. -/
theorem PoolLaw.filter_edit {s t : State} (h : PoolLaw s) (keep : Pattern → Bool) (hpatterns : t.rst.patterns = s.rst.patterns.filter keep)
    (hpool : t.rst.pool = s.rst.pool) (hedit : ∀ q ∈ s.rst.patterns, keep q = false → q.state = .edit) : PoolLaw t := by
  refine h.filter keep hpatterns ?_
  rw [hpool, poolRelease_of_no_blocks fun q hq => ?_]
  obtain ⟨hq, hgone⟩ := List.mem_filter.mp hq
  exact h.blockMap_of_edit hq (hedit q hq (by simpa using hgone))

theorem poolRelease_congr {blocks blocks' : List Nat} (h : ∀ b, b ∈ blocks ↔ b ∈ blocks') (pool : List (Nat × Step)) :
    poolRelease blocks pool = poolRelease blocks' pool := by
  have hcontains : ∀ b, blocks.contains b = blocks'.contains b := fun b => by
    rw [Bool.eq_iff_iff, List.contains_iff_mem, List.contains_iff_mem, h b]
  simp only [poolRelease, hcontains]

theorem PoolLaw.freePattern {s : State} (h : PoolLaw s) {q : Pattern} (hq : q ∈ s.rst.patterns) : PoolLaw (s.freePattern q) := by
  refine h.filter (fun x => x.number != q.number) (by simp [State.freePattern, State.dropRecord, dropKey]) ?_
  have hpool : (s.freePattern q).rst.pool = poolRelease q.blockMap s.rst.pool := by simp [State.freePattern, State.dropRecord]
  rw [hpool]
  refine poolRelease_congr (fun b => ⟨fun hb => ?_, fun hb => ?_⟩) _
  · exact List.mem_flatMap.mpr ⟨q, List.mem_filter.mpr ⟨hq, by simp⟩, hb⟩
  · obtain ⟨x, hx, hb⟩ := List.mem_flatMap.mp hb
    obtain ⟨hx, hkey⟩ := List.mem_filter.mp hx
    rwa [← risingKeys_injective h.rising hx hq (by simpa using hkey)]

/-! ### Commits -/

theorem writeSteps_wf (blocks : List Nat) (k : Nat) (vs : List Step) {pool : List (Nat × Step)} (h : poolWf pool = true) :
    poolWf (writeSteps blocks k vs pool) = true := by
  induction vs generalizing k pool with
  | nil => exact h
  | cons v vs ih =>
    unfold writeSteps
    split
    · exact ih (k + 1) h
    · exact ih (k + 1) (poolWrite_wf pool _ v h)

/-- Steps written stand in the blocks they are written to. -/
theorem mem_writeSteps {blocks : List Nat} {k : Nat} {vs : List Step} {pool : List (Nat × Step)} {e : Nat × Step}
    (h : e ∈ writeSteps blocks k vs pool) : e.1 / 8 ∈ blocks ∨ e ∈ pool := by
  induction vs generalizing k pool with
  | nil => exact Or.inr h
  | cons v vs ih =>
    unfold writeSteps at h
    split at h
    · exact ih h
    · rename_i slot hslot
      rcases ih h with hb | he
      · exact Or.inl hb
      · rcases mem_upsert _ _ _ _ he with rfl | he
        · exact Or.inl (slotOf_block hslot)
        · exact Or.inr he

/-- What a commit that no check of R20 refuses has: every step set, and blocks where the steps move. -/
theorem steps_of_patternRefusal {s : State} {q : Pattern} {st : PatternStage} (h : s.patternRefusal q st = none) :
    (s.stepsInView q st).length = st.countOver q ∧
      (st.reforms = true → blocksFor (s.stepsInView q st).length ≤ (s.blocksFreeTo q.number).length) := by
  unfold State.patternRefusal at h
  split at h
  · cases h
  · split at h
    · cases h
    · rename_i hunset
      have hset : (s.stepsInView q st).length = st.countOver q := by
        refine (List.filterMap_length_eq_length.mpr fun k hk => ?_).trans (stepNumbers_length _)
        simpa [Option.isSome_iff_ne_none] using List.find?_eq_none.mp hunset k hk
      refine ⟨hset, fun hreforms => ?_⟩
      dsimp only at h
      split at h
      · cases h
      · by_contra hfew
        have hfew : (s.blocksFreeTo q.number).length < blocksFor (s.stepsInView q st).length := Nat.not_le.mp hfew
        simp only [firstRefusal, hreforms, hfew, decide_true, Bool.and_self, if_true] at h
        split_ifs at h

theorem PoolLaw.committed_moved {s : State} (h : PoolLaw s) {q : Pattern} {st : PatternStage} (hq : q ∈ s.rst.patterns)
    (hreforms : st.reforms = true) (hsteps : (s.stepsInView q st).length = st.countOver q)
    (hblocks : blocksFor (s.stepsInView q st).length ≤ (s.blocksFreeTo q.number).length) : PoolLaw (s.committedPattern q st) := by
  have hrecord := committedRecord_of_reforms (s := s) (q := q) hreforms
  have hmap : (s.committedRecord q st).blockMap = (s.blocksFreeTo q.number).take (blocksFor (s.stepsInView q st).length) := by rw [hrecord]
  have hnumber := committedRecord_number s q st
  have hfree : ∀ {b}, b ∈ (s.committedRecord q st).blockMap → b ∈ s.blocksFreeTo q.number := fun hb => by
    rw [hmap] at hb
    exact List.mem_of_mem_take hb
  have hstate : (s.committedRecord q st).state ≠ .edit := by
    rw [hrecord]
    exact written_state_ne_edit q st (s.stepsInView q st)
  have hcount : (s.committedRecord q st).stepCount = st.countOver q := by rw [hrecord]; rfl
  refine h.put (committedPattern_patterns s q st) ?_ ⟨?_, fun b hb => ?_⟩ (fun y hy hyx b hb hb' => ?_) (fun y hy hyx slot hslot => ?_)
    ⟨?_, fun _ => ?_⟩ fun e he => ?_
  · rw [committedPattern_pool_moved hreforms]
    exact writeSteps_wf _ _ _ (poolRelease_wf _ _ h.wf)
  · rw [hmap]
    exact (List.take_sublist _ _).nodup (blocksFreeTo_nodup s q.number)
  · exact List.mem_range.mp (List.mem_filter.mp (hfree hb)).1
  · exact blocksFreeTo_disjoint hy (hnumber ▸ hyx) hb (hfree hb')
  · rw [hnumber] at hyx
    have hwritten : ∀ j, 1 ≤ j → slotOf ((s.blocksFreeTo q.number).take (blocksFor (s.stepsInView q st).length)) j ≠ some slot :=
      fun j _ hj => blocksFreeTo_disjoint hy hyx hslot (List.mem_of_mem_take (slotOf_block hj))
    rw [committedPattern_pool_moved hreforms, poolRead_writeSteps_other hwritten,
      poolRead_poolRelease (h.blocks_disjoint hy hq hyx hslot)]
  · rw [if_neg hstate, hmap, List.length_take, Nat.min_eq_left hblocks, hcount, hsteps, blocksFor_eq]
  · rw [patternSteps_committed_moved hreforms hsteps hblocks, hcount, hsteps]
  · rw [committedPattern_pool_moved hreforms] at he
    rcases mem_writeSteps he with hb | he
    · exact Or.inl (hmap ▸ hb)
    · obtain ⟨he, hstays⟩ := List.mem_filter.mp he
      obtain ⟨y, hy, hb⟩ := h.block_owner he
      refine Or.inr ⟨y, hy, fun hkey => ?_, hb⟩
      rw [risingKeys_injective h.rising hy hq (hkey.trans hnumber)] at hb
      rw [show e.1 / Config.blockSlots = e.1 / 8 from rfl, List.contains_iff_mem.mpr hb] at hstays
      cases hstays

/-- A commit that moves no step (R24): a pattern in EDIT has none, so that it commits with a step count of 0 at most. -/
theorem PoolLaw.committed_kept {s : State} (h : PoolLaw s) {q : Pattern} {st : PatternStage} (hq : q ∈ s.rst.patterns)
    (hreforms : st.reforms = false) (hsteps : (s.stepsInView q st).length = st.countOver q) : PoolLaw (s.committedPattern q st) := by
  have hrecord := committedRecord_of_not_reforms (s := s) (q := q) hreforms
  have hpool := committedPattern_pool_kept (q := q) hreforms s
  have hstate : (s.committedRecord q st).state ≠ .edit := by
    rw [hrecord]
    exact written_state_ne_edit q st (s.stepsInView q st)
  have hcount : (s.committedRecord q st).stepCount = q.stepCount := by
    rw [hrecord]
    exact countOver_of_not_reforms hreforms
  have hblocks : (s.committedRecord q st).blockMap = q.blockMap := by rw [hrecord]; rfl
  refine h.put_over hq (committedPattern_patterns s q st) hpool (committedRecord_number s q st) hblocks ?_
  by_cases hedit : q.state = .edit
  · have hzero : q.stepCount = 0 := by
      have hnone : s.stepsInView q st = [] := List.filterMap_eq_nil_iff.mpr fun k _ => by
        rw [stepInView_of_not_reforms hreforms]
        exact if_pos (Or.inl hedit)
      rw [hnone, countOver_of_not_reforms hreforms] at hsteps
      exact hsteps.symm
    rw [hzero] at hcount
    refine ⟨?_, fun _ => ?_⟩
    · rw [if_neg hstate, hblocks, h.blockMap_of_edit hq hedit, hcount]
      rfl
    · simp [State.patternSteps, hcount]
  · exact (h.stepsHeld hq).congr hblocks hcount (iff_of_false hstate hedit) fun _ _ => by rw [hpool]

theorem PoolLaw.committedPattern {s : State} (h : PoolLaw s) {q : Pattern} {st : PatternStage} (hq : q ∈ s.rst.patterns)
    (hrefusal : s.patternRefusal q st = none) : PoolLaw (s.committedPattern q st) := by
  obtain ⟨hsteps, hblocks⟩ := steps_of_patternRefusal hrefusal
  cases hreforms : st.reforms with
  | true => exact h.committed_moved hq hreforms hsteps (hblocks hreforms)
  | false => exact h.committed_kept hq hreforms hsteps

end Sys2Proof.Machine
end

section
/-! SUPPORT. The laws of the panels, the doses and the pool as record invariants (O9). -/

namespace Sys2Proof.Machine

/-- A property of the panel records alone. -/
theorem recordInvariant_of_panels {P : State → Prop} (hcongr : ∀ {s t : State}, P s → t.rst.panels = s.rst.panels → P t)
    (hpanels : ∀ {s t : State}, P s → t.rst.panels.length ≤ s.rst.panels.length → (DoseLaw s → DoseLaw t) → P t)
    (hstart : ∀ {s u : State} (f : FormContext) (joint : Bool), P s → P u → (PanelLaw s → u.rst.panels.length < 39) →
      P (u.createPanel f joint))
    (hnone : ∀ {t : State}, t.rst.panels = [] → P t) : RecordInvariant P where
  shares hs h := hcongr hs h.2
  panels hs _ hlength hdose := hpanels hs hlength hdose
  start f joint hs hu hroom := hstart f joint hs hu hroom
  roll hs _ _ := hcongr hs (by simp)
  lot hs _ _ _ := hcongr hs (by simp)
  placed hs _ _ _ _ := hcongr hs (by simp)
  fed hs _ _ _ _ := hcongr hs (by simp)
  noLotSegment hs _ := hcongr hs (by simp)
  completed hs _ _ := hcongr hs (by simp)
  newPattern hs _ _ _ := hcongr hs (by simp)
  newClass hs _ _ _ := hcongr hs (by simp)
  newRoll hs _ _ := hcongr hs (by simp)
  newLot hs _ _ := hcongr hs (by simp)
  committedPattern hs _ _ := hcongr hs (by simp [committedPattern_frame])
  committedClass _ hs _ := hcongr hs (by simp)
  committedRoll hs _ _ := hcongr hs (by simp)
  committedLot hs _ _ := hcongr hs (by simp)
  retiring hs _ _ := hcongr hs (by simp)
  freedPattern hs _ _ := hcongr hs (by simp)
  freedClass hs _ _ := hcongr hs (by simp)
  freedRoll _ hs := hcongr hs (by simp)
  freedLot hs _ _ := hcongr hs (by simp)
  neverCommitted hs _ := hcongr hs (by simp)
  lineReset _ := hnone (by simp [State.resetRecords, State.recount, State.freeRetired])
  powerOn _ hrst _ := hnone (by rw [hrst]; rfl)

theorem panelLaw_invariant : RecordInvariant PanelLaw := by
  refine recordInvariant_of_panels (fun hs h => ?_) (fun hs hlength _ => hlength.trans hs) (fun f joint hs _ hroom => ?_) fun h => ?_
  · unfold PanelLaw
    rwa [h]
  · have hlt := hroom hs
    simpa [PanelLaw, State.createPanel, Config.panelsInUse] using Nat.succ_le_of_lt hlt
  · unfold PanelLaw
    rw [h]
    exact Nat.zero_le _

theorem doseLaw_invariant : RecordInvariant DoseLaw := by
  refine recordInvariant_of_panels (fun hs h => ?_) (fun hs _ hdose => hdose hs) (fun f joint hs hu _ => ?_) fun h => ?_
  · unfold DoseLaw
    rwa [h]
  · intro p hp
    rcases List.mem_append.mp hp with hp | hp
    · obtain ⟨q, hq, rfl⟩ := List.mem_map.mp hp
      exact hu q hq
    · rw [List.mem_singleton.mp hp]
      exact ⟨rfl, fun z _ => by cases z <;> exact Nat.zero_le _⟩
  · unfold DoseLaw
    rw [h]
    exact fun _ hp => nomatch hp

/-! ### The pool -/

theorem PoolLaw.neverCommitted {s : State} (h : PoolLaw s) {t : Table} {n : Nat} (hnew : s.neverCommitted t n = true) :
    PoolLaw (s.dropRecord t n) := by
  cases t with
  | pattern =>
    obtain ⟨q, hq, hstate⟩ := (Option.any_eq_true _ _).mp hnew
    refine h.filter_edit (fun x => x.number != n) rfl rfl fun x hx hkey => ?_
    have hnumber : x.number = q.number := by
      rw [pattern?_number hq]
      simpa using hkey
    rw [risingKeys_injective h.rising hx (pattern?_mem hq) hnumber]
    simpa using hstate
  | cls | roll | lot | panel | line => exact poolLaw_congr (by simp [State.dropRecord]) (by simp [State.dropRecord]) h

theorem PoolLaw.newPattern {s : State} (h : PoolLaw s) {n : Nat} (hfree : s.pattern? n = none) :
    PoolLaw (s.putPattern (Pattern.created n)) := by
  refine h.put rfl h.wf ⟨List.nodup_nil, fun b hb => nomatch hb⟩ (fun y _ _ b _ hb => nomatch hb) (fun _ _ _ _ _ => rfl)
    ⟨rfl, fun hstate => absurd rfl hstate⟩ fun e he => ?_
  obtain ⟨y, hy, hb⟩ := h.block_owner he
  exact Or.inr ⟨y, hy, find?_key_eq_none.mp hfree y hy, hb⟩

theorem PoolLaw.retiring {s : State} (h : PoolLaw s) {q : Pattern} (hq : q ∈ s.rst.patterns) (hstate : q.state = .ready) :
    PoolLaw (s.putPattern { q with state := .retiring }) := by
  have hstays : PatternState.retiring = .edit ↔ q.state = .edit := by simp [hstate]
  exact h.put_over hq rfl rfl rfl rfl ((h.stepsHeld hq).congr rfl rfl hstays fun _ _ => rfl)

theorem PoolLaw.resetRecords {s : State} (h : PoolLaw s) : PoolLaw s.resetRecords := by
  have hcommitted : PoolLaw { s with rst := { s.rst with patterns := s.rst.patterns.filter Pattern.committed } } :=
    h.filter_edit Pattern.committed rfl rfl fun q _ hq => by simpa [Pattern.committed] using hq
  refine PoolLaw.freeRetired (PoolLaw.recount ?_)
  exact poolLaw_congr rfl rfl hcommitted

theorem poolLaw_reset : PoolLaw State.reset := by
  refine PoolLaw.intro rfl List.Pairwise.nil ?_ ?_ ?_ ?_ <;> exact fun _ h => nomatch h

theorem poolLaw_invariant : RecordInvariant PoolLaw where
  shares hs h := poolLaw_congr h.1.1 h.1.2.1 hs
  panels hs h _ _ := poolLaw_congr h.1 h.2.1 hs
  start f joint _ hu _ := poolLaw_congr (by simp) (by simp) hu
  roll hs _ _ := poolLaw_congr (by simp) (by simp) hs
  lot hs _ _ _ := poolLaw_congr (by simp) (by simp) hs
  placed hs _ _ _ _ := poolLaw_congr (by simp) (by simp) hs
  fed hs _ _ _ _ := poolLaw_congr (by simp) (by simp) hs
  noLotSegment hs _ := poolLaw_congr (by simp) (by simp) hs
  completed hs _ _ := (poolLaw_congr (by simp) (by simp) hs : PoolLaw (State.putLot _ _)).settleCounts
  newPattern hs hfree _ _ := hs.newPattern hfree
  newClass hs _ _ _ := poolLaw_congr (by simp) (by simp) hs
  newRoll hs _ _ := poolLaw_congr (by simp) (by simp) hs
  newLot hs _ _ := poolLaw_congr (by simp) (by simp) hs
  committedPattern hs hq hrefusal := hs.committedPattern (pattern?_mem hq) hrefusal
  committedClass _ hs _ := poolLaw_congr (by simp) (by simp) hs
  committedRoll hs _ _ := (poolLaw_congr (by simp) (by simp) hs : PoolLaw (State.putRoll _ _)).settleCounts
  committedLot hs _ _ := (poolLaw_congr (by simp) (by simp) hs : PoolLaw (State.putLot _ _)).settleCounts
  retiring hs hq hstate := hs.retiring (pattern?_mem hq) hstate
  freedPattern hs hq _ := hs.freePattern (pattern?_mem hq)
  freedClass hs _ _ := poolLaw_congr (by simp [State.dropRecord]) (by simp [State.dropRecord]) hs
  freedRoll n hs := PoolLaw.settleCounts (poolLaw_congr (by simp [State.dropRecord]) (by simp [State.dropRecord]) hs)
  freedLot hs _ _ := PoolLaw.settleCounts (poolLaw_congr (by simp [State.dropRecord]) (by simp [State.dropRecord]) hs)
  neverCommitted hs hnew := hs.neverCommitted hnew
  lineReset hs := poolLaw_congr rfl rfl hs.resetRecords
  powerOn _ hrst _ := poolLaw_congr (s := State.reset) (by rw [hrst]; rfl) (by rw [hrst]; rfl) poolLaw_reset

/-- Settles O9: each of the three laws survives every move of the records. -/
theorem storeLawsKept : Obligations.StoreLawsKept := by
  unfold Obligations.StoreLawsKept
  exact ⟨fun _ _ hs ht => panelLaw_invariant.step hs ht, fun _ _ hs ht => doseLaw_invariant.step hs ht,
    fun _ _ hs ht => poolLaw_invariant.step hs ht⟩

end Sys2Proof.Machine
end

section
/-! SUPPORT. The tables of the store (O10): the moves of the records that keep their keys in order and their sizes in bounds. -/

namespace Sys2Proof.Machine

/-- A table whose keys rise within a range. -/
def NumberedTable {α : Type} (key : α → Nat) (most : Nat) (l : List α) : Prop :=
  risingKeys (l.map key) ∧ ∀ x ∈ l, 1 ≤ key x ∧ key x ≤ most

/-- A table whose keys rise, of limited length. -/
def SizedTable {α : Type} (key : α → Nat) (most : Nat) (l : List α) : Prop := risingKeys (l.map key) ∧ l.length ≤ most

theorem NumberedTable.upsert {α : Type} {key : α → Nat} {most : Nat} {l : List α} {x : α} (h : NumberedTable key most l)
    (hx : 1 ≤ key x ∧ key x ≤ most) : NumberedTable key most (upsert key x l) := by
  obtain ⟨hrising, hrange⟩ := h
  refine ⟨risingKeys_upsert x hrising, fun z hz => ?_⟩
  rcases mem_upsert key x z l hz with rfl | hz
  · exact hx
  · exact hrange z hz

theorem NumberedTable.replace {α : Type} {key : α → Nat} {most : Nat} {l : List α} {x y : α} (h : NumberedTable key most l) (hy : y ∈ l)
    (hkey : key x = key y) : NumberedTable key most (Machine.upsert key x l) :=
  h.upsert (hkey ▸ h.2 y hy)

theorem NumberedTable.filter {α : Type} {key : α → Nat} {most : Nat} {l : List α} (h : NumberedTable key most l) (keep : α → Bool) :
    NumberedTable key most (l.filter keep) :=
  ⟨risingKeys_filter keep h.1, fun x hx => h.2 x (List.mem_filter.mp hx).1⟩

theorem NumberedTable.map {α : Type} {key : α → Nat} {most : Nat} {l : List α} {g : α → α} (h : NumberedTable key most l)
    (hg : ∀ x, key (g x) = key x) : NumberedTable key most (l.map g) := by
  have hkeys : (l.map g).map key = l.map key := by
    rw [List.map_map]
    exact List.map_congr_left fun x _ => hg x
  refine ⟨hkeys ▸ h.1, fun x hx => ?_⟩
  obtain ⟨y, hy, rfl⟩ := List.mem_map.mp hx
  rw [hg]
  exact h.2 y hy

theorem SizedTable.add {α : Type} {key : α → Nat} {most : Nat} {l : List α} {x : α} (h : SizedTable key most l)
    (hfree : ∀ y ∈ l, key y ≠ key x) (hroom : l.length < most) : SizedTable key most (upsert key x l) :=
  ⟨risingKeys_upsert x h.1, by rw [(upsert_perm hfree).length_eq]; exact hroom⟩

theorem SizedTable.replace {α : Type} {key : α → Nat} {most : Nat} {l : List α} {x y : α} (h : SizedTable key most l) (hy : y ∈ l)
    (hkey : key x = key y) : SizedTable key most (upsert key x l) :=
  ⟨risingKeys_upsert x h.1, by rw [length_upsert_of_mem h.1 ⟨y, hy, hkey.symm⟩]; exact h.2⟩

theorem SizedTable.filter {α : Type} {key : α → Nat} {most : Nat} {l : List α} (h : SizedTable key most l) (keep : α → Bool) :
    SizedTable key most (l.filter keep) :=
  ⟨risingKeys_filter keep h.1, (List.length_filter_le keep l).trans h.2⟩

theorem SizedTable.map {α : Type} {key : α → Nat} {most : Nat} {l : List α} {g : α → α} (h : SizedTable key most l)
    (hg : ∀ x, key (g x) = key x) : SizedTable key most (l.map g) := by
  have hkeys : (l.map g).map key = l.map key := by
    rw [List.map_map]
    exact List.map_congr_left fun x _ => hg x
  exact ⟨hkeys ▸ h.1, (List.length_map g).trans_le h.2⟩

/-- The law of the tables, table by table. -/
structure TablesHeld (s : State) : Prop where
  patterns : NumberedTable Pattern.number 40 s.rst.patterns
  classes : NumberedTable FabricClass.number 16 s.rst.classes
  rolls : SizedTable Roll.tag 12 s.rst.rolls
  lots : SizedTable Lot.number 32 s.rst.lots

theorem tablesLaw_iff (s : State) : TablesLaw s ↔ TablesHeld s := by
  constructor
  · rintro ⟨hpatterns, hnumbers, hclasses, hclassNumbers, hrolls, hrollRoom, hlots, hlotRoom⟩
    exact ⟨⟨hpatterns, hnumbers⟩, ⟨hclasses, hclassNumbers⟩, ⟨hrolls, hrollRoom⟩, ⟨hlots, hlotRoom⟩⟩
  · rintro ⟨⟨hpatterns, hnumbers⟩, ⟨hclasses, hclassNumbers⟩, ⟨hrolls, hrollRoom⟩, ⟨hlots, hlotRoom⟩⟩
    exact ⟨hpatterns, hnumbers, hclasses, hclassNumbers, hrolls, hrollRoom, hlots, hlotRoom⟩

theorem TablesHeld.congr {s t : State} (h : TablesHeld s) (hpatterns : t.rst.patterns = s.rst.patterns)
    (hclasses : t.rst.classes = s.rst.classes) (hrolls : t.rst.rolls = s.rst.rolls) (hlots : t.rst.lots = s.rst.lots) : TablesHeld t :=
  ⟨hpatterns ▸ h.patterns, hclasses ▸ h.classes, hrolls ▸ h.rolls, hlots ▸ h.lots⟩

theorem TablesHeld.recount {s : State} (h : TablesHeld s) : TablesHeld s.recount :=
  ⟨h.patterns.map fun _ => rfl, h.classes.map fun _ => rfl, h.rolls, h.lots⟩

theorem TablesHeld.freeRetired {s : State} (h : TablesHeld s) : TablesHeld s.freeRetired :=
  ⟨h.patterns.filter _, h.classes, h.rolls, h.lots⟩

theorem TablesHeld.settleCounts {s : State} (h : TablesHeld s) : TablesHeld s.settleCounts :=
  h.recount.freeRetired.congr (by simp [State.settleCounts]) (by simp [State.settleCounts]) (by simp [State.settleCounts])
    (by simp [State.settleCounts])

theorem TablesHeld.dropRecord {s : State} (h : TablesHeld s) (t : Table) (n : Nat) : TablesHeld (s.dropRecord t n) := by
  obtain ⟨hpatterns, hclasses, hrolls, hlots⟩ := h
  cases t with
  | pattern => exact ⟨hpatterns.filter _, hclasses, hrolls, hlots⟩
  | cls => exact ⟨hpatterns, hclasses.filter _, hrolls, hlots⟩
  | roll => exact ⟨hpatterns, hclasses, hrolls.filter _, hlots⟩
  | lot => exact ⟨hpatterns, hclasses, hrolls, hlots.filter _⟩
  | panel | line => exact ⟨hpatterns, hclasses, hrolls, hlots⟩

theorem TablesHeld.putPattern {s : State} (h : TablesHeld s) {x y : Pattern} (hy : y ∈ s.rst.patterns) (hkey : x.number = y.number) :
    TablesHeld (s.putPattern x) := ⟨h.patterns.replace hy hkey, h.classes, h.rolls, h.lots⟩

theorem TablesHeld.putClass {s : State} (h : TablesHeld s) {x y : FabricClass} (hy : y ∈ s.rst.classes) (hkey : x.number = y.number) :
    TablesHeld (s.putClass x) := ⟨h.patterns, h.classes.replace hy hkey, h.rolls, h.lots⟩

theorem TablesHeld.putRoll {s : State} (h : TablesHeld s) {x y : Roll} (hy : y ∈ s.rst.rolls) (hkey : x.tag = y.tag) :
    TablesHeld (s.putRoll x) := ⟨h.patterns, h.classes, h.rolls.replace hy hkey, h.lots⟩

theorem TablesHeld.putLot {s : State} (h : TablesHeld s) {x y : Lot} (hy : y ∈ s.rst.lots) (hkey : x.number = y.number) :
    TablesHeld (s.putLot x) := ⟨h.patterns, h.classes, h.rolls, h.lots.replace hy hkey⟩

theorem Lot.lineReset_number (l : Lot) (records : Nat) : (l.lineReset records).number = l.number := by
  unfold Lot.lineReset
  split <;> rfl

/-- The state of LINE_RESET before the counts are lowered (R175). -/
theorem TablesHeld.resetRecords {s : State} (h : TablesHeld s) : TablesHeld s.resetRecords := by
  refine TablesHeld.freeRetired (TablesHeld.recount ?_)
  exact ⟨h.patterns.filter _, h.classes.filter _, h.rolls.filter _, (h.lots.filter _).map fun l => l.lineReset_number _⟩

theorem tablesHeld_reset : TablesHeld State.reset :=
  ⟨⟨List.Pairwise.nil, fun _ h => nomatch h⟩, ⟨List.Pairwise.nil, fun _ h => nomatch h⟩, ⟨List.Pairwise.nil, Nat.zero_le _⟩,
    ⟨List.Pairwise.nil, Nat.zero_le _⟩⟩

/-- A pattern's commit leaves the other tables. -/
theorem committedPattern_tables (s : State) (q : Pattern) (st : PatternStage) :
    (s.committedPattern q st).rst.classes = s.rst.classes ∧ (s.committedPattern q st).rst.rolls = s.rst.rolls ∧
      (s.committedPattern q st).rst.lots = s.rst.lots := by
  unfold State.committedPattern
  split <;> exact ⟨rfl, rfl, rfl⟩

theorem tablesHeld_invariant : RecordInvariant TablesHeld where
  shares hs h := by
    obtain ⟨⟨hpatterns, -, hclasses, hrolls, hlots, -⟩, -⟩ := h
    exact hs.congr hpatterns hclasses hrolls hlots
  panels hs h _ _ := by
    obtain ⟨hpatterns, -, hclasses, hrolls, hlots, -⟩ := h
    exact hs.congr hpatterns hclasses hrolls hlots
  start _ _ _ hu _ := hu.congr rfl rfl rfl rfl
  roll hs hr hfollows := hs.putRoll hr hfollows.1
  lot hs hl hfollows _ := hs.putLot (lot?_mem hl) hfollows.1
  placed hs hl _ hfollows _ := (hs.putLot (lot?_mem hl) hfollows.1).congr rfl rfl rfl rfl
  fed hs hl _ hfollows _ := (hs.putLot (lot?_mem hl) hfollows.1).congr rfl rfl rfl rfl
  noLotSegment hs _ := hs.congr rfl rfl rfl rfl
  completed {_ _ l} hs hl _ := (hs.putLot (x := { l with state := .done }) (lot?_mem hl) rfl).settleCounts
  newPattern hs _ hfirst hlast := ⟨hs.patterns.upsert ⟨hfirst, hlast⟩, hs.classes, hs.rolls, hs.lots⟩
  newClass hs _ hfirst hlast := ⟨hs.patterns, hs.classes.upsert ⟨hfirst, hlast⟩, hs.rolls, hs.lots⟩
  newRoll hs hfree hroom :=
    ⟨hs.patterns, hs.classes, hs.rolls.add (find?_key_eq_none.mp hfree) hroom, hs.lots⟩
  newLot hs hfree hroom :=
    ⟨hs.patterns, hs.classes, hs.rolls, hs.lots.add (find?_key_eq_none.mp hfree) hroom⟩
  committedPattern {s _ q st} hs hq _ := by
    obtain ⟨hclasses, hrolls, hlots⟩ := committedPattern_tables s q st
    exact (hs.putPattern (pattern?_mem hq) (committedRecord_number s q st)).congr (committedPattern_patterns s q st) hclasses hrolls hlots
  committedClass _ hs hc := hs.putClass (class?_mem hc) rfl
  committedRoll {_ _ r st} hs hr _ := (hs.putRoll (x := r.written st) (roll?_mem hr) rfl).settleCounts
  committedLot {_ _ l st} hs hl _ := (hs.putLot (x := l.written st) (lot?_mem hl) rfl).settleCounts
  retiring hs hq _ := hs.putPattern (pattern?_mem hq) rfl
  freedPattern {_ _ q} hs _ _ := (hs.dropRecord .pattern q.number).congr rfl rfl rfl rfl
  freedClass hs _ _ := hs.dropRecord .cls _
  freedRoll n hs := (hs.dropRecord .roll n).settleCounts
  freedLot hs _ _ := (hs.dropRecord .lot _).settleCounts
  neverCommitted hs _ := hs.dropRecord _ _
  lineReset hs := hs.resetRecords.congr rfl rfl rfl rfl
  powerOn _ hrst _ := tablesHeld_reset.congr (by rw [hrst]; rfl) (by rw [hrst]; rfl) (by rw [hrst]; rfl) (by rw [hrst]; rfl)

end Sys2Proof.Machine
end

section
/-! SUPPORT. The reference counts (O10): the names that lots and rolls carry stand in the tables, the counts count them, and the current
segment names a lot that is FEEDING. -/

namespace Sys2Proof.Machine

/-! ### What the law is made of -/

/-- A lot's pattern and class, where it must have them, stand committed in the tables (R26, R38, R80). -/
def Lot.Named (s : State) (l : Lot) : Prop :=
  (l.state = .new → l.pattern = none ∧ l.cls = none) ∧
    (l.state ≠ .new → l.state ≠ .done →
      (∃ q ∈ s.rst.patterns, l.pattern = some q.number ∧ q.state ≠ .edit) ∧
        ∃ c ∈ s.rst.classes, l.cls = some c.number ∧ c.state = .defined)

/-- A roll's class, where it must have one, stands defined in the table (R38, R49). -/
def Roll.Named (s : State) (r : Roll) : Prop :=
  (r.state = .new → r.cls = none) ∧ (r.state ≠ .new → ∃ c ∈ s.rst.classes, r.cls = some c.number ∧ c.state = .defined)

/-- The law of the counts, the counts themselves apart; a roll that is NEW is on no station. -/
structure NamesHeld (s : State) : Prop where
  tables : TablesHeld s
  lots : ∀ l ∈ s.rst.lots, l.Named s
  rolls : ∀ r ∈ s.rst.rolls, r.Named s
  unplaced : ∀ r ∈ s.rst.rolls, r.state = .new → r.station = none

structure CountsHeld (s : State) : Prop where
  names : NamesHeld s
  patternCounts : ∀ q ∈ s.rst.patterns, q.refCount = patternRefs s.rst.lots q.number
  classCounts : ∀ c ∈ s.rst.classes, c.refCount = classRefs s.rst.rolls s.rst.lots c.number

/-- The lot of the current segment is FEEDING (R84). -/
def SegmentFed (s : State) : Prop := ∀ n, s.ltr.segment = .lot n → ∃ l ∈ s.rst.lots, l.number = n ∧ l.state = .feeding

theorem patternRefs_eq_countP (lots : List Lot) (n : Nat) :
    patternRefs lots n = lots.countP fun l => decide (l.state ≠ .done ∧ l.pattern = some n) := by
  refine List.countP_congr fun l _ => ?_
  simp

theorem classRefs_eq_countP (rolls : List Roll) (lots : List Lot) (n : Nat) :
    classRefs rolls lots n =
      (rolls.countP fun r => decide (r.cls = some n)) + lots.countP fun l => decide (l.state ≠ .done ∧ l.cls = some n) := by
  unfold classRefs
  congr 1
  · refine List.countP_congr fun r _ => ?_
    simp
  · refine List.countP_congr fun l _ => ?_
    simp

theorem countLaw_iff (s : State) (hunplaced : ∀ r ∈ s.rst.rolls, r.state = .new → r.station = none) : CountLaw s ↔ CountsHeld s := by
  unfold CountLaw
  simp only [tablesLaw_iff, ← patternRefs_eq_countP, ← classRefs_eq_countP]
  constructor
  · rintro ⟨htables, hpatterns, hclasses, hlots, hrolls⟩
    exact ⟨⟨htables, hlots, hrolls, hunplaced⟩, hpatterns, hclasses⟩
  · rintro ⟨⟨htables, hlots, hrolls, -⟩, hpatterns, hclasses⟩
    exact ⟨htables, hpatterns, hclasses, hlots, hrolls⟩

/-! ### A count is 0 where nothing is named -/

theorem patternRefs_eq_zero {lots : List Lot} {n : Nat} :
    patternRefs lots n = 0 ↔ ∀ l ∈ lots, l.state ≠ .done → l.pattern ≠ some n := by
  simp [patternRefs, List.countP_eq_zero]

theorem classRefs_eq_zero {rolls : List Roll} {lots : List Lot} {n : Nat} :
    classRefs rolls lots n = 0 ↔ (∀ r ∈ rolls, r.cls ≠ some n) ∧ ∀ l ∈ lots, l.state ≠ .done → l.cls ≠ some n := by
  simp [classRefs, List.countP_eq_zero]

/-- What a lot names stays named where every pattern and class that is counted stays. -/
theorem Lot.Named.congr {s t : State} {l : Lot} (h : l.Named s) (hpatterns : ∀ q ∈ s.rst.patterns, q.state ≠ .edit →
      l.state ≠ .done → l.pattern = some q.number → ∃ x ∈ t.rst.patterns, x.number = q.number ∧ x.state ≠ .edit)
    (hclasses : ∀ c ∈ s.rst.classes, c.state = .defined → l.state ≠ .done → l.cls = some c.number →
      ∃ x ∈ t.rst.classes, x.number = c.number ∧ x.state = .defined) : l.Named t := by
  obtain ⟨hnew, hnamed⟩ := h
  refine ⟨hnew, fun hstate hdone => ?_⟩
  obtain ⟨⟨q, hq, hpattern, hedit⟩, c, hc, hcls, hdefined⟩ := hnamed hstate hdone
  obtain ⟨x, hx, hxq, hxstate⟩ := hpatterns q hq hedit hdone hpattern
  obtain ⟨y, hy, hyc, hystate⟩ := hclasses c hc hdefined hdone hcls
  exact ⟨⟨x, hx, hxq ▸ hpattern, hxstate⟩, y, hy, hyc ▸ hcls, hystate⟩

theorem Roll.Named.congr {s t : State} {r : Roll} (h : r.Named s) (hclasses : ∀ c ∈ s.rst.classes, c.state = .defined →
      r.cls = some c.number → ∃ x ∈ t.rst.classes, x.number = c.number ∧ x.state = .defined) : r.Named t := by
  obtain ⟨hnew, hnamed⟩ := h
  refine ⟨hnew, fun hstate => ?_⟩
  obtain ⟨c, hc, hcls, hdefined⟩ := hnamed hstate
  obtain ⟨y, hy, hyc, hystate⟩ := hclasses c hc hdefined hcls
  exact ⟨y, hy, hyc ▸ hcls, hystate⟩

theorem Lot.Named.of_tables {s t : State} {l : Lot} (h : l.Named s) (hpatterns : t.rst.patterns = s.rst.patterns)
    (hclasses : t.rst.classes = s.rst.classes) : l.Named t := by
  unfold Lot.Named
  rw [hpatterns, hclasses]
  exact h

theorem Roll.Named.of_tables {s t : State} {r : Roll} (h : r.Named s) (hclasses : t.rst.classes = s.rst.classes) : r.Named t := by
  unfold Roll.Named
  rw [hclasses]
  exact h

theorem NamesHeld.patternRefs_of_absent {s : State} (h : NamesHeld s) {n : Nat}
    (hfree : ∀ q ∈ s.rst.patterns, q.state ≠ .edit → q.number ≠ n) :
    patternRefs s.rst.lots n = 0 := by
  refine patternRefs_eq_zero.mpr fun l hl hdone hpattern => ?_
  obtain ⟨hnew, hnamed⟩ := h.lots l hl
  by_cases hstate : l.state = .new
  · rw [(hnew hstate).1] at hpattern
    cases hpattern
  · obtain ⟨⟨q, hq, hqpattern, hedit⟩, -⟩ := hnamed hstate hdone
    rw [hqpattern] at hpattern
    exact hfree q hq hedit (Option.some.inj hpattern)

theorem NamesHeld.classRefs_of_absent {s : State} (h : NamesHeld s) {n : Nat}
    (hfree : ∀ c ∈ s.rst.classes, c.state = .defined → c.number ≠ n) : classRefs s.rst.rolls s.rst.lots n = 0 := by
  refine classRefs_eq_zero.mpr ⟨fun r hr hcls => ?_, fun l hl hdone hcls => ?_⟩
  · obtain ⟨hnew, hnamed⟩ := h.rolls r hr
    by_cases hstate : r.state = .new
    · rw [hnew hstate] at hcls
      cases hcls
    · obtain ⟨c, hc, hccls, hdefined⟩ := hnamed hstate
      rw [hccls] at hcls
      exact hfree c hc hdefined (Option.some.inj hcls)
  · obtain ⟨hnew, hnamed⟩ := h.lots l hl
    by_cases hstate : l.state = .new
    · rw [(hnew hstate).2] at hcls
      cases hcls
    · obtain ⟨-, c, hc, hccls, hdefined⟩ := hnamed hstate hdone
      rw [hccls] at hcls
      exact hfree c hc hdefined (Option.some.inj hcls)

/-! ### Moves of one table -/

theorem CountsHeld.congr {s t : State} (h : CountsHeld s) (hpatterns : t.rst.patterns = s.rst.patterns)
    (hclasses : t.rst.classes = s.rst.classes) (hrolls : t.rst.rolls = s.rst.rolls) (hlots : t.rst.lots = s.rst.lots) : CountsHeld t := by
  obtain ⟨⟨htables, hnamed, hrollsNamed, hunplaced⟩, hcounts, hclassCounts⟩ := h
  refine ⟨⟨htables.congr hpatterns hclasses hrolls hlots, ?_, ?_, hrolls ▸ hunplaced⟩, ?_, ?_⟩
  · rw [hlots]
    exact fun l hl => (hnamed l hl).of_tables hpatterns hclasses
  · rw [hrolls]
    exact fun r hr => (hrollsNamed r hr).of_tables hclasses
  · rwa [hpatterns, hlots]
  · rwa [hclasses, hrolls, hlots]

/-- The patterns change: each is counted, and one that a lot names stays. -/
theorem CountsHeld.patterns {s t : State} (h : CountsHeld s) (htables : TablesHeld t) (hclasses : t.rst.classes = s.rst.classes)
    (hrolls : t.rst.rolls = s.rst.rolls) (hlots : t.rst.lots = s.rst.lots)
    (hcounts : ∀ q ∈ t.rst.patterns, q.refCount = patternRefs s.rst.lots q.number)
    (hstays : ∀ q ∈ s.rst.patterns, q.state ≠ .edit → patternRefs s.rst.lots q.number ≠ 0 →
      ∃ x ∈ t.rst.patterns, x.number = q.number ∧ x.state ≠ .edit) : CountsHeld t := by
  refine ⟨⟨htables, ?_, ?_, hrolls ▸ h.names.unplaced⟩, ?_, ?_⟩
  · rw [hlots]
    exact fun l hl => (h.names.lots l hl).congr
      (fun q hq hedit hdone hpattern => hstays q hq hedit (patternRefs_ne_zero hl hdone hpattern))
      fun c hc hdefined _ _ => ⟨c, hclasses ▸ hc, rfl, hdefined⟩
  · rw [hrolls]
    exact fun r hr => (h.names.rolls r hr).of_tables hclasses
  · rwa [hlots]
  · rw [hclasses, hrolls, hlots]
    exact h.classCounts

/-- The classes change: each is counted, and one that a roll or a lot names stays. -/
theorem CountsHeld.classes {s t : State} (h : CountsHeld s) (htables : TablesHeld t) (hpatterns : t.rst.patterns = s.rst.patterns)
    (hrolls : t.rst.rolls = s.rst.rolls) (hlots : t.rst.lots = s.rst.lots)
    (hcounts : ∀ c ∈ t.rst.classes, c.refCount = classRefs s.rst.rolls s.rst.lots c.number)
    (hstays : ∀ c ∈ s.rst.classes, c.state = .defined → classRefs s.rst.rolls s.rst.lots c.number ≠ 0 →
      ∃ x ∈ t.rst.classes, x.number = c.number ∧ x.state = .defined) : CountsHeld t := by
  refine ⟨⟨htables, ?_, ?_, hrolls ▸ h.names.unplaced⟩, ?_, ?_⟩
  · rw [hlots]
    refine fun l hl => (h.names.lots l hl).congr (fun q hq hedit _ _ => ⟨q, hpatterns ▸ hq, rfl, hedit⟩) fun c hc hdefined hdone hcls => ?_
    exact hstays c hc hdefined fun hzero => (classRefs_eq_zero.mp hzero).2 l hl hdone hcls
  · rw [hrolls]
    refine fun r hr => (h.names.rolls r hr).congr fun c hc hdefined hcls => ?_
    exact hstays c hc hdefined fun hzero => (classRefs_eq_zero.mp hzero).1 r hr hcls
  · rw [hpatterns, hlots]
    exact h.patternCounts
  · rwa [hrolls, hlots]

/-- The rolls and the lots change, and no count does. -/
theorem CountsHeld.of_refs {s t : State} (h : CountsHeld s) (hnames : NamesHeld t) (hpatterns : t.rst.patterns = s.rst.patterns)
    (hclasses : t.rst.classes = s.rst.classes) (hpatternRefs : ∀ n, patternRefs t.rst.lots n = patternRefs s.rst.lots n)
    (hclassRefs : ∀ n, classRefs t.rst.rolls t.rst.lots n = classRefs s.rst.rolls s.rst.lots n) : CountsHeld t := by
  refine ⟨hnames, fun q hq => ?_, fun c hc => ?_⟩
  · rw [hpatternRefs]
    exact h.patternCounts q (hpatterns ▸ hq)
  · rw [hclassRefs]
    exact h.classCounts c (hclasses ▸ hc)

theorem NamesHeld.putRoll {s : State} (h : NamesHeld s) {x : Roll} (htables : TablesHeld (s.putRoll x)) (hnamed : x.Named s)
    (hunplaced : x.state = .new → x.station = none) : NamesHeld (s.putRoll x) := by
  refine ⟨htables, h.lots, fun r hr => ?_, fun r hr => ?_⟩
  · rcases mem_upsert _ _ _ _ hr with rfl | hr
    · exact hnamed
    · exact h.rolls r hr
  · rcases mem_upsert _ _ _ _ hr with rfl | hr
    · exact hunplaced
    · exact h.unplaced r hr

theorem NamesHeld.putLot {s : State} (h : NamesHeld s) {x : Lot} (htables : TablesHeld (s.putLot x)) (hnamed : x.Named s) :
    NamesHeld (s.putLot x) := by
  refine ⟨htables, fun l hl => ?_, h.rolls, h.unplaced⟩
  rcases mem_upsert _ _ _ _ hl with rfl | hl
  · exact hnamed
  · exact h.lots l hl

theorem NamesHeld.dropRoll {s : State} (h : NamesHeld s) (n : Nat) : NamesHeld (s.dropRecord .roll n) :=
  ⟨h.tables.dropRecord .roll n, h.lots, fun r hr => h.rolls r (mem_dropKey.mp hr).1, fun r hr => h.unplaced r (mem_dropKey.mp hr).1⟩

theorem NamesHeld.dropLot {s : State} (h : NamesHeld s) (n : Nat) : NamesHeld (s.dropRecord .lot n) :=
  ⟨h.tables.dropRecord .lot n, fun l hl => h.lots l (mem_dropKey.mp hl).1, h.rolls, h.unplaced⟩

/-! ### Counts settled (R26, R30, R38) -/

/-- Recounted, with the patterns freed that are RETIRING and no more named, the counts hold. -/
theorem NamesHeld.recount_freeRetired {s : State} (h : NamesHeld s) : CountsHeld s.recount.freeRetired := by
  have hcounted : CountsHeld s.recount := by
    refine ⟨⟨h.tables.recount, fun l hl => ?_, fun r hr => ?_, h.unplaced⟩, fun q hq => ?_, fun c hc => ?_⟩
    · exact (h.lots l hl).congr (fun q hq hedit _ _ => ⟨_, List.mem_map_of_mem hq, rfl, hedit⟩)
        fun c hc hdefined _ _ => ⟨_, List.mem_map_of_mem hc, rfl, hdefined⟩
    · exact (h.rolls r hr).congr fun c hc hdefined _ => ⟨_, List.mem_map_of_mem hc, rfl, hdefined⟩
    · obtain ⟨x, -, rfl⟩ := List.mem_map.mp hq
      rfl
    · obtain ⟨x, -, rfl⟩ := List.mem_map.mp hc
      rfl
  refine hcounted.patterns hcounted.names.tables.freeRetired rfl rfl rfl (fun q hq => hcounted.patternCounts q (List.mem_filter.mp hq).1)
    fun q hq hedit hnamed => ⟨q, List.mem_filter.mpr ⟨hq, ?_⟩, rfl, hedit⟩
  rw [← hcounted.patternCounts q hq] at hnamed
  simp [Pattern.spentRetiring, hnamed]

theorem NamesHeld.settleCounts {s : State} (h : NamesHeld s) : CountsHeld s.settleCounts :=
  h.recount_freeRetired.congr (by simp [State.settleCounts]) (by simp [State.settleCounts]) (by simp [State.settleCounts])
    (by simp [State.settleCounts])

/-! ### Patterns and classes put and dropped -/

theorem CountsHeld.putPattern {s : State} (h : CountsHeld s) {q x : Pattern} (hq : q ∈ s.rst.patterns) (hnumber : x.number = q.number)
    (hcount : x.refCount = q.refCount) (hstate : x.state ≠ .edit) : CountsHeld (s.putPattern x) := by
  have hmem : ∀ {z}, z ∈ (s.putPattern x).rst.patterns ↔ z = x ∨ (z ∈ s.rst.patterns ∧ z.number ≠ x.number) :=
    mem_upsert_iff h.names.tables.patterns.1
  refine h.patterns (h.names.tables.putPattern hq hnumber) rfl rfl rfl (fun z hz => ?_) fun z hz hedit _ => ?_
  · rcases hmem.mp hz with rfl | ⟨hz, -⟩
    · rw [hcount, hnumber]
      exact h.patternCounts q hq
    · exact h.patternCounts z hz
  · by_cases hzx : z.number = x.number
    · exact ⟨x, hmem.mpr (Or.inl rfl), hzx.symm, hstate⟩
    · exact ⟨z, hmem.mpr (Or.inr ⟨hz, hzx⟩), rfl, hedit⟩

theorem CountsHeld.putClass {s : State} (h : CountsHeld s) {c x : FabricClass} (hc : c ∈ s.rst.classes) (hnumber : x.number = c.number)
    (hcount : x.refCount = c.refCount) (hstate : x.state = .defined) : CountsHeld (s.putClass x) := by
  have hmem : ∀ {z}, z ∈ (s.putClass x).rst.classes ↔ z = x ∨ (z ∈ s.rst.classes ∧ z.number ≠ x.number) :=
    mem_upsert_iff h.names.tables.classes.1
  refine h.classes (h.names.tables.putClass hc hnumber) rfl rfl rfl (fun z hz => ?_) fun z hz hdefined _ => ?_
  · rcases hmem.mp hz with rfl | ⟨hz, -⟩
    · rw [hcount, hnumber]
      exact h.classCounts c hc
    · exact h.classCounts z hz
  · by_cases hzx : z.number = x.number
    · exact ⟨x, hmem.mpr (Or.inl rfl), hzx.symm, hstate⟩
    · exact ⟨z, hmem.mpr (Or.inr ⟨hz, hzx⟩), rfl, hdefined⟩

theorem CountsHeld.newPattern {s : State} (h : CountsHeld s) {n : Nat} (hfree : s.pattern? n = none)
    (htables : TablesHeld (s.putPattern (Pattern.created n))) : CountsHeld (s.putPattern (Pattern.created n)) := by
  have hothers : ∀ q ∈ s.rst.patterns, q.number ≠ n := find?_key_eq_none.mp hfree
  refine h.patterns htables rfl rfl rfl (fun z hz => ?_) fun z hz hedit _ => ?_
  · rcases mem_upsert _ _ _ _ hz with rfl | hz
    · exact (h.names.patternRefs_of_absent fun q hq _ => hothers q hq).symm
    · exact h.patternCounts z hz
  · exact ⟨z, (mem_upsert_iff h.names.tables.patterns.1).mpr (Or.inr ⟨hz, hothers z hz⟩), rfl, hedit⟩

theorem CountsHeld.newClass {s : State} (h : CountsHeld s) {n : Nat} (hfree : s.class? n = none)
    (htables : TablesHeld (s.putClass (FabricClass.created n))) : CountsHeld (s.putClass (FabricClass.created n)) := by
  have hothers : ∀ c ∈ s.rst.classes, c.number ≠ n := find?_key_eq_none.mp hfree
  refine h.classes htables rfl rfl rfl (fun z hz => ?_) fun z hz hdefined _ => ?_
  · rcases mem_upsert _ _ _ _ hz with rfl | hz
    · exact (h.names.classRefs_of_absent fun c hc _ => hothers c hc).symm
    · exact h.classCounts z hz
  · exact ⟨z, (mem_upsert_iff h.names.tables.classes.1).mpr (Or.inr ⟨hz, hothers z hz⟩), rfl, hdefined⟩

theorem CountsHeld.dropPattern {s : State} (h : CountsHeld s) {n : Nat}
    (hunnamed : ∀ q ∈ s.rst.patterns, q.number = n → q.state = .edit ∨ q.refCount = 0) : CountsHeld (s.dropRecord .pattern n) := by
  refine h.patterns (h.names.tables.dropRecord .pattern n) rfl rfl rfl (fun q hq => h.patternCounts q (mem_dropKey.mp hq).1)
    fun q hq hedit hnamed => ⟨q, mem_dropKey.mpr ⟨hq, fun hkey => ?_⟩, rfl, hedit⟩
  rcases hunnamed q hq hkey with hstate | hcount
  · exact hedit hstate
  · exact hnamed (h.patternCounts q hq ▸ hcount)

theorem CountsHeld.dropClass {s : State} (h : CountsHeld s) {n : Nat}
    (hunnamed : ∀ c ∈ s.rst.classes, c.number = n → c.state = .new ∨ c.refCount = 0) : CountsHeld (s.dropRecord .cls n) := by
  refine h.classes (h.names.tables.dropRecord .cls n) rfl rfl rfl (fun c hc => h.classCounts c (mem_dropKey.mp hc).1)
    fun c hc hdefined hnamed => ⟨c, mem_dropKey.mpr ⟨hc, fun hkey => ?_⟩, rfl, hdefined⟩
  rcases hunnamed c hc hkey with hstate | hcount
  · rw [hstate] at hdefined
    cases hdefined
  · exact hnamed (h.classCounts c hc ▸ hcount)

/-! ### Rolls put and dropped -/

theorem Roll.Follows.named {s : State} {r x : Roll} (h : r.Follows x) (hnamed : r.Named s) (hunplaced : r.state = .new → r.station = none) :
    x.Named s ∧ (x.state = .new → x.station = none) := by
  obtain ⟨-, hcls, hstay⟩ := h
  obtain ⟨hnew, hclass⟩ := hnamed
  rcases hstay with ⟨hstate, hstation⟩ | ⟨hcommitted, hwas⟩
  · refine ⟨⟨?_, ?_⟩, ?_⟩
    · rwa [hcls, hstate]
    · rwa [hcls, hstate]
    · rwa [hstate, hstation]
  · have hold : r.state ≠ .new := hwas.elim id fun hplaced hstate => hplaced (hunplaced hstate)
    refine ⟨⟨fun hstate => absurd hstate hcommitted, fun _ => ?_⟩, fun hstate => absurd hstate hcommitted⟩
    rw [hcls]
    exact hclass hold

theorem CountsHeld.putRoll {s : State} (h : CountsHeld s) {r x : Roll} (hr : r ∈ s.rst.rolls) (hfollows : r.Follows x) :
    CountsHeld (s.putRoll x) := by
  obtain ⟨hnamed, hunplaced⟩ := hfollows.named (h.names.rolls r hr) (h.names.unplaced r hr)
  obtain ⟨htag, hcls, -⟩ := hfollows
  refine h.of_refs (h.names.putRoll (h.names.tables.putRoll hr htag) hnamed hunplaced) rfl rfl (fun _ => rfl) fun n => ?_
  refine congrArg (· + _) (countP_upsert h.names.tables.rolls.1 hr htag ?_)
  simp only [hcls]

theorem CountsHeld.newRoll {s : State} (h : CountsHeld s) {n : Nat} (hfree : s.roll? n = none)
    (htables : TablesHeld (s.putRoll (Roll.created n))) : CountsHeld (s.putRoll (Roll.created n)) := by
  have hnamed : (Roll.created n).Named s := ⟨fun _ => rfl, fun hstate => absurd rfl hstate⟩
  refine h.of_refs (h.names.putRoll htables hnamed fun _ => rfl) rfl rfl (fun _ => rfl) fun m => ?_
  have hperm := upsert_perm (key := Roll.tag) (x := Roll.created n) (find?_key_eq_none.mp hfree)
  refine congrArg (· + _) ((hperm.countP_eq _).trans ?_)
  exact List.countP_cons_of_neg (by simp [Roll.created])

theorem CountsHeld.dropNewRoll {s : State} (h : CountsHeld s) {n : Nat} (hnew : ∀ r ∈ s.rst.rolls, r.tag = n → r.state = .new) :
    CountsHeld (s.dropRecord .roll n) := by
  refine h.of_refs (h.names.dropRoll n) rfl rfl (fun _ => rfl) fun m => congrArg (· + _) (countP_dropKey fun r hr hkey => ?_)
  have hcls : r.cls = none := (h.names.rolls r hr).1 (hnew r hr hkey)
  simp [hcls]

/-! ### Lots put and dropped -/

theorem CountsHeld.putLot {s : State} (h : CountsHeld s) {l x : Lot} (hl : l ∈ s.rst.lots) (hfollows : l.Follows x) (hnamed : x.Named s)
    (hdone : x.state = .done ↔ l.state = .done) : CountsHeld (s.putLot x) := by
  obtain ⟨hnumber, hpattern, hcls⟩ := hfollows
  have hcounted : (x.state != .done) = (l.state != .done) := by
    rw [Bool.eq_iff_iff]
    simp [hdone]
  refine h.of_refs (h.names.putLot (h.names.tables.putLot hl hnumber) hnamed) rfl rfl (fun n => ?_) fun n => ?_
  · refine countP_upsert h.names.tables.lots.1 hl hnumber ?_
    simp only [hcounted, hpattern]
  · refine congrArg (_ + ·) (countP_upsert h.names.tables.lots.1 hl hnumber ?_)
    simp only [hcounted, hcls]

theorem CountsHeld.newLot {s : State} (h : CountsHeld s) {n : Nat} (hfree : s.lot? n = none)
    (htables : TablesHeld (s.putLot (Lot.created n))) : CountsHeld (s.putLot (Lot.created n)) := by
  have hnamed : (Lot.created n).Named s := ⟨fun _ => ⟨rfl, rfl⟩, fun hstate => absurd rfl hstate⟩
  have hperm := upsert_perm (x := Lot.created n) (find?_key_eq_none.mp hfree)
  refine h.of_refs (h.names.putLot htables hnamed) rfl rfl (fun m => ?_) fun m => ?_
  · exact (hperm.countP_eq _).trans (List.countP_cons_of_neg (by simp [Lot.created]))
  · exact congrArg (_ + ·) ((hperm.countP_eq _).trans (List.countP_cons_of_neg (by simp [Lot.created])))

theorem CountsHeld.dropNewLot {s : State} (h : CountsHeld s) {n : Nat} (hnew : ∀ l ∈ s.rst.lots, l.number = n → l.state = .new) :
    CountsHeld (s.dropRecord .lot n) := by
  have hnone : ∀ l ∈ s.rst.lots, l.number = n → l.pattern = none ∧ l.cls = none := fun l hl hkey => (h.names.lots l hl).1 (hnew l hl hkey)
  refine h.of_refs (h.names.dropLot n) rfl rfl (fun m => countP_dropKey fun l hl hkey => ?_)
    fun m => congrArg (_ + ·) (countP_dropKey fun l hl hkey => ?_)
  · simp [(hnone l hl hkey).1]
  · simp [(hnone l hl hkey).2]

/-! ### Commits of rolls and lots (R49, R80) -/

theorem firstRefusal_eq_none {checks : List (Bool × Reply)} : firstRefusal checks = none ↔ ∀ e ∈ checks, e.1 = false := by
  induction checks with
  | nil => simp [firstRefusal]
  | cons e checks ih =>
    obtain ⟨c, r⟩ := e
    cases c <;> simp [firstRefusal, ih]

/-- A class that is found defined stands so in the table. -/
theorem definedClass?_mem {s : State} {n : Nat} {c : FabricClass} (h : s.definedClass? n = some c) :
    c ∈ s.rst.classes ∧ c.number = n ∧ c.state = .defined := by
  obtain ⟨hc, hdefined⟩ := Option.filter_eq_some_iff.mp h
  exact ⟨class?_mem hc, class?_number hc, by simpa using hdefined⟩

theorem patternReady_mem {s : State} {n : Nat} (h : s.patternReady n = true) :
    ∃ q ∈ s.rst.patterns, q.number = n ∧ q.state = .ready := by
  obtain ⟨q, hq, hstate⟩ := (Option.any_eq_true _ _).mp h
  exact ⟨q, pattern?_mem hq, pattern?_number hq, by simpa using hstate⟩

theorem Roll.written_state_ne_new (r : Roll) (st : RollStage) : (r.written st).state ≠ .new := by
  unfold Roll.written
  dsimp only
  split
  · exact fun h => by cases h
  · assumption

/-- A roll whose commit is not refused has a defined class in view (R49). -/
theorem Roll.named_written {s : State} {r : Roll} {st : RollStage} (hrefusal : s.rollRefusal r st = none) : (r.written st).Named s := by
  refine ⟨fun hstate => absurd hstate (r.written_state_ne_new st), fun _ => ?_⟩
  simp only [State.rollRefusal, firstRefusal_eq_none, List.forall_mem_cons] at hrefusal
  obtain ⟨-, -, -, -, hclass, -⟩ := hrefusal
  obtain ⟨c, hc⟩ := Option.isSome_iff_exists.mp (Option.isNone_eq_false_iff.mp hclass)
  obtain ⟨n, hview, hdefined⟩ := Option.bind_eq_some_iff.mp hc
  obtain ⟨hmem, hnumber, hstate⟩ := definedClass?_mem hdefined
  exact ⟨c, hmem, hnumber ▸ hview, hstate⟩

theorem Lot.written_state (l : Lot) (st : LotStage) : (l.written st).state = if l.state = .new then .queued else l.state := rfl

/-- A lot whose commit is not refused has a committed pattern and a defined class in view (R80). -/
theorem Lot.named_written {s : State} {l : Lot} {st : LotStage} (h : l.Named s) (hrefusal : s.lotRefusal l st = none) :
    (l.written st).Named s := by
  simp only [State.lotRefusal, firstRefusal_eq_none, List.forall_mem_cons] at hrefusal
  obtain ⟨-, hpattern, hcls, -, hstagedPattern, hstagedCls, -⟩ := hrefusal
  obtain ⟨hnew, hnamed⟩ := h
  have hstill : (l.written st).state ≠ .done → l.state ≠ .new → l.state ≠ .done := fun hdone hstate hwas => by
    rw [l.written_state, if_neg hstate] at hdone
    exact hdone hwas
  refine ⟨fun hstate => ?_, fun _ hdone => ⟨?_, ?_⟩⟩
  · rw [l.written_state] at hstate
    split at hstate
    · cases hstate
    · contradiction
  · show ∃ q ∈ s.rst.patterns, inView st.pattern l.pattern = some q.number ∧ _
    cases hst : st.pattern with
    | some n =>
      rw [hst] at hstagedPattern
      obtain ⟨q, hq, hnumber, hready⟩ := patternReady_mem (s := s) (n := n) (by simpa using hstagedPattern)
      exact ⟨q, hq, hnumber ▸ rfl, by simp [hready]⟩
    | none =>
      have hstate : l.state ≠ .new := fun hstate => by simp [inView, hst, (hnew hstate).1] at hpattern
      exact (hnamed hstate (hstill hdone hstate)).1
  · show ∃ c ∈ s.rst.classes, inView st.cls l.cls = some c.number ∧ _
    cases hst : st.cls with
    | some n =>
      rw [hst] at hstagedCls
      obtain ⟨c, hc⟩ := Option.isSome_iff_exists.mp (Option.isNone_eq_false_iff.mp hstagedCls)
      obtain ⟨hmem, hnumber, hdefined⟩ := definedClass?_mem hc
      exact ⟨c, hmem, hnumber ▸ rfl, hdefined⟩
    | none =>
      have hstate : l.state ≠ .new := fun hstate => by simp [inView, hst, (hnew hstate).2] at hcls
      exact (hnamed hstate (hstill hdone hstate)).2

/-! ### The current segment -/

theorem SegmentFed.congr {s t : State} (h : SegmentFed s) (hlots : t.rst.lots = s.rst.lots) (hsegment : t.ltr.segment = s.ltr.segment) :
    SegmentFed t := by
  unfold SegmentFed
  rw [hlots, hsegment]
  exact h

theorem SegmentFed.of_no_lot {s : State} (h : ∀ n, s.ltr.segment ≠ .lot n) : SegmentFed s := fun n hn => absurd hn (h n)

theorem SegmentFed.putLot {s : State} (h : SegmentFed s) (hrising : risingKeys (s.rst.lots.map (·.number))) {x : Lot}
    (hx : ∀ l ∈ s.rst.lots, l.number = x.number → l.state = .feeding → x.state = .feeding) : SegmentFed (s.putLot x) := fun n hn => by
  obtain ⟨l, hl, hnumber, hfeeding⟩ := h n hn
  by_cases hkey : l.number = x.number
  · exact ⟨x, (mem_upsert_iff hrising).mpr (Or.inl rfl), hkey ▸ hnumber, hx l hl hkey hfeeding⟩
  · exact ⟨l, (mem_upsert_iff hrising).mpr (Or.inr ⟨hl, hkey⟩), hnumber, hfeeding⟩

theorem SegmentFed.dropLot {s : State} (h : SegmentFed s) {n : Nat} (hidle : ∀ l ∈ s.rst.lots, l.number = n → l.state ≠ .feeding) :
    SegmentFed (s.dropRecord .lot n) := fun m hm => by
  obtain ⟨l, hl, hnumber, hfeeding⟩ := h m hm
  exact ⟨l, mem_dropKey.mpr ⟨hl, fun hkey => hidle l hl hkey hfeeding⟩, hnumber, hfeeding⟩

end Sys2Proof.Machine
end

section
/-! The reference counts (O10): the law of the tables and that of the counts survive every move of the records. -/

namespace Sys2Proof.Machine

/-- The counts hold, and the current segment's lot is FEEDING. -/
structure CountInvariant (s : State) : Prop where
  counts : CountsHeld s
  segment : SegmentFed s

theorem CountInvariant.congr {s t : State} (h : CountInvariant s) (ht : SharesBesidesPanels s t) : CountInvariant t := by
  obtain ⟨hpatterns, -, hclasses, hrolls, hlots, hsegment⟩ := ht
  exact ⟨h.counts.congr hpatterns hclasses hrolls hlots, h.segment.congr hlots hsegment⟩

theorem CountInvariant.tables {s : State} (h : CountInvariant s) : TablesHeld s := h.counts.names.tables

/-- The only lot of a number is the one found by it. -/
theorem TablesHeld.lot_unique {s : State} (h : TablesHeld s) {n : Nat} {l m : Lot} (hl : s.lot? n = some l) (hm : m ∈ s.rst.lots)
    (hnumber : m.number = n) : m = l :=
  risingKeys_injective h.lots.1 hm (lot?_mem hl) (hnumber.trans (lot?_number hl).symm)

theorem TablesHeld.roll_unique {s : State} (h : TablesHeld s) {n : Nat} {r m : Roll} (hr : s.roll? n = some r) (hm : m ∈ s.rst.rolls)
    (htag : m.tag = n) : m = r :=
  risingKeys_injective h.rolls.1 hm (roll?_mem hr) (htag.trans (roll?_tag hr).symm)

/-- A lot of the same names in a state between NEW and DONE stays named. -/
theorem Lot.Named.follows {s : State} {l x : Lot} (h : l.Named s) (hfollows : l.Follows x) (hwas : l.state ≠ .new) (hnew : x.state ≠ .new)
    (hdone : x.state ≠ .done → l.state ≠ .done) : x.Named s := by
  obtain ⟨-, hpattern, hcls⟩ := hfollows
  obtain ⟨-, hnamed⟩ := h
  refine ⟨fun hstate => absurd hstate hnew, fun _ hstate => ?_⟩
  rw [hpattern, hcls]
  exact hnamed hwas (hdone hstate)

theorem CountInvariant.lot {s : State} (h : CountInvariant s) {n : Nat} {l x : Lot} (hl : s.lot? n = some l) (hfollows : l.Follows x)
    (hstate : x.state = l.state) : CountInvariant (s.putLot x) := by
  have hnamed : x.Named s := by
    have hnamed := h.counts.names.lots l (lot?_mem hl)
    unfold Lot.Named
    rw [hstate, hfollows.2.1, hfollows.2.2]
    exact hnamed
  refine ⟨h.counts.putLot (lot?_mem hl) hfollows hnamed (by rw [hstate]), h.segment.putLot h.tables.lots.1 fun m hm hnumber hfeeding => ?_⟩
  rw [hstate, ← risingKeys_injective h.tables.lots.1 hm (lot?_mem hl) (hnumber.trans hfollows.1)]
  exact hfeeding

theorem CountInvariant.placed {s : State} (h : CountInvariant s) {n : Nat} {l x : Lot} (hl : s.lot? n = some l) (hqueued : l.state = .queued)
    (hfollows : l.Follows x) (hstate : x.state = .feeding) : CountInvariant ((s.putLot x).setSegment (.lot n)) := by
  have hnamed : x.Named s := (h.counts.names.lots l (lot?_mem hl)).follows hfollows (by simp [hqueued]) (by simp [hstate]) (by simp [hqueued])
  have hcounts := h.counts.putLot (lot?_mem hl) hfollows hnamed (by simp [hqueued, hstate])
  refine ⟨hcounts.congr rfl rfl rfl rfl, fun m hm => ?_⟩
  obtain rfl : n = m := by simpa [State.setSegment] using hm
  exact ⟨x, (mem_upsert_iff h.tables.lots.1).mpr (Or.inl rfl), hfollows.1.trans (lot?_number hl), hstate⟩

theorem CountInvariant.fed {s : State} (h : CountInvariant s) {n : Nat} {l x : Lot} (hl : s.lot? n = some l)
    (hfeeding : l.state = .feeding ∨ s.ltr.segment = .lot n) (hfollows : l.Follows x) (hstate : x.state = .fed) :
    CountInvariant ((s.putLot x).setSegment .none) := by
  have hwas : l.state = .feeding := by
    rcases hfeeding with hwas | hsegment
    · exact hwas
    · obtain ⟨m, hm, hnumber, hwas⟩ := h.segment n hsegment
      rwa [h.tables.lot_unique hl hm hnumber] at hwas
  have hnamed : x.Named s := (h.counts.names.lots l (lot?_mem hl)).follows hfollows (by simp [hwas]) (by simp [hstate]) (by simp [hwas])
  have hcounts := h.counts.putLot (lot?_mem hl) hfollows hnamed (by simp [hwas, hstate])
  exact ⟨hcounts.congr rfl rfl rfl rfl, SegmentFed.of_no_lot fun m hm => by simp [State.setSegment] at hm⟩

theorem CountInvariant.settle {s : State} (hnames : NamesHeld s) (hsegment : SegmentFed s) : CountInvariant s.settleCounts :=
  ⟨hnames.settleCounts, hsegment.congr (by simp [State.settleCounts]) (by simp [State.settleCounts])⟩

theorem CountInvariant.completed {s : State} (h : CountInvariant s) {n : Nat} {l : Lot} (hl : s.lot? n = some l) (hfed : l.state = .fed) :
    CountInvariant (s.putLot { l with state := .done }).settleCounts := by
  have hnamed : Lot.Named s { l with state := .done } := ⟨fun hstate => (nomatch hstate), fun _ hdone => absurd rfl hdone⟩
  refine CountInvariant.settle (h.counts.names.putLot (h.tables.putLot (lot?_mem hl) rfl) hnamed) ?_
  refine h.segment.putLot h.tables.lots.1 fun m hm hnumber hfeeding => ?_
  rw [risingKeys_injective h.tables.lots.1 hm (lot?_mem hl) hnumber, hfed] at hfeeding
  cases hfeeding

theorem CountInvariant.committedLot {s : State} (h : CountInvariant s) {n : Nat} {l : Lot} {st : LotStage} (hl : s.lot? n = some l)
    (hrefusal : s.lotRefusal l st = none) : CountInvariant (s.putLot (l.written st)).settleCounts := by
  have hnamed := Lot.named_written (h.counts.names.lots l (lot?_mem hl)) hrefusal
  refine CountInvariant.settle (h.counts.names.putLot (h.tables.putLot (lot?_mem hl) rfl) hnamed) ?_
  refine h.segment.putLot h.tables.lots.1 fun m hm hnumber hfeeding => ?_
  rw [risingKeys_injective h.tables.lots.1 hm (lot?_mem hl) hnumber] at hfeeding
  rw [l.written_state, hfeeding]
  rfl

theorem CountInvariant.committedRoll {s : State} (h : CountInvariant s) {n : Nat} {r : Roll} {st : RollStage} (hr : s.roll? n = some r)
    (hrefusal : s.rollRefusal r st = none) : CountInvariant (s.putRoll (r.written st)).settleCounts := by
  refine CountInvariant.settle ?_ (h.segment.congr rfl rfl)
  exact h.counts.names.putRoll (h.tables.putRoll (roll?_mem hr) rfl) (Roll.named_written hrefusal)
    fun hstate => absurd hstate (r.written_state_ne_new st)

theorem CountInvariant.freedLot {s : State} (h : CountInvariant s) {n : Nat} {l : Lot} (hl : s.lot? n = some l)
    (hstate : l.state = .queued ∨ l.state = .done) : CountInvariant (s.dropRecord .lot n).settleCounts := by
  refine CountInvariant.settle (h.counts.names.dropLot n) (h.segment.dropLot fun m hm hnumber hfeeding => ?_)
  rw [h.tables.lot_unique hl hm hnumber] at hfeeding
  rcases hstate with hstate | hstate <;> rw [hstate] at hfeeding <;> cases hfeeding

theorem CountInvariant.neverCommitted {s : State} (h : CountInvariant s) {t : Table} {n : Nat} (hnew : s.neverCommitted t n = true) :
    CountInvariant (s.dropRecord t n) := by
  cases t with
  | pattern =>
    obtain ⟨q, hq, hstate⟩ := (Option.any_eq_true _ _).mp hnew
    refine ⟨h.counts.dropPattern fun x hx hkey => Or.inl ?_, h.segment.congr rfl rfl⟩
    rw [risingKeys_injective h.tables.patterns.1 hx (pattern?_mem hq) (hkey.trans (pattern?_number hq).symm)]
    simpa using hstate
  | cls =>
    obtain ⟨c, hc, hstate⟩ := (Option.any_eq_true _ _).mp hnew
    refine ⟨h.counts.dropClass fun x hx hkey => Or.inl ?_, h.segment.congr rfl rfl⟩
    rw [risingKeys_injective h.tables.classes.1 hx (class?_mem hc) (hkey.trans (class?_number hc).symm)]
    simpa using hstate
  | roll =>
    obtain ⟨r, hr, hstate⟩ := (Option.any_eq_true _ _).mp hnew
    refine ⟨h.counts.dropNewRoll fun x hx hkey => ?_, h.segment.congr rfl rfl⟩
    rw [h.tables.roll_unique hr hx hkey]
    simpa using hstate
  | lot =>
    obtain ⟨l, hl, hstate⟩ := (Option.any_eq_true _ _).mp hnew
    have hnewLot : ∀ x ∈ s.rst.lots, x.number = n → x.state = .new := fun x hx hkey => by
      rw [h.tables.lot_unique hl hx hkey]
      simpa using hstate
    refine ⟨h.counts.dropNewLot hnewLot, h.segment.dropLot fun x hx hkey hfeeding => ?_⟩
    rw [hnewLot x hx hkey] at hfeeding
    cases hfeeding
  | panel | line => exact h

theorem Lot.Named.lineReset {s t : State} {l : Lot} (h : l.Named s) (records : Nat)
    (hpatterns : t.rst.patterns = s.rst.patterns.filter Pattern.committed)
    (hclasses : t.rst.classes = s.rst.classes.filter FabricClass.committed) : (l.lineReset records).Named t := by
  unfold Lot.lineReset
  split
  · exact ⟨fun hstate => (nomatch hstate), fun _ hdone => absurd rfl hdone⟩
  · refine h.congr (fun q hq hedit _ _ => ⟨q, ?_, rfl, hedit⟩) fun c hc hdefined _ _ => ⟨c, ?_, rfl, hdefined⟩
    · rw [hpatterns]
      exact List.mem_filter.mpr ⟨hq, by simpa [Pattern.committed] using hedit⟩
    · rw [hclasses]
      exact List.mem_filter.mpr ⟨hc, by simp [FabricClass.committed, hdefined]⟩

/-- LINE_RESET drops the records never committed and makes the lots on the web DONE (R95, R175). -/
theorem NamesHeld.resetRecords {s : State} (h : NamesHeld s) : CountsHeld s.resetRecords := by
  refine NamesHeld.recount_freeRetired ⟨?_, fun l hl => ?_, fun r hr => ?_, fun r hr => h.unplaced r (List.mem_filter.mp hr).1⟩
  · obtain ⟨hpatterns, hclasses, hrolls, hlots⟩ := h.tables
    exact ⟨hpatterns.filter _, hclasses.filter _, hrolls.filter _, (hlots.filter _).map fun l => l.lineReset_number _⟩
  · obtain ⟨m, hm, rfl⟩ := List.mem_map.mp hl
    exact (h.lots m (List.mem_filter.mp hm).1).lineReset _ rfl rfl
  · refine (h.rolls r (List.mem_filter.mp hr).1).congr fun c hc hdefined _ => ⟨c, ?_, rfl, hdefined⟩
    exact List.mem_filter.mpr ⟨hc, by simp [FabricClass.committed, hdefined]⟩

theorem committedRecord_refCount (s : State) (q : Pattern) (st : PatternStage) : (s.committedRecord q st).refCount = q.refCount := by
  unfold State.committedRecord
  split <;> rfl

theorem committedRecord_state_ne_edit (s : State) (q : Pattern) (st : PatternStage) : (s.committedRecord q st).state ≠ .edit := by
  unfold State.committedRecord
  split <;> exact written_state_ne_edit q st (s.stepsInView q st)

theorem countInvariant_reset : CountInvariant State.reset := by
  refine ⟨⟨⟨tablesHeld_reset, ?_, ?_, ?_⟩, ?_, ?_⟩, SegmentFed.of_no_lot fun _ h => by cases h⟩ <;> exact fun _ h => nomatch h

/-- A NEW roll is on no station (R45, R50). -/
theorem unplaced_of_stationLaw {s : State} (h : StationLaw s) : ∀ r ∈ s.rst.rolls, r.state = .new → r.station = none := by
  obtain ⟨-, hplaced, -⟩ := h
  intro r hr hstate
  have hr := hplaced r hr
  simp only [Roll.placed, hstate, Bool.and_eq_true] at hr
  simpa using hr.1

/-- The current segment's lot is the last on the web, and so in the table; FEEDING is the state of that lot (R81, R84). -/
theorem segmentFed_of_lineOrderLaw {s : State} (h : LineOrderLaw s) : SegmentFed s := by
  obtain ⟨-, -, -, -, -, -, hfeeding, hlast, -⟩ := h
  intro n hn
  have hmem : n ∈ s.rst.order.filter s.numberOnWeb := List.mem_of_getLast? (hlast n (by simp [hn, Segment.lots]))
  obtain ⟨l, hl, -⟩ := (Option.any_eq_true _ _).mp (List.mem_filter.mp hmem).2
  exact ⟨l, lot?_mem hl, lot?_number hl, (hfeeding l (lot?_mem hl)).mpr (by rw [lot?_number hl, hn])⟩

theorem countInvariant : RecordInvariant CountInvariant where
  shares hs h := hs.congr h.1
  panels hs h _ _ := hs.congr h
  start _ _ _ hu _ := hu.congr (by simp)
  roll hs hr hfollows := ⟨hs.counts.putRoll hr hfollows, hs.segment.congr rfl rfl⟩
  lot hs hl hfollows hstate := hs.lot hl hfollows hstate
  placed hs hl hqueued hfollows hstate := hs.placed hl hqueued hfollows hstate
  fed hs hl hfeeding hfollows hstate := hs.fed hl hfeeding hfollows hstate
  noLotSegment hs hv := ⟨hs.counts.congr rfl rfl rfl rfl, SegmentFed.of_no_lot hv⟩
  completed hs hl hfed := hs.completed hl hfed
  newPattern hs hfree hfirst hlast :=
    ⟨hs.counts.newPattern hfree (tablesHeld_invariant.newPattern hs.tables hfree hfirst hlast), hs.segment.congr rfl rfl⟩
  newClass hs hfree hfirst hlast :=
    ⟨hs.counts.newClass hfree (tablesHeld_invariant.newClass hs.tables hfree hfirst hlast), hs.segment.congr rfl rfl⟩
  newRoll hs hfree hroom := ⟨hs.counts.newRoll hfree (tablesHeld_invariant.newRoll hs.tables hfree hroom), hs.segment.congr rfl rfl⟩
  newLot {s n} hs hfree hroom := by
    have hothers : ∀ l ∈ s.rst.lots, l.number ≠ n := find?_key_eq_none.mp hfree
    exact ⟨hs.counts.newLot hfree (tablesHeld_invariant.newLot hs.tables hfree hroom),
      hs.segment.putLot hs.tables.lots.1 fun l hl hkey => absurd hkey (hothers l hl)⟩
  committedPattern {s _ q st} hs hq _ := by
    obtain ⟨hclasses, hrolls, hlots⟩ := committedPattern_tables s q st
    have hput : CountsHeld (s.putPattern (s.committedRecord q st)) :=
      hs.counts.putPattern (pattern?_mem hq) (committedRecord_number s q st) (committedRecord_refCount s q st)
        (committedRecord_state_ne_edit s q st)
    exact ⟨hput.congr (committedPattern_patterns s q st) hclasses hrolls hlots, hs.segment.congr hlots (by simp [committedPattern_frame])⟩
  committedClass _ hs hc := ⟨hs.counts.putClass (class?_mem hc) rfl rfl rfl, hs.segment.congr rfl rfl⟩
  committedRoll hs hr hrefusal := hs.committedRoll hr hrefusal
  committedLot hs hl hrefusal := hs.committedLot hl hrefusal
  retiring hs hq _ := ⟨hs.counts.putPattern (pattern?_mem hq) rfl rfl (by simp), hs.segment.congr rfl rfl⟩
  freedPattern {s n q} hs hq hcount := by
    have hdropped : CountsHeld (s.dropRecord .pattern q.number) := hs.counts.dropPattern fun x hx hkey => Or.inr <| by
      rwa [risingKeys_injective hs.tables.patterns.1 hx (pattern?_mem hq) hkey]
    exact ⟨hdropped.congr rfl rfl rfl rfl, hs.segment.congr rfl rfl⟩
  freedClass {s n c} hs hc hcount := by
    have hdropped : CountsHeld (s.dropRecord .cls n) := hs.counts.dropClass fun x hx hkey => Or.inr <| by
      rwa [risingKeys_injective hs.tables.classes.1 hx (class?_mem hc) (hkey.trans (class?_number hc).symm)]
    exact ⟨hdropped, hs.segment.congr rfl rfl⟩
  freedRoll n hs := CountInvariant.settle (hs.counts.names.dropRoll n) (hs.segment.congr rfl rfl)
  freedLot hs hl hstate := hs.freedLot hl hstate
  neverCommitted hs hnew := hs.neverCommitted hnew
  lineReset hs := ⟨hs.counts.names.resetRecords.congr rfl rfl rfl rfl, SegmentFed.of_no_lot fun _ h => by cases h⟩
  powerOn {_ t} _ hrst hltr := by
    have hshares : SharesBesidesPanels State.reset t := by
      simp only [sharesBesidesPanels_iff, hrst, hltr]
      exact ⟨rfl, rfl, rfl, rfl, rfl, rfl⟩
    exact countInvariant_reset.congr hshares

/-- Settles O10: the tables alone survive every move of the records, and so do the counts with the segment's lot FEEDING, which the laws of
the stations and of the line order give. -/
theorem referenceCountsKept : Obligations.ReferenceCountsKept := by
  unfold Obligations.ReferenceCountsKept
  refine ⟨fun s t htables ht => ?_, fun s t hstations horder hcounts ht => ?_⟩
  · exact (tablesLaw_iff t).mpr (tablesHeld_invariant.step ((tablesLaw_iff s).mp htables) ht)
  · have hs : CountInvariant s := ⟨(countLaw_iff s (unplaced_of_stationLaw hstations)).mp hcounts, segmentFed_of_lineOrderLaw horder⟩
    have hkept : CountInvariant t := countInvariant.step hs ht
    exact (countLaw_iff t hkept.counts.names.unplaced).mpr hkept.counts

end Sys2Proof.Machine
end

section
/-! The laws right after power-on (O4), each by the values that reset gives its parts. -/

namespace Sys2Proof.Machine

theorem governorLaw_reset : GovernorLaw State.reset := by unfold GovernorLaw; decide

theorem referenceLaw_reset : ReferenceLaw State.reset := by
  have hcreep : State.reset.rst.line.creep = none := rfl
  have hwatch : State.reset.fsu.webBreak = none := rfl
  refine ⟨by decide, by decide, by decide, ?_⟩
  simp [hcreep, hwatch]

theorem intentLaw_reset : IntentLaw State.reset := ⟨rfl, rfl⟩

theorem emergencyStopLaw_reset : EmergencyStopLaw State.reset := ⟨intentLaw_reset, by decide⟩

theorem heatLaw_reset : HeatLaw State.reset := by unfold HeatLaw; decide

theorem causeLaw_reset : CauseLaw State.reset := by unfold CauseLaw; decide

theorem actuatorLaw_reset : ActuatorLaw State.reset := by unfold ActuatorLaw; decide

theorem panelLaw_reset : PanelLaw State.reset := Nat.zero_le _

theorem doseLaw_reset : DoseLaw State.reset := fun _ h => absurd h List.not_mem_nil

/-- No slot is open. -/
theorem claimLaw_reset : ClaimLaw State.reset := by
  have hslot : ∀ p, State.reset.slot p = .empty := fun p => by cases p <;> rfl
  have hclaims : ∀ p t key, State.reset.claims p t key = false := fun p t key => by simp [State.claims, Slot.claims, hslot]
  refine ⟨fun t key h => ?_, fun p t key h => ?_, fun p => by cases p <;> rfl⟩
  · rw [hclaims] at h
    cases h.1
  · rw [hclaims] at h
    cases h

theorem stationLaw_reset : StationLaw State.reset := by
  unfold StationLaw risingKeys
  decide

theorem lineOrderLaw_reset : LineOrderLaw State.reset := by
  unfold LineOrderLaw risingKeys
  decide

theorem webExtentLaw_reset : WebExtentLaw State.reset := by unfold WebExtentLaw; decide

theorem tallyLaw_reset : TallyLaw State.reset := by unfold TallyLaw risingKeys; decide

/-- No lot is in the table and no segment is open. -/
theorem panelGridLaw_reset : PanelGridLaw State.reset := by
  unfold PanelGridLaw State.lengthsInRange
  exact ⟨by decide, by decide, fun h => absurd rfl h⟩

theorem ceilingLaw_reset : CeilingLaw State.reset := by unfold CeilingLaw; decide

theorem strikeCeilingLaw_reset : StrikeCeilingLaw State.reset := fun _ h => nomatch h

/-- Settles O4. -/
theorem lawsHoldAtReset : Obligations.LawsHoldAtReset := by
  unfold Obligations.LawsHoldAtReset
  have hcounts : CountLaw State.reset := (countLaw_iff _ countInvariant_reset.counts.names.unplaced).mpr countInvariant_reset.counts
  exact ⟨governorLaw_reset, referenceLaw_reset, intentLaw_reset, emergencyStopLaw_reset, heatLaw_reset, causeLaw_reset, actuatorLaw_reset,
    panelLaw_reset, doseLaw_reset, claimLaw_reset, poolLaw_reset, (tablesLaw_iff _).mpr tablesHeld_reset, hcounts, stationLaw_reset,
    lineOrderLaw_reset, webExtentLaw_reset, tallyLaw_reset, panelGridLaw_reset, ceilingLaw_reset, strikeCeilingLaw_reset⟩

end Sys2Proof.Machine
end

section
/-! SUPPORT. Requests answered, and records named in them (O49, O51, O59). -/

namespace Sys2Proof.Machine

/-! ### A request taken -/

theorem slot_restartInactivity (s : State) (p q : Port) : (s.restartInactivity p).slot q = s.slot q := by
  cases p <;> cases q <;> rfl

/-- A request answered with a reply alone. -/
theorem takeRequest_answered {s : State} {p : Port} {answer : State → State × Reply} {r : Reply} (hears : s.hears p = true)
    (h : answer (s.restartInactivity p) = (s.restartInactivity p, r)) : s.takeRequest p answer = s.answered p r := by
  rw [State.takeRequest_taken answer hears, h]
  rfl

/-- A request carried out and answered OK. -/
theorem takeRequest_done {s u : State} {p : Port} {answer : State → State × Reply} (hears : s.hears p = true)
    (h : answer (s.restartInactivity p) = done u) : s.takeRequest p answer = u.setReceiver p (.answering [0x00#8]) := by
  rw [State.takeRequest_taken answer hears, h]
  rfl

/-! ### Names (section 11.1) -/

theorem numOf_bytesOf_four {k : Nat} (h : k < 2 ^ 32) : numOf (bytesOf 4 k) = k := by
  simp only [numOf, bytesOf, List.foldl_cons, List.foldl_nil, BitVec.toNat_ofNat]
  omega

theorem readNamed_nameRecord (t : Table) {k : Nat} (h : k < 2 ^ 32) :
    readNamed (nameRecord t k) = some { table := t.code.toNat, key := k, rest := [] } := by
  have hkey := numOf_bytesOf_four h
  simp only [bytesOf] at hkey
  simp only [nameRecord, bytesOf, readNamed, hkey]

theorem tableOf_code (t : Table) : tableOf t.code.toNat = some t := by cases t <;> rfl

theorem createItems_none (t : Table) : createItems t.code.toNat [] = some ({}, true) := by cases t <;> rfl

end Sys2Proof.Machine
end

section
/-! CREATE (O49). -/

namespace Sys2Proof.Machine

/-- The slot of a port with no record open is ready for a new one: EMPTY as it stands, LOST once emptied (R183, R188). -/
theorem freshSlot_restartInactivity {s : State} {p : Port} (h : s.slot p = .empty ∨ ∃ t k, s.slot p = .lost t k) :
    ∃ v, (s.restartInactivity p).freshSlot p = some (s.setPort p v) := by
  unfold State.freshSlot
  rw [slot_restartInactivity]
  rcases h with hslot | ⟨t, k, hslot⟩
  · rw [hslot]
    exact ⟨_, rfl⟩
  · rw [hslot]
    exact ⟨{ receiver := (s.port p).receiver, slot := .empty, inactivity := none }, by cases p <;> rfl⟩

/-- The answer to a CREATE that carries no fields, past the checks of its operands. -/
theorem answerCreate_nameRecord {p : Port} {t : Table} {n : Nat} {s u : State} (hn : n < 2 ^ 32) (hport : p = .sup ∨ t = .roll)
    (hfresh : s.freshSlot p = some u) : answerCreate p (nameRecord t n) s = u.createIn p t n {} true := by
  have hmay : ¬ (p = .pen ∧ t ≠ .roll) := by
    rintro ⟨rfl, ht⟩
    exact hport.elim (fun h => nomatch h) ht
  simp only [answerCreate, readNamed_nameRecord t hn, createItems_none, tableOf_code, if_neg hmay, hfresh]

/-- A CREATE that makes its record: what it does to the tables does not look at the ports. -/
theorem create_yields {p : Port} {t : Table} {n : Nat} {s : State} {st : Staging} {make : State → State} (hears : s.hears p = true)
    (hn : n < 2 ^ 32) (hport : p = .sup ∨ t = .roll) (hfree : s.slot p = .empty ∨ ∃ t k, s.slot p = .lost t k)
    (hmake : ∀ v, make (s.setPort p v) = (make s).setPort p v)
    (hcreate : ∀ v, (s.setPort p v).createIn p t n {} true = (make (s.setPort p v)).openCreated p n st) :
    Yields (.create p (nameRecord t n)) s (((make s).setSlot p (.write n st)).setReceiver p (.answering [0x00#8])) := by
  obtain ⟨v, hfresh⟩ := freshSlot_restartInactivity hfree
  have hanswer : answerCreate p (nameRecord t n) (s.restartInactivity p) = done (((make s).setPort p v).setSlot p (.write n st)) := by
    rw [answerCreate_nameRecord hn hport hfresh, hcreate, hmake]
    rfl
  refine congrArg Host.Outcome.next ((takeRequest_done hears hanswer).trans ?_)
  cases p <;> rfl

/-- A CREATE of a record that exists, from a port with no record open. -/
theorem create_exists {p : Port} {t : Table} {n : Nat} {s : State} (hears : s.hears p = true) (hn : n < 2 ^ 32) (hport : p = .sup ∨ t = .roll)
    (hslot : s.slot p = .empty)
    (hcreate : (s.restartInactivity p).createIn p t n {} true = refuse (s.restartInactivity p) .exists_) :
    Refuses (.create p (nameRecord t n)) s p .exists_ := by
  have hfresh : (s.restartInactivity p).freshSlot p = some (s.restartInactivity p) := by
    unfold State.freshSlot
    rw [slot_restartInactivity, hslot]
  refine congrArg Host.Outcome.next (takeRequest_answered hears ?_)
  rw [answerCreate_nameRecord hn hport hfresh, hcreate]
  rfl

/-! ### The four tables (R18, R36, R48, R79) -/

theorem createIn_pattern (s : State) (p : Port) {n : Nat} (hfirst : n ≠ 0) (hlast : n ≤ 40) :
    (s.pattern? n = none → s.createIn p .pattern n {} true = (s.putPattern (Pattern.created n)).openCreated p n (.pattern {})) ∧
      ((s.pattern? n).isSome = true → s.createIn p .pattern n {} true = refuse s .exists_) := by
  have hrange : ¬ Config.patternCount < n := Nat.not_lt.mpr hlast
  refine ⟨fun hfree => ?_, fun hused => ?_⟩
  · simp [State.createIn, State.createPattern, hfirst, hrange, hfree]
  · simp [State.createIn, State.createPattern, hfirst, hrange, hused]

theorem createIn_cls (s : State) (p : Port) {n : Nat} (hfirst : n ≠ 0) (hlast : n ≤ 16) :
    (s.class? n = none → s.createIn p .cls n {} true = (s.putClass (FabricClass.created n)).openCreated p n (.cls {})) ∧
      ((s.class? n).isSome = true → s.createIn p .cls n {} true = refuse s .exists_) := by
  have hrange : ¬ Config.classCount < n := Nat.not_lt.mpr hlast
  refine ⟨fun hfree => ?_, fun hused => ?_⟩
  · simp [State.createIn, State.createClass, hfirst, hrange, hfree]
  · simp [State.createIn, State.createClass, hfirst, hrange, hused]

theorem createIn_roll (s : State) (p : Port) {n : Nat} (hfirst : n ≠ 0) :
    (s.roll? n = none → s.rst.rolls.length < 12 →
        s.createIn p .roll n {} true = (s.putRoll (Roll.created n)).openCreated p n (.roll {})) ∧
      ((s.roll? n).isSome = true → s.createIn p .roll n {} true = refuse s .exists_) := by
  refine ⟨fun hfree hroom => ?_, fun hused => ?_⟩
  · have hroom' : ¬ Config.rollCount ≤ s.rst.rolls.length := Nat.not_le.mpr hroom
    simp [State.createIn, State.createRoll, hfirst, hfree, hroom']
  · simp [State.createIn, State.createRoll, hfirst, hused]

/-- The lot table with a new lot, its number at the end of the line order (R79, R81). -/
def State.putNewLot (s : State) (n : Nat) : State :=
  let s1 := s.putLot (Lot.created n)
  { s1 with rst := { s1.rst with order := s1.rst.order ++ [n] } }

theorem createIn_lot (s : State) (p : Port) {n : Nat} (hfirst : n ≠ 0) (hlast : n ≤ 65535) :
    (s.lot? n = none → s.rst.lots.length < 32 → s.createIn p .lot n {} true = (s.putNewLot n).openCreated p n (.lot {})) ∧
      ((s.lot? n).isSome = true → s.createIn p .lot n {} true = refuse s .exists_) := by
  have hrange : ¬ 65535 < n := Nat.not_lt.mpr hlast
  refine ⟨fun hfree hroom => ?_, fun hused => ?_⟩
  · have hroom' : ¬ Config.lotCount ≤ s.rst.lots.length := Nat.not_le.mpr hroom
    simp [State.createIn, State.createLot, State.putNewLot, hfirst, hrange, hfree, hroom']
  · simp [State.createIn, State.createLot, hfirst, hrange, hused]

theorem lookups_congr {s t : State} (h : t.rst = s.rst) :
    t.pattern? = s.pattern? ∧ t.class? = s.class? ∧ t.roll? = s.roll? ∧ t.lot? = s.lot? := by
  refine ⟨?_, ?_, ?_, ?_⟩
  · exact funext (pattern?_congr (congrArg _ h))
  · exact funext fun n => by simp only [State.class?, h]
  · exact funext (roll?_congr (congrArg _ h))
  · exact funext (lot?_congr (congrArg _ h))

/-- Settles O49: past the operands' checks each table's CREATE makes its record, or finds the number in use. -/
theorem createMakesTheRecord : Obligations.CreateMakesTheRecord := by
  unfold Obligations.CreateMakesTheRecord
  intro p n s hears hn hfree
  have hfirst : n ≠ 0 := Nat.ne_of_gt hn
  have hset : ∀ v, (s.setPort p v).rst = s.rst := fun v => by simp
  have hrestart : (s.restartInactivity p).rst = s.rst := by simp
  obtain ⟨hpattern, hclass, hroll, hlot⟩ := lookups_congr hrestart
  refine ⟨fun hp hlast hnone => ?_, fun hp hlast hnone => ?_, fun hlast hnone hroom => ?_, fun hp hlast hnone hroom => ?_, fun hslot =>
    ⟨fun hp hlast hused => ?_, fun hp hlast hused => ?_, fun hlast hused => ?_, fun hp hlast hused => ?_⟩⟩
  · exact create_yields (make := fun u => u.putPattern (Pattern.created n)) hears (by omega) (Or.inl hp) hfree
      (fun v => by cases p <;> rfl) fun v => (createIn_pattern _ p hfirst hlast).1 ((congrFun (lookups_congr (hset v)).1 n).trans hnone)
  · exact create_yields (make := fun u => u.putClass (FabricClass.created n)) hears (by omega) (Or.inl hp) hfree
      (fun v => by cases p <;> rfl) fun v => (createIn_cls _ p hfirst hlast).1 ((congrFun (lookups_congr (hset v)).2.1 n).trans hnone)
  · exact create_yields (make := fun u => u.putRoll (Roll.created n)) hears hlast (Or.inr rfl) hfree (fun v => by cases p <;> rfl)
      fun v => (createIn_roll _ p hfirst).1 ((congrFun (lookups_congr (hset v)).2.2.1 n).trans hnone) (hset v ▸ hroom)
  · exact create_yields (make := fun u => u.putNewLot n) hears (by omega) (Or.inl hp) hfree (fun v => by cases p <;> rfl)
      fun v => (createIn_lot _ p hfirst hlast).1 ((congrFun (lookups_congr (hset v)).2.2.2 n).trans hnone) (hset v ▸ hroom)
  · exact create_exists hears (by omega) (Or.inl hp) hslot ((createIn_pattern _ p hfirst hlast).2 (hpattern ▸ hused))
  · exact create_exists hears (by omega) (Or.inl hp) hslot ((createIn_cls _ p hfirst hlast).2 (hclass ▸ hused))
  · exact create_exists hears hlast (Or.inr rfl) hslot ((createIn_roll _ p hfirst).2 (hroll ▸ hused))
  · exact create_exists hears (by omega) (Or.inl hp) hslot ((createIn_lot _ p hfirst hlast).2 (hlot ▸ hused))

end Sys2Proof.Machine
end

section
/-! GET and PUT (O51). -/

namespace Sys2Proof.Machine

/-! ### What a request that arrives leaves to be read -/

theorem see_restartInactivity (s : State) (p : Port) (t : Table) (k : Nat) (st : Staging) (id idx : Nat) :
    (s.restartInactivity p).see t k st id idx = s.see t k st id idx := by
  cases p <;> rfl

theorem getAnswer_restartInactivity (s : State) (p : Port) (t : Table) (k : Nat) (st : Staging) (id idx : Nat) :
    (s.restartInactivity p).getAnswer t k st id idx = s.getAnswer t k st id idx := by
  unfold State.getAnswer
  rw [see_restartInactivity]

theorem putAnswer_restartInactivity (s : State) (p q : Port) (k : Nat) (st : Staging) (id idx : Nat) (bs : List Byte) :
    (s.restartInactivity p).putAnswer q k st id idx bs = s.putAnswer q k st id idx bs := by
  cases p <;> rfl

/-! ### No record open (R183, R190, R191) -/

theorem get_empty {p : Port} {id idx : Byte} {s : State} (hears : s.hears p = true) (hslot : s.slot p = .empty) :
    Refuses (.getField p [id, idx]) s p .notOpen := by
  refine congrArg Host.Outcome.next (takeRequest_answered hears ?_)
  simp only [answerGet, State.getField, slot_restartInactivity, hslot, refuse]

theorem put_empty {p : Port} {id idx : Byte} {bs : List Byte} {s : State} (hears : s.hears p = true) (hslot : s.slot p = .empty) :
    Refuses (.putField p (id :: idx :: bs)) s p .notOpen := by
  refine congrArg Host.Outcome.next (takeRequest_answered hears ?_)
  simp only [answerPut, State.putField, slot_restartInactivity, hslot, refuse]

theorem put_read {p : Port} {id idx : Byte} {bs : List Byte} {t : Table} {k : Nat} {s : State} (hears : s.hears p = true)
    (hslot : s.slot p = .read t k) : Refuses (.putField p (id :: idx :: bs)) s p .notOpen := by
  refine congrArg Host.Outcome.next (takeRequest_answered hears ?_)
  simp only [answerPut, State.putField, slot_restartInactivity, hslot, refuse]

/-- A request that finds its slot LOST empties it, and answers GONE. -/
theorem takeRequest_gone {s : State} {p : Port} {answer : State → State × Reply} (hears : s.hears p = true)
    (h : answer (s.restartInactivity p) = (s.restartInactivity p).gone p) :
    s.takeRequest p answer = (s.setSlot p .empty).setReceiver p (.answering [0x14#8]) := by
  rw [State.takeRequest_taken answer hears, h]
  cases p <;> rfl

theorem get_lost {p : Port} {id idx : Byte} {t : Table} {k : Nat} {s : State} (hears : s.hears p = true) (hslot : s.slot p = .lost t k) :
    Yields (.getField p [id, idx]) s ((s.setSlot p .empty).setReceiver p (.answering [0x14#8])) := by
  refine congrArg Host.Outcome.next (takeRequest_gone hears ?_)
  simp only [answerGet, State.getField, slot_restartInactivity, hslot]

theorem put_lost {p : Port} {id idx : Byte} {bs : List Byte} {t : Table} {k : Nat} {s : State} (hears : s.hears p = true)
    (hslot : s.slot p = .lost t k) :
    Yields (.putField p (id :: idx :: bs)) s ((s.setSlot p .empty).setReceiver p (.answering [0x14#8])) := by
  refine congrArg Host.Outcome.next (takeRequest_gone hears ?_)
  simp only [answerPut, State.putField, slot_restartInactivity, hslot]

/-! ### GET on an open record (R190) -/

/-- GET answers with what `getAnswer` reads in the record open, the staging copy of a WRITE slot laid over it. -/
theorem get_open {p : Port} {id idx : Byte} {t : Table} {k : Nat} {st : Staging} {s : State} {r : Reply} (hears : s.hears p = true)
    (hslot : s.slot p = .read t k ∧ st = Staging.fresh t ∨ s.slot p = .write k st ∧ t = st.table)
    (hanswer : s.getAnswer t k st id.toNat idx.toNat = r) : Yields (.getField p [id, idx]) s (s.answered p r) := by
  subst hanswer
  refine congrArg Host.Outcome.next (takeRequest_answered hears ?_)
  rcases hslot with ⟨hslot, rfl⟩ | ⟨hslot, rfl⟩
  · simp only [answerGet, State.getField, slot_restartInactivity, hslot, getAnswer_restartInactivity]
  · simp only [answerGet, State.getField, slot_restartInactivity, hslot, getAnswer_restartInactivity]

theorem getAnswer_of_no_field {s : State} {t : Table} {id : Nat} (hrow : fieldRow? t id = none) (k : Nat) (st : Staging) (idx : Nat) :
    s.getAnswer t k st id idx = say .outOfRange := by
  simp only [State.getAnswer, hrow]

theorem getAnswer_of_no_index {s : State} {t : Table} {id idx : Nat} {row : FieldRow} (hrow : fieldRow? t id = some row)
    (hindex : row.elements.admitsGet idx = false) (k : Nat) (st : Staging) : s.getAnswer t k st id idx = say .outOfRange := by
  simp only [State.getAnswer, hrow, hindex, Bool.false_eq_true, if_false]

section
variable {s : State} {t : Table} {id idx : Byte} {row : FieldRow} {k : Nat} {st : Staging}

theorem getAnswer_value {bs : List Byte} (hrow : fieldRow? t id.toNat = some row) (hindex : row.elements.admitsGet idx.toNat = true)
    (hsee : s.see t k st id.toNat idx.toNat = .value bs) :
    s.getAnswer t k st id.toNat idx.toNat = { status := .ok, payload := id :: idx :: bs } := by
  simp only [State.getAnswer, hrow, if_pos hindex, hsee, BitVec.ofNat_toNat, BitVec.setWidth_eq]

theorem getAnswer_unset (hrow : fieldRow? t id.toNat = some row) (hindex : row.elements.admitsGet idx.toNat = true)
    (hsee : s.see t k st id.toNat idx.toNat = .unset) : s.getAnswer t k st id.toNat idx.toNat = say .wrongState := by
  simp only [State.getAnswer, hrow, if_pos hindex, hsee]

theorem getAnswer_beyond (hrow : fieldRow? t id.toNat = some row) (hindex : row.elements.admitsGet idx.toNat = true)
    (hsee : s.see t k st id.toNat idx.toNat = .beyond) : s.getAnswer t k st id.toNat idx.toNat = say .outOfRange := by
  simp only [State.getAnswer, hrow, if_pos hindex, hsee]

end

/-! ### PUT on a record open for writing (R191) -/

theorem put_refused {p : Port} {id idx : Byte} {bs : List Byte} {k : Nat} {st : Staging} {s : State} {e : Status} (hears : s.hears p = true)
    (hslot : s.slot p = .write k st) (hput : s.putAnswer p k st id.toNat idx.toNat bs = .error e) :
    Refuses (.putField p (id :: idx :: bs)) s p e := by
  refine congrArg Host.Outcome.next (takeRequest_answered hears ?_)
  simp only [answerPut, State.putField, slot_restartInactivity, hslot, putAnswer_restartInactivity, hput, refuse]

theorem put_staged {p : Port} {id idx : Byte} {bs : List Byte} {k : Nat} {st st1 : Staging} {s : State} (hears : s.hears p = true)
    (hslot : s.slot p = .write k st) (hput : s.putAnswer p k st id.toNat idx.toNat bs = .ok st1) :
    Yields (.putField p (id :: idx :: bs)) s ((s.setSlot p (.write k st1)).setReceiver p (.answering [0x00#8])) := by
  have hanswer : answerPut p (id :: idx :: bs) (s.restartInactivity p) = done ((s.restartInactivity p).setSlot p (.write k st1)) := by
    simp only [answerPut, State.putField, slot_restartInactivity, hslot, putAnswer_restartInactivity, hput]
  refine congrArg Host.Outcome.next ((takeRequest_done hears hanswer).trans ?_)
  cases p <;> rfl

/-- The end of a PUT's checks: the value staged, or out of its field's range (R191). -/
def stagedAnswer : Option Staging → Except Status Staging
  | none => .error .outOfRange
  | some st1 => .ok st1

/-- The host fields that a pendant may write (R182). -/
def PendantField (t : Table) (f : Nat) : Prop :=
  (t = .roll ∧ f = 0x04) ∨ (t = .lot ∧ f = 0x06) ∨ (t = .panel ∧ f = 0x01) ∨ (t = .line ∧ f = 0x10)

theorem pendantMayPut_iff (t : Table) (f : Nat) : pendantMayPut t f = true ↔ PendantField t f := by
  unfold PendantField pendantMayPut
  split
  · simp
  · simp
  · simp
  · simp
  · rename_i hroll hlot hpanel hline
    refine iff_of_false (by decide) ?_
    rintro (⟨ht, hf⟩ | ⟨ht, hf⟩ | ⟨ht, hf⟩ | ⟨ht, hf⟩)
    · exact hroll ht hf
    · exact hlot ht hf
    · exact hpanel ht hf
    · exact hline ht hf

/-- A host field locked by the record's references or state (R27, R39, R46, R77). -/
def State.LockedField (s : State) (t : Table) (k f : Nat) : Prop :=
  (t = .pattern ∧ f ≠ 0x01 ∧ ∀ q, s.pattern? k = some q → q.refCount ≠ 0) ∨
    (t = .cls ∧ (f = 0x04 ∨ f = 0x05) ∧ ∀ c, s.class? k = some c → c.refCount ≠ 0) ∨
    (t = .roll ∧ f ≠ 0x04 ∧ ∀ r, s.roll? k = some r → r.state ≠ .new ∧ r.state ≠ .declared) ∨
    (t = .lot ∧ f ≠ 0x06 ∧ ∀ l, s.lot? k = some l → l.state ≠ .new ∧ l.state ≠ .queued ∧ ¬ (f = 0x03 ∧ l.state = .feeding))

theorem writable_eq_false_iff (s : State) (t : Table) (k f : Nat) : s.writable t k f = false ↔ s.LockedField t k f := by
  unfold State.LockedField
  cases t with
  | pattern => simp [State.writable, Option.any_eq_false]
  | cls => simp [State.writable, Option.any_eq_false, or_iff_not_imp_left]
  | roll => simp [State.writable, Option.any_eq_false]
  | lot => simp [State.writable, Option.any_eq_false, Lot.waiting, and_assoc]
  | panel | line => simp [State.writable]

section
variable {s : State} {p : Port} {k id idx : Nat} {st : Staging} {bs : List Byte} {row : FieldRow}

theorem putAnswer_of_no_field (hrow : fieldRow? st.table id = none) : s.putAnswer p k st id idx bs = .error .outOfRange := by
  simp only [State.putAnswer, hrow]

theorem putAnswer_of_no_index (hrow : fieldRow? st.table id = some row) (hindex : row.elements.admits idx = false) :
    s.putAnswer p k st id idx bs = .error .outOfRange := by
  simp only [State.putAnswer, hrow, if_pos hindex]

theorem putAnswer_maintained (hrow : fieldRow? st.table id = some row) (hindex : row.elements.admits idx = true) (hid : 0x20 ≤ id) :
    s.putAnswer p k st id idx bs = .error .readOnly := by
  have hhost : isHostField id = false := decide_eq_false (Nat.not_lt.mpr hid)
  simp only [State.putAnswer, hrow, hindex, hhost, Bool.true_eq_false, if_false, if_true]

/-- A PUT to a field that a host writes, past the checks of field and index: the four checks before the value. -/
theorem putAnswer_host (hrow : fieldRow? st.table id = some row) (hindex : row.elements.admits idx = true) (hid : id < 0x20) :
    s.putAnswer p k st id idx bs =
      if p = .pen ∧ pendantMayPut st.table id = false then .error .privilege
      else if p = .pen ∧ st.table = .line ∧ s.keyLocal = false then .error .keyPosition
      else if st.table = .line ∧ isSetOnce id = true ∧ s.rst.line.windowOpen = false then .error .fixed
      else if s.writable st.table k id = false then .error .locked
      else stagedAnswer (s.stage k st id idx bs) := by
  have hhost : isHostField id = true := decide_eq_true hid
  simp only [State.putAnswer, hrow, hindex, hhost, Bool.true_eq_false, if_false] <;> rfl

/-- The port may write the field: the supervisor any, the pendant its own, its set speed at LOCAL (R181, R182). -/
def MayPut (s : State) (p : Port) (t : Table) (f : Nat) : Prop :=
  p = .sup ∨ (PendantField t f ∧ (t = .line → s.asserted .key = true))

theorem putAnswer_admitted (hrow : fieldRow? st.table id = some row) (hindex : row.elements.admits idx = true) (hid : id < 0x20)
    (hmay : MayPut s p st.table id) :
    s.putAnswer p k st id idx bs =
      if st.table = .line ∧ isSetOnce id = true ∧ s.rst.line.windowOpen = false then .error .fixed
      else if s.writable st.table k id = false then .error .locked
      else stagedAnswer (s.stage k st id idx bs) := by
  have hprivilege : ¬ (p = .pen ∧ pendantMayPut st.table id = false) := by
    rintro ⟨rfl, hnot⟩
    rcases hmay with hp | ⟨hfield, -⟩
    · cases hp
    · rw [(pendantMayPut_iff _ _).mpr hfield] at hnot
      cases hnot
  have hkey : ¬ (p = .pen ∧ st.table = .line ∧ s.keyLocal = false) := by
    rintro ⟨rfl, hline, hremote⟩
    rcases hmay with hp | ⟨-, hlocal⟩
    · cases hp
    · rw [show s.keyLocal = true from hlocal hline] at hremote
      cases hremote
  rw [putAnswer_host hrow hindex hid, if_neg hprivilege, if_neg hkey]

theorem putAnswer_privilege (hrow : fieldRow? st.table id = some row) (hindex : row.elements.admits idx = true) (hid : id < 0x20)
    (hfield : ¬ PendantField st.table id) : s.putAnswer .pen k st id idx bs = .error .privilege := by
  have hnot : pendantMayPut st.table id = false := Bool.eq_false_iff.mpr fun h => hfield ((pendantMayPut_iff _ _).mp h)
  rw [putAnswer_host hrow hindex hid, if_pos ⟨rfl, hnot⟩]

theorem putAnswer_keyPosition (hrow : fieldRow? st.table id = some row) (hindex : row.elements.admits idx = true) (hid : id < 0x20)
    (hline : st.table = .line) (hspeed : id = 0x10) (hremote : s.asserted .key = false) :
    s.putAnswer .pen k st id idx bs = .error .keyPosition := by
  have hmay : pendantMayPut st.table id = true := (pendantMayPut_iff _ _).mpr (Or.inr (Or.inr (Or.inr ⟨hline, hspeed⟩)))
  have hnot : ¬ (Port.pen = .pen ∧ pendantMayPut st.table id = false) := by simp [hmay]
  rw [putAnswer_host hrow hindex hid, if_neg hnot, if_pos ⟨rfl, hline, hremote⟩]

theorem putAnswer_fixed (hrow : fieldRow? st.table id = some row) (hindex : row.elements.admits idx = true) (hid : id < 0x20)
    (hmay : MayPut s p st.table id) (hline : st.table = .line) (honce : id ≤ 0x09) (hclosed : s.rst.line.windowOpen = false) :
    s.putAnswer p k st id idx bs = .error .fixed := by
  rw [putAnswer_admitted hrow hindex hid hmay, if_pos ⟨hline, decide_eq_true honce, hclosed⟩]

theorem putAnswer_open (hrow : fieldRow? st.table id = some row) (hindex : row.elements.admits idx = true) (hid : id < 0x20)
    (hmay : MayPut s p st.table id) (hopen : ¬ (st.table = .line ∧ id ≤ 0x09 ∧ s.rst.line.windowOpen = false)) :
    (s.LockedField st.table k id → s.putAnswer p k st id idx bs = .error .locked) ∧
      (¬ s.LockedField st.table k id → s.putAnswer p k st id idx bs = stagedAnswer (s.stage k st id idx bs)) := by
  have hwindow : ¬ (st.table = .line ∧ isSetOnce id = true ∧ s.rst.line.windowOpen = false) := fun ⟨hline, honce, hclosed⟩ =>
    hopen ⟨hline, of_decide_eq_true honce, hclosed⟩
  refine ⟨fun hlocked => ?_, fun hunlocked => ?_⟩
  · rw [putAnswer_admitted hrow hindex hid hmay, if_neg hwindow, if_pos ((writable_eq_false_iff s _ k id).mpr hlocked)]
  · rw [putAnswer_admitted hrow hindex hid hmay, if_neg hwindow, if_neg fun h => hunlocked ((writable_eq_false_iff s _ k id).mp h)]

end

/-! ### The set speed (R171, R181) -/

theorem fieldRow?_setSpeed : fieldRow? .line 0x10 = some ⟨0x10, .single⟩ := rfl

/-- A set speed of two bytes is taken in 0–600. -/
theorem stage_setSpeed (s : State) (st : LineStage) (x y : Byte) :
    s.stage 0 (.line st) 0x10 0 [x, y] =
      if x.toNat * 256 + y.toNat ≤ 600 then some (.line { st with setSpeed := some (x.toNat * 256 + y.toNat) }) else none := by
  have hnum : numOf [x, y] = x.toNat * 256 + y.toNat := by simp [numOf]
  have hvalue : numValue 2 0 600 [x, y] = if x.toNat * 256 + y.toNat ≤ 600 then some (x.toNat * 256 + y.toNat) else none := by
    simp [numValue, hnum]
  show ((numValue 2 0 600 [x, y]).map _).map _ = _
  rw [hvalue]
  split <;> rfl

theorem putAnswer_setSpeed {s : State} {p : Port} (hmay : p = .sup ∨ s.asserted .key = true) (st : LineStage) (x y : Byte) :
    s.putAnswer p 0 (.line st) 0x10 0 [x, y] = stagedAnswer (s.stage 0 (.line st) 0x10 0 [x, y]) := by
  have hfield : PendantField .line 0x10 := Or.inr (Or.inr (Or.inr ⟨rfl, rfl⟩))
  have hadmitted : MayPut s p .line 0x10 := hmay.imp id fun hkey => ⟨hfield, fun _ => hkey⟩
  refine (putAnswer_open (st := .line st) fieldRow?_setSpeed rfl (by decide) hadmitted (by rintro ⟨-, honce, -⟩; omega)).2 ?_
  rw [← writable_eq_false_iff]
  simp [State.writable, Staging.table]

theorem getAnswer_setSpeed (s : State) (st : LineStage) :
    s.getAnswer .line 0 (.line st) 0x10 0 =
      { status := .ok, payload := 0x10#8 :: 0#8 :: bytesOf 2 (st.setSpeed.getD s.rst.line.setSpeed) } := rfl

/-! ### The statement -/

/-- Settles O51: what each request reads off its slot, and then the checks of `getAnswer` and `putAnswer` in their order. -/
theorem getReadsAndPutStages : Obligations.GetReadsAndPutStages := by
  unfold Obligations.GetReadsAndPutStages
  refine ⟨fun p id idx bs s hears => ⟨fun hslot => ⟨get_empty hears hslot, put_empty hears hslot⟩,
      fun t k hslot => ⟨get_lost hears hslot, put_lost hears hslot⟩, fun t k hslot => put_read hears hslot⟩,
    fun p id idx t k st s hears hslot => ⟨fun hrow => ?_, fun row hrow => ⟨fun hindex => ?_, fun hindex =>
      ⟨fun bs hsee => ?_, fun hsee => ?_, fun hsee => ?_⟩⟩⟩,
    fun p st s hears => ⟨fun hslot => get_open hears (Or.inl ⟨hslot, rfl⟩) (getAnswer_setSpeed s {}), fun hslot => ?_⟩,
    fun p st x y s hears hslot => ⟨fun hp hremote => ?_, fun hmay => ⟨fun hrange => ?_, fun hrange => ?_⟩⟩,
    fun p id idx bs k st s hears hslot => ?_⟩
  · exact get_open hears hslot (getAnswer_of_no_field hrow k st idx.toNat)
  · exact get_open hears hslot (getAnswer_of_no_index hrow hindex k st)
  · exact get_open hears hslot (getAnswer_value hrow hindex hsee)
  · exact get_open hears hslot (getAnswer_unset hrow hindex hsee)
  · exact get_open hears hslot (getAnswer_beyond hrow hindex hsee)
  · exact get_open hears (Or.inr ⟨hslot, rfl⟩) (getAnswer_setSpeed s st)
  · subst hp
    exact put_refused hears hslot (putAnswer_keyPosition (st := .line st) fieldRow?_setSpeed rfl (by decide) rfl rfl hremote)
  · refine put_staged hears hslot ((putAnswer_setSpeed hmay st x y).trans ?_)
    rw [stage_setSpeed, if_pos hrange]
    rfl
  · refine put_refused hears hslot ((putAnswer_setSpeed hmay st x y).trans ?_)
    rw [stage_setSpeed, if_neg (Nat.not_le.mpr hrange)]
    rfl
  · refine ⟨fun hrow => put_refused hears hslot (putAnswer_of_no_field hrow), fun row hrow =>
      ⟨fun hindex => put_refused hears hslot (putAnswer_of_no_index hrow hindex), fun hindex =>
        ⟨fun hid => put_refused hears hslot (putAnswer_maintained hrow hindex hid), fun hid hp hfield => ?_,
          fun hid hp hline hspeed hremote => ?_, fun hid hmay => ⟨fun hline honce hclosed => ?_, fun hopen =>
            ⟨fun hlocked => ?_, fun hunlocked => ⟨fun hstage => ?_, fun st1 hstage => ?_⟩⟩⟩⟩⟩⟩
    · subst hp
      exact put_refused hears hslot (putAnswer_privilege hrow hindex hid hfield)
    · subst hp
      exact put_refused hears hslot (putAnswer_keyPosition hrow hindex hid hline hspeed hremote)
    · exact put_refused hears hslot (putAnswer_fixed hrow hindex hid hmay hline honce hclosed)
    · exact put_refused hears hslot ((putAnswer_open hrow hindex hid hmay hopen).1 hlocked)
    · refine put_refused hears hslot (((putAnswer_open hrow hindex hid hmay hopen).2 hunlocked).trans ?_)
      rw [hstage]
      rfl
    · refine put_staged hears hslot (((putAnswer_open hrow hindex hid hmay hopen).2 hunlocked).trans ?_)
      rw [hstage]
      rfl

end Sys2Proof.Machine
end

section
/-! RETIRE (O59). -/

namespace Sys2Proof.Machine

/-! ### Records dropped -/

theorem find?_dropKey_self {α : Type} (key : α → Nat) (k : Nat) (l : List α) : (dropKey key k l).find? (fun y => key y == k) = none :=
  find?_key_eq_none.mpr fun _ hy => (mem_dropKey.mp hy).2

theorem find?_dropKey_ne {α : Type} (key : α → Nat) {k n : Nat} (h : n ≠ k) (l : List α) :
    (dropKey key k l).find? (fun y => key y == n) = l.find? (fun y => key y == n) := by
  have hkept : (fun y => decide ((key y != k) = true ∧ (key y == n) = true)) = fun y => key y == n := by
    funext y
    by_cases hy : key y = n
    · simp [hy, h]
    · simp [hy]
  unfold dropKey
  rw [List.find?_filter, hkept]

/-! ### The request, past its operands and the checks of R195 -/

theorem answerRetire_nameRecord {t : Table} {k : Nat} (hk : k < 2 ^ 32) (s : State) :
    answerRetire .sup (nameRecord t k) s = s.retireIn t k := by
  have hport : ¬ (Port.sup = .pen ∧ t ≠ .roll) := fun h => nomatch h.1
  simp only [answerRetire, readNamed_nameRecord t hk, tableOf_code, if_neg hport, List.isEmpty_nil, if_true]

/-- The state in which a request of the supervisor's is answered. -/
def State.heard (s : State) : State := s.restartInactivity .sup

@[simp] theorem State.heard_frame (s : State) :
    s.heard.rst = s.rst ∧ s.heard.fsu = s.fsu ∧ s.heard.ltr = s.ltr ∧ s.heard.hsu = s.hsu ∧ s.heard.exu = s.exu ∧ s.heard.sgv = s.sgv := by
  simp [State.heard]

theorem retire_refused {t : Table} {k : Nat} {s : State} {e : Status} (hears : s.hears .sup = true) (hk : k < 2 ^ 32)
    (h : s.heard.retireIn t k = refuse s.heard e) : Refuses (.retire .sup (nameRecord t k)) s .sup e := by
  refine congrArg Host.Outcome.next (takeRequest_answered hears ?_)
  exact (answerRetire_nameRecord hk _).trans h

theorem retire_done {t : Table} {k : Nat} {s u : State} (hears : s.hears .sup = true) (hk : k < 2 ^ 32)
    (h : s.heard.retireIn t k = done u) :
    exec (.retire .sup (nameRecord t k)) s = .next (u.setReceiver .sup (.answering [0x00#8])) := by
  refine congrArg Host.Outcome.next (takeRequest_done hears ?_)
  exact (answerRetire_nameRecord hk _).trans h

theorem says_setReceiver (u : State) : (u.setReceiver .sup (.answering [0x00#8])).says .sup .ok := rfl

/-- A key that RETIRE looks up: not the first key, and of no record that a port claims. -/
def State.FreeToRetire (s : State) (t : Table) (k : Nat) : Prop := k ≠ 0 ∧ s.claims .sup t k = false ∧ s.claims .pen t k = false

theorem claims_heard (s : State) (p : Port) (t : Table) (k : Nat) : s.heard.claims p t k = s.claims p t k := by
  simp only [State.claims, State.heard, slot_restartInactivity]

section
variable {s : State} {t : Table} {k : Nat}

theorem retireIn_readOnly (h : t = .panel ∨ t = .line) : s.retireIn t k = refuse s .readOnly := if_pos h

theorem retireIn_first (hpanel : t ≠ .panel) (hline : t ≠ .line) (hk : k = 0) : s.retireIn t k = refuse s .outOfRange := by
  simp [State.retireIn, hpanel, hline, hk]

theorem retireIn_held (hpanel : t ≠ .panel) (hline : t ≠ .line) (hk : k ≠ 0) (hclaimed : s.claims .sup t k = true ∨ s.claims .pen t k = true) :
    s.retireIn t k = refuse s .held := by
  simp [State.retireIn, hpanel, hline, hk, hclaimed]

theorem retireIn_pattern (h : s.FreeToRetire .pattern k) : s.heard.retireIn .pattern k = s.heard.retirePattern k := by
  obtain ⟨hk, hsup, hpen⟩ := h
  simp [State.retireIn, hk, claims_heard, hsup, hpen]

theorem retireIn_cls (h : s.FreeToRetire .cls k) : s.heard.retireIn .cls k = s.heard.retireClass k := by
  obtain ⟨hk, hsup, hpen⟩ := h
  simp [State.retireIn, hk, claims_heard, hsup, hpen]

theorem retireIn_roll (h : s.FreeToRetire .roll k) : s.heard.retireIn .roll k = s.heard.retireRoll k := by
  obtain ⟨hk, hsup, hpen⟩ := h
  simp [State.retireIn, hk, claims_heard, hsup, hpen]

theorem retireIn_lot (h : s.FreeToRetire .lot k) : s.heard.retireIn .lot k = s.heard.retireLot k := by
  obtain ⟨hk, hsup, hpen⟩ := h
  simp [State.retireIn, hk, claims_heard, hsup, hpen]

end

/-! ### No record of the key -/

theorem retireIn_absent {s : State} {t : Table} {k : Nat} (hpanel : t ≠ .panel) (hline : t ≠ .line) (hfree : s.FreeToRetire t k)
    (hpattern : t = .pattern → k ≤ 40) (hcls : t = .cls → k ≤ 16) (habsent : s.recordExists t k = false) :
    s.heard.retireIn t k = refuse s.heard .noSuchRecord := by
  obtain ⟨hpatterns, hclasses, hrolls, hlots⟩ := lookups_congr (s := s) (t := s.heard) (by simp)
  cases t with
  | pattern =>
    have hrange : ¬ Config.patternCount < k := Nat.not_lt.mpr (hpattern rfl)
    have hnone : s.pattern? k = none := by simpa [State.recordExists] using habsent
    simp only [retireIn_pattern hfree, State.retirePattern, if_neg hrange, hpatterns, hnone]
  | cls =>
    have hrange : ¬ Config.classCount < k := Nat.not_lt.mpr (hcls rfl)
    have hnone : s.class? k = none := by simpa [State.recordExists] using habsent
    simp only [retireIn_cls hfree, State.retireClass, if_neg hrange, hclasses, hnone]
  | roll =>
    have hnone : s.roll? k = none := by simpa [State.recordExists] using habsent
    simp only [retireIn_roll hfree, State.retireRoll, hrolls, hnone]
  | lot =>
    have hnone : s.lot? k = none := by simpa [State.recordExists] using habsent
    simp only [retireIn_lot hfree, State.retireLot, hlots, hnone]
  | panel => exact absurd rfl hpanel
  | line => exact absurd rfl hline

/-! ### Rolls (R51) -/

theorem retireRoll_removes {s : State} {k : Nat} {r : Roll} (hr : s.roll? k = some r)
    (hstate : r.state = .declared ∨ r.state = .spent ∧ r.station = none) : s.retireRoll k = done (s.dropRecord .roll k).settleCounts := by
  rcases hstate with hstate | ⟨hstate, hstation⟩
  · simp only [State.retireRoll, hr, hstate]
  · simp only [State.retireRoll, hr, hstate, hstation, if_true]

theorem retireRoll_refuses {s : State} {k : Nat} {r : Roll} (hr : s.roll? k = some r)
    (hstate : r.state = .mounted ∨ r.state = .prepared ∨ r.state = .active ∨ r.state = .spent ∧ r.station ≠ none) :
    s.retireRoll k = refuse s .wrongState := by
  rcases hstate with hstate | hstate | hstate | ⟨hstate, hstation⟩
  · simp only [State.retireRoll, hr, hstate]
  · simp only [State.retireRoll, hr, hstate]
  · simp only [State.retireRoll, hr, hstate]
  · simp only [State.retireRoll, hr, hstate, if_neg hstation]

theorem retire_roll {s : State} {k : Nat} {r : Roll} (hears : s.hears .sup = true) (hk : k < 2 ^ 32) (hfree : s.FreeToRetire .roll k)
    (hr : s.roll? k = some r) (hstate : r.state = .declared ∨ r.state = .spent ∧ r.station = none) :
    ∃ t, exec (.retire .sup (nameRecord .roll k)) s = .next t ∧ t.says .sup .ok ∧ t.roll? k = none ∧
      (∀ k', k' ≠ k → t.roll? k' = s.roll? k') ∧ t.rst.lots = s.rst.lots ∧ t.rst.panels = s.rst.panels ∧ t.fsu = s.fsu ∧ t.sgv = s.sgv := by
  have hroll : s.heard.roll? k = some r := (roll?_congr (by simp) k).trans hr
  have hdone := (retireIn_roll hfree).trans (retireRoll_removes hroll hstate)
  have hrolls : ((s.heard.dropRecord .roll k).settleCounts.setReceiver .sup (.answering [0x00#8])).rst.rolls =
      dropKey (·.tag) k s.rst.rolls := by simp [State.dropRecord]
  refine ⟨_, retire_done hears hk hdone, says_setReceiver _, ?_, fun k' hne => ?_, by simp [State.dropRecord], by simp, by simp, by simp⟩
  · exact (congrArg (List.find? _) hrolls).trans (find?_dropKey_self Roll.tag k _)
  · exact (congrArg (List.find? _) hrolls).trans (find?_dropKey_ne Roll.tag hne _)

/-! ### Lots (R90, R91) -/

theorem retireLot_removes {s : State} {k : Nat} {l : Lot} (hl : s.lot? k = some l) (hstate : l.state = .queued ∨ l.state = .done) :
    s.retireLot k = done (s.dropRecord .lot k).settleCounts := by
  rcases hstate with hstate | hstate
  · simp only [State.retireLot, hl, hstate]
  · simp only [State.retireLot, hl, hstate]

theorem retire_lot {s : State} {k : Nat} {l : Lot} (hears : s.hears .sup = true) (hk : k < 2 ^ 32) (hfree : s.FreeToRetire .lot k)
    (hl : s.lot? k = some l) (hstate : l.state = .queued ∨ l.state = .done) :
    ∃ t, exec (.retire .sup (nameRecord .lot k)) s = .next t ∧ t.says .sup .ok ∧ t.lot? k = none ∧
      (∀ k', k' ≠ k → t.lot? k' = s.lot? k') ∧ t.rst.order = s.rst.order.filter (· != k) ∧
      t.rst.panels = s.rst.panels ∧ t.rst.rolls = s.rst.rolls ∧ t.fsu = s.fsu ∧ t.sgv = s.sgv := by
  have hlot : s.heard.lot? k = some l := (lot?_congr (by simp) k).trans hl
  have hdone := (retireIn_lot hfree).trans (retireLot_removes hlot hstate)
  have hlots : ((s.heard.dropRecord .lot k).settleCounts.setReceiver .sup (.answering [0x00#8])).rst.lots =
      dropKey (·.number) k s.rst.lots := by simp [State.dropRecord, State.leaveOrder]
  refine ⟨_, retire_done hears hk hdone, says_setReceiver _, ?_, fun k' hne => ?_, by simp [State.dropRecord, State.leaveOrder], by simp,
    by simp [State.dropRecord], by simp, by simp⟩
  · exact (congrArg (List.find? _) hlots).trans (find?_dropKey_self Lot.number k _)
  · exact (congrArg (List.find? _) hlots).trans (find?_dropKey_ne Lot.number hne _)

/-- The count that a cancel keeps: the least that W's panel and the panels started allow, planned at most (R91, log entry 37). -/
theorem keptByCancel_eq {w h : Coord} {len planned started kept : Nat} (hlen : 0 < len) (hplanned : kept ≤ planned)
    (hbeyond : coordDiff w h < (kept * len : Nat) ∧ started ≤ kept ∨ kept = planned)
    (hleast : ∀ m < kept, ((m * len : Nat) : Int) ≤ coordDiff w h ∨ m < started) : keptByCancel w h len planned started = kept := by
  unfold keptByCancel keepStarted
  dsimp only
  have hreached : ∀ m : Nat, ((m * len : Nat) : Int) ≤ coordDiff w h → m ≤ (coordDiff w h).toNat / len := fun m hm =>
    (Nat.le_div_iff_mul_le hlen).mpr (by omega)
  have hbelow : kept ≤ max started (if coordDiff w h < 0 then 0 else (coordDiff w h).toNat / len + 1) := by
    cases hkept : kept with
    | zero => exact Nat.zero_le _
    | succ m =>
      rcases hleast m (by omega) with hm | hm
      · have hpanel := hreached m hm
        rw [if_neg (by omega)]
        omega
      · omega
  rcases hbeyond with ⟨hw, hstarted⟩ | hall
  · have habove : (if coordDiff w h < 0 then 0 else (coordDiff w h).toNat / len + 1) ≤ kept := by
      split
      · exact Nat.zero_le _
      · exact (Nat.div_lt_iff_lt_mul hlen).mpr (by omega)
    omega
  · omega

theorem retire_feeding {s : State} {k kept : Nat} {l : Lot} {h : Coord} (hears : s.hears .sup = true) (hk : k < 2 ^ 32)
    (hfree : s.FreeToRetire .lot k) (hl : s.lot? k = some l) (hstate : l.state = .feeding) (hhead : l.head = some h)
    (hagrees : l.planned + l.cancelled = l.ordered.getD 0 + l.makeupUsed) (hplanned : kept ≤ l.planned)
    (hkept : keptByCancel s.fsu.w h (s.lotFlatLen l) l.planned l.started = kept) :
    ∃ t, exec (.retire .sup (nameRecord .lot k)) s = .next t ∧ t.says .sup .ok ∧
      t.lot? k = some { l with
        planned := kept, cancelled := l.cancelled + (l.planned - kept)
        tail := some (h + BitVec.ofNat 40 (kept * s.lotFlatLen l)) } ∧
      (∀ k', k' ≠ k → t.lot? k' = s.lot? k') ∧ t.rst.order = s.rst.order ∧ t.ltr = s.ltr ∧
      t.rst.panels = s.rst.panels ∧ t.rst.rolls = s.rst.rolls ∧ t.fsu.w = s.fsu.w ∧ t.exu = s.exu := by
  have hlot : s.heard.lot? k = some l := (lot?_congr (by simp) k).trans hl
  have hlen : s.heard.lotFlatLen l = s.lotFlatLen l := lotFlatLen_congr (by simp) l
  have hcancel : s.heard.cancelLot l = s.heard.putLot (l.cutTo kept (s.lotFlatLen l)) := by
    simp only [State.cancelLot, hhead, hlen, State.heard_frame, hkept]
  have hdone : s.heard.retireIn .lot k = done (s.heard.putLot (l.cutTo kept (s.lotFlatLen l))).endAct := by
    rw [retireIn_lot hfree]
    simp only [State.retireLot, hlot, hstate, hcancel]
  have hcut : l.cutTo kept (s.lotFlatLen l) = { l with
      planned := kept, cancelled := l.cancelled + (l.planned - kept)
      tail := some (h + BitVec.ofNat 40 (kept * s.lotFlatLen l)) } := by
    have hcount : l.ordered.getD 0 + l.makeupUsed - (l.cancelled + (l.planned - kept)) = kept :=
      l.cutTo_planned kept (s.lotFlatLen l) hagrees hplanned
    simp only [Lot.cutTo, Lot.replanOnWeb, Lot.retail, Lot.replan, hcount, hhead, Option.map_some, advance]
  have hnumber : (l.cutTo kept (s.lotFlatLen l)).number = k := show l.number = k from lot?_number hl
  have hlots : ((s.heard.putLot (l.cutTo kept (s.lotFlatLen l))).endAct.setReceiver .sup (.answering [0x00#8])).rst.lots =
      (s.putLot (l.cutTo kept (s.lotFlatLen l))).rst.lots := by simp [State.putLot]
  refine ⟨_, retire_done hears hk hdone, says_setReceiver _, ?_, fun k' hne => ?_, by simp, by simp, by simp, by simp, by simp, by simp⟩
  · rw [lot?_congr hlots, ← hcut, ← hnumber, lot?_putLot_self]
  · rw [lot?_congr hlots, lot?_putLot_ne s _ (by rwa [hnumber])]

/-! ### Patterns (R29) -/

theorem retire_pattern_unused {s : State} {k : Nat} {q : Pattern} (hears : s.hears .sup = true) (hk : k < 2 ^ 32)
    (hfree : s.FreeToRetire .pattern k) (hlast : k ≤ 40) (hq : s.pattern? k = some q) (hstate : q.state = .ready) (hcount : q.refCount = 0) :
    ∃ t, exec (.retire .sup (nameRecord .pattern k)) s = .next t ∧ t.says .sup .ok ∧ t.pattern? k = none ∧
      (∀ k', k' ≠ k → t.pattern? k' = s.pattern? k') ∧ t.rst.lots = s.rst.lots ∧ t.fsu = s.fsu := by
  have hrange : ¬ Config.patternCount < k := Nat.not_lt.mpr hlast
  have hpattern : s.heard.pattern? k = some q := (pattern?_congr (by simp) k).trans hq
  have hdone : s.heard.retireIn .pattern k = done (s.heard.freePattern q) := by
    rw [retireIn_pattern hfree]
    simp only [State.retirePattern, if_neg hrange, hpattern, hstate, hcount, if_true]
  have hpatterns : ((s.heard.freePattern q).setReceiver .sup (.answering [0x00#8])).rst.patterns = dropKey (·.number) k s.rst.patterns := by
    simp [State.freePattern, State.dropRecord, pattern?_number hq]
  refine ⟨_, retire_done hears hk hdone, says_setReceiver _, ?_, fun k' hne => ?_, by simp, by simp⟩
  · exact (congrArg (List.find? _) hpatterns).trans (find?_dropKey_self Pattern.number k _)
  · exact (congrArg (List.find? _) hpatterns).trans (find?_dropKey_ne Pattern.number hne _)

theorem retire_pattern_used {s : State} {k : Nat} {q : Pattern} (hears : s.hears .sup = true) (hk : k < 2 ^ 32)
    (hfree : s.FreeToRetire .pattern k) (hlast : k ≤ 40) (hq : s.pattern? k = some q) (hstate : q.state = .ready) (hcount : q.refCount ≠ 0) :
    Yields (.retire .sup (nameRecord .pattern k)) s ((s.putPattern { q with state := .retiring }).answered .sup (say .ok)) := by
  have hrange : ¬ Config.patternCount < k := Nat.not_lt.mpr hlast
  have hpattern : s.heard.pattern? k = some q := (pattern?_congr (by simp) k).trans hq
  refine retire_done hears hk (u := s.heard.putPattern { q with state := .retiring }) ?_
  rw [retireIn_pattern hfree]
  simp only [State.retirePattern, if_neg hrange, hpattern, hstate, if_neg hcount]

theorem retire_pattern_retiring {s : State} {k : Nat} {q : Pattern} (hears : s.hears .sup = true) (hk : k < 2 ^ 32)
    (hfree : s.FreeToRetire .pattern k) (hlast : k ≤ 40) (hq : s.pattern? k = some q) (hstate : q.state = .retiring) :
    Refuses (.retire .sup (nameRecord .pattern k)) s .sup .wrongState := by
  have hrange : ¬ Config.patternCount < k := Nat.not_lt.mpr hlast
  have hpattern : s.heard.pattern? k = some q := (pattern?_congr (by simp) k).trans hq
  refine retire_refused hears hk ?_
  rw [retireIn_pattern hfree]
  simp only [State.retirePattern, if_neg hrange, hpattern, hstate]

/-! ### Classes (R42, R133) -/

theorem retire_class_used {s : State} {k : Nat} {c : FabricClass} (hears : s.hears .sup = true) (hk : k < 2 ^ 32)
    (hfree : s.FreeToRetire .cls k) (hlast : k ≤ 16) (hc : s.class? k = some c) (hstate : c.state = .defined)
    (hused : c.refCount ≠ 0 ∨ ∃ x ∈ s.rst.panels, x.cls = k) : Refuses (.retire .sup (nameRecord .cls k)) s .sup .inUse := by
  have hrange : ¬ Config.classCount < k := Nat.not_lt.mpr hlast
  have hclass : s.heard.class? k = some c := (congrFun (lookups_congr (by simp)).2.1 k).trans hc
  have hinUse : c.refCount ≠ 0 ∨ s.heard.rst.panels.any (fun x => x.cls == k) = true := by simpa using hused
  refine retire_refused hears hk ?_
  rw [retireIn_cls hfree]
  simp only [State.retireClass, if_neg hrange, hclass, hstate, if_pos hinUse]

/-- With HEAT OFF or the governor out of CREEP and RUN, a class freed leaves the zones but for their class targets (R133). -/
theorem classFreed_zone {s : State} (h : s.rst.line.heat = false ∨ s.running = false) (k : Nat) (z : ZoneId) :
    (s.classFreed k).hsu.zones.get z =
      { s.hsu.zones.get z with targetClass := if (s.hsu.zones.get z).targetClass = some k then none else (s.hsu.zones.get z).targetClass } := by
  have hstill : ∀ u : State, u.rst.line.heat = false ∨ u.running = false → u.retarget.hsu.zones = u.hsu.zones := fun u hu => by
    have hoff : ¬ (u.rst.line.heat && u.running) = true := by rcases hu with hu | hu <;> simp [hu]
    unfold State.retarget
    rw [if_neg hoff]
    rfl
  unfold State.classFreed
  rw [hstill (s.mapZones _) h]
  show (s.hsu.zones.map _).get z = _
  rw [Four.get_map]
  by_cases htarget : (s.hsu.zones.get z).targetClass = some k
  · simp only [if_pos htarget]
  · simp only [if_neg htarget]

theorem retire_class_unused {s : State} {k : Nat} {c : FabricClass} (hears : s.hears .sup = true) (hk : k < 2 ^ 32)
    (hfree : s.FreeToRetire .cls k) (hlast : k ≤ 16) (hc : s.class? k = some c) (hstate : c.state = .defined) (hcount : c.refCount = 0)
    (hpanels : ∀ x ∈ s.rst.panels, x.cls ≠ k) :
    ∃ t, exec (.retire .sup (nameRecord .cls k)) s = .next t ∧ t.says .sup .ok ∧ t.class? k = none ∧
      (∀ k', k' ≠ k → t.class? k' = s.class? k') ∧
      (s.rst.line.heat = false ∨ s.running = false → ∀ z ∈ allZones,
        let v := s.hsu.zones.get z
        t.hsu.zones.get z = { v with targetClass := if v.targetClass = some k then none else v.targetClass }) ∧
      t.rst.lots = s.rst.lots ∧ t.rst.rolls = s.rst.rolls ∧ t.rst.panels = s.rst.panels ∧ t.fsu.w = s.fsu.w ∧ t.exu = s.exu := by
  have hrange : ¬ Config.classCount < k := Nat.not_lt.mpr hlast
  have hclass : s.heard.class? k = some c := (congrFun (lookups_congr (by simp)).2.1 k).trans hc
  have hunused : ¬ (c.refCount ≠ 0 ∨ s.heard.rst.panels.any (fun x => x.cls == k) = true) := by simpa [hcount] using hpanels
  have hdone : s.heard.retireIn .cls k = done (((s.heard.dropRecord .cls k).sweep.classFreed k).endAct) := by
    rw [retireIn_cls hfree]
    simp only [State.retireClass, if_neg hrange, hclass, hstate, if_neg hunused]
  have hclasses : (((s.heard.dropRecord .cls k).sweep.classFreed k).endAct.setReceiver .sup (.answering [0x00#8])).rst.classes =
      dropKey (·.number) k s.rst.classes := by simp [State.dropRecord]
  refine ⟨_, retire_done hears hk hdone, says_setReceiver _, ?_, fun k' hne => ?_, fun hcold z _ => ?_, by simp [State.dropRecord],
    by simp [State.dropRecord], by simp, by simp, by simp⟩
  · exact (congrArg (List.find? _) hclasses).trans (find?_dropKey_self FabricClass.number k _)
  · exact (congrArg (List.find? _) hclasses).trans (find?_dropKey_ne FabricClass.number hne _)
  · have hcold' : (s.heard.dropRecord .cls k).sweep.rst.line.heat = false ∨ (s.heard.dropRecord .cls k).sweep.running = false := by
      simpa [State.running] using hcold
    have hzones : ((s.heard.dropRecord .cls k).sweep.classFreed k).endAct.hsu = ((s.heard.dropRecord .cls k).sweep.classFreed k).hsu := by
      simp
    have hbefore : (s.heard.dropRecord .cls k).sweep.hsu = s.hsu := by simp
    have hzone := classFreed_zone hcold' k z
    rw [hbefore, ← hzones] at hzone
    simpa using hzone

/-! ### The statement -/

/-- Settles O59: each table's RETIRE past the checks of R195, in the order of its states. -/
theorem retireRemovesTheRecord : Obligations.RetireRemovesTheRecord := by
  unfold Obligations.RetireRemovesTheRecord
  intro k s hears hk
  refine ⟨retire_refused hears hk (retireIn_readOnly (Or.inl rfl)), retire_refused hears hk (retireIn_readOnly (Or.inr rfl)),
    fun t hpanel hline hfirst => retire_refused hears hk (retireIn_first hpanel hline hfirst),
    fun t hpanel hline hkey hclaimed => retire_refused hears hk (retireIn_held hpanel hline hkey (by simpa only [claims_heard] using hclaimed)),
    fun t hpanel hline hfree hpattern hcls habsent => retire_refused hears hk (retireIn_absent hpanel hline hfree hpattern hcls habsent),
    fun r hfree hr => ⟨retire_roll hears hk hfree hr, fun hstate => ?_⟩, fun l hfree hl => ⟨retire_lot hears hk hfree hl, fun hstate => ?_, ?_⟩,
    fun q hfree hlast hq => ⟨retire_pattern_unused hears hk hfree hlast hq, retire_pattern_used hears hk hfree hlast hq,
      retire_pattern_retiring hears hk hfree hlast hq⟩,
    fun c hfree hlast hc hstate => ⟨retire_class_used hears hk hfree hlast hc hstate, retire_class_unused hears hk hfree hlast hc hstate⟩⟩
  · have hroll : s.heard.roll? k = some r := (roll?_congr (by simp) k).trans hr
    exact retire_refused hears hk ((retireIn_roll hfree).trans (retireRoll_refuses hroll hstate))
  · have hlot : s.heard.lot? k = some l := (lot?_congr (by simp) k).trans hl
    refine retire_refused hears hk ((retireIn_lot hfree).trans ?_)
    simp only [State.retireLot, hlot, hstate]
  · rintro h kept hstate hhead hlen hagrees ⟨hplanned, hbeyond, hleast⟩
    exact retire_feeding hears hk hfree hl hstate hhead hagrees hplanned (keptByCancel_eq hlen hplanned hbeyond hleast)

end Sys2Proof.Machine
end

section
/-! SPLICE (O44): the seven checks of R60 as conditions, and the beginning of R62. -/

namespace Sys2Proof.Machine

/-! ### Compatible classes (R44) -/

theorem nearSetpoints_iff {x y : Option Nat} :
    nearSetpoints x y = true ↔ ∃ u v, x = some u ∧ y = some v ∧ u ≤ v + 150 ∧ v ≤ u + 150 := by
  cases x with
  | none => simp [nearSetpoints]
  | some u =>
    cases y with
    | none => simp [nearSetpoints]
    | some v => simp [nearSetpoints]

theorem FabricClass.compatible_iff {a b : FabricClass} :
    a.compatible b = true ↔
      ∀ z ∈ allZones, ∃ u v, a.setpoints.get z = some u ∧ b.setpoints.get z = some v ∧ u ≤ v + 150 ∧ v ≤ u + 150 := by
  simp only [FabricClass.compatible, List.all_eq_true, nearSetpoints_iff]

/-- Classes are compatible where both numbers are set, both records stand, and the records are compatible. -/
theorem State.classesCompatible_iff {s : State} {x y : Option Nat} :
    s.classesCompatible x y = true ↔
      ∃ a b ca cb, x = some a ∧ y = some b ∧ s.class? a = some ca ∧ s.class? b = some cb ∧ ca.compatible cb = true := by
  unfold State.classesCompatible
  constructor
  · intro h
    split at h
    case h_1 ca cb hx hy =>
      obtain ⟨a, rfl, ha⟩ := Option.bind_eq_some_iff.mp hx
      obtain ⟨b, rfl, hb⟩ := Option.bind_eq_some_iff.mp hy
      exact ⟨a, b, ca, cb, rfl, rfl, ha, hb, h⟩
    case h_2 => cases h
  · rintro ⟨a, b, ca, cb, rfl, rfl, ha, hb, h⟩
    simpa only [Option.bind_some, ha, hb] using h

/-! ### The checks (R60) -/

/-- The class of the roll bound to a station. -/
def State.stationClass (s : State) (x : Station) : Option Nat := (s.boundRoll? x).bind (·.cls)

/-- Checks 1 to 5 of R60 met, with x the requested station. -/
def State.SpliceReady (s : State) (x : Station) : Prop :=
  s.running = true ∧ s.fsu.phase = .idle ∧ s.rst.line.requested = some x ∧ s.station x = .prepared ∧ s.headAtRest = true ∧
    s.classesCompatible (s.stationClass x) (s.activeRoll?.bind (·.cls)) = true

/-- Checks 6 and 7 of R60, which a FEEDING lot alone can fail. -/
def State.spliceLotRefusal (s : State) (x : Station) : Option Status :=
  match s.feedingLot? with
  | none => none
  | some l => if s.stationClass x ≠ l.cls then some .classStep else if 4 ≤ l.joints.length then some .notReady else none

theorem spliceReady_iff {s : State} {x : Station} :
    s.SpliceReady x ↔
      s.running = true ∧ s.fsu.phase = .idle ∧ s.rst.line.requested = some x ∧ s.station x = .prepared ∧
        s.asserted .retracted = true ∧ s.asserted .extended = false ∧
        ∃ a b ca cb, s.stationClass x = some a ∧ s.activeRoll?.bind (·.cls) = some b ∧
          s.class? a = some ca ∧ s.class? b = some cb ∧
          ∀ z ∈ allZones, ∃ u v, ca.setpoints.get z = some u ∧ cb.setpoints.get z = some v ∧ u ≤ v + 150 ∧ v ≤ u + 150 := by
  simp only [State.SpliceReady, State.headAtRest, Bool.and_eq_true, Bool.not_eq_true', State.classesCompatible_iff,
    FabricClass.compatible_iff, and_assoc]

theorem spliceRefusal_of_ready {s : State} {x : Station} (h : s.SpliceReady x) : s.spliceRefusal = s.spliceLotRefusal x := by
  obtain ⟨hrunning, hphase, hrequested, hstation, hhead, hclasses⟩ := h
  have hcompatible : ¬ s.classesCompatible ((s.boundRoll? x).bind (·.cls)) (s.activeRoll?.bind (·.cls)) = false :=
    (Bool.not_eq_false _).mpr hclasses
  unfold State.spliceRefusal
  rw [if_neg (by simp [hrunning]), if_neg (not_not.mpr hphase)]
  simp only [hrequested]
  rw [if_neg (not_not.mpr hstation), if_neg (by simp [hhead]), if_neg hcompatible]
  rfl

theorem spliceRefusal_of_not_ready {s : State} (h : ¬ ∃ x, s.SpliceReady x) : s.spliceRefusal = some .notReady := by
  unfold State.spliceRefusal
  split
  case isTrue => rfl
  case isFalse hrunning =>
    split
    case isTrue => rfl
    case isFalse hphase =>
      split
      case h_1 => rfl
      case h_2 x hrequested =>
        split
        case isTrue => rfl
        case isFalse hstation =>
          split
          case isTrue => rfl
          case isFalse hhead =>
            refine if_pos (Bool.eq_false_iff.mpr fun hclasses => h ⟨x, ?_⟩)
            exact ⟨by simpa using hrunning, not_not.mp hphase, hrequested, not_not.mp hstation, by simpa using hhead, hclasses⟩

theorem spliceLotRefusal_of_class_ne {s : State} {x : Station} {l : Lot} (hl : s.feedingLot? = some l) (hcls : s.stationClass x ≠ l.cls) :
    s.spliceLotRefusal x = some .classStep := by
  simp only [State.spliceLotRefusal, hl, if_pos hcls]

theorem spliceLotRefusal_of_joints {s : State} {x : Station} {l : Lot} (hl : s.feedingLot? = some l) (hcls : s.stationClass x = l.cls)
    (hjoints : 4 ≤ l.joints.length) : s.spliceLotRefusal x = some .notReady := by
  simp only [State.spliceLotRefusal, hl, if_neg (not_not.mpr hcls), if_pos hjoints]

theorem spliceLotRefusal_eq_none {s : State} {x : Station}
    (h : ∀ l, s.feedingLot? = some l → s.stationClass x = l.cls ∧ l.joints.length < 4) : s.spliceLotRefusal x = none := by
  unfold State.spliceLotRefusal
  split
  case h_1 => rfl
  case h_2 l hl =>
    obtain ⟨hcls, hjoints⟩ := h l hl
    rw [if_neg (not_not.mpr hcls), if_neg (Nat.not_le.mpr hjoints)]

/-! ### The beginning (R62) -/

/-- A splice begun onto a station: MATCHING there, the two stations latched, the 20 s limit started, and a class change reported
where the two rolls' classes differ (R62). -/
def State.spliceBegun (s : State) (x : Station) : State :=
  let s1 := s.setStation x .matching
  { s1 with
    fsu := { s1.fsu with
      phase := .matching, incoming := some x, outgoing := s.activeStation, limit := some 20000, matchCount := none }
    ltr := { s1.ltr with classChange := s1.ltr.classChange || s.stationClass x != s.activeRoll?.bind (·.cls) } }

theorem beginSplice_eq {s : State} {x : Station} (h : s.rst.line.requested = some x) : s.beginSplice = s.spliceBegun x := by
  unfold State.beginSplice State.spliceBegun
  simp only [h]
  split
  case isTrue hdiffers =>
    rw [State.stationClass, hdiffers, Bool.or_true]
    cases x <;> rfl
  case isFalse hsame =>
    rw [State.stationClass, Bool.eq_false_iff.mpr hsame, Bool.or_false]
    cases x <;> rfl

/-! ### The request -/

theorem spliceRefusal_restartInactivity (s : State) (p : Port) : (s.restartInactivity p).spliceRefusal = s.spliceRefusal := by
  cases p <;> rfl

theorem keyAdmits_restartInactivity (s : State) (p q : Port) : (s.restartInactivity p).keyAdmits q = s.keyAdmits q := by
  cases p <;> rfl

theorem setOutcome_restartInactivity (s : State) (p : Port) (o : SpliceOutcome) :
    (s.restartInactivity p).setOutcome o = (s.setOutcome o).restartInactivity p := by
  cases p <;> rfl

theorem spliceBegun_restartInactivity (s : State) (p : Port) (x : Station) :
    (s.restartInactivity p).spliceBegun x = (s.spliceBegun x).restartInactivity p := by
  cases p <;> cases x <;> rfl

theorem unregulated_setReceiver (s : State) (p : Port) (v : Receiver) :
    (s.setReceiver p v).unregulated = s.unregulated.setReceiver p v := by
  cases p <;> rfl

/-- SPLICE refused by a check: the last outcome is REFUSED, and nothing else of the line changes (R60). -/
theorem splice_refused {p : Port} {s : State} {e : Status} (hears : s.hears p = true) (hkey : s.keyAdmits p = true)
    (h : s.spliceRefusal = some e) : Yields (.splice p []) s ((s.setOutcome .refused).answered p (say e)) := by
  have hkey' : (s.restartInactivity p).keyAdmits p = true := (keyAdmits_restartInactivity s p p).trans hkey
  have hanswer : answerSplice p [] (s.restartInactivity p) = ((s.setOutcome .refused).restartInactivity p, say e) := by
    rw [answerSplice, motion_admitted _ hkey', State.splice, spliceRefusal_restartInactivity, h, setOutcome_restartInactivity]
  refine congrArg Host.Outcome.next ((State.takeRequest_taken (answerSplice p []) hears).trans ?_)
  rw [hanswer]
  rfl

/-- SPLICE past its checks: the splice begins in one act, answered OK (R60, R62). -/
theorem splice_begins {p : Port} {s : State} {x : Station} (hears : s.hears p = true) (hkey : s.keyAdmits p = true)
    (hrequested : s.rst.line.requested = some x) (h : s.spliceRefusal = none) :
    Completes (.splice p []) s ((s.spliceBegun x).answered p (say .ok)) := by
  have hkey' : (s.restartInactivity p).keyAdmits p = true := (keyAdmits_restartInactivity s p p).trans hkey
  have hrequested' : (s.restartInactivity p).rst.line.requested = some x := by simpa using hrequested
  have hanswer : answerSplice p [] (s.restartInactivity p) = done ((s.spliceBegun x).restartInactivity p).endAct := by
    rw [answerSplice, motion_admitted _ hkey', State.splice, spliceRefusal_restartInactivity, h]
    simp only [beginSplice_eq hrequested', spliceBegun_restartInactivity]
  refine ⟨_, congrArg Host.Outcome.next (takeRequest_done hears hanswer), ?_⟩
  rw [unregulated_setReceiver, endAct_unregulated, ← unregulated_setReceiver]
  rfl

/-! ### The statement -/

/-- Settles O44: the checks of R60 come down to `SpliceReady` and, with a lot FEEDING, to `spliceLotRefusal`; past them the splice
begins. -/
theorem spliceBeginsMatching : Obligations.SpliceBeginsMatching := by
  unfold Obligations.SpliceBeginsMatching
  intro p s hears hkey incoming active ready refused
  have hready : ∀ x, ready x ↔ s.SpliceReady x := fun _ => spliceReady_iff.symm
  refine ⟨fun hnone => ?_, fun x l hx hl hcls => ?_, fun x l hx hl hcls hjoints => ?_, fun x hx hlot => ?_⟩
  · exact splice_refused hears hkey (spliceRefusal_of_not_ready fun ⟨x, hx⟩ => hnone ⟨x, (hready x).mpr hx⟩)
  · exact splice_refused hears hkey ((spliceRefusal_of_ready ((hready x).mp hx)).trans (spliceLotRefusal_of_class_ne hl hcls))
  · exact splice_refused hears hkey ((spliceRefusal_of_ready ((hready x).mp hx)).trans (spliceLotRefusal_of_joints hl hcls hjoints))
  · have hready' := (hready x).mp hx
    have ⟨_, _, hrequested, _⟩ := hready'
    exact splice_begins hears hkey hrequested ((spliceRefusal_of_ready hready').trans (spliceLotRefusal_eq_none hlot))

end Sys2Proof.Machine
end

section
/-! SUPPORT. What every request keeps (O5, O8, O11): the walk from the wire to the answers, made once for any property that the answers
keep. -/

namespace Sys2Proof

/-- The commands of the ports: bytes, frames, responses and requests. -/
def Instr.onWire : Instr → Bool
  | .interByteGapExpiry _ | .frameAbandoned _ _ | .responseSent _ | .unknownCommand _ _ _ | .create _ _ | .openRecord _ _
  | .getField _ _ | .putField _ _ | .closeRecord _ _ | .nextRecord _ _ | .discard _ _ | .retire _ _ | .find _ _ | .start _ _
  | .stop _ _ | .hold _ _ | .resume _ _ | .stepLine _ _ | .splice _ _ | .permit _ _ | .clear _ _ | .tripReset _ _ | .lineReset _ _
  | .status _ _ | .ident _ _ | .byteReceived _ _ _ => true
  | _ => false

end Sys2Proof

namespace Sys2Proof.Machine

/-- A property of the state that the answers to the requests keep, those that move nothing but a port's slot apart. -/
structure AnswersKeep (P : State → Prop) : Prop where
  port {s : State} (p : Port) (v : PortState) : P s → P (s.setPort p v)
  create {s : State} (p : Port) (t : Table) (key : Nat) (st : RollStage) (inRange : Bool) : P s → P (s.createIn p t key st inRange).1
  close {s : State} (p : Port) : P s → P (s.close p).1
  next {s : State} (p : Port) : P s → P (s.next p).1
  discard {s : State} (p : Port) : P s → P (s.discard p).1
  retire {s : State} (t : Table) (key : Nat) : P s → P (s.retireIn t key).1
  start {s : State} : P s → P s.tryStart.1
  stop {s : State} : P s → P s.stopLine.endAct
  hold {s : State} : P s → P (s.setHold .host).endAct
  resume {s : State} : P s → P (s.dropHold .host).endAct
  step {s : State} : P s → P s.tryStep.1
  splice {s : State} : P s → P s.splice.1
  permit {s : State} : P s → P s.permitHeat.1
  clear {s : State} (kinds : List Alert) : P s → P (kinds.foldl State.clearKind s).endAct
  tripReset {s : State} : P s → P s.resetTrip.1
  lineReset {s : State} : P s → P s.lineReset.1

namespace AnswersKeep

variable {P : State → Prop} {s : State}

theorem slot (h : AnswersKeep P) (hs : P s) (p : Port) (v : Slot) : P (s.setSlot p v) := h.port p _ hs

theorem bareKeeps (hs : P s) (ops : List Byte) {g : State × Reply} (hg : P g.1) : P (bare ops s g).1 := by
  unfold bare
  split
  · exact hg
  · exact hs

theorem motionKeeps (hs : P s) (p : Port) (ops : List Byte) {g : State × Reply} (hg : P g.1) : P (motion p ops s g).1 := by
  refine bareKeeps hs ops ?_
  split
  · exact hg
  · exact hs

theorem supervisorOnlyKeeps (hs : P s) (p : Port) (ops : List Byte) {g : State × Reply} (hg : P g.1) :
    P (supervisorOnly p ops s g).1 := by
  refine bareKeeps hs ops ?_
  split
  · exact hs
  · exact hg

theorem freshSlot (h : AnswersKeep P) (hs : P s) {p : Port} {t : State} (ht : s.freshSlot p = some t) : P t := by
  unfold State.freshSlot at ht
  split at ht
  · cases ht; exact hs
  · cases ht; exact h.slot hs p _
  · cases ht
  · cases ht

theorem createAnswer (h : AnswersKeep P) (hs : P s) (p : Port) (ops : List Byte) : P (answerCreate p ops s).1 := by
  unfold answerCreate
  (repeat' split) <;> try exact hs
  rename_i hfresh
  exact h.create p _ _ _ _ (h.freshSlot hs hfresh)

theorem openAnswer (h : AnswersKeep P) (hs : P s) (p : Port) (ops : List Byte) : P (answerOpen p ops s).1 := by
  unfold answerOpen
  (repeat' split) <;> try exact hs
  rename_i hfresh
  have hfreshP := h.freshSlot hs hfresh
  unfold State.openIn
  split
  · exact hfreshP
  · split
    · exact hfreshP
    · exact h.slot hfreshP p _

theorem getAnswer (h : AnswersKeep P) (hs : P s) (p : Port) (ops : List Byte) : P (answerGet p ops s).1 := by
  unfold answerGet
  split
  · unfold State.getField
    split
    · exact hs
    · exact h.slot hs p _
    · exact hs
    · exact hs
  · exact hs

theorem putAnswer (h : AnswersKeep P) (hs : P s) (p : Port) (ops : List Byte) : P (answerPut p ops s).1 := by
  unfold answerPut
  split
  · unfold State.putField
    split
    · exact hs
    · exact h.slot hs p _
    · exact hs
    · split
      · exact hs
      · exact h.slot hs p _
  · exact hs

theorem findAnswer (hs : P s) (p : Port) (ops : List Byte) : P (answerFind p ops s).1 := by
  unfold answerFind
  (repeat' split) <;> exact hs

theorem answerBody (h : AnswersKeep P) (hs : P s) (p : Port) (body : List Byte) : P (answerBody p body s).1 := by
  unfold Machine.answerBody
  split
  · exact hs
  · split
    · exact h.createAnswer hs p _
    · exact h.openAnswer hs p _
    · exact h.getAnswer hs p _
    · exact h.putAnswer hs p _
    · exact bareKeeps hs _ (h.close p hs)
    · exact bareKeeps hs _ (h.next p hs)
    · exact bareKeeps hs _ (h.discard p hs)
    · unfold answerRetire
      (repeat' split) <;> first | exact hs | exact h.retire _ _ hs
    · exact findAnswer hs p _
    · exact motionKeeps hs p _ (h.start hs)
    · exact bareKeeps hs _ (h.stop hs)
    · exact bareKeeps hs _ (h.hold hs)
    · exact motionKeeps hs p _ (h.resume hs)
    · exact motionKeeps hs p _ (h.step hs)
    · exact motionKeeps hs p _ (h.splice hs)
    · exact supervisorOnlyKeeps hs p _ (h.permit hs)
    · unfold answerClear
      split
      · exact hs
      · exact h.clear _ hs
    · exact motionKeeps hs p _ (h.tripReset hs)
    · exact supervisorOnlyKeeps hs p _ (h.lineReset hs)
    · exact bareKeeps hs _ hs
    · exact bareKeeps hs _ hs
    · exact hs

theorem takeRequest (h : AnswersKeep P) {answer : State → State × Reply} (hanswer : ∀ {u}, P u → P (answer u).1) (hs : P s) (p : Port) :
    P (s.takeRequest p answer) := by
  unfold State.takeRequest
  split
  · exact h.port p _ (hanswer (h.port p _ hs))
  · exact hs

theorem takeBody (h : AnswersKeep P) (hs : P s) (p : Port) (body : List Byte) : P (s.takeRequest p (Machine.answerBody p body)) :=
  h.takeRequest (fun hu => h.answerBody hu p body) hs p

theorem takeByte (h : AnswersKeep P) (hs : P s) (p : Port) (got : List Byte) (b : Byte) : P (s.takeByte p got b) := by
  unfold State.takeByte
  split
  · split <;> exact h.port p _ hs
  · dsimp only
    split
    · exact h.port p _ hs
    · split
      · exact h.port p _ hs
      · exact h.takeBody hs p _

theorem byteReceived (h : AnswersKeep P) (hs : P s) {p : Port} {b : Byte} {f : Bool} {t : State}
    (ht : execByteReceived p b f s = .next t) : P t := by
  unfold execByteReceived at ht
  cases ht
  split
  · exact hs
  · split
    · exact h.port p _ hs
    · exact hs
  · split
    · exact h.port p _ hs
    · exact h.takeByte hs p _ b
  · exact hs

theorem abandonIfReceiving (h : AnswersKeep P) (hs : P s) (p : Port) : P (s.abandonIfReceiving p) := by
  unfold State.abandonIfReceiving
  split
  · exact h.port p _ hs
  all_goals exact hs

/-- What the answers keep, every command of the ports keeps. -/
theorem exec (h : AnswersKeep P) {c : Instr} (hc : c.onWire = true) {t : State} (ht : exec c s = .next t) (hs : P s) : P t := by
  cases c with
  | interByteGapExpiry p => cases ht; exact h.abandonIfReceiving hs p
  | frameAbandoned p cause => cases ht; exact h.abandonIfReceiving hs p
  | responseSent p =>
    cases ht
    split
    · exact h.port p _ hs
    all_goals exact hs
  | byteReceived p b f => exact h.byteReceived hs ht
  | unknownCommand p => cases ht; exact h.takeRequest (answer := answerUnknown) (fun hu => hu) hs p
  | create p ops => cases ht; exact h.takeBody hs p (0x10#8 :: ops)
  | openRecord p ops => cases ht; exact h.takeBody hs p (0x11#8 :: ops)
  | getField p ops => cases ht; exact h.takeBody hs p (0x12#8 :: ops)
  | putField p ops => cases ht; exact h.takeBody hs p (0x13#8 :: ops)
  | closeRecord p ops => cases ht; exact h.takeBody hs p (0x14#8 :: ops)
  | nextRecord p ops => cases ht; exact h.takeBody hs p (0x15#8 :: ops)
  | discard p ops => cases ht; exact h.takeBody hs p (0x16#8 :: ops)
  | retire p ops => cases ht; exact h.takeBody hs p (0x17#8 :: ops)
  | find p ops => cases ht; exact h.takeBody hs p (0x18#8 :: ops)
  | start p ops => cases ht; exact h.takeBody hs p (0x40#8 :: ops)
  | stop p ops => cases ht; exact h.takeBody hs p (0x41#8 :: ops)
  | hold p ops => cases ht; exact h.takeBody hs p (0x42#8 :: ops)
  | resume p ops => cases ht; exact h.takeBody hs p (0x43#8 :: ops)
  | stepLine p ops => cases ht; exact h.takeBody hs p (0x44#8 :: ops)
  | splice p ops => cases ht; exact h.takeBody hs p (0x45#8 :: ops)
  | permit p ops => cases ht; exact h.takeBody hs p (0x46#8 :: ops)
  | clear p ops => cases ht; exact h.takeBody hs p (0x47#8 :: ops)
  | tripReset p ops => cases ht; exact h.takeBody hs p (0x48#8 :: ops)
  | lineReset p ops => cases ht; exact h.takeBody hs p (0x49#8 :: ops)
  | status p ops => cases ht; exact h.takeBody hs p (0x4A#8 :: ops)
  | ident p ops => cases ht; exact h.takeBody hs p (0x4B#8 :: ops)
  | _ => cases hc

end AnswersKeep
end Sys2Proof.Machine
end

section
/-! SUPPORT. The governor's references (O5): every act that touches them ends by computing them again. -/

namespace Sys2Proof.Machine

/-- What the laws of the governor and of the references speak of is the same in two states. -/
def SharesDrive (s t : State) : Prop :=
  t.sgv.gov = s.sgv.gov ∧ t.sgv.intent = s.sgv.intent ∧ t.sgv.holds = s.sgv.holds ∧ t.sgv.flatRef = s.sgv.flatRef ∧
    t.sgv.beltRef = s.sgv.beltRef ∧ t.sgv.ceiling = s.sgv.ceiling ∧ t.rst.line = s.rst.line ∧ t.pfm = s.pfm ∧
    t.fsu.webBreak = s.fsu.webBreak

/-- A property of the governor's references that the end of an act establishes. -/
structure EndsRegulated (P : State → Prop) : Prop where
  shares {s t : State} : P s → SharesDrive s t → P t
  ends (s : State) : P s.endAct

theorem governorLaw_endsRegulated : EndsRegulated GovernorLaw where
  shares := by
    rintro s t h ⟨hgov, hintent, hholds, hflat, -, hceiling, -, -, -⟩
    unfold GovernorLaw
    rw [hgov, hintent, hholds, hflat, hceiling]
    exact h
  ends := endAct_governorLaw

theorem referenceLaw_endsRegulated : EndsRegulated ReferenceLaw where
  shares := by
    rintro s t h ⟨hgov, -, -, hflat, hbelt, hceiling, hline, hpfm, hbreak⟩
    unfold ReferenceLaw State.formingRatio
    rw [hgov, hflat, hbelt, hceiling, hline, hpfm, hbreak]
    exact h
  ends := endAct_referenceLaw

namespace EndsRegulated

variable {P : State → Prop} {s : State}

theorem close (h : EndsRegulated P) (hs : P s) (p : Port) : P (s.close p).1 := by
  unfold State.close
  split
  · exact hs
  · exact h.shares hs (by simp [SharesDrive])
  · exact h.shares hs (by simp [SharesDrive, done])
  · split
    · exact hs
    · exact h.ends _

theorem next (h : EndsRegulated P) (hs : P s) (p : Port) : P (s.next p).1 := by
  unfold State.next
  split
  · exact hs
  · exact h.shares hs (by simp [SharesDrive])
  · exact h.shares hs (by simp [SharesDrive])
  · split
    · exact hs
    · rename_i u _
      exact h.shares (h.ends u) (by simp [SharesDrive])

theorem retireIn (h : EndsRegulated P) (hs : P s) (t : Table) (key : Nat) : P (s.retireIn t key).1 := by
  unfold State.retireIn State.retirePattern State.retireClass State.retireRoll State.retireLot
  (repeat' split) <;> first | exact h.ends _ | exact h.shares hs (by simp [SharesDrive, done, refuse])

theorem answersKeep (h : EndsRegulated P) : AnswersKeep P where
  port _ _ hs := h.shares hs (by simp [SharesDrive])
  create _ _ _ _ _ hs := h.shares hs (by simp [SharesDrive])
  close _ hs := h.close hs _
  next _ hs := h.next hs _
  discard _ hs := h.shares hs (by simp [SharesDrive])
  retire _ _ hs := h.retireIn hs _ _
  start hs := by
    unfold State.tryStart
    (repeat' split) <;> first | exact hs | exact h.ends _
  stop _ := h.ends _
  hold _ := h.ends _
  resume _ := h.ends _
  step hs := by
    unfold State.tryStep
    (repeat' split) <;> first | exact hs | exact h.ends _
  splice hs := by
    unfold State.splice
    split
    · exact h.shares hs (by simp [SharesDrive])
    · exact h.ends _
  permit hs := h.shares hs (by simp [SharesDrive])
  clear _ _ := h.ends _
  tripReset hs := by
    unfold State.resetTrip
    (repeat' split) <;> first | exact hs | exact h.ends _
  lineReset hs := by
    unfold State.lineReset
    split
    · exact h.ends _
    · exact hs

/-- A command ends with the values computed again, or leaves them as they were. -/
theorem exec (h : EndsRegulated P) (hreset : P State.reset) {c : Instr} {t : State} (ht : exec c s = .next t) (hs : P s) : P t := by
  by_cases hwire : c.onWire = true
  · exact h.answersKeep.exec hwire ht hs
  · cases c with
    | resetPin => cases ht; exact h.shares hreset (by simp [SharesDrive])
    | rawInputChange i v => cases ht; exact h.shares hs (by simp [SharesDrive])
    | inactivityExpiry p =>
      cases ht
      split
      · exact h.shares hs (by simp [SharesDrive])
      · exact hs
    | rampIntervalExpiry => cases ht; split <;> exact h.ends _
    | senseReading k v f =>
      cases ht
      split
      · exact hs
      · exact h.ends _
    | feedCount | beltCount | speedRefresh | tensionLockCount | tensionWatchCount | matchCount | doseIntervalExpiry =>
      cases ht; exact h.ends _
    | debounceSettle | dancerTimeout | matchLimitExpiry | headLimitExpiry | knifeLimitExpiry | retractLimitExpiry | webBreakExpiry
    | bladeLimitExpiry | cutterLimitExpiry | zoneSettleExpiry | readingStale | heatPermitExpiry | standstillExpiry =>
      cases ht
      split
      · exact h.ends _
      · exact hs
    | _ => exact absurd rfl hwire

theorem step (h : EndsRegulated P) (hreset : P State.reset) {t : State} (ht : step s = .next t) (hs : P s) : P t := by
  unfold Machine.step at ht
  split at ht
  · cases ht
    exact hs
  · exact h.exec hreset ht (h.shares hs ⟨rfl, rfl, rfl, rfl, rfl, rfl, rfl, rfl, rfl⟩)

end EndsRegulated

/-- Settles O5: the end of an act establishes both laws whatever the act did, and the commands that do not end an act leave the values
both speak of. -/
theorem governorLawsKept : Obligations.GovernorLawsKept := by
  unfold Obligations.GovernorLawsKept
  obtain ⟨hgovernor, hreference, -⟩ := lawsHoldAtReset
  exact ⟨fun s t hs ht => governorLaw_endsRegulated.step hgovernor ht hs,
    fun s t hs ht => referenceLaw_endsRegulated.step hreference ht hs⟩

end Sys2Proof.Machine
end

section
/-! SUPPORT. What the part does to its stations, its splice and its actuators (O8, O11): the moves that every act is made of, and the
properties that survive them. -/

namespace Sys2Proof.Machine

/-- The inputs, the rolls, the stations and the splice of one state are another's. -/
def SharesStations (s t : State) : Prop :=
  t.inputs = s.inputs ∧ t.rst.rolls = s.rst.rolls ∧ t.fsu.staA = s.fsu.staA ∧ t.fsu.staB = s.fsu.staB ∧ t.fsu.phase = s.fsu.phase ∧
    t.fsu.incoming = s.fsu.incoming ∧ t.fsu.outgoing = s.fsu.outgoing ∧ t.fsu.extend = s.fsu.extend ∧ t.fsu.knife = s.fsu.knife

/-- The outputs of the blade bank and the cutter, with their cycles and limits, are another's. -/
def SharesActuators (s t : State) : Prop :=
  t.pfm.strike = s.pfm.strike ∧ t.pfm.cycle = s.pfm.cycle ∧ t.pfm.bladeLimit = s.pfm.bladeLimit ∧ t.pfm.depths = s.pfm.depths ∧
    t.exu.cut = s.exu.cut ∧ t.exu.cycle = s.exu.cycle ∧ t.exu.limit = s.exu.limit ∧ t.exu.divert = s.exu.divert

/-- Both, and the governor too. -/
def SharesFeed (s t : State) : Prop := SharesStations s t ∧ SharesActuators s t ∧ t.sgv.gov = s.sgv.gov

@[simp] theorem sharesStations_iff (s t : State) : SharesStations s t ↔
    t.inputs = s.inputs ∧ t.rst.rolls = s.rst.rolls ∧ t.fsu.staA = s.fsu.staA ∧ t.fsu.staB = s.fsu.staB ∧ t.fsu.phase = s.fsu.phase ∧
      t.fsu.incoming = s.fsu.incoming ∧ t.fsu.outgoing = s.fsu.outgoing ∧ t.fsu.extend = s.fsu.extend ∧
      t.fsu.knife = s.fsu.knife := Iff.rfl

@[simp] theorem sharesActuators_iff (s t : State) : SharesActuators s t ↔
    t.pfm.strike = s.pfm.strike ∧ t.pfm.cycle = s.pfm.cycle ∧ t.pfm.bladeLimit = s.pfm.bladeLimit ∧ t.pfm.depths = s.pfm.depths ∧
      t.exu.cut = s.exu.cut ∧ t.exu.cycle = s.exu.cycle ∧ t.exu.limit = s.exu.limit ∧ t.exu.divert = s.exu.divert := Iff.rfl

@[simp] theorem sharesFeed_iff (s t : State) :
    SharesFeed s t ↔ SharesStations s t ∧ SharesActuators s t ∧ t.sgv.gov = s.sgv.gov := Iff.rfl

/-- The blade bank's outputs are what its cycle says (R105). -/
def Pfm.Fits (f : Pfm) : Prop :=
  (f.strike = true ↔ f.cycle = .stroke) ∧ (f.bladeLimit.isSome = true ↔ f.cycle = .stroke ∨ f.cycle = .back) ∧
    (f.cycle = .idle ∨ f.cycle = .away → f.depths = depthsAtRest)

/-- The cutter's outputs are what its cycle says (R142). -/
def Exu.Fits (e : Exu) : Prop :=
  (e.cut = true ↔ e.cycle = .stroke) ∧ (e.limit.isSome = true ↔ e.cycle = .stroke ∨ e.cycle = .back)

/-- The blade bank and the cutter fit their cycles, and are at rest in a line TRIPPED (R111, R151). -/
def ActuatorsFit (s : State) : Prop :=
  s.pfm.Fits ∧ s.exu.Fits ∧ (s.sgv.gov = .tripped → s.pfm.strike = false ∧ s.exu.cut = false ∧ s.exu.divert = true)

theorem ActuatorsFit.of_shares {s t : State} (h : ActuatorsFit s) (hshares : SharesActuators s t)
    (hgov : t.sgv.gov = .tripped → s.sgv.gov = .tripped) : ActuatorsFit t := by
  obtain ⟨hstrike, hcycle, hlimit, hdepths, hcut, hcutter, hcutLimit, hdivert⟩ := hshares
  unfold ActuatorsFit Pfm.Fits Exu.Fits at *
  rw [hstrike, hcycle, hlimit, hdepths, hcut, hcutter, hcutLimit, hdivert]
  exact ⟨h.1, h.2.1, fun ht => h.2.2 (hgov ht)⟩

/-- A station's state replaced and a roll put into the table. -/
def State.rebind (s : State) (x : Station) (v : StationState) (r : Roll) : State := (s.setStation x v).putRoll r

/-- The joint made: the outgoing station JOINED, the incoming one FEEDING, and the phase CUT (R65). -/
def State.joinRolls (s : State) : State :=
  { s.spendOutgoing.feedIncoming with fsu := { s.spendOutgoing.feedIncoming.fsu with phase := .cut, knife := true } }

/-- A station FEEDING, its roll ACTIVE with its initial length (R56). -/
def State.feedFrom (s : State) (x : Station) : State :=
  match s.boundRoll? x with
  | none => s.setStation x .feeding
  | some r => s.rebind x .feeding { r with state := .active, remaining := r.initLen.getD 0 }

/-- A property that survives each thing an act does to the stations, the rolls on them, the splice and the actuators. -/
structure FeedInvariant (P : State → Prop) : Prop where
  /-- The actuators and the governor move, the stations do not. -/
  acts {s t : State} : P s → SharesStations s t → (ActuatorsFit s → ActuatorsFit t) →
    (t.sgv.gov = .tripped → s.sgv.gov = .tripped ∨ s.fsu.phase = .idle) →
    (s.fsu.phase ≠ .idle → s.running = true → t.running = true) → P t
  untripped {s : State} : P s → s.sgv.gov = .tripped → s.fsu.phase = .idle
  pin {s : State} {i : Input} {v : Pin} : P s → (∀ x, i = Station.seatedPin x → (v.level == some true) = s.asserted i) → P (s.setPin i v)
  first {s : State} {v : Pin} {level : Bool} (x : Station) : P s → s.asserted x.seatedPin = false → v.level = some level →
    P ((s.setPin x.seatedPin v).setStation x (if level then .seated else .empty))
  seated {s : State} {v : Pin} (x : Station) : P s → s.asserted x.seatedPin = false → v.level = some true →
    P ((s.setPin x.seatedPin v).seatedRise x)
  lifted {s : State} {v : Pin} (x : Station) : P s → v.level = some false →
    (s.fsu.phase = .matching ∨ s.fsu.phase = .press → s.station x ≠ .matching ∧ s.station x ≠ .matched ∧ s.station x ≠ .feeding) →
    P ((s.setPin x.seatedPin v).emptyStation x)
  roll {s : State} {r r' : Roll} : P s → r ∈ s.rst.rolls → r'.tag = r.tag → r'.state = r.state → r'.station = r.station →
    (r.placed = true → r'.placed = true) → P (s.putRoll r')
  newRoll {s : State} {n : Nat} : P s → s.roll? n = none → P (s.putRoll (Roll.created n))
  dropRoll {s : State} {n : Nat} {r : Roll} : P s → s.roll? n = some r → r.state = .new ∨ r.state = .declared ∨ r.station = none →
    P (s.dropRecord .roll n)
  dropNew {s : State} : P s → P { s with rst := { s.rst with rolls := s.rst.rolls.filter Roll.committed } }
  /-- A roll NEW or DECLARED is committed, and stays off the stations (R49). -/
  declared {s : State} {r r' : Roll} : P s → r ∈ s.rst.rolls → r.state = .new ∨ r.state = .declared → r'.tag = r.tag →
    r'.state = .declared → r'.station = r.station → (r.placed = true → r'.placed = true) → P (s.putRoll r')
  bound {s : State} {x : Station} {r : Roll} : P s → r ∈ s.rst.rolls → r.state = .declared → s.station x = .seated →
    s.boundRoll? x = none → P (s.bindRoll x r)
  prepared {s : State} {x : Station} {r r' : Roll} : P s → r ∈ s.rst.rolls → r.state = .mounted → r.station = some x → r'.tag = r.tag →
    r'.state = .prepared → r'.station = some x → r'.leaderReady = true → P (s.rebind x .prepared r')
  unprepared {s : State} {x : Station} {r r' : Roll} : P s → r ∈ s.rst.rolls → r.state = .prepared → r.station = some x →
    (s.fsu.phase = .matching ∨ s.fsu.phase = .press → s.station x ≠ .matching ∧ s.station x ≠ .matched) → r'.tag = r.tag →
    r'.state = .mounted → r'.station = some x → r'.leaderReady = false → P (s.rebind x .seated r')
  threaded {s : State} {x : Station} : P s → s.activeStation = none → s.running = false → s.station x = .prepared → P (s.feedFrom x)
  judged {s : State} {x : Station} {v : StationState} : P s → s.fsu.phase = .matching → s.fsu.incoming = some x →
    v = .matching ∨ v = .matched → s.station x = .matching ∨ s.station x = .matched → P (s.setStation x v)
  ranDown {s : State} {x : Station} {v : StationState} : P s → s.station x = .joined ∧ v = .rundown ∨ s.station x = .rundown ∧ v = .seated →
    P (s.setStation x v)
  begun {s : State} {x : Station} : P s → s.running = true → s.fsu.phase = .idle → s.rst.line.requested = some x →
    s.station x = .prepared → s.activeStation = some x.other → P s.beginSplice
  pressed {s : State} : P s → s.fsu.phase = .matching → P s.enterPress
  joined {s : State} : P s → s.fsu.phase = .press → P s.joinRolls
  retracts {s : State} : P s → s.fsu.phase = .cut → P s.enterRetract
  ended {s : State} (o : SpliceOutcome) : P s → s.fsu.phase = .retract → P (s.spliceOver o)
  abandoned {s : State} (o : SpliceOutcome) : P s → P (s.abandonSplice o)
  powerOn {s t : State} : execResetPin s = .next t → P t

namespace FeedInvariant

variable {P : State → Prop} {s : State}

/-! ### What an act leaves, and the governor's moves -/

theorem actuators (h : FeedInvariant P) (hs : P s) {t : State} (hstations : SharesStations s t) (hgov : t.sgv.gov = s.sgv.gov)
    (hfit : ActuatorsFit s → ActuatorsFit t) : P t :=
  h.acts hs hstations hfit (fun ht => Or.inl (hgov ▸ ht)) fun _ hrun => by rw [State.running, hgov]; exact hrun

theorem shares (h : FeedInvariant P) (hs : P s) {t : State} (hshares : SharesFeed s t) : P t :=
  h.actuators hs hshares.1 hshares.2.2 fun hfit => hfit.of_shares hshares.2.1 fun ht => hshares.2.2 ▸ ht

/-- The governor moves, but not to TRIPPED, and under a splice not out of CREEP and RUN. -/
theorem governs (h : FeedInvariant P) (hs : P s) {t : State} (hstations : SharesStations s t) (hactuators : SharesActuators s t)
    (hgov : t.sgv.gov ≠ .tripped) (hrun : s.fsu.phase ≠ .idle → s.running = true → t.running = true) : P t :=
  h.acts hs hstations (fun hfit => hfit.of_shares hactuators fun ht => absurd ht hgov) (fun ht => absurd ht hgov) hrun

theorem endAct (h : FeedInvariant P) (hs : P s) : P s.endAct := by
  by_cases hrun : s.sgv.gov = .run
  · have hgov := endAct_gov_of_run hrun
    refine h.governs hs (by simp) (by simp) ?_ fun _ _ => ?_
    · rcases hgov with hg | hg <;> simp [hg]
    · rcases hgov with hg | hg <;> simp [State.running, hg]
  · exact h.shares hs (by simp [endAct_gov_of_ne_run hrun])

end FeedInvariant
end Sys2Proof.Machine
end

section
/-! SUPPORT. The acts of the units as moves of the stations, the splice and the actuators (O8, O11). -/

namespace Sys2Proof.Machine

/-! ### The splice abandoned (R68) -/

theorem abandonSplice_phase (s : State) (o : SpliceOutcome) : (s.abandonSplice o).fsu.phase = .idle := by
  unfold State.abandonSplice
  split
  · assumption
  · rfl

/-- What FSU is after a splice is abandoned follows from what it was. -/
theorem abandonSplice_fsu_congr {s t : State} (h : t.fsu = s.fsu) (o : SpliceOutcome) :
    (t.abandonSplice o).fsu = (s.abandonSplice o).fsu := by
  have hstation (x : Station) : t.station x = s.station x := by cases x <;> simp [State.station, h]
  have hset (x : Station) (v : StationState) : (t.setStation x v).fsu = (s.setStation x v).fsu := by
    cases x <;> simp [State.setStation, h]
  have hrelease : t.releaseIncoming.fsu = s.releaseIncoming.fsu := by
    unfold State.releaseIncoming
    rw [h]
    split
    · exact h
    · rw [hstation]
      split
      · exact hset _ _
      · exact h
  unfold State.abandonSplice State.spliceOver State.setClassChange
  rw [h]
  split
  · exact h
  · split
    · simp only [hrelease]
    · simp only [h]

/-! ### The blade bank and the cutter -/

theorem bladesTo_fits {s : State} {c : Cycle} (hc : c = .idle ∨ c = .away) : (s.bladesTo c).pfm.Fits := by
  rcases hc with rfl | rfl <;> simp [Pfm.Fits, State.bladesTo]

theorem cutterTo_fits {s : State} {c : Cycle} (hc : c = .idle ∨ c = .away) : (s.cutterTo c).exu.Fits := by
  rcases hc with rfl | rfl <;> simp [Exu.Fits, State.cutterTo]

theorem cycleAt_rests (home : Bool) : cycleAt home = .idle ∨ cycleAt home = .away := by cases home <;> simp [cycleAt]

/-- A cycle after a trip: STROKE is taken for made, an unfinished return is AWAY (R111, R151). -/
def Cycle.tripped : Cycle → Cycle
  | .idle => .idle
  | .stroke => .idle
  | .back => .away
  | .away => .away

theorem Cycle.tripped_rests (c : Cycle) : c.tripped = .idle ∨ c.tripped = .away := by cases c <;> simp [Cycle.tripped]

/-- The blade bank after a trip is at rest (R111). -/
theorem bladeTrip_pfm (s : State) :
    s.bladeTrip.pfm = { s.pfm with
      strike := false, cycle := s.pfm.cycle.tripped, bladeLimit := none, strikeFor := none, depths := depthsAtRest } := by
  unfold State.bladeTrip State.bladesTo
  split <;> rename_i h <;> simp [h, Cycle.tripped]

theorem failedStroke_exu (s : State) : s.failedStroke.exu = { s.exu with pendingFault := s.failedStroke.exu.pendingFault } := by
  unfold State.failedStroke State.passCutFault
  (repeat' split) <;> rfl

/-- The cutter after a trip is at rest, DIVERT at reject (R151). -/
theorem exitTrip_exu (s : State) :
    s.exitTrip.exu.cut = false ∧ s.exitTrip.exu.limit = none ∧ s.exitTrip.exu.cycle = s.exu.cycle.tripped ∧
      s.exitTrip.exu.divert = true ∧ s.exitTrip.exu.last = s.exu.last ∧ s.exitTrip.exu.b = s.exu.b ∧
      s.exitTrip.exu.belt = s.exu.belt := by
  unfold State.exitTrip State.cutterTo State.setDivert
  split <;> rename_i h
  case h_2 => rw [failedStroke_exu]; simp [h, Cycle.tripped]
  all_goals simp [h, Cycle.tripped]

theorem Pfm.fits_of_rest {f : Pfm} (hcycle : f.cycle = .idle ∨ f.cycle = .away) (hstrike : f.strike = false) (hlimit : f.bladeLimit = none)
    (hdepths : f.depths = depthsAtRest) : f.Fits := by
  rcases hcycle with hc | hc <;> simp [Pfm.Fits, hc, hstrike, hlimit, hdepths]

theorem Exu.fits_of_rest {e : Exu} (hcycle : e.cycle = .idle ∨ e.cycle = .away) (hcut : e.cut = false) (hlimit : e.limit = none) :
    e.Fits := by
  rcases hcycle with hc | hc <;> simp [Exu.Fits, hc, hcut, hlimit]

/-- Blade bank and cutter at rest fit their cycles in every state of the governor. -/
theorem actuatorsFit_of_rest {s : State} (hblades : s.pfm.Fits) (hcutter : s.exu.Fits) (hstrike : s.pfm.strike = false)
    (hcut : s.exu.cut = false) (hdivert : s.exu.divert = true) : ActuatorsFit s :=
  ⟨hblades, hcutter, fun _ => ⟨hstrike, hcut, hdivert⟩⟩

/-- The blade bank at rest. -/
theorem ActuatorsFit.bladesTo {s : State} (h : ActuatorsFit s) {c : Cycle} (hc : c = .idle ∨ c = .away) : ActuatorsFit (s.bladesTo c) :=
  ⟨bladesTo_fits hc, h.2.1, fun ht => ⟨rfl, (h.2.2 ht).2⟩⟩

/-- The cutter out of its cycle. -/
theorem ActuatorsFit.cutterTo {s : State} (h : ActuatorsFit s) {c : Cycle} (hc : c = .idle ∨ c = .away) : ActuatorsFit (s.cutterTo c) :=
  ⟨h.1, cutterTo_fits hc, fun ht => ⟨(h.2.2 ht).1, rfl, (h.2.2 ht).2.2⟩⟩

namespace FeedInvariant

variable {P : State → Prop} {s : State}

theorem bladesTo (h : FeedInvariant P) (hs : P s) {c : Cycle} (hc : c = .idle ∨ c = .away) : P (s.bladesTo c) :=
  h.actuators hs (by simp) (by simp) fun hfit => hfit.bladesTo hc

theorem cutterTo (h : FeedInvariant P) (hs : P s) {c : Cycle} (hc : c = .idle ∨ c = .away) : P (s.cutterTo c) :=
  h.actuators hs (by simp) (by simp) fun hfit => hfit.cutterTo hc

theorem failedStroke (h : FeedInvariant P) (hs : P s) : P s.failedStroke :=
  h.shares hs (by rw [sharesFeed_iff, sharesActuators_iff, failedStroke_exu]; simp)

theorem cutterJam (h : FeedInvariant P) (hs : P s) : P s.cutterJam := by
  unfold State.cutterJam
  split
  · exact h.cutterTo (h.failedStroke hs) (Or.inr rfl)
  · exact h.cutterTo hs (Or.inr rfl)

/-- A tail that arrives: a cut begun from rest, or none, and DIVERT by the verdict, which is at reject in a line TRIPPED (R141, R148). -/
theorem tailArrival (h : FeedInvariant P) (hs : P s) (p : Panel) : P (s.tailArrival p) := by
  have hpassed : P (s.uncutTail p.serial) :=
    h.shares hs (by
      have : (s.uncutTail p.serial).exu = { s.exu with pendingFault := (s.uncutTail p.serial).exu.pendingFault } := by
        unfold State.uncutTail State.passCutFault
        (repeat' split) <;> rfl
      rw [sharesFeed_iff, sharesActuators_iff, this]; simp)
  unfold State.tailArrival
  dsimp only
  by_cases hmade : s.cutMade = true
  · rw [if_pos hmade]
    refine h.actuators hs (by simp) (by simp) fun hfit => ?_
    have huntripped : s.sgv.gov ≠ .tripped := by
      intro ht
      simp [State.cutMade, ht] at hmade
    have hbegun : (s.beginCut p.serial).exu.Fits := by simp [Exu.Fits, State.beginCut]
    refine ⟨by simpa [State.beginCut] using hfit.1, by simpa [Exu.Fits] using hbegun, fun ht => ?_⟩
    simp only [State.retirePanel_frame, State.setDivert_frame, State.beginCut_frame] at ht
    exact absurd ht huntripped
  · rw [if_neg hmade, Bool.eq_false_iff.mpr hmade]
    refine h.actuators hpassed (by simp) (by simp) fun hfit => ?_
    refine ⟨by simpa using hfit.1, by simpa [Exu.Fits] using hfit.2.1, fun ht => ?_⟩
    have hrest := hfit.2.2 (by simpa using ht)
    refine ⟨by simpa using hrest.1, by simpa using hrest.2.1, ?_⟩
    have hverdict : p.toReject (p.verdict (!false)) = true := by simp [Panel.verdict, Panel.toReject]
    rw [hverdict]
    simp [State.setDivert]

theorem takeTails (h : FeedInvariant P) (n : Nat) (hs : P s) : P (s.takeTails n) := by
  induction n generalizing s with
  | zero => exact hs
  | succ n ih =>
    unfold State.takeTails
    split
    · exact hs
    · rename_i p _ _
      exact ih (h.shares (h.tailArrival hs p) (by simp))

theorem strikeOrMiss (h : FeedInvariant P) (hs : P s) (f : FormContext) (k : Nat) : P (s.strikeOrMiss f k) := by
  unfold State.strikeOrMiss
  split
  · exact hs
  · split
    · rename_i hidle
      split
      · exact hs
      · refine h.actuators hs (by simp) (by simp) fun hfit => ⟨?_, hfit.2.1, fun ht => absurd ht hidle.2⟩
        simp [Pfm.Fits, State.beginStrike]
    · exact h.shares hs (by simp)

theorem strikeArrival (h : FeedInvariant P) (hs : P s) : P s.strikeArrival := by
  unfold State.strikeArrival
  split
  · rename_i k f _ _
    split
    · exact h.shares (h.strikeOrMiss hs f k) (by simp)
    · exact hs
  · exact hs

theorem formUnits (h : FeedInvariant P) (hs : P s) (d : Travel) : P (s.formUnits d) := by
  cases d with
  | reverse => exact hs
  | forward => exact h.shares (h.strikeArrival hs) (by simp [State.formUnits])

theorem homeFall (h : FeedInvariant P) (hs : P s) (hstop : ∀ {u} c, P u → P (u.raiseStop c)) : P s.homeFall := by
  unfold State.homeFall
  split <;> rename_i hcycle
  · exact hstop _ (h.bladesTo hs (Or.inr rfl))
  · refine h.actuators hs (by simp) rfl fun hfit => ⟨?_, hfit.2.1, fun ht => ⟨rfl, (hfit.2.2 ht).2⟩⟩
    have hlimit : s.pfm.bladeLimit.isSome = true := hfit.1.2.1.mpr (Or.inl hcycle)
    simp [Pfm.Fits, hlimit]
  · exact hs
  · exact hs

theorem cutHomeFall (h : FeedInvariant P) (hs : P s) (hstop : ∀ {u} c, P u → P (u.raiseStop c)) : P s.cutHomeFall := by
  unfold State.cutHomeFall
  split <;> rename_i hcycle
  · exact hstop _ (h.cutterTo hs (Or.inr rfl))
  · refine h.actuators hs (by simp) rfl fun hfit => ⟨hfit.1, ?_, fun ht => ⟨(hfit.2.2 ht).1, rfl, (hfit.2.2 ht).2.2⟩⟩
    have hlimit : s.exu.limit.isSome = true := hfit.2.1.2.mpr (Or.inl hcycle)
    simp [Exu.Fits, hlimit]
  · exact hs
  · exact hs

theorem cutHomeRise (h : FeedInvariant P) (hs : P s) : P s.cutHomeRise := by
  unfold State.cutHomeRise
  split
  · exact h.cutterTo hs (Or.inl rfl)
  · exact h.cutterTo hs (Or.inl rfl)
  · exact hs
  · exact hs

end FeedInvariant
end Sys2Proof.Machine
end

section
/-! SUPPORT. The acts of the units as moves of the stations, continued (O8, O11): the governor, threading and the splice. -/

namespace Sys2Proof.Machine

/-! ### What the moves of the governor leave of the phase -/

theorem abandonSplice_of_idle {s : State} (h : s.fsu.phase = .idle) (o : SpliceOutcome) : s.abandonSplice o = s := by
  simp [State.abandonSplice, h]

theorem enterHalting_phase (s : State) : s.enterHalting.fsu.phase = if s.fsu.phase = .matching then .idle else s.fsu.phase := by
  unfold State.enterHalting
  dsimp only
  simp only [State.clearTarget_frame, State.zonesToStandby_frame]
  split
  · exact abandonSplice_phase _ _
  · simp

/-- A stop leaves every phase but MATCHING (R69, R158). -/
theorem stopLine_phase {s : State} (h : s.fsu.phase ≠ .matching) : s.stopLine.fsu.phase = s.fsu.phase := by
  have hhalt : s.enterHalting.fsu.phase = s.fsu.phase := by rw [enterHalting_phase, if_neg h]
  unfold State.stopLine
  split <;> (try split) <;> first | exact hhalt | rfl

theorem raiseStop_phase {s : State} (h : s.fsu.phase ≠ .matching) (c : StopCause) : (s.raiseStop c).fsu.phase = s.fsu.phase :=
  stopLine_phase (s := (s.raiseAlert c.alert).addStop c) h

theorem haltIfPending_phase {s : State} (h : s.fsu.phase = .idle) : s.haltIfPending.fsu.phase = .idle := by
  unfold State.haltIfPending
  split
  · rw [enterHalting_phase, h]; rfl
  · exact h

/-- The active station is FEEDING. -/
theorem station_of_activeStation {s : State} {x : Station} (h : s.activeStation = some x) : s.station x = .feeding := by
  unfold State.activeStation at h
  split at h
  · cases h; assumption
  · split at h
    · cases h; assumption
    · cases h

theorem Station.eq_other_of_ne {x y : Station} (h : y ≠ x) : y = x.other := by
  cases x <;> cases y <;> first | rfl | exact absurd rfl h

/-- The active station beside one that is not FEEDING. -/
theorem activeStation_eq_other {s : State} {x y : Station} (h : s.activeStation = some y) (hx : s.station x ≠ .feeding) :
    s.activeStation = some x.other := by
  have hne : y ≠ x := by
    rintro rfl
    exact hx (station_of_activeStation h)
  rw [h, Station.eq_other_of_ne hne]

/-! ### Threading and Expiring -/

/-- The tension lock at a threading (R56). -/
def State.unlocked (s : State) : State :=
  { s with fsu := { s.fsu with locked := false, lockCount := s.fsu.lockCount.map fun _ => 0 } }

theorem thread_eq (s : State) (x : Station) :
    s.thread x = ((s.feedFrom x).unlocked.judgeExpiring.threadUnderLot).retarget := by
  have hbound : (s.setStation x .feeding).boundRoll? x = s.boundRoll? x := boundRoll?_congr (by simp) x
  unfold State.thread State.feedFrom
  dsimp only
  rw [hbound]
  rfl

/-- What the judging of Expiring does to the rolls follows from the rolls, the stations, the Line record and the inputs. -/
theorem judgeExpiring_rolls_congr {s t : State} (hrolls : t.rst.rolls = s.rst.rolls) (hline : t.rst.line = s.rst.line)
    (hinputs : t.inputs = s.inputs) (ha : t.fsu.staA = s.fsu.staA) (hb : t.fsu.staB = s.fsu.staB) :
    t.judgeExpiring.rst.rolls = s.judgeExpiring.rst.rolls := by
  have hactive := activeStation_congr ha hb
  have hbound (x : Station) : t.boundRoll? x = s.boundRoll? x := boundRoll?_congr hrolls x
  have hholds (x : Station) (r : Roll) : t.expiringHolds x r = s.expiringHolds x r := by
    simp [State.expiringHolds, State.asserted, hline, hinputs]
  unfold State.judgeExpiring
  simp only [hactive, hbound, hholds]
  (repeat' split) <;> simp [State.putRoll, hrolls]

namespace FeedInvariant

variable {P : State → Prop} {s : State}

/-! ### The governor (R154–R161) -/

theorem enterHalting (h : FeedInvariant P) (hs : P s) (hphase : s.fsu.phase = .idle ∨ s.fsu.phase = .matching ∨ s.running = false) :
    P s.enterHalting := by
  unfold State.enterHalting
  dsimp only
  simp only [State.clearTarget_frame, State.zonesToStandby_frame]
  split
  · refine h.governs (h.abandoned .abandoned hs) ?_ (by simp) (by simp) fun hne => absurd (abandonSplice_phase s .abandoned) hne
    rw [sharesStations_iff, abandonSplice_fsu_congr (s := s) (by simp)]
    simp
  · refine h.governs hs (by simp) (by simp) (by simp) fun hne hrun => ?_
    rcases hphase with hidle | hmatching | hrest
    · exact absurd hidle hne
    · exact absurd hmatching (by assumption)
    · rw [hrest] at hrun; cases hrun

theorem deferStop (h : FeedInvariant P) (hs : P s) : P s.deferStop :=
  h.governs hs (by simp) (by simp) (by simp [State.deferStop]) fun _ _ => rfl

theorem stopLine (h : FeedInvariant P) (hs : P s) : P s.stopLine := by
  have hidle (hoff : ¬ s.fsu.phase.headOn = true) : s.fsu.phase = .idle ∨ s.fsu.phase = .matching ∨ s.running = false := by
    cases hphase : s.fsu.phase <;> simp [SplicePhase.headOn, hphase] at hoff ⊢
  unfold State.stopLine
  split <;> rename_i hgov
  · exact h.enterHalting hs (Or.inr (Or.inr (by simp [State.running, hgov])))
  · split <;> rename_i hhead
    · exact h.deferStop hs
    · exact h.enterHalting hs (hidle hhead)
  · split <;> rename_i hhead
    · exact h.deferStop hs
    · exact h.enterHalting hs (hidle hhead)
  all_goals exact hs

theorem raiseStop (h : FeedInvariant P) (c : StopCause) (hs : P s) : P (s.raiseStop c) :=
  h.stopLine (s := (s.raiseAlert c.alert).addStop c) (h.shares hs (by simp))

theorem haltIfPending (h : FeedInvariant P) (hs : P s) (hphase : s.fsu.phase = .idle) : P s.haltIfPending := by
  unfold State.haltIfPending
  split
  · exact h.enterHalting hs (Or.inl hphase)
  · exact hs

/-- The entry into TRIPPED, from the state with the splice abandoned: the actuators are at rest after it (R111, R151, R159). -/
theorem enterTripped (h : FeedInvariant P) (hs : P (s.abandonSplice .abandoned)) : P s.enterTripped := by
  have hidle := abandonSplice_phase s .abandoned
  unfold State.enterTripped
  dsimp only
  refine h.acts hs ?_ (fun _ => actuatorsFit_of_rest ?_ ?_ ?_ ?_ ?_) (fun _ => Or.inr hidle) fun hne => absurd hidle hne
  · rw [sharesStations_iff]
    simp only [State.clearTarget_frame, State.zonesToStandby_frame, State.exitTrip_frame, State.bladeTrip_frame]
    rw [abandonSplice_fsu_congr (s := s) (by simp)]
    simp
  · rcases Cycle.tripped_rests s.pfm.cycle with hc | hc <;> simp [Pfm.Fits, bladeTrip_pfm, hc]
  · rcases Cycle.tripped_rests s.exu.cycle with hc | hc <;> simp [Exu.Fits, exitTrip_exu, hc]
  · simp [bladeTrip_pfm]
  · simp [exitTrip_exu]
  · simp [exitTrip_exu]

theorem raiseTrip (h : FeedInvariant P) (hs : P s) (c : TripCause) : P (s.raiseTrip c) := by
  have hraised : P ((s.raiseAlert c.alert).addTrip c) := h.shares hs (by simp)
  unfold State.raiseTrip
  dsimp only
  split
  · exact hraised
  · exact h.enterTripped (h.abandoned _ hraised)

theorem assertEStop (h : FeedInvariant P) (hs : P s) : P s.assertEStop := by
  have htripped : P (s.raiseTrip .eStop) := h.raiseTrip hs .eStop
  unfold State.assertEStop
  split
  · split
    · exact h.shares (h.raiseTrip (s := s.heatEStop) (h.shares hs (by simp)) .eStop) (by simp)
    · exact h.shares htripped (by simp)
  · exact h.shares htripped (by simp)

/-! ### Expiring and threading (R56, R58) -/

theorem judgeExpiring (h : FeedInvariant P) (hs : P s) : P s.judgeExpiring := by
  unfold State.judgeExpiring
  split
  · exact hs
  · split
    · exact hs
    · rename_i r hr
      split
      · exact h.shares (h.roll hs (boundRoll?_mem hr) (r' := { r with expiring := true }) rfl rfl rfl id) (by simp)
      · exact hs

theorem thread (h : FeedInvariant P) {x : Station} (hs : P (s.feedFrom x)) : P (s.thread x) := by
  rw [thread_eq]
  exact h.shares (h.judgeExpiring (h.shares (t := (s.feedFrom x).unlocked) hs (by simp [State.unlocked]))) (by simp)

theorem threadTest (h : FeedInvariant P) (hs : P s) : P s.threadTest := by
  unfold State.threadTest
  split
  · exact hs
  · split
    · rename_i hthreads
      obtain ⟨hnone, hstopped, hprepared⟩ := hthreads
      exact h.thread (h.threaded hs hnone (by simp [State.running, hstopped]) hprepared)
    · exact hs

theorem enterStopped (h : FeedInvariant P) (hs : P s) (hrest : s.running = false) : P s.enterStopped := by
  refine h.threadTest (h.governs hs (by simp) (by simp) (by simp) fun _ hrun => ?_)
  rw [hrest] at hrun
  cases hrun

theorem testStep (h : FeedInvariant P) (hs : P s) : P s.testStep := by
  unfold State.testStep
  split
  · rename_i hcomplete
    refine h.enterStopped hs ?_
    simp only [State.stepComplete, Bool.and_eq_true, beq_iff_eq] at hcomplete
    obtain ⟨⟨⟨hgov, -⟩, -⟩, -⟩ := hcomplete
    simp [State.running, hgov]
  · exact hs

theorem standStill (h : FeedInvariant P) (hs : P s) : P s.standStill := by
  have hstill : P { s with sgv := { s.sgv with standstill := true, standWindow := none } } := h.shares hs (by simp)
  unfold State.standStill
  dsimp only
  split
  · rename_i hgov
    exact h.enterStopped hstill (by simp [State.running, hgov])
  · exact h.testStep hstill

/-! ### The splice begins (R60–R62) -/

theorem attemptAutoSplice (h : FeedInvariant P) (hs : P s) (hready : s.autoSpliceReady = true) : P s.attemptAutoSplice := by
  unfold State.autoSpliceReady at hready
  unfold State.attemptAutoSplice
  split
  · rename_i x r hx hr
    simp only [hx, hr, Bool.and_eq_true, beq_iff_eq] at hready
    obtain ⟨⟨⟨-, hrunning⟩, hidle⟩, -, hprepared⟩ := hready
    have hasked : P { s with rst := { s.rst with line := { s.rst.line with requested := some x.other } } } := h.shares hs (by simp)
    have hspent := h.roll hasked (activeRoll?_mem hr) (r' := { r with attemptSpent := true }) rfl rfl rfl id
    dsimp only
    split
    · exact h.shares hspent (by simp)
    · have hother : x.other.other = x := by cases x <;> rfl
      refine h.begun hspent (x := x.other) hrunning hidle rfl ?_ ?_
      · cases x <;> exact hprepared
      · rw [hother]; exact hx
  · exact hs

theorem autoSpliceTest (h : FeedInvariant P) (hs : P s) : P s.autoSpliceTest := by
  unfold State.autoSpliceTest
  split
  · rename_i hready
    exact h.attemptAutoSplice hs hready
  · exact hs

theorem splice (h : FeedInvariant P) (hs : P s) : P s.splice.1 := by
  unfold State.splice
  split
  · exact h.shares hs (by simp)
  · rename_i haccepted
    have hready : ∃ x, s.SpliceReady x := by
      by_contra hnot
      rw [spliceRefusal_of_not_ready hnot] at haccepted
      cases haccepted
    obtain ⟨x, hready⟩ := hready
    obtain ⟨hrunning, hidle, hrequested, hprepared, -, -, a, b, ca, cb, -, hb, -⟩ := spliceReady_iff.mp hready
    obtain ⟨r, hr, -⟩ := Option.bind_eq_some_iff.mp hb
    obtain ⟨y, hy, -⟩ := activeRoll?_eq_some.mp hr
    exact h.endAct (h.begun hs hrunning hidle hrequested hprepared (activeStation_eq_other hy (by simp [hprepared])))

/-! ### The splice ends (R63–R69) -/

theorem afterSplice (h : FeedInvariant P) (hs : P s) (hphase : s.fsu.phase = .idle) : P s.afterSplice :=
  h.autoSpliceTest (h.haltIfPending hs hphase)

theorem failSplice (h : FeedInvariant P) (hs : P s) (o : SpliceOutcome) : P (s.failSplice o) :=
  h.afterSplice (h.shares (h.abandoned o hs) (by simp)) (by simp [abandonSplice_phase])

theorem runDownOutgoing (h : FeedInvariant P) (hs : P s) : P s.runDownOutgoing := by
  unfold State.runDownOutgoing
  split
  · exact hs
  · split
    · rename_i hjoined
      exact h.ranDown hs (Or.inl ⟨hjoined, rfl⟩)
    · exact hs

theorem completeSplice (h : FeedInvariant P) (hs : P s) (hphase : s.fsu.phase = .retract) : P s.completeSplice := by
  have hcleared : P s.runDownOutgoing.clearTension := h.shares (h.runDownOutgoing hs) (by simp)
  exact h.afterSplice (h.ended .completed hcleared (by simp [hphase])) rfl

theorem retractTimeout (h : FeedInvariant P) (hs : P s) (hphase : s.fsu.phase = .retract) : P s.retractTimeout := by
  have hcleared : P (s.raiseStop .spliceSensor).clearTension := h.shares (h.raiseStop .spliceSensor hs) (by simp)
  exact h.afterSplice (h.ended .retractTimeout hcleared (by simp [raiseStop_phase, hphase])) rfl

theorem rollOut (h : FeedInvariant P) (hs : P s) : P s.rollOut := by
  unfold State.rollOut
  refine h.raiseStop .rollOut ?_
  split
  · rename_i hmatching
    split
    · exact h.pressed hs hmatching
    · exact h.abandoned _ hs
  · exact hs

/-! ### MATCHING and PRESS (R63, R64) -/

theorem matchReached (h : FeedInvariant P) (hs : P s) : P s.matchReached := by
  unfold State.matchReached
  split
  · rename_i hphase hincoming _
    split
    · rename_i hreached
      exact h.judged hs hphase hincoming (Or.inr rfl) (Or.inl hreached.2)
    · exact hs
  · exact hs

theorem judgeBand (h : FeedInvariant P) (hs : P s) : P s.judgeBand := by
  unfold State.judgeBand
  split
  · rename_i hphase hincoming
    split
    · exact h.shares hs (by simp)
    · have hended : P { s with fsu := { s.fsu with matchCount := none } } := h.shares hs (by simp)
      dsimp only
      split
      · rename_i hmatched
        exact h.judged hended hphase hincoming (Or.inl rfl) (Or.inr hmatched)
      · exact hended
  · exact hs

theorem pressTest (h : FeedInvariant P) (hs : P s) : P s.pressTest := by
  unfold State.pressTest
  split
  · rename_i hpress
    exact h.pressed hs hpress.1
  · exact hs

theorem matchPart (h : FeedInvariant P) (hs : P s) (d : Travel) : P (s.matchPart d) := by
  cases d with
  | forward =>
    have hcounted : P s.countMatch := h.shares hs (by simp)
    exact h.pressTest (h.matchReached hcounted)
  | reverse => exact h.pressTest hs

theorem matchAndRollOut (h : FeedInvariant P) (hs : P s) (d : Travel) (out : Bool) : P (s.matchAndRollOut d out) := by
  have hthen := h.rollOut (h.matchPart hs d)
  rcases matchAndRollOut_cases s d out with ⟨-, heq⟩ | ⟨-, heq | heq | heq⟩ <;> rw [heq]
  · exact h.matchPart hs d
  · exact hthen
  · exact h.shares hthen (by simp)
  · exact h.shares (h.matchPart (h.rollOut hs) d) (by simp)

/-! ### A feed count (R57) -/

theorem chargeRoll (h : FeedInvariant P) (hs : P s) (d : Travel) : P (s.chargeRoll d) := by
  unfold State.chargeRoll
  split
  · exact hs
  · rename_i r hr
    refine h.roll hs (activeRoll?_mem hr) ?_ ?_ ?_ fun hplaced => ?_
    · cases d <;> rfl
    · cases d <;> rfl
    · cases d <;> rfl
    · cases d <;> exact hplaced

theorem fsuCount (h : FeedInvariant P) (hs : P s) (d : Travel) : P (s.fsuCount d) :=
  fsuCount_relates (R := fun s t => P s → P t) (fun h h' hs => h' (h hs)) (fun _ hs => hs) (fun _ hs => h.shares hs (by simp))
    (fun _ hs => h.chargeRoll hs d) (fun _ hs => h.judgeExpiring hs) (fun _ out hs => h.matchAndRollOut hs d out)
    (fun _ hs => h.autoSpliceTest hs) hs

theorem segmentArrival (h : FeedInvariant P) (hs : P s) : P s.segmentArrival := h.shares hs (by simp)

theorem feedUnits (h : FeedInvariant P) (hs : P s) (d : Travel) : P (s.feedUnits d) :=
  feedUnits_relates (R := fun s t => P s → P t) (fun h h' hs => h' (h hs)) (fun _ hs => h.shares hs (by simp))
    (fun _ d hs => h.fsuCount hs d) (fun _ hs => h.segmentArrival hs) s d hs

/-! ### The joint (R65) -/

theorem makeJoint (h : FeedInvariant P) (hs : P s) (hphase : s.fsu.phase = .press) : P s.makeJoint := by
  refine h.shares (h.judgeExpiring (h.joined hs hphase)) ?_
  have hrolls : s.makeJoint.rst.rolls = s.joinRolls.judgeExpiring.rst.rolls := by
    simp only [State.makeJoint, State.retarget_frame]
    exact judgeExpiring_rolls_congr (by simp [State.joinRolls]) (by simp [State.joinRolls]) (by simp [State.joinRolls])
      (by simp [State.joinRolls]) (by simp [State.joinRolls])
  simp only [sharesFeed_iff, sharesStations_iff, hrolls]
  simp [State.makeJoint, State.joinRolls]

end FeedInvariant
end Sys2Proof.Machine
end

section
/-! SUPPORT. The acts of the units as moves of the stations, continued (O8, O11): the inputs. -/

namespace Sys2Proof.Machine

/-! ### Pins, the splice and the stations -/

theorem abandonSplice_setPin (s : State) (i : Input) (v : Pin) (o : SpliceOutcome) :
    (s.setPin i v).abandonSplice o = (s.abandonSplice o).setPin i v := by
  unfold State.abandonSplice State.releaseIncoming
  have hphase : (s.setPin i v).fsu.phase = s.fsu.phase := rfl
  have hincoming : (s.setPin i v).fsu.incoming = s.fsu.incoming := rfl
  have hstation (x : Station) : (s.setPin i v).station x = s.station x := rfl
  rw [hphase, hincoming]
  split
  · rfl
  · split
    · split
      · rfl
      · rw [hstation]
        split
        · rename_i x _ _
          cases x <;> rfl
        · rfl
    · rfl

theorem emptyStation_fsu (s : State) (x : Station) : (s.emptyStation x).fsu = (s.setStation x .empty).fsu := by
  unfold State.emptyStation
  dsimp only
  split
  · rfl
  · simp

/-- The rolls after a station has become EMPTY follow from the rolls before. -/
theorem emptyStation_rolls_congr {s t : State} (h : t.rst.rolls = s.rst.rolls) (x : Station) :
    (t.emptyStation x).rst.rolls = (s.emptyStation x).rst.rolls := by
  unfold State.emptyStation State.unbindRoll State.returnRoll State.intendedTaken
  rw [boundRoll?_congr h]
  dsimp only
  split
  · simp [h]
  · split <;> simp [State.putRoll, h]

theorem setStation_setStation (s : State) (x : Station) (v w : StationState) :
    (s.setStation x v).setStation x w = s.setStation x w := by cases x <;> rfl

theorem setStation_comm (s : State) {x y : Station} (h : x ≠ y) (v w : StationState) :
    (s.setStation x v).setStation y w = (s.setStation y w).setStation x v := by
  cases x <;> cases y <;> first | rfl | exact absurd rfl h

theorem releaseIncoming_setStation_empty (s : State) (x : Station) :
    (s.setStation x .empty).releaseIncoming = s.releaseIncoming.setStation x .empty := by
  unfold State.releaseIncoming
  simp only [State.setStation_frame]
  cases s.fsu.incoming with
  | none => rfl
  | some y =>
    dsimp only
    by_cases hyx : y = x
    · subst hyx
      rw [if_neg (by simp)]
      split
      · rw [setStation_setStation]
      · rfl
    · rw [station_setStation_ne s _ hyx]
      split
      · rw [setStation_comm s (Ne.symm hyx)]
      · rfl

/-- A station emptied and the splice abandoned, in either order (R54, R68). -/
theorem abandonSplice_setStation_empty (s : State) (x : Station) (o : SpliceOutcome) :
    (s.setStation x .empty).abandonSplice o = (s.abandonSplice o).setStation x .empty := by
  have hover (u : State) : ((u.setStation x .empty).setClassChange false).spliceOver o =
      ((u.setClassChange false).spliceOver o).setStation x .empty := by cases x <;> rfl
  unfold State.abandonSplice
  simp only [State.setStation_frame, releaseIncoming_setStation_empty]
  split
  · rfl
  · split <;> rw [hover]

namespace FeedInvariant

variable {P : State → Prop} {s : State}

/-! ### SEATED (R53, R54, R71) -/

/-- A station's SEATED input falls from a splice already abandoned. -/
theorem liftedIdle (h : FeedInvariant P) (hs : P s) (x : Station) {v : Pin} (hv : v.level = some false) :
    P (((s.setPin x.seatedPin v).abandonSplice .abandoned).emptyStation x) := by
  have hidle := abandonSplice_phase s .abandoned
  rw [abandonSplice_setPin]
  refine h.lifted x (h.abandoned _ hs) hv fun hphase => ?_
  rw [hidle] at hphase
  rcases hphase with hphase | hphase <;> cases hphase

/-- The roll lifted off a FEEDING station: the trip abandons what the lift has left of a splice (R71, R159). -/
theorem feedingLifted (h : FeedInvariant P) (hs : P s) (x : Station) {v : Pin} (hv : v.level = some false) :
    P (((s.setPin x.seatedPin v).emptyStation x).raiseTrip .rollUnseated) := by
  unfold State.raiseTrip
  dsimp only
  split
  · rename_i htripped
    have hidle := h.untripped hs (by simpa using htripped)
    refine h.shares (h.lifted x hs hv fun hphase => ?_) (by simp)
    rw [hidle] at hphase
    rcases hphase with hphase | hphase <;> cases hphase
  · refine h.enterTripped (h.shares (h.liftedIdle hs x hv) ?_)
    have hrolls := emptyStation_rolls_congr (s := s.setPin x.seatedPin v)
      (t := (s.setPin x.seatedPin v).abandonSplice .abandoned) (by simp) x
    have hfsu : ((((s.setPin x.seatedPin v).emptyStation x).raiseAlert TripCause.rollUnseated.alert).addTrip .rollUnseated
        |>.abandonSplice .abandoned).fsu = (((s.setPin x.seatedPin v).abandonSplice .abandoned).emptyStation x).fsu := by
      rw [abandonSplice_fsu_congr (s := (s.setPin x.seatedPin v).setStation x .empty) (by simp [emptyStation_fsu]),
        abandonSplice_setStation_empty, emptyStation_fsu]
    rw [sharesFeed_iff, sharesStations_iff, hfsu]
    simp [hrolls]

theorem seatedFall (h : FeedInvariant P) (hs : P s) (x : Station) {v : Pin} (hv : v.level = some false) :
    P ((s.setPin x.seatedPin v).seatedFall x) := by
  have hstation : (s.setPin x.seatedPin v).station x = s.station x := rfl
  have habandoned := h.afterSplice (h.liftedIdle hs x hv) (by simp [abandonSplice_phase])
  have hlift (hoff : s.station x ≠ .matching ∧ s.station x ≠ .matched ∧ s.station x ≠ .feeding) :=
    h.lifted x hs hv fun _ => hoff
  unfold State.seatedFall
  rw [hstation]
  split <;> rename_i hstate
  · exact habandoned
  · exact habandoned
  · exact h.shares (h.feedingLifted hs x hv) (by simp)
  all_goals exact hlift (by simp [hstate])

/-! ### CORE_NEAR and the splice head (R58, R65–R67, R70) -/

/-- Expiring judged, and the auto-splice test where it has just been set (R58, R61). -/
theorem judgeThenTest (h : FeedInvariant P) (hs : P s) (c : Bool) :
    P (if c then s.judgeExpiring.autoSpliceTest else s.judgeExpiring) := by
  split
  · exact h.autoSpliceTest (h.judgeExpiring hs)
  · exact h.judgeExpiring hs

theorem coreNearRise (h : FeedInvariant P) (hs : P s) (x : Station) : P (s.coreNearRise x) := by
  unfold State.coreNearRise
  split
  · exact h.judgeThenTest hs _
  · exact hs

theorem headFault (h : FeedInvariant P) (hs : P s) : P s.headFault := by
  have hraised : P (s.raiseStop .spliceSensor) := h.raiseStop _ hs
  unfold State.headFault
  dsimp only
  split
  · exact h.afterSplice (h.abandoned _ hraised) (abandonSplice_phase _ _)
  · exact hraised

theorem extendedRise (h : FeedInvariant P) (hs : P s) : P s.extendedRise := by
  unfold State.extendedRise
  split
  · exact h.headFault hs
  · split
    · rename_i hphase
      exact h.makeJoint hs hphase
    · exact hs

theorem extendedFall (h : FeedInvariant P) (hs : P s) : P s.extendedFall := by
  unfold State.extendedFall
  split
  · exact h.raiseStop _ hs
  · exact hs

theorem retractedRise (h : FeedInvariant P) (hs : P s) : P s.retractedRise := by
  have hjudged : P (if s.headConflict then s.headFault else s) := by
    split
    · exact h.headFault hs
    · exact hs
  unfold State.retractedRise
  dsimp only
  generalize (if s.headConflict then s.headFault else s) = u at hjudged ⊢
  split
  · rename_i hphase
    exact h.completeSplice hjudged hphase
  · exact hjudged

theorem knifeDoneRise (h : FeedInvariant P) (hs : P s) : P s.knifeDoneRise := by
  unfold State.knifeDoneRise
  split
  · rename_i hphase
    exact h.retracts hs hphase
  · exact hs

theorem homeRise (h : FeedInvariant P) (hs : P s) : P s.homeRise := by
  have hidle : P (s.bladesTo .idle).testStep := h.testStep (h.bladesTo hs (Or.inl rfl))
  unfold State.homeRise
  split
  case h_1 | h_2 => exact hidle
  all_goals exact hs

/-! ### An input settles (R11) -/

/-- An input that is no SEATED input, or whose level stands. -/
theorem pinFree (h : FeedInvariant P) (hs : P s) {i : Input} (hi : i ≠ .staSeated ∧ i ≠ .stbSeated) (v : Pin) :
    P (s.setPin i v) :=
  h.pin hs fun x hx => by
    cases x with
    | a => exact absurd hx hi.1
    | b => exact absurd hx hi.2

theorem inputRise (h : FeedInvariant P) (hs : P s) {i : Input} (hlow : s.asserted i = false) {v : Pin} (hv : v.level = some true) :
    P ((s.setPin i v).inputRise i) := by
  have hfree (hi : i ≠ .staSeated ∧ i ≠ .stbSeated) : P (s.setPin i v) := h.pinFree hs hi v
  cases i with
  | staSeated => exact h.seated .a hs hlow hv
  | stbSeated => exact h.seated .b hs hlow hv
  | staCoreNear => exact h.coreNearRise (hfree (by decide)) .a
  | stbCoreNear => exact h.coreNearRise (hfree (by decide)) .b
  | extended => exact h.extendedRise (hfree (by decide))
  | retracted => exact h.retractedRise (hfree (by decide))
  | knifeDone => exact h.knifeDoneRise (hfree (by decide))
  | home => exact h.homeRise (hfree (by decide))
  | cutHome => exact h.cutHomeRise (hfree (by decide))
  | eStop => exact h.assertEStop (hfree (by decide))
  | key => exact hfree (by decide)

theorem inputFall (h : FeedInvariant P) (hs : P s) {i : Input} {v : Pin} (hv : v.level = some false) :
    P ((s.setPin i v).inputFall i) := by
  have hfree (hi : i ≠ .staSeated ∧ i ≠ .stbSeated) : P (s.setPin i v) := h.pinFree hs hi v
  cases i with
  | staSeated => exact h.seatedFall hs .a hv
  | stbSeated => exact h.seatedFall hs .b hv
  | extended => exact h.extendedFall (hfree (by decide))
  | home => exact h.homeFall (hfree (by decide)) h.raiseStop
  | cutHome => exact h.cutHomeFall (hfree (by decide)) h.raiseStop
  | staCoreNear | stbCoreNear | retracted | knifeDone | eStop | key => exact hfree (by decide)

theorem firstLevel (h : FeedInvariant P) (hs : P s) {i : Input} (hlow : s.asserted i = false) {v : Pin} {level : Bool}
    (hv : v.level = some level) : P ((s.setPin i v).firstLevel i level) := by
  have hfree (hi : i ≠ .staSeated ∧ i ≠ .stbSeated) : P (s.setPin i v) := h.pinFree hs hi v
  cases i with
  | staSeated => exact h.first .a hs hlow hv
  | stbSeated => exact h.first .b hs hlow hv
  | home => exact h.bladesTo (hfree (by decide)) (cycleAt_rests level)
  | cutHome => exact h.cutterTo (hfree (by decide)) (cycleAt_rests level)
  | eStop =>
    unfold State.firstLevel
    dsimp only
    split
    · exact h.assertEStop (hfree (by decide))
    · exact hfree (by decide)
  | staCoreNear | stbCoreNear | extended | retracted | knifeDone | key => exact hfree (by decide)

theorem settleInput (h : FeedInvariant P) (hs : P s) (i : Input) : P (s.settleInput i) := by
  have hasserted : s.asserted i = ((s.inputs.get i).level == some true) := rfl
  unfold State.settleInput
  dsimp only
  split
  · rename_i hlevel
    rw [hlevel] at hasserted
    exact h.shares (h.firstLevel hs (v := { s.inputs.get i with level := some (s.inputs.get i).raw, settle := none }) hasserted rfl)
      (by simp)
  · rename_i old hlevel
    split
    · rename_i hsame
      refine h.pin hs fun x _ => ?_
      rw [hasserted, hlevel, hsame]
    · rename_i hchanged
      split
      · rename_i hraw
        refine h.inputRise hs ?_ (congrArg some hraw)
        have hold : old = false := by simpa [hraw] using hchanged
        rw [hasserted, hlevel, hold]
        rfl
      · rename_i hraw
        exact h.inputFall hs (congrArg some (Bool.eq_false_iff.mpr hraw))

theorem debounceSettle (h : FeedInvariant P) (hs : P s) {i : Input} {t : State} (ht : execDebounceSettle i s = .next t) : P t := by
  unfold execDebounceSettle at ht
  cases ht
  split
  · exact h.endAct (h.settleInput hs i)
  · exact hs

end FeedInvariant
end Sys2Proof.Machine
end

section
/-! SUPPORT. The record commands and the line commands as moves of the stations (O8, O11), and one step. -/

namespace Sys2Proof.Machine

/-- A record put in place of one just put under its key. -/
theorem upsert_upsert {α : Type} {key : α → Nat} {x y : α} {l : List α} (h : key x = key y) :
    upsert key x (upsert key y l) = upsert key x l := by
  induction l with
  | nil => simp [upsert, h]
  | cons z zs ih =>
    rw [upsert.eq_def key y (z :: zs), upsert.eq_def key x (z :: zs)]
    dsimp only
    rw [h]
    split
    · simp [upsert, h]
    · split
      · simp [upsert, h]
      · rename_i hlt hne
        rw [upsert.eq_def]
        dsimp only
        rw [h, if_neg hlt, if_neg hne, ih]

/-! ### A roll committed (R49) -/

namespace FeedInvariant

variable {P : State → Prop} {s : State}

theorem setSlot (h : FeedInvariant P) (hs : P s) (p : Port) (v : Slot) : P (s.setSlot p v) := h.shares hs (by simp)

/-- A roll written first and then bound to the state of its station is bound to it at once. -/
theorem rebindWritten (h : FeedInvariant P) {u : State} {x : Station} {v : StationState} {r₁ r₂ : Roll} (hs : P (s.rebind x v r₂))
    (htag : r₂.tag = r₁.tag) (hinputs : u.inputs = s.inputs) (hrolls : u.rst.rolls = (s.putRoll r₁).rst.rolls) (hfsu : u.fsu = s.fsu)
    (hactuators : SharesActuators s u) (hgov : u.sgv.gov = s.sgv.gov) : P ((u.putRoll r₂).setStation x v) := by
  refine h.shares hs ⟨?_, ?_, ?_⟩
  · have hput : (u.putRoll r₂).rst.rolls = (s.rebind x v r₂).rst.rolls := by
      show upsert Roll.tag r₂ u.rst.rolls = upsert Roll.tag r₂ (s.setStation x v).rst.rolls
      rw [hrolls]
      exact (upsert_upsert htag).trans (by simp)
    rw [sharesStations_iff]
    cases x <;> simp [State.rebind, State.setStation, hfsu, hinputs] <;> exact hput
  · simpa [State.rebind] using hactuators
  · simpa [State.rebind] using hgov

/-- The configuring commit: Expiring is judged, and the auto-splice test follows its setting (R58, R61). -/
theorem configuredCommitted (h : FeedInvariant P) (hs : P s) : P s.configuredCommitted := h.judgeThenTest hs _

theorem prepareRoll (h : FeedInvariant P) (hs : P s) {r r₁ : Roll} (hr : r ∈ s.rst.rolls) (hstate : r.state = .mounted)
    {x : Station} (hstation : r.station = some x) (htag : r₁.tag = r.tag) (hstation₁ : r₁.station = some x)
    (hleader : r₁.leaderReady = true) : P ((s.putRoll r₁).settleCounts.prepareRoll r₁ x) := by
  have hprepared : P (((s.putRoll r₁).settleCounts.putRoll { r₁ with state := .prepared }).setStation x .prepared) :=
    h.rebindWritten (r₁ := r₁) (h.prepared hs hr hstate hstation htag rfl hstation₁ hleader) rfl (by simp) (by simp) (by simp) (by simp)
      (by simp)
  unfold State.prepareRoll
  dsimp only
  refine h.autoSpliceTest ?_
  split
  · exact h.threadTest hprepared
  · exact hprepared

theorem unprepareRoll (h : FeedInvariant P) (hs : P s) {r r₁ : Roll} (hr : r ∈ s.rst.rolls) (hstate : r.state = .prepared)
    {x : Station} (hstation : r.station = some x) (htag : r₁.tag = r.tag) (hstation₁ : r₁.station = some x)
    (hleader : r₁.leaderReady = false) : P ((s.putRoll r₁).settleCounts.unprepareRoll r₁ x) := by
  have hfsu : (s.putRoll r₁).settleCounts.fsu = s.fsu := by simp
  unfold State.unprepareRoll
  split
  · have hidle := abandonSplice_phase s .abandoned
    have hseated : P ((s.abandonSplice .abandoned).rebind x .seated { r₁ with state := .mounted }) :=
      h.unprepared (h.abandoned _ hs) (by simpa using hr) hstate hstation (fun hphase => by simp [hidle] at hphase) htag rfl hstation₁
        hleader
    refine h.afterSplice (h.rebindWritten (r₁ := r₁) hseated rfl (by simp) (by simp [State.putRoll]) (abandonSplice_fsu_congr hfsu _) (by simp)
      (by simp)) ?_
    simp [abandonSplice_phase]
  · rename_i hoff
    have hoff' : s.station x ≠ .matching ∧ s.station x ≠ .matched := by
      have hstations : (s.putRoll r₁).settleCounts.station x = s.station x := by cases x <;> simp [State.station]
      simpa [State.stationMatching, hstations, not_or] using hoff
    exact h.rebindWritten (r₁ := r₁) (h.unprepared hs hr hstate hstation (fun _ => hoff') htag rfl hstation₁ hleader) rfl (by simp)
      (by simp) hfsu (by simp) (by simp)

/-- The staged leader value is not one the roll's state refuses (R50, R71). -/
theorem leader_of_not_refused {r : Roll} {st : RollStage} (hrefusal : s.rollRefusal r st = none) :
    st.leaderReady.any (s.leaderRefused r) = false :=
  firstRefusal_eq_none.mp hrefusal (st.leaderReady.any (s.leaderRefused r), say .wrongState) (by simp)

/-- A committed roll that was DECLARED or becomes it, which its intended station may take at once (R49, R53). -/
theorem commitDeclared (h : FeedInvariant P) (hs : P s) {r : Roll} {st : RollStage} (hr : r ∈ s.rst.rolls)
    (hstate : r.state = .new ∨ r.state = .declared) (hleader : st.leaderReady ≠ some true) :
    P (((s.putRoll (r.written st)).settleCounts.leaderCommitted (r.written st) st.leaderReady).bindCommitted (r.written st)) := by
  have hdeclared : (r.written st).state = .declared := by rcases hstate with hstate | hstate <;> simp [Roll.written, hstate]
  have hplaced (hplaced : r.placed = true) : (r.written st).placed = true := by
    have hoff : r.station = none ∧ r.leaderReady = false := by
      rcases hstate with hstate | hstate <;> simpa [Roll.placed, hstate] using hplaced
    have hready : (r.written st).leaderReady = false := by
      show st.leaderReady.getD r.leaderReady = false
      rw [hoff.2]
      cases hst : st.leaderReady with
      | none => rfl
      | some v => cases v with
        | false => rfl
        | true => exact absurd hst hleader
    have hstation : (r.written st).station = none := hoff.1
    simp [Roll.placed, hdeclared, hstation, hready]
  have hwritten : P (s.putRoll (r.written st)).settleCounts :=
    h.shares (h.declared hs hr (r' := r.written st) hstate rfl hdeclared rfl hplaced) (by simp)
  rw [leaderCommitted_of_declared hdeclared]
  unfold State.bindCommitted
  split
  · split
    · rename_i hfree
      refine h.bound hwritten (roll?_mem (n := (r.written st).tag) ?_) hdeclared hfree.1 (Option.isNone_iff_eq_none.mp hfree.2)
      rw [roll?_settleCounts, roll?_putRoll_self]
    · exact hwritten
  · exact hwritten

/-- A committed roll on a station, with its leader's value (R49, R50). -/
theorem commitBound (h : FeedInvariant P) (hs : P s) {r : Roll} {st : RollStage} (hr : r ∈ s.rst.rolls)
    (hstate : r.state ≠ .new ∧ r.state ≠ .declared) (hleader : st.leaderReady.any (s.leaderRefused r) = false) :
    P (((s.putRoll (r.written st)).settleCounts.leaderCommitted (r.written st) st.leaderReady).bindCommitted (r.written st)) := by
  have hkept : (r.written st).state = r.state := by simp [Roll.written, hstate.1]
  have hwritten (hplaced : r.placed = true → (r.written st).placed = true) : P (s.putRoll (r.written st)).settleCounts :=
    h.shares (h.roll hs hr (r' := r.written st) rfl hkept rfl hplaced) (by simp)
  rw [bindCommitted_of_not_declared (by rw [hkept]; exact hstate.2)]
  have hready : (r.written st).leaderReady = st.leaderReady.getD r.leaderReady := rfl
  have hstation : (r.written st).station = r.station := rfl
  cases hst : st.leaderReady with
  | none =>
    refine hwritten fun hplaced => ?_
    rw [hst, Option.getD_none] at hready
    unfold Roll.placed at hplaced ⊢
    rwa [hkept, hstation, hready]
  | some v =>
    rw [hst, Option.getD_some] at hready
    rw [hst, Option.any_some] at hleader
    cases hr₀ : r.state with
    | new => exact absurd hr₀ hstate.1
    | declared => exact absurd hr₀ hstate.2
    | active => simp [State.leaderRefused, hr₀] at hleader
    | spent => simp [State.leaderRefused, hr₀] at hleader
    | mounted =>
      cases v with
      | false =>
        simp only [State.leaderCommitted, hkept, hr₀]
        refine hwritten fun hplaced => ?_
        have hon : r.station ≠ none ∧ r.leaderReady = false := by simpa [Roll.placed, hr₀] using hplaced
        simp [Roll.placed, hkept, hr₀, hready, hstation, hon]
      | true =>
        cases hon : r.station with
        | none =>
          simp only [State.leaderCommitted, hstation, hon, hkept, hr₀]
          exact hwritten fun hplaced => by simp [Roll.placed, hr₀, hon] at hplaced
        | some x =>
          simp only [State.leaderCommitted, hstation, hon, hkept, hr₀]
          exact h.prepareRoll hs hr hr₀ hon rfl (hstation.trans hon) hready
    | prepared =>
      cases v with
      | false =>
        cases hon : r.station with
        | none =>
          simp only [State.leaderCommitted, hstation, hon, hkept, hr₀]
          exact hwritten fun hplaced => by simp [Roll.placed, hr₀, hon] at hplaced
        | some x =>
          simp only [State.leaderCommitted, hstation, hon, hkept, hr₀]
          exact h.unprepareRoll hs hr hr₀ hon rfl (hstation.trans hon) hready
      | true =>
        simp only [State.leaderCommitted, hkept, hr₀]
        refine hwritten fun hplaced => ?_
        have hon : r.station ≠ none ∧ r.leaderReady = true := by simpa [Roll.placed, hr₀] using hplaced
        simp [Roll.placed, hkept, hr₀, hready, hstation, hon]

theorem commitRoll (h : FeedInvariant P) (hs : P s) {n : Nat} {st : RollStage} {t : State} (ht : s.commitRoll n st = .ok t) : P t := by
  unfold State.commitRoll at ht
  split at ht
  · cases ht
  · rename_i r hr
    split at ht
    · cases ht
    · rename_i hrefusal
      cases ht
      have hleader := leader_of_not_refused hrefusal
      by_cases hstate : r.state = .new ∨ r.state = .declared
      · refine h.commitDeclared hs (roll?_mem hr) hstate fun hst => ?_
        rw [hst] at hleader
        rcases hstate with hstate | hstate <;> simp [State.leaderRefused, hstate] at hleader
      · exact h.commitBound hs (roll?_mem hr) (not_or.mp hstate) hleader

/-! ### The other commits (R20, R37, R80, R137, R174) -/

theorem commitLine (h : FeedInvariant P) (hs : P s) {p : Port} {st : LineStage} {t : State} (ht : s.commitLine p st = .ok t) : P t := by
  have hwhen {f : State → State} (hf : ∀ {u : State}, P u → P (f u)) {u : State} (hu : P u) (c : Bool) : P (u.when c f) := by
    unfold State.when
    split
    · exact hf hu
    · exact hu
  unfold State.commitLine at ht
  split at ht
  · cases ht
  · cases ht
    have hwritten : P { s with rst := { s.rst with line := s.rst.line.written st } } := h.shares hs (by simp)
    unfold State.lineCommitted
    refine hwhen h.autoSpliceTest (hwhen h.threadTest ?_ _) _
    have htension := hwhen (f := State.clearTension) (fun hu => h.shares hu (by simp)) hwritten
      (s.rst.line.setSpeed != (s.rst.line.written st).setSpeed)
    have hconfigured := hwhen h.configuredCommitted htension (!s.rst.line.configured && (s.rst.line.written st).configured)
    have hstandby := hwhen (f := State.standbyCommitted) (fun hu => h.shares hu (by simp)) hconfigured
      (s.rst.line.standby != (s.rst.line.written st).standby)
    exact h.shares hstandby (by simp)

theorem commit (h : FeedInvariant P) (hs : P s) {p : Port} {n : Nat} {st : Staging} {t : State} (ht : s.commit p n st = .ok t) : P t := by
  cases st with
  | pattern g =>
    simp only [State.commit, State.commitPattern] at ht
    split at ht
    · cases ht
    · split at ht
      · cases ht
      · cases ht
        split <;> exact h.shares hs (by simp [State.reformPattern])
  | cls g =>
    simp only [State.commit, State.commitClass] at ht
    split at ht
    · cases ht
    · split at ht
      · cases ht
      · cases ht
        exact h.shares hs (by simp [foldl_handSetpoint_frame])
  | roll g => exact h.commitRoll hs ht
  | lot g =>
    simp only [State.commit, State.commitLot] at ht
    split at ht
    · cases ht
    · split at ht
      · cases ht
      · cases ht
        exact h.shares hs (by simp)
  | panel g =>
    simp only [State.commit, State.commitPanel] at ht
    split at ht <;> cases ht
    exact h.shares hs (by simp)
  | line g => exact h.commitLine hs ht

/-! ### CREATE, the ends of opens, RETIRE (R48, R51, R184–R195) -/

theorem createIn (h : FeedInvariant P) (hs : P s) (p : Port) (t : Table) (n : Nat) (st : RollStage) (inRange : Bool) :
    P (s.createIn p t n st inRange).1 := by
  cases t with
  | line | panel => exact hs
  | pattern => exact createdUnlessZero hs fun _ => h.shares hs (by simp)
  | cls => exact createdUnlessZero hs fun _ => h.shares hs (by simp)
  | lot => exact createdUnlessZero hs fun _ => h.shares hs (by simp)
  | roll =>
    refine createdUnlessZero hs fun _ => ?_
    unfold State.createRoll
    split
    · exact hs
    · rename_i hfree
      split
      · exact hs
      · split
        · exact hs
        · exact h.setSlot (h.newRoll hs (by simpa using hfree)) p _

/-- A record never committed removed: of the tables here, a NEW roll (R51, R184). -/
theorem dropNeverCommitted (h : FeedInvariant P) (hs : P s) {t : Table} {n : Nat} (hnew : s.neverCommitted t n = true) :
    P (s.dropRecord t n) := by
  cases t with
  | roll =>
    obtain ⟨r, hr, hstate⟩ := (Option.any_eq_true _ _).mp hnew
    exact h.dropRoll hs hr (Or.inl (by simpa using hstate))
  | pattern | cls | lot | panel | line => exact h.shares hs (by simp [State.dropRecord])

theorem endOpen (h : FeedInvariant P) (hs : P s) (p : Port) : P (s.endOpen p) := by
  have hclosed : P (s.setSlot p .empty) := h.setSlot hs p .empty
  unfold State.endOpen
  dsimp only
  split
  · split
    · rename_i hnew
      exact h.shares (h.dropNeverCommitted hclosed hnew) (by simp)
    · exact hclosed
  all_goals exact hclosed

theorem closeSlot (h : FeedInvariant P) (hs : P s) {p : Port} {t : State} (ht : s.closeSlot p = .ok t) : P t := by
  unfold State.closeSlot at ht
  split at ht
  · split at ht
    · cases ht
      exact h.endOpen hs p
    · split at ht
      · cases ht
      · rename_i hcommit
        cases ht
        exact h.setSlot (h.commit hs hcommit) p .empty
  · cases ht
    exact h.endOpen hs p
  · cases ht
    exact hs
  · cases ht
    exact hs

theorem close (h : FeedInvariant P) (hs : P s) (p : Port) : P (s.close p).1 := by
  unfold State.close
  split
  · exact hs
  · exact h.setSlot hs p .empty
  · exact h.endOpen hs p
  · split
    · exact hs
    · rename_i hclosed
      exact h.endAct (h.closeSlot hs hclosed)

theorem next (h : FeedInvariant P) (hs : P s) (p : Port) : P (s.next p).1 := by
  unfold State.next
  split
  · exact hs
  · exact h.setSlot hs p .empty
  · exact h.shares (h.endOpen hs p) (by simp)
  · split
    · exact hs
    · rename_i t hclosed
      exact h.shares (h.endAct (h.closeSlot hs hclosed)) (by simp)

theorem discard (h : FeedInvariant P) (hs : P s) (p : Port) : P (s.discard p).1 := by
  unfold State.discard
  split
  · exact hs
  · exact h.setSlot hs p .empty
  · exact h.endOpen hs p
  · exact h.endOpen hs p

theorem retireRoll (h : FeedInvariant P) (hs : P s) (n : Nat) : P (s.retireRoll n).1 := by
  unfold State.retireRoll
  split
  · exact hs
  · rename_i r hr
    split
    case h_2 hstate => exact h.shares (h.dropRoll hs hr (Or.inr (Or.inl hstate))) (by simp [done])
    case h_3 =>
      split
      · rename_i hoff
        exact h.shares (h.dropRoll hs hr (Or.inr (Or.inr hoff))) (by simp [done])
      · exact hs
    all_goals exact hs

theorem retireClass (h : FeedInvariant P) (hs : P s) (n : Nat) : P (s.retireClass n).1 := by
  unfold State.retireClass
  (repeat' split) <;> first
    | exact hs
    | exact h.endAct (h.shares hs (by simp [State.dropRecord]))

theorem retireLot (h : FeedInvariant P) (hs : P s) (n : Nat) : P (s.retireLot n).1 := by
  have hdropped : P (s.dropRecord .lot n).settleCounts := h.shares hs (by simp [State.dropRecord])
  unfold State.retireLot
  split
  · exact hs
  · split
    case h_2 | h_5 => exact hdropped
    case h_3 => exact h.endAct (h.shares hs (by simp))
    all_goals exact hs

theorem retireIn (h : FeedInvariant P) (hs : P s) (t : Table) (n : Nat) : P (s.retireIn t n).1 := by
  unfold State.retireIn
  split
  · exact hs
  · split
    · exact hs
    · split
      · exact hs
      · cases t with
        | roll => exact h.retireRoll hs n
        | cls => exact h.retireClass hs n
        | lot => exact h.retireLot hs n
        | pattern => exact h.shares hs (by simp)
        | panel | line => exact hs

/-! ### The line commands -/

theorem startUnits (h : FeedInvariant P) (hs : P s) : P s.startUnits := by
  have hfree : P s.takeFree := h.shares hs (by simp)
  have hfirst {u : State} (hu : P u) : P u.firstSegment := h.shares hu (by simp)
  unfold State.startUnits
  split
  · split
    · exact hfirst (h.autoSpliceTest hfree)
    · exact h.autoSpliceTest (hfirst hfree)
  · exact hfirst (h.autoSpliceTest hs)

theorem tryStart (h : FeedInvariant P) (hs : P s) : P s.tryStart.1 := by
  have hstarted (hgov : s.sgv.gov = .stopped) : P s.startLine := by
    have hcreep : P (State.closeWindow { s with sgv := { s.sgv with gov := .creep, intent := true } }).clearTension :=
      h.governs hs (by simp) (by simp) (by simp) fun _ hrun => by simp [State.running, hgov] at hrun
    exact h.endAct (h.shares (h.startUnits hcreep) (by simp))
  unfold State.tryStart
  split
  · exact hs
  · split
    · rename_i hgov
      (repeat' split) <;> first | exact hs | exact hstarted hgov
    · split <;> exact hs

theorem tryStep (h : FeedInvariant P) (hs : P s) : P s.tryStep.1 := by
  have hbegun (hgov : s.sgv.gov = .stopped) : P s.beginStep := by
    refine h.endAct (h.governs hs (by simp) (by simp) (by simp) fun _ hrun => ?_)
    simp [State.running, hgov] at hrun
  unfold State.tryStep
  split
  · exact hs
  · split
    · exact hs
    · rename_i hgov
      (repeat' split) <;> first | exact hs | exact hbegun (not_not.mp hgov)

theorem resetTrip (h : FeedInvariant P) (hs : P s) : P s.resetTrip.1 := by
  unfold State.resetTrip
  split
  · exact hs
  · rename_i hgov
    (repeat' split) <;> first
      | exact hs
      | exact h.endAct (h.enterStopped hs (by simp [State.running, not_not.mp hgov]))

/-- LINE_RESET leaves the stations, the splice and every roll that was committed, and puts the actuators to rest (R115, R152, R175). -/
theorem resetLine (h : FeedInvariant P) (hs : P s) (hgov : s.sgv.gov = .stopped ∨ s.sgv.gov = .tripped) : P s.resetLine := by
  have hreset : (s.resetRecords.resetLink.resetFeed.resetFormer.resetHeat.resetExit.resetGovernor).sgv.gov = .tripped →
      s.sgv.gov = .tripped := by
    intro ht
    by_contra hnot
    have hkept : (s.resetRecords.resetLink.resetFeed.resetFormer.resetHeat.resetExit.resetGovernor).sgv.gov = s.sgv.gov := by
      simp [State.resetGovernor, hnot]
    exact hnot (hkept ▸ ht)
  refine h.endAct (h.acts (h.dropNew hs) (by simp) (fun _ => actuatorsFit_of_rest ?_ ?_ ?_ ?_ ?_) (fun ht => Or.inl (hreset ht))
    fun _ hrun => ?_)
  · exact Pfm.fits_of_rest (f := State.pfm _) (by simpa [State.resetFormer] using cycleAt_rests _) (by simp [State.resetFormer, Pfm.reset])
      (by simp [State.resetFormer, Pfm.reset]) (by simp [State.resetFormer, Pfm.reset, depthsAtRest])
  · exact Exu.fits_of_rest (e := State.exu _) (by simpa [State.resetExit] using cycleAt_rests _) (by simp [State.resetExit])
      (by simp [State.resetExit])
  · simp [State.resetFormer, Pfm.reset]
  · simp [State.resetExit]
  · simp [State.resetExit]
  · rcases hgov with hgov | hgov <;> simp [State.running, hgov] at hrun

theorem lineReset (h : FeedInvariant P) (hs : P s) : P s.lineReset.1 := by
  unfold State.lineReset
  split
  · rename_i hrest
    exact h.resetLine hs hrest.1
  · exact hs

theorem clearKinds (h : FeedInvariant P) (kinds : List Alert) (hs : P s) : P (kinds.foldl State.clearKind s) := by
  induction kinds generalizing s with
  | nil => exact hs
  | cons a kinds ih => exact ih (h.shares hs (by simp))

theorem answersKeep (h : FeedInvariant P) : AnswersKeep P where
  port _ _ hs := h.shares hs (by simp)
  create _ _ _ _ _ hs := h.createIn hs _ _ _ _ _
  close _ hs := h.close hs _
  next _ hs := h.next hs _
  discard _ hs := h.discard hs _
  retire _ _ hs := h.retireIn hs _ _
  start hs := h.tryStart hs
  stop hs := h.endAct (h.stopLine hs)
  hold hs := h.endAct (h.shares hs (by simp))
  resume hs := h.endAct (h.shares hs (by simp))
  step hs := h.tryStep hs
  splice hs := h.splice hs
  permit hs := h.shares hs (by simp)
  clear kinds hs := h.endAct (h.clearKinds kinds hs)
  tripReset hs := h.resetTrip hs
  lineReset hs := h.lineReset hs

theorem endRundown (h : FeedInvariant P) (hs : P s) (x : Station) : P (s.endRundown x) := by
  unfold State.endRundown
  split
  · rename_i hrundown
    exact h.ranDown hs (Or.inr ⟨hrundown.1, rfl⟩)
  · exact hs

/-! ### Every command -/

theorem enterRun (h : FeedInvariant P) (hs : P s) : P s.enterRun :=
  h.autoSpliceTest (h.governs hs (by simp) (by simp) (by simp) fun _ _ => rfl)

theorem knifeLimit (h : FeedInvariant P) (hs : P s) (hphase : s.fsu.phase = .cut) : P ((s.raiseStop .spliceSensor).enterRetract) :=
  h.retracts (h.raiseStop _ hs) (by rw [raiseStop_phase (by simp [hphase]), hphase])

theorem limitIn_phase {p : SplicePhase} (h : s.limitIn p = true) : s.fsu.phase = p := by
  simp only [State.limitIn, Bool.and_eq_true, beq_iff_eq] at h
  exact h.2

theorem exec (h : FeedInvariant P) (hs : P s) {c : Instr} {t : State} (ht : exec c s = .next t) : P t := by
  by_cases hwire : c.onWire = true
  · exact h.answersKeep.exec hwire ht hs
  · cases c with
    | resetPin => exact h.powerOn ht
    | rawInputChange i v =>
      cases ht
      refine h.pin hs fun x _ => ?_
      have hlevel : ((s.inputs.get i).change v).level = (s.inputs.get i).level := by
        unfold Pin.change
        split <;> rfl
      rw [hlevel]
      rfl
    | debounceSettle i => exact h.debounceSettle hs ht
    | feedCount d =>
      cases ht
      have hcounted : P (s.countWeb d) := h.shares hs (by simp)
      exact h.endAct (h.formUnits (h.feedUnits hcounted d) d)
    | beltCount d =>
      cases ht
      have hcounted : P (s.countBelt d) := h.shares hs (by simp)
      cases d with
      | forward => exact h.endAct (h.takeTails _ hcounted)
      | reverse => exact h.endAct hcounted
    | speedRefresh a b =>
      cases ht
      have hread : P (s.refreshSpeeds a b) := h.shares hs (by simp)
      exact h.endAct (h.endRundown (h.endRundown (h.pressTest (h.judgeBand hread)) .a) .b)
    | senseReading k v f =>
      cases ht
      split
      · exact hs
      · exact h.endAct (h.shares hs (by simp))
    | matchCount => cases ht; exact h.endAct (h.pressTest (h.matchReached hs))
    | tensionLockCount | tensionWatchCount => cases ht; exact h.endAct (h.shares hs (by simp))
    | doseIntervalExpiry => cases ht; exact h.endAct (h.shares hs (by simp))
    | dancerTimeout | zoneSettleExpiry | readingStale =>
      cases ht
      split
      · exact h.endAct (h.shares hs (by simp))
      · exact hs
    | heatPermitExpiry =>
      cases ht
      split
      · exact h.endAct (h.raiseStop _ (h.shares hs (by simp)))
      · exact hs
    | matchLimitExpiry | headLimitExpiry =>
      cases ht
      split
      · exact h.endAct (h.failSplice hs _)
      · exact hs
    | knifeLimitExpiry =>
      cases ht
      split
      · rename_i hlimit
        exact h.endAct (h.knifeLimit hs (limitIn_phase hlimit))
      · exact hs
    | retractLimitExpiry =>
      cases ht
      split
      · rename_i hlimit
        exact h.endAct (h.retractTimeout hs (limitIn_phase hlimit))
      · exact hs
    | webBreakExpiry =>
      cases ht
      split
      · exact h.endAct (h.raiseTrip hs _)
      · exact hs
    | bladeLimitExpiry =>
      cases ht
      split
      · exact h.endAct (h.raiseStop _ (h.bladesTo (h.shares hs (by simp)) (Or.inr rfl)))
      · exact hs
    | cutterLimitExpiry =>
      cases ht
      split
      · exact h.endAct (h.raiseStop _ (h.cutterJam hs))
      · exact hs
    | standstillExpiry =>
      cases ht
      split
      · exact h.endAct (h.standStill hs)
      · exact hs
    | inactivityExpiry p =>
      cases ht
      split
      · exact h.endOpen hs p
      · exact hs
    | rampIntervalExpiry =>
      cases ht
      split
      · split
        · exact h.endAct (h.enterRun hs)
        · exact h.endAct hs
      · exact h.endAct (h.shares hs (by simp))
      all_goals exact h.endAct hs
    | _ => exact absurd rfl hwire

/-- What survives each move of the stations is kept by every step. -/
theorem step (h : FeedInvariant P) (hs : P s) {t : State} (ht : step s = .next t) : P t := by
  unfold Machine.step at ht
  split at ht
  · cases ht
    exact hs
  · exact h.exec (h.shares hs (by simp [State.withPending])) ht

end FeedInvariant
end Sys2Proof.Machine
end

section
/-! SUPPORT. The outputs follow the splice phase and the cycles (O8). -/

namespace Sys2Proof.Machine

/-- EXTEND and KNIFE are what the splice phase says (R64–R68). -/
def Fsu.HeadFits (f : Fsu) : Prop := (f.extend = true ↔ f.phase = .press ∨ f.phase = .cut) ∧ (f.knife = true ↔ f.phase = .cut)

theorem actuatorLaw_iff (s : State) :
    ActuatorLaw s ↔ s.fsu.HeadFits ∧ ActuatorsFit s ∧ (s.sgv.gov = .tripped → s.fsu.phase = .idle) := by
  unfold ActuatorLaw Fsu.HeadFits ActuatorsFit Pfm.Fits Exu.Fits
  constructor
  · rintro ⟨hextend, hknife, hstrike, hlimit, hdepths, hcut, hcutLimit, htripped⟩
    exact ⟨⟨hextend, hknife⟩, ⟨⟨hstrike, hlimit, hdepths⟩, ⟨hcut, hcutLimit⟩, fun ht => (htripped ht).2⟩, fun ht => (htripped ht).1⟩
  · rintro ⟨⟨hextend, hknife⟩, ⟨⟨hstrike, hlimit, hdepths⟩, ⟨hcut, hcutLimit⟩, hrest⟩, hidle⟩
    exact ⟨hextend, hknife, hstrike, hlimit, hdepths, hcut, hcutLimit, fun ht => ⟨hidle ht, hrest ht⟩⟩

/-- The law of the actuators speaks of the head, the actuators and the governor alone. -/
theorem ActuatorLaw.keeps {s t : State} (h : ActuatorLaw s) (hphase : t.fsu.phase = s.fsu.phase) (hextend : t.fsu.extend = s.fsu.extend)
    (hknife : t.fsu.knife = s.fsu.knife) (hshares : SharesActuators s t) (hgov : t.sgv.gov = s.sgv.gov) : ActuatorLaw t := by
  obtain ⟨hhead, hfit, hidle⟩ := (actuatorLaw_iff s).mp h
  refine (actuatorLaw_iff t).mpr ⟨?_, hfit.of_shares hshares fun ht => hgov ▸ ht, fun ht => hphase.trans (hidle (hgov ▸ ht))⟩
  unfold Fsu.HeadFits at hhead ⊢
  rwa [hphase, hextend, hknife]

/-- The splice head moves with the phase of a line not TRIPPED, or to rest. -/
theorem ActuatorLaw.headMoves {s t : State} (h : ActuatorLaw s) (hhead : t.fsu.HeadFits) (hshares : SharesActuators s t)
    (hgov : t.sgv.gov = s.sgv.gov) (hphase : t.fsu.phase = .idle ∨ s.sgv.gov ≠ .tripped) : ActuatorLaw t := by
  obtain ⟨-, hfit, -⟩ := (actuatorLaw_iff s).mp h
  refine (actuatorLaw_iff t).mpr ⟨hhead, hfit.of_shares hshares fun ht => hgov ▸ ht, fun ht => ?_⟩
  rcases hphase with hidle | hnot
  · exact hidle
  · exact absurd (hgov ▸ ht) hnot

theorem ActuatorLaw.untripped {s : State} (h : ActuatorLaw s) (hphase : s.fsu.phase ≠ .idle) : s.sgv.gov ≠ .tripped :=
  fun ht => hphase (((actuatorLaw_iff s).mp h).2.2 ht)

theorem ActuatorLaw.head {s : State} (h : ActuatorLaw s) : s.fsu.HeadFits := ((actuatorLaw_iff s).mp h).1

theorem spliceOver_headFits (s : State) (o : SpliceOutcome) : (s.spliceOver o).fsu.HeadFits := by
  simp [Fsu.HeadFits, State.spliceOver]

theorem actuatorLaw_feedInvariant : FeedInvariant ActuatorLaw where
  acts {s t} hs hstations hfit htripped _ := by
    obtain ⟨-, -, -, -, hphase, -, -, hextend, hknife⟩ := hstations
    obtain ⟨hhead, hfits, hidle⟩ := (actuatorLaw_iff s).mp hs
    refine (actuatorLaw_iff t).mpr ⟨?_, hfit hfits, fun ht => hphase.trans ?_⟩
    · unfold Fsu.HeadFits at hhead ⊢
      rwa [hphase, hextend, hknife]
    · rcases htripped ht with hwas | hwas
      · exact hidle hwas
      · exact hwas
  untripped {s} hs := ((actuatorLaw_iff s).mp hs).2.2
  pin hs _ := hs.keeps rfl rfl rfl (by simp) rfl
  first x hs _ _ := hs.keeps (by simp) (by simp) (by simp) (by simp) (by simp)
  seated x hs _ _ := hs.keeps (by simp) (by simp) (by simp) (by simp) (by simp)
  lifted x hs _ _ := hs.keeps (by simp) (by simp) (by simp) (by simp) (by simp)
  roll hs _ _ _ _ _ := hs.keeps (by simp) (by simp) (by simp) (by simp) (by simp)
  newRoll hs _ := hs.keeps (by simp) (by simp) (by simp) (by simp) (by simp)
  dropRoll hs _ _ := hs.keeps (by simp) (by simp) (by simp) (by simp) (by simp)
  dropNew hs := hs.keeps rfl rfl rfl (by simp) rfl
  declared hs _ _ _ _ _ _ := hs.keeps (by simp) (by simp) (by simp) (by simp) (by simp)
  bound hs _ _ _ _ := hs.keeps (by simp) (by simp) (by simp) (by simp) (by simp)
  prepared hs _ _ _ _ _ _ _ := by unfold State.rebind; exact hs.keeps (by simp) (by simp) (by simp) (by simp) (by simp)
  unprepared hs _ _ _ _ _ _ _ _ := by unfold State.rebind; exact hs.keeps (by simp) (by simp) (by simp) (by simp) (by simp)
  threaded hs _ _ _ := by
    unfold State.feedFrom State.rebind
    split <;> exact hs.keeps (by simp) (by simp) (by simp) (by simp) (by simp)
  judged hs _ _ _ _ := hs.keeps (by simp) (by simp) (by simp) (by simp) (by simp)
  ranDown hs _ := hs.keeps (by simp) (by simp) (by simp) (by simp) (by simp)
  begun {s x} hs hrunning hphase hrequested _ _ := by
    have huntripped : s.sgv.gov ≠ .tripped := by
      intro ht
      simp [State.running, ht] at hrunning
    have hhead := hs.head
    refine hs.headMoves ?_ (by simp) (by simp) (Or.inr huntripped)
    have hbegun : s.beginSplice.fsu.phase = .matching := by
      rw [beginSplice_eq hrequested]
      simp [State.spliceBegun]
    unfold Fsu.HeadFits at hhead ⊢
    rw [hphase] at hhead
    rw [hbegun]
    simpa using hhead
  pressed {s} hs hphase := by
    have hhead := hs.head
    refine hs.headMoves ?_ (by simp) (by simp) (Or.inr (hs.untripped (by simp [hphase])))
    unfold Fsu.HeadFits at hhead ⊢
    rw [hphase] at hhead
    simpa [State.enterPress] using hhead.2
  joined {s} hs hphase := by
    have hhead := hs.head
    refine hs.headMoves ?_ (by simp [State.joinRolls]) (by simp [State.joinRolls]) (Or.inr (hs.untripped (by simp [hphase])))
    unfold Fsu.HeadFits at hhead ⊢
    rw [hphase] at hhead
    simpa [State.joinRolls] using hhead.1
  retracts {s} hs hphase := hs.headMoves (by simp [Fsu.HeadFits, State.enterRetract]) (by simp) (by simp)
    (Or.inr (hs.untripped (by simp [hphase])))
  ended o hs _ := hs.headMoves (spliceOver_headFits _ o) (by simp) (by simp) (Or.inl rfl)
  abandoned {s} o hs := by
    by_cases hidle : s.fsu.phase = .idle
    · rwa [abandonSplice_of_idle hidle]
    · refine hs.headMoves ?_ (by simp) (by simp) (Or.inl (abandonSplice_phase s o))
      unfold State.abandonSplice
      rw [if_neg hidle]
      exact spliceOver_headFits _ o
  powerOn ht := by
    cases ht
    exact actuatorLaw_reset.keeps rfl rfl rfl (by simp) rfl

/-- Settles O8: each act of the units moves the head, the blade bank and the cutter with the phase and the cycles. -/
theorem actuatorLawKept : Obligations.ActuatorLawKept := by
  unfold Obligations.ActuatorLawKept
  exact fun s t hs ht => actuatorLaw_feedInvariant.step hs ht

end Sys2Proof.Machine
end

section
/-! SUPPORT. The rolls on the stations (O11): a station's state fits the one roll on it. -/

namespace Sys2Proof.Machine

/-- The rolls go together with the stations they are on: `StationLaw` without the splice, roll by roll. -/
structure RollsSit (rolls : List Roll) (station : Station → StationState) : Prop where
  rising : risingKeys (rolls.map (·.tag))
  placed : ∀ r ∈ rolls, r.placed = true
  alone : ∀ q ∈ rolls, ∀ r ∈ rolls, ∀ x, q.station = some x → r.station = some x → q = r
  held : ∀ r ∈ rolls, ∀ x, r.station = some x → (station x).fits (some r.state) = true
  free : ∀ x, (∀ r ∈ rolls, r.station ≠ some x) → (station x).fits none = true

/-- The splice goes together with the stations: `StationLaw` without the rolls. -/
structure SpliceFits (s : State) : Prop where
  empty : ∀ x, s.station x = .empty ↔ s.asserted x.seatedPin = false
  incoming : ∀ x, s.station x = .matching ∨ s.station x = .matched ↔
    (s.fsu.phase = .matching ∨ s.fsu.phase = .press) ∧ s.fsu.incoming = some x
  single : ∀ x, s.station x = .feeding → s.station x.other ≠ .feeding
  beforeJoint : s.fsu.phase = .matching ∨ s.fsu.phase = .press →
    ∃ x, s.fsu.incoming = some x ∧ s.fsu.outgoing = some x.other ∧ s.station x.other = .feeding
  runs : s.fsu.phase ≠ .idle → s.running = true

/-- At most one element passes a test exactly where any two that pass are one. -/
theorem countP_le_one_iff {α : Type} {l : List α} (hnodup : l.Nodup) (test : α → Bool) :
    l.countP test ≤ 1 ↔ ∀ a ∈ l, ∀ b ∈ l, test a = true → test b = true → a = b := by
  classical
  rw [List.countP_eq_length_filter, ← List.toFinset_card_of_nodup (hnodup.filter _), Finset.card_le_one]
  simp only [List.mem_toFinset, List.mem_filter]
  exact ⟨fun h a ha b hb hta htb => h a ⟨ha, hta⟩ b ⟨hb, htb⟩, fun h a ha b hb => h a ha.1 b hb.1 ha.2 hb.2⟩

theorem nodup_of_rising {α : Type} {key : α → Nat} {l : List α} (h : risingKeys (l.map key)) : l.Nodup :=
  List.Nodup.of_map key (h.imp fun hlt => Nat.ne_of_lt hlt)

theorem boundRoll?_eq_none {s : State} {x : Station} : s.boundRoll? x = none ↔ ∀ r ∈ s.rst.rolls, r.station ≠ some x := by
  simp [State.boundRoll?, List.find?_eq_none]

theorem stationLaw_iff (s : State) : StationLaw s ↔ RollsSit s.rst.rolls s.station ∧ SpliceFits s := by
  have hall (p : Station → Prop) : (∀ x ∈ allStations, p x) ↔ ∀ x, p x :=
    ⟨fun h x => h x (by cases x <;> decide), fun h x _ => h x⟩
  have hany (p : Station → Prop) : (∃ x ∈ allStations, p x) ↔ ∃ x, p x :=
    ⟨fun ⟨x, _, h⟩ => ⟨x, h⟩, fun ⟨x, h⟩ => ⟨x, by cases x <;> decide, h⟩⟩
  unfold StationLaw
  rw [hall, hany]
  constructor
  · rintro ⟨hrising, hplaced, hstations, hsingle, hjoint, hruns⟩
    have halone (q : Roll) (hq : q ∈ s.rst.rolls) (r : Roll) (hr : r ∈ s.rst.rolls) (x : Station) (hqx : q.station = some x)
        (hrx : r.station = some x) : q = r :=
      (countP_le_one_iff (nodup_of_rising hrising) _).mp (hstations x).2.1 q hq r hr (by simpa using hqx) (by simpa using hrx)
    refine ⟨⟨hrising, hplaced, halone, fun r hr x hx => ?_, fun x hfree => ?_⟩, ⟨fun x => (hstations x).1, fun x => (hstations x).2.2.2,
      fun x => ?_, hjoint, hruns⟩⟩
    · have hfits := (hstations x).2.2.1
      cases hbound : s.boundRoll? x with
      | none => exact absurd hx (boundRoll?_eq_none.mp hbound r hr)
      | some q =>
        rw [hbound, halone q (boundRoll?_mem hbound) r hr x (boundRoll?_station hbound) hx] at hfits
        exact hfits
    · have hfits := (hstations x).2.2.1
      rwa [boundRoll?_eq_none.mpr hfree] at hfits
    · cases x with
      | a => exact fun ha hb => hsingle ⟨ha, hb⟩
      | b => exact fun hb ha => hsingle ⟨ha, hb⟩
  · rintro ⟨hrolls, hsplice⟩
    refine ⟨hrolls.rising, hrolls.placed, fun x => ⟨hsplice.empty x, ?_, ?_, hsplice.incoming x⟩, fun hboth => ?_, hsplice.beforeJoint,
      hsplice.runs⟩
    · refine (countP_le_one_iff (nodup_of_rising hrolls.rising) _).mpr fun q hq r hr hqx hrx => ?_
      exact hrolls.alone q hq r hr x (by simpa using hqx) (by simpa using hrx)
    · cases hbound : s.boundRoll? x with
      | none => exact hrolls.free x (boundRoll?_eq_none.mp hbound)
      | some r => exact hrolls.held r (boundRoll?_mem hbound) x (boundRoll?_station hbound)
    · exact hsplice.single .a hboth.1 hboth.2

/-! ### The moves of the rolls -/

namespace RollsSit

variable {rolls : List Roll} {st st' : Station → StationState}

theorem congr (h : RollsSit rolls st) (hst : ∀ x, st' x = st x) : RollsSit rolls st' := by
  rwa [funext hst]

/-- A roll in place of another, with the stations it leaves and takes. -/
theorem put (h : RollsSit rolls st) {r r' : Roll} (hr : r ∈ rolls) (htag : r'.tag = r.tag) (hplaced : r'.placed = true)
    (hon : ∀ y, r'.station = some y → r.station = some y ∨ ∀ q ∈ rolls, q.station ≠ some y)
    (hfits : ∀ y, r'.station = some y → (st' y).fits (some r'.state) = true)
    (hleft : ∀ y, r'.station ≠ some y → r.station = some y → (st' y).fits none = true)
    (hkept : ∀ y, r'.station ≠ some y → r.station ≠ some y → st' y = st y) : RollsSit (upsert Roll.tag r' rolls) st' := by
  have hmem (z : Roll) : z ∈ upsert Roll.tag r' rolls ↔ z = r' ∨ (z ∈ rolls ∧ z.tag ≠ r'.tag) := mem_upsert_iff h.rising
  have hself (z : Roll) (hz : z ∈ rolls) (hne : z.tag ≠ r'.tag) (y : Station) (hzy : z.station = some y) (hy : r.station = some y) :
      False := hne (by rw [h.alone z hz r hr y hzy hy, htag])
  have hclear (z : Roll) (hz : z ∈ rolls) (hne : z.tag ≠ r'.tag) (y : Station) (hzy : z.station = some y) : r'.station ≠ some y := by
    intro hy
    rcases hon y hy with hwas | hnone
    · exact hself z hz hne y hzy hwas
    · exact hnone z hz hzy
  refine ⟨risingKeys_upsert r' h.rising, fun z hz => ?_, fun z hz w hw y hzy hwy => ?_, fun z hz y hzy => ?_, fun y hnone => ?_⟩
  · rcases (hmem z).mp hz with rfl | ⟨hz, -⟩
    · exact hplaced
    · exact h.placed z hz
  · rcases (hmem z).mp hz with hzr | ⟨hz', hzne⟩ <;> rcases (hmem w).mp hw with hwr | ⟨hw', hwne⟩
    · rw [hzr, hwr]
    · exact absurd (hzr ▸ hzy) (hclear w hw' hwne y hwy)
    · exact absurd (hwr ▸ hwy) (hclear z hz' hzne y hzy)
    · exact h.alone z hz' w hw' y hzy hwy
  · rcases (hmem z).mp hz with rfl | ⟨hz, hzne⟩
    · exact hfits y hzy
    · rw [hkept y (hclear z hz hzne y hzy) fun hy => hself z hz hzne y hzy hy]
      exact h.held z hz y hzy
  · have hoff : r'.station ≠ some y := hnone r' ((hmem r').mpr (Or.inl rfl))
    by_cases hy : r.station = some y
    · exact hleft y hoff hy
    · rw [hkept y hoff hy]
      refine h.free y fun q hq hqy => ?_
      by_cases hne : q.tag = r'.tag
      · have hqr : q = r := risingKeys_injective h.rising hq hr (hne.trans htag)
        exact hy (hqr ▸ hqy)
      · exact hnone q ((hmem q).mpr (Or.inr ⟨hq, hne⟩)) hqy

/-- A roll in place of another that stays where it was, and in its state. -/
theorem putAlike (h : RollsSit rolls st) {r r' : Roll} (hr : r ∈ rolls) (htag : r'.tag = r.tag) (hstate : r'.state = r.state)
    (hstation : r'.station = r.station) (hplaced : r'.placed = true) : RollsSit (upsert Roll.tag r' rolls) st := by
  refine h.put hr htag hplaced (fun y hy => Or.inl (hstation ▸ hy)) (fun y hy => ?_) (fun y hoff hy => ?_) fun _ _ _ => rfl
  · rw [hstate]
    exact h.held r hr y (hstation ▸ hy)
  · exact absurd (hstation.trans hy) hoff

/-- A roll NEW or DECLARED is on no station. -/
theorem unplaced (h : RollsSit rolls st) {r : Roll} (hr : r ∈ rolls) (hstate : r.state = .new ∨ r.state = .declared) :
    r.station = none ∧ r.leaderReady = false := by
  have hplaced := h.placed r hr
  rcases hstate with hstate | hstate <;> simpa [Roll.placed, hstate] using hplaced

/-- Only stations whose state fits the rolls on them as the one before did have changed. -/
theorem restation (h : RollsSit rolls st) (hheld : ∀ r ∈ rolls, ∀ x, r.station = some x → (st' x).fits (some r.state) = true)
    (hfree : ∀ x, (∀ r ∈ rolls, r.station ≠ some x) → (st' x).fits none = true) : RollsSit rolls st' :=
  ⟨h.rising, h.placed, h.alone, hheld, hfree⟩

theorem new (h : RollsSit rolls st) {n : Nat} (hn : ∀ r ∈ rolls, r.tag ≠ n) : RollsSit (upsert Roll.tag (Roll.created n) rolls) st := by
  have hmem (z : Roll) (hz : z ∈ upsert Roll.tag (Roll.created n) rolls) : z = Roll.created n ∨ z ∈ rolls :=
    ((mem_upsert_iff h.rising).mp hz).imp id And.left
  have hoff (z : Roll) (hz : z ∈ upsert Roll.tag (Roll.created n) rolls) (x : Station) (hx : z.station = some x) : z ∈ rolls := by
    rcases hmem z hz with rfl | hz
    · cases hx
    · exact hz
  refine ⟨risingKeys_upsert _ h.rising, fun z hz => ?_, fun z hz w hw x hzx hwx => ?_, fun z hz x hx => ?_, fun x hnone => ?_⟩
  · rcases hmem z hz with rfl | hz
    · rfl
    · exact h.placed z hz
  · exact h.alone z (hoff z hz x hzx) w (hoff w hw x hwx) x hzx hwx
  · exact h.held z (hoff z hz x hx) x hx
  · exact h.free x fun r hr => hnone r ((mem_upsert_iff h.rising).mpr (Or.inr ⟨hr, hn r hr⟩))

/-- Rolls on no station leave the table. -/
theorem filter (h : RollsSit rolls st) {keep : Roll → Bool} (hkeep : ∀ r ∈ rolls, keep r = false → r.station = none) :
    RollsSit (rolls.filter keep) st := by
  refine ⟨risingKeys_filter keep h.rising, fun r hr => h.placed r (List.mem_of_mem_filter hr), fun q hq r hr =>
    h.alone q (List.mem_of_mem_filter hq) r (List.mem_of_mem_filter hr), fun r hr => h.held r (List.mem_of_mem_filter hr), fun x hnone =>
    h.free x fun r hr hx => ?_⟩
  cases hk : keep r with
  | true => exact hnone r (List.mem_filter.mpr ⟨hr, hk⟩) hx
  | false => rw [hkeep r hr hk] at hx; cases hx

end RollsSit
end Sys2Proof.Machine
end

section
/-! SUPPORT. The stations under the splice (O11), and every step keeps their law. -/

namespace Sys2Proof.Machine

/-! ### What moves a station -/

theorem asserted_setPin (s : State) (i j : Input) (v : Pin) :
    (s.setPin i v).asserted j = if j = i then v.level == some true else s.asserted j := by
  cases i <;> cases j <;> rfl

theorem asserted_congr {s t : State} (h : t.inputs = s.inputs) (i : Input) : t.asserted i = s.asserted i := by
  unfold State.asserted
  rw [h]

theorem station_congr {s t : State} (ha : t.fsu.staA = s.fsu.staA) (hb : t.fsu.staB = s.fsu.staB) (x : Station) :
    t.station x = s.station x := by cases x <;> assumption

theorem station_of_fsu {s t : State} (h : t.fsu = s.fsu) (x : Station) : t.station x = s.station x :=
  station_congr (congrArg Fsu.staA h) (congrArg Fsu.staB h) x

theorem running_of_gov {s t : State} (h : t.sgv.gov = s.sgv.gov) : t.running = s.running := by
  unfold State.running
  rw [h]

theorem Station.other_ne (x : Station) : x.other ≠ x := by cases x <;> decide

theorem seatedPin_injective {x y : Station} (h : x.seatedPin = y.seatedPin) : x = y := by
  cases x <;> cases y <;> first | rfl | cases h

/-- A station state in which the splice has no part. -/
def StationState.quiet (v : StationState) : Prop := v ≠ .matching ∧ v ≠ .matched ∧ v ≠ .feeding

namespace SpliceFits

variable {s t : State}

theorem congr (h : SpliceFits s) (hstation : ∀ x, t.station x = s.station x) (hinputs : ∀ x : Station, t.asserted x.seatedPin = s.asserted x.seatedPin)
    (hphase : t.fsu.phase = s.fsu.phase) (hincoming : t.fsu.incoming = s.fsu.incoming) (houtgoing : t.fsu.outgoing = s.fsu.outgoing)
    (hruns : s.fsu.phase ≠ .idle → s.running = true → t.running = true) : SpliceFits t := by
  refine ⟨fun x => ?_, fun x => ?_, fun x => ?_, fun hjoint => ?_, fun hne => ?_⟩
  · rw [hstation, hinputs]; exact h.empty x
  · rw [hstation, hphase, hincoming]; exact h.incoming x
  · rw [hstation, hstation]; exact h.single x
  · rw [hphase] at hjoint
    simpa only [hstation, hincoming, houtgoing] using h.beforeJoint hjoint
  · rw [hphase] at hne
    exact hruns hne (h.runs hne)

/-- A station in which the splice has no part, or no more than a FEEDING one with no splice before its joint, passes to a quiet state. -/
theorem settles (h : SpliceFits s) (x : Station) (hother : t.station x.other = s.station x.other)
    (hwas : s.fsu.phase = .matching ∨ s.fsu.phase = .press → (s.station x).quiet) (hquiet : (t.station x).quiet)
    (hempty : t.station x = .empty ↔ t.asserted x.seatedPin = false)
    (hinputs : t.asserted x.other.seatedPin = s.asserted x.other.seatedPin) (hphase : t.fsu.phase = s.fsu.phase)
    (hincoming : t.fsu.incoming = s.fsu.incoming) (houtgoing : t.fsu.outgoing = s.fsu.outgoing)
    (hgov : t.sgv.gov = s.sgv.gov) : SpliceFits t := by
  obtain ⟨hmatching, hmatched, hfeeding⟩ := hquiet
  have hcases (y : Station) : y = x ∨ y = x.other := by cases x <;> cases y <;> decide
  refine ⟨fun y => ?_, fun y => ?_, fun y => ?_, fun hjoint => ?_, fun hne => ?_⟩
  · rcases hcases y with rfl | rfl
    · exact hempty
    · rw [hother, hinputs]
      exact h.empty _
  · rcases hcases y with rfl | rfl
    · refine ⟨fun hy => absurd hy (not_or.mpr ⟨hmatching, hmatched⟩), fun hy => ?_⟩
      rw [hphase, hincoming] at hy
      obtain ⟨hwasNot, hwasNot', -⟩ := hwas hy.1
      exact absurd ((h.incoming y).mpr hy) (not_or.mpr ⟨hwasNot, hwasNot'⟩)
    · rw [hother, hphase, hincoming]
      exact h.incoming _
  · rcases hcases y with rfl | rfl
    · exact fun hy => absurd hy hfeeding
    · have hback : x.other.other = x := by cases x <;> rfl
      rw [hback]
      exact fun _ => hfeeding
  · rw [hphase] at hjoint
    obtain ⟨y, hin, hout, hy⟩ := h.beforeJoint hjoint
    refine ⟨y, hincoming.trans hin, houtgoing.trans hout, ?_⟩
    rcases hcases y.other with heq | heq
    · rw [heq] at hy
      exact absurd hy (hwas hjoint).2.2
    · rw [heq] at hy ⊢
      exact hother.trans hy
  · rw [hphase] at hne
    rw [running_of_gov hgov]
    exact h.runs hne

end SpliceFits
end Sys2Proof.Machine
end

section
/-! SUPPORT. Every step keeps the stations, the rolls and the splice together (O11). -/

namespace Sys2Proof.Machine

/-- The law of the stations, in the two parts that the moves keep. -/
def Stationed (s : State) : Prop := RollsSit s.rst.rolls s.station ∧ SpliceFits s

theorem stationLaw_iff_stationed (s : State) : StationLaw s ↔ Stationed s := stationLaw_iff s

/-! ### A station and the roll on it -/

theorem rebind_rolls (s : State) (x : Station) (v : StationState) (r : Roll) :
    (s.rebind x v r).rst.rolls = upsert Roll.tag r s.rst.rolls := by cases x <;> rfl

theorem rebind_fsu (s : State) (x : Station) (v : StationState) (r : Roll) : (s.rebind x v r).fsu = (s.setStation x v).fsu := rfl

theorem rebind_station (s : State) (x : Station) (v : StationState) (r : Roll) :
    (s.rebind x v r).station = (s.setStation x v).station := rfl

theorem setStation_rolls (s : State) (x : Station) (v : StationState) : (s.setStation x v).rst.rolls = s.rst.rolls := by simp

variable {s t : State}

/-- The roll on a station that is not free. -/
theorem RollsSit.bound (h : RollsSit s.rst.rolls s.station) {x : Station} (hfull : (s.station x).fits none = false) :
    ∃ r, s.boundRoll? x = some r ∧ r ∈ s.rst.rolls ∧ r.station = some x ∧ (s.station x).fits (some r.state) = true := by
  cases hbound : s.boundRoll? x with
  | none =>
    rw [h.free x (boundRoll?_eq_none.mp hbound)] at hfull
    cases hfull
  | some r =>
    have hr := boundRoll?_mem hbound
    have hx := boundRoll?_station hbound
    exact ⟨r, rfl, hr, hx, h.held r hr x hx⟩

/-- The roll on a station and the station take another state together. -/
theorem RollsSit.rebind (h : RollsSit s.rst.rolls s.station) {x : Station} {v : StationState} {r r' : Roll} (hr : r ∈ s.rst.rolls)
    (hx : r.station = some x) (htag : r'.tag = r.tag) (hx' : r'.station = some x) (hplaced : r'.placed = true)
    (hfits : v.fits (some r'.state) = true) : RollsSit (s.rebind x v r').rst.rolls (s.rebind x v r').station := by
  rw [rebind_rolls, rebind_station]
  have hy (y : Station) (hy : r'.station = some y) : x = y := Option.some.inj (hx'.symm.trans hy)
  refine h.put hr htag hplaced (fun y hon => Or.inl ((hy y hon) ▸ hx)) (fun y hon => ?_) (fun y hoff hwas => ?_) fun y hoff _ => ?_
  · rw [← hy y hon, station_setStation_self]
    exact hfits
  · exact absurd (hx'.trans (hx.symm.trans hwas)) hoff
  · exact station_setStation_ne s v fun heq => hoff (heq ▸ hx')

/-- A PREPARED roll becomes ACTIVE, its station FEEDING (R56, R65). -/
theorem RollsSit.feedFrom (h : RollsSit s.rst.rolls s.station) {x : Station}
    (hx : s.station x = .prepared ∨ s.station x = .matching ∨ s.station x = .matched) :
    RollsSit (s.feedFrom x).rst.rolls (s.feedFrom x).station := by
  have hfull : (s.station x).fits none = false := by rcases hx with hx | hx | hx <;> simp [hx, StationState.fits]
  obtain ⟨r, hbound, hr, hon, hfits⟩ := h.bound hfull
  have hprepared : r.state = .prepared := by rcases hx with hx | hx | hx <;> simpa [hx, StationState.fits] using hfits
  have hplaced := h.placed r hr
  unfold State.feedFrom
  rw [hbound]
  refine h.rebind hr hon rfl hon ?_ rfl
  simpa [Roll.placed, hprepared] using hplaced

theorem feedFrom_fsu (s : State) (x : Station) : (s.feedFrom x).fsu = (s.setStation x .feeding).fsu := by
  unfold State.feedFrom
  split <;> rfl

theorem feedFrom_inputs (s : State) (x : Station) : (s.feedFrom x).inputs = s.inputs := by
  unfold State.feedFrom State.rebind
  split <;> simp

theorem feedFrom_gov (s : State) (x : Station) : (s.feedFrom x).sgv.gov = s.sgv.gov := by
  unfold State.feedFrom State.rebind
  split <;> simp

/-- A station with no roll on it takes another state that needs none. -/
theorem RollsSit.setFree (h : RollsSit s.rst.rolls s.station) {x : Station} {v : StationState} (hnone : s.boundRoll? x = none)
    (hv : v.fits none = true) : RollsSit s.rst.rolls (s.setStation x v).station := by
  refine h.restation (fun r hr y hy => ?_) fun y hy => ?_
  · have hne : y ≠ x := fun heq => boundRoll?_eq_none.mp hnone r hr (heq ▸ hy)
    rw [station_setStation_ne s v hne]
    exact h.held r hr y hy
  · by_cases heq : y = x
    · rw [heq, station_setStation_self]
      exact hv
    · rw [station_setStation_ne s v heq]
      exact h.free y hy

/-- A station takes another state that fits its roll as the one before did. -/
theorem RollsSit.setAlike (h : RollsSit s.rst.rolls s.station) {x : Station} {v : StationState}
    (hv : ∀ o, (s.station x).fits o = true → v.fits o = true) : RollsSit s.rst.rolls (s.setStation x v).station := by
  have hsta (y : Station) (o : Option RollState) (ho : (s.station y).fits o = true) : ((s.setStation x v).station y).fits o = true := by
    by_cases heq : y = x
    · rw [heq] at ho ⊢
      rw [station_setStation_self]
      exact hv o ho
    · rwa [station_setStation_ne s v heq]
  exact h.restation (fun r hr y hy => hsta y _ (h.held r hr y hy)) fun y hy => hsta y _ (h.free y hy)

/-- A station not EMPTY passes to a quiet state that is not EMPTY. -/
theorem SpliceFits.settleTo (h : SpliceFits s) {x : Station} {v : StationState} (hfsu : t.fsu = (s.setStation x v).fsu)
    (hinputs : t.inputs = s.inputs) (hgov : t.sgv.gov = s.sgv.gov)
    (hwas : s.fsu.phase = .matching ∨ s.fsu.phase = .press → (s.station x).quiet) (hfull : s.station x ≠ .empty)
    (hquiet : v.quiet) (hv : v ≠ .empty) : SpliceFits t := by
  have hself : t.station x = v := (station_of_fsu hfsu x).trans (station_setStation_self s x v)
  refine h.settles x ((station_of_fsu hfsu _).trans (station_setStation_other s x v)) hwas (hself ▸ hquiet) ?_ (asserted_congr hinputs _)
    ?_ ?_ ?_ hgov
  · rw [hself, asserted_congr hinputs, ← h.empty x]
    exact ⟨fun he => absurd he hv, fun he => absurd he hfull⟩
  all_goals rw [hfsu]; simp

/-! ### The moves -/

namespace Stationed

/-- Nothing that the stations have a part in has changed. -/
theorem congr (h : Stationed s) (hrolls : t.rst.rolls = s.rst.rolls) (hstation : ∀ x, t.station x = s.station x)
    (hsplice : SpliceFits t) : Stationed t :=
  ⟨hrolls ▸ h.1.congr hstation, hsplice⟩

theorem acts (h : Stationed s) (hstations : SharesStations s t) (hruns : s.fsu.phase ≠ .idle → s.running = true → t.running = true) :
    Stationed t := by
  obtain ⟨hinputs, hrolls, ha, hb, hphase, hincoming, houtgoing, -, -⟩ := hstations
  have hstation (x : Station) : t.station x = s.station x := station_congr ha hb x
  exact h.congr hrolls hstation
    (h.2.congr hstation (fun x => asserted_congr hinputs _) hphase hincoming houtgoing hruns)

/-- A roll changed where the stations stand. -/
theorem putRoll (h : Stationed s) {r' : Roll} (hrolls : RollsSit (upsert Roll.tag r' s.rst.rolls) s.station) : Stationed (s.putRoll r') :=
  ⟨hrolls, h.2.congr (fun _ => rfl) (fun _ => rfl) rfl rfl rfl fun _ hrun => hrun⟩

theorem rest (h : Stationed s) (hrest : s.running = false) : s.fsu.phase = .idle := by
  by_contra hne
  rw [h.2.runs hne] at hrest
  cases hrest

theorem untripped (h : Stationed s) (htripped : s.sgv.gov = .tripped) : s.fsu.phase = .idle :=
  h.rest (by simp [State.running, htripped])

theorem pin (h : Stationed s) {i : Input} {v : Pin} (hv : ∀ x, i = Station.seatedPin x → (v.level == some true) = s.asserted i) :
    Stationed (s.setPin i v) := by
  refine ⟨h.1, h.2.congr (fun _ => rfl) (fun x => ?_) rfl rfl rfl fun _ hrun => hrun⟩
  rw [asserted_setPin]
  split
  · rename_i heq
    rw [hv x heq.symm, heq]
  · rfl

theorem empty_of_released (h : Stationed s) {x : Station} (hlow : s.asserted x.seatedPin = false) :
    s.station x = .empty ∧ s.boundRoll? x = none := by
  have hempty := (h.2.empty x).mpr hlow
  refine ⟨hempty, boundRoll?_eq_none.mpr fun r hr hx => ?_⟩
  have hfits := h.1.held r hr x hx
  rw [hempty] at hfits
  cases hfits

/-- The splice after a SEATED input has settled, its station quiet. -/
theorem seatedSettles (h : Stationed s) (x : Station) {v : Pin} {w : StationState}
    (hfsu : t.fsu = (s.setStation x w).fsu) (hinputs : t.inputs = (s.setPin x.seatedPin v).inputs) (hgov : t.sgv.gov = s.sgv.gov)
    (hwas : s.fsu.phase = .matching ∨ s.fsu.phase = .press → (s.station x).quiet) (hquiet : w.quiet)
    (hlevel : w = .empty ↔ (v.level == some true) = false) : SpliceFits t := by
  have hself : t.station x = w := (station_of_fsu hfsu x).trans (station_setStation_self s x w)
  refine h.2.settles x ((station_of_fsu hfsu _).trans (station_setStation_other s x w)) hwas (hself ▸ hquiet) ?_ ?_ ?_ ?_ ?_ hgov
  · rw [hself, asserted_congr hinputs, asserted_setPin, if_pos rfl]
    exact hlevel
  · rw [asserted_congr hinputs, asserted_setPin, if_neg fun heq => Station.other_ne x (seatedPin_injective heq)]
  all_goals rw [hfsu]; simp

theorem first (h : Stationed s) (x : Station) {v : Pin} {level : Bool} (hlow : s.asserted x.seatedPin = false)
    (hv : v.level = some level) : Stationed ((s.setPin x.seatedPin v).setStation x (if level then .seated else .empty)) := by
  obtain ⟨hempty, hnone⟩ := h.empty_of_released hlow
  refine ⟨?_, h.seatedSettles x (v := v) (w := if level then .seated else .empty) ?_ (by simp) (by simp) (fun _ => ?_) ?_ ?_⟩
  · rw [setStation_rolls]
    exact h.1.setFree (s := s.setPin x.seatedPin v) hnone (by cases level <;> rfl)
  · cases x <;> rfl
  · simp [StationState.quiet, hempty]
  · cases level <;> simp [StationState.quiet]
  · cases level <;> simp [hv]

theorem seated (h : Stationed s) (x : Station) {v : Pin} (hlow : s.asserted x.seatedPin = false) (hv : v.level = some true) :
    Stationed ((s.setPin x.seatedPin v).seatedRise x) := by
  obtain ⟨hempty, hnone⟩ := h.empty_of_released hlow
  have hsettles {u : State} (hfsu : u.fsu = (s.setStation x .seated).fsu) (hinputs : u.inputs = (s.setPin x.seatedPin v).inputs)
      (hgov : u.sgv.gov = s.sgv.gov) : SpliceFits u :=
    h.seatedSettles x hfsu hinputs hgov (fun _ => by simp [StationState.quiet, hempty]) (by simp [StationState.quiet]) (by simp [hv])
  have hseated : RollsSit s.rst.rolls (s.setStation x .seated).station := h.1.setFree hnone rfl
  have hfsu : ((s.setPin x.seatedPin v).setStation x .seated).fsu = (s.setStation x .seated).fsu := by cases x <;> rfl
  have hstation := station_of_fsu hfsu
  unfold State.seatedRise
  dsimp only
  split
  · rename_i r hr
    have hmem : r ∈ s.rst.rolls := by simpa using List.mem_of_find?_eq_some hr
    have hdeclared : r.state = .declared := by
      have := List.find?_some hr
      simp only [Bool.and_eq_true, beq_iff_eq] at this
      exact this.1
    obtain ⟨hoff, hleader⟩ := h.1.unplaced hmem (Or.inr hdeclared)
    refine ⟨?_, hsettles (by simpa using hfsu) (by simp) (by simp)⟩
    have hrolls : (((s.setPin x.seatedPin v).setStation x .seated).bindRoll x r).rst.rolls =
        upsert Roll.tag { r with state := .mounted, station := some x } s.rst.rolls := by cases x <;> rfl
    have hstation' : (((s.setPin x.seatedPin v).setStation x .seated).bindRoll x r).station = (s.setStation x .seated).station :=
      funext hstation
    rw [hrolls, hstation']
    refine hseated.put hmem rfl (by simp [Roll.placed, hleader]) (fun y hy => ?_) (fun y hy => ?_) (fun y _ hwas => ?_) fun _ _ _ => rfl
    · cases hy
      exact Or.inr (boundRoll?_eq_none.mp hnone)
    · cases hy
      rw [station_setStation_self]
      rfl
    · rw [hoff] at hwas
      cases hwas
  · refine ⟨?_, hsettles (by simpa using hfsu) (by simp) (by simp)⟩
    have hrolls : ((((s.setPin x.seatedPin v).setStation x .seated).raiseAlert .rollUnknown)).rst.rolls = s.rst.rolls := by simp
    rw [hrolls]
    exact hseated.congr hstation

/-- The roll lifted off a station with it (R54). -/
theorem unbound (h : RollsSit s.rst.rolls s.station) (x : Station) :
    RollsSit (s.emptyStation x).rst.rolls (s.emptyStation x).station := by
  have hstation (u : State) (r : Roll) : (u.unbindRoll r).station = u.station := by
    unfold State.unbindRoll
    split <;> rfl
  unfold State.emptyStation
  dsimp only
  split
  · rename_i hnone
    rw [setStation_rolls]
    exact h.setFree hnone rfl
  · rename_i r hr
    have hmem := boundRoll?_mem hr
    have hon := boundRoll?_station hr
    have hplaced := h.placed r hmem
    have hlifted {r' : Roll} (htag : r'.tag = r.tag) (hoff : r'.station = none) (hplaced' : r'.placed = true) :
        RollsSit (upsert Roll.tag r' s.rst.rolls) (s.setStation x .empty).station := by
      refine h.put hmem htag hplaced' (fun y hy => ?_) (fun y hy => ?_) (fun y _ hwas => ?_) fun y _ hwas => ?_
      · rw [hoff] at hy; cases hy
      · rw [hoff] at hy; cases hy
      · have hxy : x = y := Option.some.inj (hon.symm.trans hwas)
        rw [← hxy, station_setStation_self]
        rfl
      · exact station_setStation_ne s .empty fun heq => hwas (heq ▸ hon)
    rw [hstation]
    have hrolls (q : Roll) : ((s.setStation x .empty).putRoll q).rst.rolls = upsert Roll.tag q s.rst.rolls := by cases x <;> rfl
    unfold State.unbindRoll State.returnRoll
    split <;> rename_i hstate
    · rw [hrolls]; exact hlifted rfl rfl (by simp [Roll.placed])
    · rw [hrolls]; exact hlifted rfl rfl (by simp [Roll.placed])
    · rw [hrolls]; exact hlifted rfl rfl (by simpa [Roll.placed, hstate, hon] using hplaced)
    · rw [hrolls]; exact hlifted rfl rfl (by simpa [Roll.placed, hstate, hon] using hplaced)
    · rw [(h.unplaced hmem (Or.inl hstate)).1] at hon; cases hon
    · rw [(h.unplaced hmem (Or.inr hstate)).1] at hon; cases hon

theorem lifted (h : Stationed s) (x : Station) {v : Pin} (hv : v.level = some false)
    (hwas : s.fsu.phase = .matching ∨ s.fsu.phase = .press → (s.station x).quiet) :
    Stationed ((s.setPin x.seatedPin v).emptyStation x) := by
  refine ⟨unbound (s := s.setPin x.seatedPin v) h.1 x, ?_⟩
  refine h.seatedSettles x (v := v) (w := .empty) ?_ (by simp) (by simp) hwas (by simp [StationState.quiet]) (by simp [hv])
  rw [emptyStation_fsu]
  cases x <;> rfl

end Stationed
end Sys2Proof.Machine
end

section
/-! SUPPORT. Every step keeps the stations, the rolls and the splice together, continued (O11). -/

namespace Sys2Proof.Machine

namespace Stationed

variable {s t : State}

theorem roll (h : Stationed s) {r r' : Roll} (hr : r ∈ s.rst.rolls) (htag : r'.tag = r.tag) (hstate : r'.state = r.state)
    (hstation : r'.station = r.station) (hplaced : r.placed = true → r'.placed = true) : Stationed (s.putRoll r') :=
  h.putRoll (h.1.putAlike hr htag hstate hstation (hplaced (h.1.placed r hr)))

theorem newRoll (h : Stationed s) {n : Nat} (hfree : s.roll? n = none) : Stationed (s.putRoll (Roll.created n)) :=
  h.putRoll (h.1.new (find?_key_eq_none.mp hfree))

theorem dropRolls (h : Stationed s) {keep : Roll → Bool} (hkeep : ∀ r ∈ s.rst.rolls, keep r = false → r.station = none) :
    Stationed { s with rst := { s.rst with rolls := s.rst.rolls.filter keep } } :=
  ⟨h.1.filter hkeep, h.2.congr (fun _ => rfl) (fun _ => rfl) rfl rfl rfl fun _ hrun => hrun⟩

theorem dropRoll (h : Stationed s) {n : Nat} {r : Roll} (hr : s.roll? n = some r)
    (hoff : r.state = .new ∨ r.state = .declared ∨ r.station = none) : Stationed (s.dropRecord .roll n) := by
  have hunplaced : r.station = none := by
    rcases hoff with hstate | hstate | hoff
    · exact (h.1.unplaced (roll?_mem hr) (Or.inl hstate)).1
    · exact (h.1.unplaced (roll?_mem hr) (Or.inr hstate)).1
    · exact hoff
  refine h.dropRolls (keep := fun q => q.tag != n) fun q hq hdropped => ?_
  have htag : q.tag = n := by simpa using hdropped
  rw [risingKeys_injective h.1.rising hq (roll?_mem hr) (htag.trans (roll?_tag hr).symm)]
  exact hunplaced

theorem dropNew (h : Stationed s) : Stationed { s with rst := { s.rst with rolls := s.rst.rolls.filter Roll.committed } } := by
  refine h.dropRolls fun r hr hdropped => (h.1.unplaced hr (Or.inl ?_)).1
  simpa [Roll.committed] using hdropped

theorem declared (h : Stationed s) {r r' : Roll} (hr : r ∈ s.rst.rolls) (hstate : r.state = .new ∨ r.state = .declared)
    (htag : r'.tag = r.tag) (hstation : r'.station = r.station) (hplaced : r.placed = true → r'.placed = true) :
    Stationed (s.putRoll r') := by
  have hoff : r.station = none := (h.1.unplaced hr hstate).1
  refine h.putRoll (h.1.put hr htag (hplaced (h.1.placed r hr)) (fun y hy => ?_) (fun y hy => ?_) (fun y _ hy => ?_) fun _ _ _ => rfl)
  · rw [hstation, hoff] at hy; cases hy
  · rw [hstation, hoff] at hy; cases hy
  · rw [hoff] at hy; cases hy

theorem bound (h : Stationed s) {x : Station} {r : Roll} (hr : r ∈ s.rst.rolls) (hdeclared : r.state = .declared)
    (hseated : s.station x = .seated) (hnone : s.boundRoll? x = none) : Stationed (s.bindRoll x r) := by
  obtain ⟨hoff, hleader⟩ := h.1.unplaced hr (Or.inr hdeclared)
  refine h.putRoll (h.1.put hr rfl (by simp [Roll.placed, hleader]) (fun y hy => ?_) (fun y hy => ?_) (fun y _ hy => ?_) fun _ _ _ => rfl)
  · cases hy
    exact Or.inr (boundRoll?_eq_none.mp hnone)
  · cases hy
    rw [hseated]
    rfl
  · rw [hoff] at hy; cases hy

/-- A station of a roll, and the roll, take a quiet state together. -/
theorem rebind (h : Stationed s) {x : Station} {v : StationState} {r r' : Roll} (hr : r ∈ s.rst.rolls) (hx : r.station = some x)
    (htag : r'.tag = r.tag) (hx' : r'.station = some x) (hplaced : r'.placed = true) (hfits : v.fits (some r'.state) = true)
    (hwas : s.fsu.phase = .matching ∨ s.fsu.phase = .press → (s.station x).quiet) (hquiet : v.quiet) (hv : v ≠ .empty) :
    Stationed (s.rebind x v r') := by
  refine ⟨h.1.rebind hr hx htag hx' hplaced hfits, h.2.settleTo (rebind_fsu s x v r') (by simp [State.rebind]) (by simp [State.rebind])
    hwas ?_ hquiet hv⟩
  intro hempty
  have hheld := h.1.held r hr x hx
  rw [hempty] at hheld
  cases hheld

theorem prepared (h : Stationed s) {x : Station} {r r' : Roll} (hr : r ∈ s.rst.rolls) (hstate : r.state = .mounted)
    (hx : r.station = some x) (htag : r'.tag = r.tag) (hstate' : r'.state = .prepared) (hx' : r'.station = some x)
    (hleader : r'.leaderReady = true) : Stationed (s.rebind x .prepared r') := by
  refine h.rebind hr hx htag hx' (by simp [Roll.placed, hstate', hx', hleader]) (by simp [StationState.fits, hstate']) (fun _ => ?_)
    (by simp [StationState.quiet]) (by simp)
  have hheld := h.1.held r hr x hx
  rw [hstate] at hheld
  cases hstation : s.station x <;> simp [hstation, StationState.fits, StationState.quiet] at hheld ⊢

theorem unprepared (h : Stationed s) {x : Station} {r r' : Roll} (hr : r ∈ s.rst.rolls) (hstate : r.state = .prepared)
    (hx : r.station = some x)
    (hwas : s.fsu.phase = .matching ∨ s.fsu.phase = .press → s.station x ≠ .matching ∧ s.station x ≠ .matched)
    (htag : r'.tag = r.tag) (hstate' : r'.state = .mounted) (hx' : r'.station = some x) (hleader : r'.leaderReady = false) :
    Stationed (s.rebind x .seated r') := by
  refine h.rebind hr hx htag hx' (by simp [Roll.placed, hstate', hx', hleader]) (by simp [StationState.fits, hstate']) (fun hjoint => ?_)
    (by simp [StationState.quiet]) (by simp)
  have hheld := h.1.held r hr x hx
  obtain ⟨hmatching, hmatched⟩ := hwas hjoint
  refine ⟨hmatching, hmatched, fun hfeeding => ?_⟩
  rw [hstate, hfeeding] at hheld
  cases hheld

theorem not_feeding_of_inactive {s : State} (h : s.activeStation = none) (x : Station) : s.station x ≠ .feeding := by
  unfold State.activeStation at h
  split at h
  · cases h
  · split at h
    · cases h
    · cases x <;> assumption

theorem threaded (h : Stationed s) {x : Station} (hnone : s.activeStation = none) (hrest : s.running = false)
    (hprepared : s.station x = .prepared) : Stationed (s.feedFrom x) := by
  have hidle := h.rest hrest
  have hfsu := feedFrom_fsu s x
  have hself : (s.feedFrom x).station x = .feeding := (station_of_fsu hfsu x).trans (station_setStation_self s x _)
  have hother : (s.feedFrom x).station x.other = s.station x.other :=
    (station_of_fsu hfsu x.other).trans (station_setStation_other s x _)
  have hphase : (s.feedFrom x).fsu.phase = .idle := by rw [hfsu]; simp [hidle]
  have hcases (y : Station) : y = x ∨ y = x.other := by cases x <;> cases y <;> decide
  refine ⟨h.1.feedFrom (Or.inl hprepared), ⟨fun y => ?_, fun y => ?_, fun y => ?_, fun hjoint => ?_, fun hne => absurd hphase hne⟩⟩
  · rw [asserted_congr (feedFrom_inputs s x)]
    rcases hcases y with rfl | rfl
    · rw [← h.2.empty y, hself, hprepared]
      simp
    · rw [hother]
      exact h.2.empty _
  · rw [hphase]
    rcases hcases y with rfl | rfl
    · simp [hself]
    · rw [hother, h.2.incoming, hidle]
      simp
  · rcases hcases y with rfl | rfl
    · rw [hother]
      exact fun _ => not_feeding_of_inactive hnone _
    · rw [hother]
      exact fun hy => absurd hy (not_feeding_of_inactive hnone _)
  · rw [hphase] at hjoint
    rcases hjoint with hjoint | hjoint <;> cases hjoint

theorem judged (h : Stationed s) {x : Station} {v : StationState} (hv : v = .matching ∨ v = .matched)
    (hx : s.station x = .matching ∨ s.station x = .matched) : Stationed (s.setStation x v) := by
  have hjoint := (h.2.incoming x).mp hx
  have hstation (y : Station) : (s.setStation x v).station y = if y = x then v else s.station y := by
    split
    · rename_i heq
      rw [heq, station_setStation_self]
    · rename_i hne
      exact station_setStation_ne s v hne
  have hfeeding (y : Station) : (s.setStation x v).station y = .feeding ↔ s.station y = .feeding := by
    rw [hstation]
    split
    · rename_i heq
      rw [heq]
      rcases hv with rfl | rfl <;> rcases hx with hx | hx <;> simp [hx]
    · rfl
  refine ⟨?_, ⟨fun y => ?_, fun y => ?_, fun y => ?_, fun _ => ?_, fun hne => ?_⟩⟩
  · rw [setStation_rolls]
    refine h.1.setAlike fun o ho => ?_
    rcases hv with rfl | rfl <;> rcases hx with hx | hx <;> simpa [hx, StationState.fits] using ho
  · rw [asserted_congr (s := s) (by simp), ← h.2.empty y, hstation]
    split
    · rename_i heq
      rw [heq]
      rcases hv with rfl | rfl <;> rcases hx with hx | hx <;> simp [hx]
    · rfl
  · simp only [State.setStation_frame]
    rw [← h.2.incoming y, hstation]
    split
    · rename_i heq
      rw [heq]
      exact ⟨fun _ => hx, fun _ => hv⟩
    · rfl
  · rw [hfeeding]
    exact fun hy hother => h.2.single y hy ((hfeeding _).mp hother)
  · obtain ⟨y, hin, hout, hy⟩ := h.2.beforeJoint hjoint.1
    exact ⟨y, by simpa using hin, by simpa using hout, (hfeeding _).mpr hy⟩
  · rw [running_of_gov (s := s) (by simp)]
    exact h.2.runs (by simpa using hne)

theorem ranDown (h : Stationed s) {x : Station} {v : StationState}
    (hx : s.station x = .joined ∧ v = .rundown ∨ s.station x = .rundown ∧ v = .seated) : Stationed (s.setStation x v) := by
  refine ⟨?_, h.2.settleTo rfl (by simp) (by simp) (fun _ => ?_) ?_ ?_ ?_⟩
  · rw [setStation_rolls]
    refine h.1.setAlike fun o ho => ?_
    rcases hx with ⟨hx, rfl⟩ | ⟨hx, rfl⟩ <;> rw [hx] at ho <;> simp [StationState.fits] at ho ⊢ <;> simp [ho]
  · rcases hx with ⟨hx, rfl⟩ | ⟨hx, rfl⟩ <;> simp [StationState.quiet, hx]
  · rcases hx with ⟨hx, rfl⟩ | ⟨hx, rfl⟩ <;> simp [hx]
  · rcases hx with ⟨hx, rfl⟩ | ⟨hx, rfl⟩ <;> simp [StationState.quiet]
  · rcases hx with ⟨hx, rfl⟩ | ⟨hx, rfl⟩ <;> simp

end Stationed
end Sys2Proof.Machine
end

section
/-! SUPPORT. Every step keeps the stations, the rolls and the splice together (O11): the splice. -/

namespace Sys2Proof.Machine

namespace Stationed

variable {s t : State}

theorem begun (h : Stationed s) {x : Station} (hrunning : s.running = true)
    (hrequested : s.rst.line.requested = some x) (hprepared : s.station x = .prepared) (hactive : s.activeStation = some x.other) :
    Stationed s.beginSplice := by
  rw [beginSplice_eq hrequested]
  have hfeeding := station_of_activeStation hactive
  have hstation (y : Station) : (s.spliceBegun x).station y = (s.setStation x .matching).station y := by cases y <;> rfl
  have hself : (s.spliceBegun x).station x = .matching := (hstation x).trans (station_setStation_self s x _)
  have hother : (s.spliceBegun x).station x.other = .feeding :=
    (hstation x.other).trans ((station_setStation_other s x _).trans hfeeding)
  have hinputs (i : Input) : (s.spliceBegun x).asserted i = s.asserted i := asserted_congr (by cases x <;> rfl) i
  have hcases (y : Station) : y = x ∨ y = x.other := by cases x <;> cases y <;> decide
  refine ⟨?_, ⟨fun y => ?_, fun y => ?_, fun y => ?_, fun _ => ⟨x, rfl, hactive, hother⟩, fun _ => ?_⟩⟩
  · have hrolls : (s.spliceBegun x).rst.rolls = s.rst.rolls := by cases x <;> rfl
    rw [hrolls]
    refine RollsSit.congr (h.1.setAlike (x := x) (v := .matching) fun o ho => ?_) hstation
    rw [hprepared] at ho
    exact ho
  · rw [hinputs, ← h.2.empty y]
    rcases hcases y with rfl | rfl
    · simp [hself, hprepared]
    · simp [hother, hfeeding]
  · rcases hcases y with rfl | rfl
    · exact ⟨fun _ => ⟨Or.inl rfl, rfl⟩, fun _ => Or.inl hself⟩
    · refine ⟨fun hy => ?_, fun hy => absurd (Option.some.inj hy.2).symm (Station.other_ne x)⟩
      rw [hother] at hy
      rcases hy with hy | hy <;> cases hy
  · rcases hcases y with rfl | rfl
    · intro hy
      rw [hself] at hy
      cases hy
    · have hback : x.other.other = x := by cases x <;> rfl
      rw [hback, hself]
      exact fun _ hy => by cases hy
  · rw [running_of_gov (s := s) (by cases x <;> rfl)]
    exact hrunning

theorem pressed (h : Stationed s) (hphase : s.fsu.phase = .matching) : Stationed s.enterPress := by
  refine ⟨h.1, ⟨h.2.empty, fun x => ?_, h.2.single, fun _ => h.2.beforeJoint (Or.inl hphase), fun _ => h.2.runs (by simp [hphase])⟩⟩
  refine (h.2.incoming x).trans ?_
  simp [State.enterPress, hphase]

theorem retracts (h : Stationed s) (hphase : s.fsu.phase = .cut) : Stationed s.enterRetract := by
  refine ⟨h.1, ⟨h.2.empty, fun x => ?_, h.2.single, fun hjoint => ?_, fun _ => h.2.runs (by simp [hphase])⟩⟩
  · refine (h.2.incoming x).trans ?_
    simp [State.enterRetract, hphase]
  · rcases hjoint with hjoint | hjoint <;> cases hjoint

theorem ended (h : Stationed s) (o : SpliceOutcome) (hphase : s.fsu.phase.beforeJoint = false) : Stationed (s.spliceOver o) := by
  refine ⟨h.1, ⟨h.2.empty, fun x => ?_, h.2.single, fun hjoint => ?_, fun hne => absurd rfl hne⟩⟩
  · refine (h.2.incoming x).trans ⟨fun hjoint => ?_, fun hjoint => ?_⟩
    · rcases hjoint.1 with hjoint | hjoint <;> simp [SplicePhase.beforeJoint, hjoint] at hphase
    · cases hjoint.2
  · rcases hjoint with hjoint | hjoint <;> cases hjoint

/-- The incoming station released as the splice before its joint ends (R68). -/
theorem released (h : Stationed s) (o : SpliceOutcome) (hjoint : s.fsu.phase.beforeJoint = true) :
    Stationed ((s.releaseIncoming.setClassChange false).spliceOver o) := by
  have hphase : s.fsu.phase = .matching ∨ s.fsu.phase = .press := by simpa [SplicePhase.beforeJoint] using hjoint
  obtain ⟨x, hin, -, hfeeding⟩ := h.2.beforeJoint hphase
  have hx := (h.2.incoming x).mpr ⟨hphase, hin⟩
  have hrelease : s.releaseIncoming = s.setStation x .prepared := by
    unfold State.releaseIncoming
    rw [hin]
    exact if_pos hx
  rw [hrelease]
  have hstation (y : Station) : (((s.setStation x .prepared).setClassChange false).spliceOver o).station y =
      (s.setStation x .prepared).station y := by cases y <;> rfl
  have hself := (hstation x).trans (station_setStation_self s x .prepared)
  have hother := (hstation x.other).trans ((station_setStation_other s x .prepared).trans hfeeding)
  have hcases (y : Station) : y = x ∨ y = x.other := by cases x <;> cases y <;> decide
  refine ⟨?_, ⟨fun y => ?_, fun y => ⟨fun hy => ?_, fun hy => by cases hy.2⟩, fun y => ?_, fun hjoint => ?_, fun hne => absurd rfl hne⟩⟩
  · have hrolls : (((s.setStation x .prepared).setClassChange false).spliceOver o).rst.rolls = s.rst.rolls := by cases x <;> rfl
    rw [hrolls]
    refine RollsSit.congr (h.1.setAlike (x := x) (v := .prepared) fun o ho => ?_) hstation
    rcases hx with hx | hx <;> rw [hx] at ho <;> exact ho
  · rw [asserted_congr (s := s) (by cases x <;> rfl), ← h.2.empty y]
    rcases hcases y with rfl | rfl
    · rcases hx with hx | hx <;> simp [hself, hx]
    · simp [hother, hfeeding]
  · rcases hcases y with rfl | rfl
    · rw [hself] at hy
      rcases hy with hy | hy <;> cases hy
    · rw [hother] at hy
      rcases hy with hy | hy <;> cases hy
  · rcases hcases y with rfl | rfl
    · intro hy
      rw [hself] at hy
      cases hy
    · have hback : x.other.other = x := by cases x <;> rfl
      rw [hback, hself]
      exact fun _ hy => by cases hy
  · rcases hjoint with hjoint | hjoint <;> cases hjoint

theorem abandoned (h : Stationed s) (o : SpliceOutcome) : Stationed (s.abandonSplice o) := by
  unfold State.abandonSplice
  split
  · exact h
  · split
    · rename_i hjoint
      exact h.released o hjoint
    · rename_i hjoint
      have hcleared : Stationed (s.setClassChange false) :=
        ⟨h.1, h.2.congr (fun _ => rfl) (fun _ => rfl) rfl rfl rfl fun _ hrun => hrun⟩
      exact hcleared.ended o (Bool.eq_false_iff.mpr hjoint)

/-- The outgoing roll SPENT and its station JOINED (R65). -/
theorem spent (h : Stationed s) {x : Station} (hout : s.fsu.outgoing = some x) (hfeeding : s.station x = .feeding) :
    RollsSit s.spendOutgoing.rst.rolls s.spendOutgoing.station ∧ s.spendOutgoing.fsu = (s.setStation x .joined).fsu := by
  obtain ⟨r, hbound, hr, hon, hfits⟩ := h.1.bound (x := x) (by simp [hfeeding, StationState.fits])
  have hactive : r.state = .active := by simpa [hfeeding, StationState.fits] using hfits
  have hplaced := h.1.placed r hr
  have hspent : s.spendOutgoing = s.rebind x .joined { r with state := .spent } := by
    unfold State.spendOutgoing
    rw [hout]
    dsimp only
    rw [hbound]
    rfl
  rw [hspent]
  refine ⟨h.1.rebind hr hon rfl hon ?_ rfl, rebind_fsu s x _ _⟩
  simpa [Roll.placed, hactive, hon] using hplaced

theorem joined (h : Stationed s) (hphase : s.fsu.phase = .press) : Stationed s.joinRolls := by
  obtain ⟨x, hin, hout, hfeeding⟩ := h.2.beforeJoint (Or.inr hphase)
  have hx := (h.2.incoming x).mpr ⟨Or.inr hphase, hin⟩
  obtain ⟨hsits, hfsu⟩ := h.spent hout hfeeding
  have hback : x.other.other = x := by cases x <;> rfl
  have hincoming : s.spendOutgoing.fsu.incoming = some x := by rw [hfsu]; simpa using hin
  have hother₁ : s.spendOutgoing.station x.other = .joined := (station_of_fsu hfsu _).trans (station_setStation_self s _ _)
  have hself₁ : s.spendOutgoing.station x = s.station x := by
    have := (station_of_fsu hfsu x.other.other).trans (station_setStation_other s x.other .joined)
    rwa [hback] at this
  have hfed : s.spendOutgoing.feedIncoming = s.spendOutgoing.feedFrom x := by
    unfold State.feedIncoming State.feedFrom
    rw [hincoming]
    dsimp only
    cases s.spendOutgoing.boundRoll? x <;> rfl
  have hsits₂ := hsits.feedFrom (x := x) (by rw [hself₁]; exact Or.inr hx)
  have hstation₂ := station_of_fsu (feedFrom_fsu s.spendOutgoing x)
  have hself : s.joinRolls.station x = .feeding := by
    show s.spendOutgoing.feedIncoming.station x = _
    rw [hfed, hstation₂, station_setStation_self]
  have hother : s.joinRolls.station x.other = .joined := by
    show s.spendOutgoing.feedIncoming.station x.other = _
    rw [hfed, hstation₂, station_setStation_other, hother₁]
  have hinputs (i : Input) : s.joinRolls.asserted i = s.asserted i := asserted_congr (by simp [State.joinRolls]) i
  have hcases (y : Station) : y = x ∨ y = x.other := by cases x <;> cases y <;> decide
  refine ⟨?_, ⟨fun y => ?_, fun y => ⟨fun hy => ?_, fun hy => ?_⟩, fun y => ?_, fun hjoint => ?_, fun _ => ?_⟩⟩
  · show RollsSit s.spendOutgoing.feedIncoming.rst.rolls s.spendOutgoing.feedIncoming.station
    rw [hfed]
    exact hsits₂
  · rw [hinputs, ← h.2.empty y]
    rcases hcases y with rfl | rfl
    · rcases hx with hx | hx <;> simp [hself, hx]
    · simp [hother, hfeeding]
  · rcases hcases y with rfl | rfl
    · rw [hself] at hy
      rcases hy with hy | hy <;> cases hy
    · rw [hother] at hy
      rcases hy with hy | hy <;> cases hy
  · rcases hy.1 with hjoint | hjoint <;> cases hjoint
  · rcases hcases y with rfl | rfl
    · rw [hother]
      exact fun _ hy => by cases hy
    · rw [hother]
      exact fun hy => by cases hy
  · rcases hjoint with hjoint | hjoint <;> cases hjoint
  · rw [running_of_gov (s := s) (by simp [State.joinRolls])]
    exact h.2.runs (by simp [hphase])

theorem powerOn (ht : execResetPin s = .next t) : Stationed t := by
  obtain ⟨hrolls, hsplice⟩ := (stationLaw_iff_stationed _).mp stationLaw_reset
  cases ht
  refine ⟨hrolls, hsplice.congr (fun _ => rfl) (fun x => ?_) rfl rfl rfl fun _ hrun => hrun⟩
  cases x <;> rfl

end Stationed

theorem stationed_feedInvariant : FeedInvariant Stationed where
  acts hs hstations _ _ hruns := hs.acts hstations hruns
  untripped hs := hs.untripped
  pin hs hv := hs.pin hv
  first x hs hlow hv := hs.first x hlow hv
  seated x hs hlow hv := hs.seated x hlow hv
  lifted x hs hv hwas := hs.lifted x hv hwas
  roll hs hr htag hstate hstation hplaced := hs.roll hr htag hstate hstation hplaced
  newRoll hs hfree := hs.newRoll hfree
  dropRoll hs hr hoff := hs.dropRoll hr hoff
  dropNew hs := hs.dropNew
  declared hs hr hstate htag _ hstation hplaced := hs.declared hr hstate htag hstation hplaced
  bound hs hr hdeclared hseated hnone := hs.bound hr hdeclared hseated hnone
  prepared hs hr hstate hx htag hstate' hx' hleader := hs.prepared hr hstate hx htag hstate' hx' hleader
  unprepared hs hr hstate hx hwas htag hstate' hx' hleader := hs.unprepared hr hstate hx hwas htag hstate' hx' hleader
  threaded hs hnone hrest hprepared := hs.threaded hnone hrest hprepared
  judged hs _ _ hv hx := hs.judged hv hx
  ranDown hs hx := hs.ranDown hx
  begun hs hrunning _ hrequested hprepared hactive := hs.begun hrunning hrequested hprepared hactive
  pressed hs hphase := hs.pressed hphase
  joined hs hphase := hs.joined hphase
  retracts hs hphase := hs.retracts hphase
  ended o hs hphase := hs.ended o (by simp [hphase, SplicePhase.beforeJoint])
  abandoned o hs := hs.abandoned o
  powerOn ht := Stationed.powerOn ht

/-- Settles O11: each move of the rolls, the stations and the splice keeps the two parts of the law. -/
theorem stationLawKept : Obligations.StationLawKept := by
  unfold Obligations.StationLawKept
  exact fun s t hs ht => (stationLaw_iff_stationed t).mpr (stationed_feedInvariant.step ((stationLaw_iff_stationed s).mp hs) ht)

end Sys2Proof.Machine
end

section
/-! SUPPORT. A debounced change handed to its owner, and KNIFE_DONE (O25). -/

namespace Sys2Proof.Machine

variable {s : State}

theorem exec_rising {i : Input} (h : s.rising i) : exec (.debounceSettle i) s = .next ((s.settled i true).inputRise i).endAct := by
  obtain ⟨hsettle, hlevel, hraw⟩ := h
  have hpin : ({ s.inputs.get i with level := some (s.inputs.get i).raw, settle := none } : Pin) =
      { raw := true, level := some true, settle := none } := by simp [hraw]
  rw [exec_debounceSettle hsettle]
  unfold State.settleInput State.settled
  dsimp only
  rw [hlevel, hpin, hraw]
  rfl

theorem exec_falling {i : Input} (h : s.falling i) : exec (.debounceSettle i) s = .next ((s.settled i false).inputFall i).endAct := by
  obtain ⟨hsettle, hlevel, hraw⟩ := h
  have hpin : ({ s.inputs.get i with level := some (s.inputs.get i).raw, settle := none } : Pin) =
      { raw := false, level := some false, settle := none } := by simp [hraw]
  rw [exec_debounceSettle hsettle]
  unfold State.settleInput State.settled
  dsimp only
  rw [hlevel, hpin, hraw]
  rfl

/-- A rise whose owner makes nothing more of it. -/
theorem completes_of_rising {i : Input} {e : State} (h : s.rising i) (he : (s.settled i true).inputRise i = e) :
    Completes (.debounceSettle i) s e := completes_of_endAct (exec_rising h) (by rw [he])

theorem completes_of_falling {i : Input} {e : State} (h : s.falling i) (he : (s.settled i false).inputFall i = e) :
    Completes (.debounceSettle i) s e := completes_of_endAct (exec_falling h) (by rw [he])

theorem settled_asserted_self (s : State) (i : Input) (v : Bool) : (s.settled i v).asserted i = v := by
  rw [State.settled, asserted_setPin, if_pos rfl]
  cases v <;> rfl

theorem settled_asserted_ne (s : State) {i j : Input} (v : Bool) (h : j ≠ i) : (s.settled i v).asserted j = s.asserted j := by
  rw [State.settled, asserted_setPin, if_neg h]

@[simp] theorem settled_sgv (s : State) (i : Input) (v : Bool) : (s.settled i v).sgv = s.sgv := rfl

theorem endAct_gov {g : Governor} (h : s.sgv.gov = g) (hne : g ≠ .run) : s.endAct.sgv.gov = g :=
  (endAct_gov_of_ne_run (h ▸ hne)).trans h

/-- The knife limit's run out raises the cause and moves the phase to RETRACT (R66). -/
theorem exec_knifeLimitExpiry (hphase : s.fsu.phase = .cut) (hlimit : s.fsu.limit.isSome = true) :
    exec .knifeLimitExpiry s = .next ((s.raiseStop .spliceSensor).enterRetract).endAct := by
  simp [exec, execKnifeLimitExpiry, State.limitIn, hphase, hlimit]

/-- A stop leaves the splice and the stations but in MATCHING (R69, R158). -/
theorem enterHalting_fsu (h : s.fsu.phase ≠ .matching) : s.enterHalting.fsu = s.fsu := by
  simp [State.enterHalting, h]

theorem stopLine_fsu (h : s.fsu.phase ≠ .matching) : s.stopLine.fsu = s.fsu := by
  have hhalt := enterHalting_fsu h
  unfold State.stopLine
  split <;> (try split) <;> first | exact hhalt | rfl

theorem raiseStop_fsu (h : s.fsu.phase ≠ .matching) (c : StopCause) : (s.raiseStop c).fsu = s.fsu :=
  stopLine_fsu (s := (s.raiseAlert c.alert).addStop c) h

/-- Settles O25: by the rise of KNIFE_DONE and by the knife's limit. -/
theorem knifeEndsInRetract : Obligations.KnifeEndsInRetract := by
  unfold Obligations.KnifeEndsInRetract
  refine ⟨fun s hrise hphase => completes_of_rising hrise ?_, fun s hphase hlimit => ?_⟩
  · have hcut : (s.settled .knifeDone true).fsu.phase = .cut := hphase
    show (s.settled .knifeDone true).knifeDoneRise = _
    rw [State.knifeDoneRise, if_pos hcut]
    rfl
  · obtain ⟨hstop, halert, hgov⟩ := raiseStop_spec s .spliceSensor
    have hfsu : (s.raiseStop .spliceSensor).fsu = s.fsu := raiseStop_fsu (by simp [hphase]) _
    refine ⟨_, exec_knifeLimitExpiry hphase hlimit, ?_⟩
    rw [hphase] at hgov
    have hgov' : (s.raiseStop .spliceSensor).enterRetract.endAct.sgv.gov = s.sgv.gov.afterStop .cut :=
      endAct_gov (by simpa using hgov) (afterStop_ne_run _ _)
    have halert' : (s.raiseStop .spliceSensor).enterRetract.endAct.hasAlert .spliceSensor = true := by
      rw [hasAlert_endAct]; exact halert
    have hstop' : (s.raiseStop .spliceSensor).enterRetract.endAct.hasStop .spliceSensor = true := by
      rw [hasStop_endAct]; exact hstop
    refine ⟨?_, ?_, ?_, ?_, halert', hstop', hgov', ?_⟩ <;> simp [State.enterRetract, hfsu]

end Sys2Proof.Machine
end

section
/-! SUPPORT. How a splice ends (O32): abandoned, or at its retract limit, and what follows it. -/

namespace Sys2Proof.Machine

variable {s : State}

theorem hasStop_congr {s t : State} (h : t.sgv.stops = s.sgv.stops) (c : StopCause) : t.hasStop c = s.hasStop c := by
  unfold State.hasStop
  rw [h]

theorem hasTrip_congr {s t : State} (h : t.sgv.trips = s.sgv.trips) (c : TripCause) : t.hasTrip c = s.hasTrip c := by
  unfold State.hasTrip
  rw [h]

/-! ### The splice abandoned -/

theorem abandonSplice_ends (h : s.fsu.phase ≠ .idle) (o : SpliceOutcome) :
    (s.abandonSplice o).fsu.phase = .idle ∧ (s.abandonSplice o).fsu.outcome = o ∧ (s.abandonSplice o).fsu.extend = false ∧
      (s.abandonSplice o).fsu.knife = false ∧ (s.abandonSplice o).fsu.limit = none ∧
      (s.abandonSplice o).ltr = { s.ltr with classChange := false } := by
  unfold State.abandonSplice
  rw [if_neg h]
  refine ⟨rfl, rfl, rfl, rfl, rfl, ?_⟩
  split
  · have hrelease : s.releaseIncoming.ltr = s.ltr := by simp
    simp [State.spliceOver, State.setClassChange]
  · rfl

theorem releaseIncoming_eq {x : Station} (hin : s.fsu.incoming = some x) (hx : s.station x = .matching ∨ s.station x = .matched) :
    s.releaseIncoming = s.setStation x .prepared := by
  unfold State.releaseIncoming
  rw [hin]
  exact if_pos hx

/-- The incoming station after a splice abandoned before its joint (R68). -/
theorem abandonSplice_station {x y : Station} (o : SpliceOutcome) (hphase : s.fsu.phase.beforeJoint = true) (hin : s.fsu.incoming = some x)
    (hx : s.station x = .matching ∨ s.station x = .matched) :
    (s.abandonSplice o).station y = (s.setStation x .prepared).station y := by
  have hne : s.fsu.phase ≠ .idle := by
    intro hidle
    rw [hidle] at hphase
    cases hphase
  unfold State.abandonSplice
  rw [if_neg hne, if_pos hphase, releaseIncoming_eq hin hx]
  cases y <;> rfl

/-! ### What follows the end of a splice (R61, R158) -/

theorem autoSpliceTest_of_rest (h : s.running = false) : s.autoSpliceTest = s := by
  simp [State.autoSpliceTest, State.autoSpliceReady, h]

theorem enterHalting_gov (s : State) : s.enterHalting.sgv.gov = .halting ∧ s.enterHalting.sgv.stopPending = false ∧
    s.enterHalting.sgv.intent = false := by
  unfold State.enterHalting
  dsimp only
  split <;> simp

theorem haltIfPending_of_pending (h : s.sgv.stopPending = true) : s.haltIfPending = s.enterHalting := by
  rw [State.haltIfPending, if_pos h]

theorem haltIfPending_of_not_pending (h : s.sgv.stopPending = false) : s.haltIfPending = s := by
  rw [State.haltIfPending, h]
  rfl

/-- No auto-splice follows the end of a splice with auto-splice off, a stop pending or the line not running. -/
theorem afterSplice_quiet (h : s.rst.line.autoSplice = false ∨ s.sgv.stopPending = true ∨ s.running = false) :
    s.afterSplice = s.haltIfPending := by
  unfold State.afterSplice
  by_cases hpending : s.sgv.stopPending = true
  · refine autoSpliceTest_of_rest ?_
    rw [haltIfPending_of_pending hpending]
    simp [State.running, (enterHalting_gov s).1]
  · rw [haltIfPending_of_not_pending (Bool.eq_false_iff.mpr hpending)]
    rcases h with hoff | hstop | hrest
    · exact autoSpliceTest_off hoff
    · exact absurd hstop hpending
    · exact autoSpliceTest_of_rest hrest

/-- A pending stop taken at the end of a splice leaves the splice and the tracker (R158). -/
theorem haltIfPending_idle (h : s.fsu.phase = .idle) : s.haltIfPending.fsu = s.fsu ∧ s.haltIfPending.ltr = s.ltr := by
  unfold State.haltIfPending
  split
  · exact ⟨enterHalting_fsu (by simp [h]), by simp [State.enterHalting, h]⟩
  · exact ⟨rfl, rfl⟩

theorem haltIfPending_halts (h : s.sgv.stopPending = true) :
    s.haltIfPending.sgv.gov = .halting ∧ s.haltIfPending.sgv.stopPending = false ∧ s.haltIfPending.sgv.intent = false := by
  rw [haltIfPending_of_pending h]
  exact enterHalting_gov s

theorem endAct_halting (h : s.sgv.gov = .halting) : s.endAct.sgv.gov = .halting := endAct_gov h (by simp)

/-! ### The limits before the joint (R63, R64) -/

/-- A limit of a splice before its joint, as the state it leaves where no auto-splice follows. -/
theorem failSplice_quiet (o : SpliceOutcome) (h : s.rst.line.autoSplice = false ∨ s.sgv.stopPending = true) :
    s.failSplice o = ((s.abandonSplice o).raiseAlert .spliceFailed).haltIfPending := by
  refine afterSplice_quiet ?_
  rcases h with hoff | hpending
  · exact Or.inl (by simpa using hoff)
  · exact Or.inr (Or.inl (by simpa using hpending))

theorem failSplice_ends (o : SpliceOutcome) (hphase : s.fsu.phase = .matching ∨ s.fsu.phase = .press)
    (h : s.rst.line.autoSplice = false ∨ s.sgv.stopPending = true) {t : State} (ht : t = (s.failSplice o).endAct) :
    t.fsu.phase = .idle ∧ t.fsu.outcome = o ∧ t.fsu.extend = false ∧ t.fsu.knife = false ∧ t.fsu.limit = none ∧
      t.ltr = { s.ltr with classChange := false } ∧ t.hasAlert .spliceFailed = true ∧
      (∀ x, s.fsu.incoming = some x → s.station x = .matching ∨ s.station x = .matched →
        t.station x = .prepared ∧ t.station x.other = s.station x.other) ∧
      (s.sgv.stopPending = true → t.sgv.gov = .halting ∧ t.sgv.stopPending = false) ∧
      t.fsu.w = s.fsu.w ∧ t.fsu.locked = s.fsu.locked ∧ t.rst = s.rst ∧ t.exu = s.exu := by
  have hjoint : s.fsu.phase.beforeJoint = true := by rcases hphase with hphase | hphase <;> simp [hphase, SplicePhase.beforeJoint]
  have hne : s.fsu.phase ≠ .idle := by rcases hphase with hphase | hphase <;> simp [hphase]
  obtain ⟨hidle, houtcome, hextend, hknife, hlimit, hltr⟩ := abandonSplice_ends hne o
  have hfsu := haltIfPending_idle (s := (s.abandonSplice o).raiseAlert .spliceFailed) hidle
  have halert : ((s.abandonSplice o).raiseAlert .spliceFailed).haltIfPending.hasAlert .spliceFailed = true := by
    rw [hasAlert_congr (s := (s.abandonSplice o).raiseAlert .spliceFailed) (by simp), hasAlert_raiseAlert]
    simp
  rw [failSplice_quiet o h] at ht
  subst ht
  have hstation (x : Station) : (((s.abandonSplice o).raiseAlert .spliceFailed).haltIfPending.endAct).station x =
      (s.abandonSplice o).station x := by
    rw [station_endAct]
    exact station_of_fsu (hfsu.1.trans (by simp)) x
  refine ⟨?_, ?_, ?_, ?_, ?_, ?_, ?_, fun x hin hx => ?_, fun hpending => ?_, ?_, ?_, ?_, ?_⟩
  · simp [hfsu, hidle]
  · simp [hfsu, houtcome]
  · simp [hfsu, hextend]
  · simp [hfsu, hknife]
  · simp [hfsu, hlimit]
  · simp [hfsu, hltr]
  · rw [hasAlert_endAct]; exact halert
  · rw [hstation, hstation, abandonSplice_station o hjoint hin hx, abandonSplice_station o hjoint hin hx]
    exact ⟨station_setStation_self s x _, station_setStation_other s x _⟩
  · obtain ⟨hgov, hnone, -⟩ := haltIfPending_halts (s := (s.abandonSplice o).raiseAlert .spliceFailed) (by simpa using hpending)
    exact ⟨endAct_halting hgov, by simpa using hnone⟩
  all_goals simp [hfsu]

/-! ### The retract limit (R67) -/

/-- A stop under a splice with its head on the web is deferred while the line runs (R158). -/
theorem raiseStop_headOn (h : s.fsu.phase.headOn = true) (c : StopCause) :
    if s.running = true then (s.raiseStop c).sgv.stopPending = true else (s.raiseStop c).running = false := by
  have hspec := (raiseStop_spec s c).2.2
  split
  · rename_i hrun
    unfold State.raiseStop State.stopLine
    have hhead : ((s.raiseAlert c.alert).addStop c).fsu.phase.headOn = true := h
    have hgov : ((s.raiseAlert c.alert).addStop c).sgv.gov = s.sgv.gov := rfl
    rw [hgov, if_pos hhead]
    simp only [State.running, Bool.or_eq_true, beq_iff_eq] at hrun
    rcases hrun with hrun | hrun <;> rw [hrun] <;> rfl
  · rename_i hrest
    unfold State.running at hrest ⊢
    rw [hspec]
    cases hgov : s.sgv.gov <;> simp [hgov, Governor.afterStop] at hrest ⊢

theorem retractTimeout_quiet (hphase : s.fsu.phase = .retract) :
    s.retractTimeout = (((s.raiseStop .spliceSensor).clearTension).spliceOver .retractTimeout).haltIfPending := by
  refine afterSplice_quiet (Or.inr ?_)
  have hstop := raiseStop_headOn (s := s) (by simp [hphase, SplicePhase.headOn]) .spliceSensor
  split at hstop
  · exact Or.inl hstop
  · exact Or.inr hstop

theorem retractTimeout_ends (hphase : s.fsu.phase = .retract) {t : State} (ht : t = s.retractTimeout.endAct) :
    t.fsu.phase = .idle ∧ t.fsu.outcome = .retractTimeout ∧ t.fsu.extend = false ∧ t.fsu.knife = false ∧
      t.fsu.limit = none ∧ t.fsu.locked = false ∧ t.fsu.lossWatch = none ∧ t.fsu.staA = s.fsu.staA ∧
      t.fsu.staB = s.fsu.staB ∧ t.hasAlert .spliceSensor = true ∧ t.hasStop .spliceSensor = true ∧
      (s.running = true → t.sgv.gov = .halting ∧ t.sgv.stopPending = false ∧ t.sgv.intent = false) ∧
      t.fsu.w = s.fsu.w ∧ t.rst = s.rst ∧ t.exu = s.exu := by
  obtain ⟨hstop, halert, -⟩ := raiseStop_spec s .spliceSensor
  have hraised : (s.raiseStop .spliceSensor).fsu = s.fsu := raiseStop_fsu (by simp [hphase]) _
  rw [retractTimeout_quiet hphase] at ht
  subst ht
  have hfsu : ((s.raiseStop .spliceSensor).clearTension.spliceOver .retractTimeout).haltIfPending.fsu =
      (s.clearTension.spliceOver .retractTimeout).fsu := by
    refine (haltIfPending_idle (s := (s.raiseStop .spliceSensor).clearTension.spliceOver .retractTimeout) rfl).1.trans ?_
    simp [State.spliceOver, State.clearTension, hraised]
  refine ⟨?_, ?_, ?_, ?_, ?_, ?_, ?_, ?_, ?_, ?_, ?_, fun hrun => ?_, ?_, ?_, ?_⟩
  case refine_10 =>
    rw [hasAlert_endAct, hasAlert_congr (s := s.raiseStop .spliceSensor) (by simp)]
    exact halert
  case refine_11 =>
    rw [hasStop_endAct, hasStop_congr (s := s.raiseStop .spliceSensor) (by simp)]
    exact hstop
  case refine_12 =>
    have hpending := raiseStop_headOn (s := s) (by simp [hphase, SplicePhase.headOn]) .spliceSensor
    rw [if_pos hrun] at hpending
    obtain ⟨hgov, hnone, hintent⟩ :=
      haltIfPending_halts (s := (s.raiseStop .spliceSensor).clearTension.spliceOver .retractTimeout) hpending
    exact ⟨endAct_halting hgov, by simpa using hnone, by simpa using hintent⟩
  all_goals simp [hfsu]
  all_goals rfl

/-- Settles O32: by the two limits before the joint, and by the retract limit. -/
theorem spliceLimitsEndTheSplice : Obligations.SpliceLimitsEndTheSplice := by
  unfold Obligations.SpliceLimitsEndTheSplice
  refine ⟨fun s c o hlimit hcase hquiet => ?_, fun s hlimit hphase => ⟨_, ?_, retractTimeout_ends hphase rfl⟩⟩
  · rcases hcase with ⟨rfl, hphase, rfl⟩ | ⟨rfl, hphase, rfl⟩
    · refine ⟨_, ?_, failSplice_ends _ (Or.inl hphase) hquiet rfl⟩
      simp [exec, execMatchLimitExpiry, State.limitIn, hphase, hlimit]
    · refine ⟨_, ?_, failSplice_ends _ (Or.inr hphase) hquiet rfl⟩
      simp [exec, execHeadLimitExpiry, State.limitIn, hphase, hlimit]
  · simp [exec, execRetractLimitExpiry, State.limitIn, hphase, hlimit]

end Sys2Proof.Machine
end

section
/-! SUPPORT. The trips (O27). -/

namespace Sys2Proof.Machine

variable {s t : State}

/-- What an entry into TRIPPED leaves at rest (R68, R111, R151, R159). -/
structure TripRests (s t : State) : Prop where
  intent : t.sgv.intent = false
  pending : t.sgv.stopPending = false
  phase : t.fsu.phase = .idle
  head : s.fsu.phase ≠ .idle → t.fsu.extend = false ∧ t.fsu.knife = false ∧ t.fsu.outcome = .abandoned
  blades : t.pfm.strike = false ∧ t.pfm.depths = depthsAtRest ∧ t.pfm.bladeLimit = none ∧ t.pfm.cycle = s.pfm.cycle.tripped
  cutter : t.exu.cut = false ∧ t.exu.limit = none ∧ t.exu.divert = true ∧ t.exu.cycle = s.exu.cycle.tripped

/-- Of the state before, only the phase and the two cycles matter. -/
theorem TripRests.of {u : State} (h : TripRests u t) (hfsu : u.fsu = s.fsu) (hpfm : u.pfm = s.pfm) (hexu : u.exu = s.exu) : TripRests s t :=
  ⟨h.intent, h.pending, h.phase, hfsu ▸ h.head, hpfm ▸ h.blades, hexu ▸ h.cutter⟩

theorem TripRests.takeFree (h : TripRests s t) : TripRests s t.takeFree :=
  ⟨h.intent, h.pending, h.phase, h.head, h.blades, h.cutter⟩

theorem TripRests.endAct (h : TripRests s t) : TripRests s t.endAct :=
  ⟨by simpa using h.intent, by simpa using h.pending, by simpa using h.phase, by simpa using h.head, by simpa using h.blades,
    by simpa using h.cutter⟩

theorem TripRests.heatOff (h : TripRests s t) : TripRests s t.heatEStop :=
  ⟨h.intent, h.pending, h.phase, h.head, h.blades, h.cutter⟩

theorem TripRests.openPorts (h : TripRests s t) : TripRests s t.openPorts :=
  ⟨by simpa using h.intent, by simpa using h.pending, by simpa using h.phase, by simpa using h.head, by simpa using h.blades,
    by simpa using h.cutter⟩

theorem enterTripped_rests (s : State) : TripRests s s.enterTripped := by
  unfold State.enterTripped
  dsimp only
  refine ⟨by simp, by simp, by simp [abandonSplice_phase], fun hne => ?_, by simp [bladeTrip_pfm], by simp [exitTrip_exu]⟩
  obtain ⟨-, houtcome, hextend, hknife, -⟩ := abandonSplice_ends
    (s := { s with sgv := { s.sgv with gov := .tripped, intent := false, stopPending := false } }) hne .abandoned
  simp [houtcome, hextend, hknife]

theorem enterTripped_gov (s : State) : s.enterTripped.sgv.gov = .tripped := by simp [State.enterTripped]

theorem raiseTrip_rests (h : s.sgv.gov ≠ .tripped) (c : TripCause) : TripRests s (s.raiseTrip c) := by
  have hgov : ((s.raiseAlert c.alert).addTrip c).sgv.gov ≠ .tripped := h
  unfold State.raiseTrip
  dsimp only
  rw [if_neg hgov]
  exact (enterTripped_rests ((s.raiseAlert c.alert).addTrip c)).of rfl rfl rfl

theorem bladeTrip_keepsAlert (a : Alert) (s : State) : KeepsAlert a s s.bladeTrip := by
  have hmiss : KeepsAlert a s s.missCurrent := by
    unfold State.missCurrent
    split
    · exact id
    · exact missStrike_keepsAlert a s _
  unfold State.bladeTrip
  split
  case h_2 | h_3 => exact hmiss.trans (keepsAlert_of_alerts (by simp))
  all_goals exact keepsAlert_of_alerts (by simp)

theorem enterTripped_keepsAlert (a : Alert) (s : State) : KeepsAlert a s s.enterTripped := by
  have hfirst : KeepsAlert a s
      (({ s with sgv := { s.sgv with gov := .tripped, intent := false, stopPending := false } }).abandonSplice .abandoned) :=
    keepsAlert_of_alerts (by simp)
  have hlast (u : State) : KeepsAlert a u u.exitTrip.zonesToStandby.clearTarget := keepsAlert_of_alerts (by simp)
  exact (hfirst.trans (bladeTrip_keepsAlert a _)).trans (hlast _)

theorem raiseTrip_spec (s : State) (c : TripCause) :
    (s.raiseTrip c).sgv.gov = .tripped ∧ (s.raiseTrip c).hasTrip c = true ∧ (s.raiseTrip c).hasAlert c.alert = true := by
  refine ⟨?_, ?_, ?_⟩
  · unfold State.raiseTrip
    dsimp only
    split
    · assumption
    · exact enterTripped_gov _
  · have htrips : (s.raiseTrip c).sgv.trips = ((s.raiseAlert c.alert).addTrip c).sgv.trips := by
      unfold State.raiseTrip
      dsimp only
      split
      · rfl
      · simp [State.enterTripped]
    rw [hasTrip_congr htrips, hasTrip_addTrip]
    simp
  · have hraised : ((s.raiseAlert c.alert).addTrip c).hasAlert c.alert = true :=
      (hasAlert_congr (s := s.raiseAlert c.alert) rfl c.alert).trans (by simp [hasAlert_raiseAlert])
    unfold State.raiseTrip
    dsimp only
    split
    · exact hraised
    · exact enterTripped_keepsAlert _ _ hraised

/-- After a trip run intent is CLEAR and no stop is pending (R159). -/
theorem raiseTrip_intent (h : IntentLaw s) (c : TripCause) : (s.raiseTrip c).sgv.intent = false ∧ (s.raiseTrip c).sgv.stopPending = false := by
  by_cases hgov : s.sgv.gov = .tripped
  · have hkept : (s.raiseTrip c).sgv.intent = s.sgv.intent ∧ (s.raiseTrip c).sgv.stopPending = s.sgv.stopPending := by
      have hgov' : ((s.raiseAlert c.alert).addTrip c).sgv.gov = .tripped := hgov
      unfold State.raiseTrip
      dsimp only
      rw [if_pos hgov']
      exact ⟨rfl, rfl⟩
    unfold IntentLaw at h
    rw [hgov] at h
    rw [hkept.1, hkept.2]
    exact h
  · have hrests := raiseTrip_rests hgov c
    exact ⟨hrests.intent, hrests.pending⟩

/-- A zone OFF or in STANDBY stays as it is at a trip (R120). -/
theorem raiseTrip_zone {z : ZoneId} (h : (s.hsu.zones.get z).heating = false) (c : TripCause) :
    (s.raiseTrip c).hsu.zones.get z = s.hsu.zones.get z := by
  unfold State.raiseTrip
  dsimp only
  split
  · rfl
  · simp [State.enterTripped, State.zonesToStandby, State.mapZones, h]

/-! ### E_STOP (R132, R160) -/

theorem assertEStop_cases (s : State) :
    s.assertEStop = (s.heatEStop.raiseTrip .eStop).takeFree ∨ s.assertEStop = (s.raiseTrip .eStop).heatEStop.takeFree ∨
      s.assertEStop = (s.raiseTrip .eStop).heatEStop := by
  unfold State.assertEStop
  split
  · split
    · exact Or.inl rfl
    · exact Or.inr (Or.inl rfl)
  · exact Or.inr (Or.inr rfl)

/-- What an assertion of E_STOP comes to (R132, R160). -/
structure EStopped (s t : State) : Prop where
  gov : t.sgv.gov = .tripped
  trip : t.hasTrip .eStop = true
  alert : t.hasAlert .eStop = true
  heat : t.rst.line.heat = false
  permit : t.hsu.permit = none
  zones : ∀ z, (t.hsu.zones.get z).mode = .off ∧ (t.hsu.zones.get z).settle = none
  intent : IntentLaw s → t.sgv.intent = false ∧ t.sgv.stopPending = false
  rests : s.sgv.gov ≠ .tripped → TripRests s t
  kept : t.sgv.stops = s.sgv.stops ∧ t.fsu.w = s.fsu.w ∧ t.exu.b = s.exu.b

theorem zonesOff_get (s : State) (z : ZoneId) :
    (s.heatEStop.hsu.zones.get z).mode = .off ∧ (s.heatEStop.hsu.zones.get z).settle = none := by
  have hzones : s.heatEStop.hsu.zones = s.hsu.zones.map fun _ v => { v with mode := .off, settle := none } := rfl
  rw [hzones, Four.get_map]
  exact ⟨rfl, rfl⟩

theorem assertEStop_spec (s : State) : EStopped s s.assertEStop := by
  have hafter : EStopped s (s.raiseTrip .eStop).heatEStop := by
    obtain ⟨hgov, htrip, halert⟩ := raiseTrip_spec s .eStop
    exact ⟨hgov, htrip, halert, rfl, rfl, zonesOff_get _, fun hlaw => raiseTrip_intent hlaw .eStop,
      fun hne => (raiseTrip_rests hne .eStop).heatOff, by simp⟩
  have hbefore : EStopped s (s.heatEStop.raiseTrip .eStop) := by
    obtain ⟨hgov, htrip, halert⟩ := raiseTrip_spec s.heatEStop .eStop
    refine ⟨hgov, htrip, halert, ?_, ?_, fun z => ?_, fun hlaw => raiseTrip_intent (s := s.heatEStop) hlaw .eStop,
      fun hne => ?_, by simp⟩
    · simp; rfl
    · simp; rfl
    · rw [raiseTrip_zone (by simp [Zone.heating, (zonesOff_get s z).1])]
      exact zonesOff_get s z
    · exact (raiseTrip_rests (s := s.heatEStop) hne .eStop).of rfl rfl rfl
  rcases assertEStop_cases s with heq | heq | heq <;> rw [heq]
  · exact ⟨hbefore.gov, hbefore.trip, hbefore.alert, hbefore.heat, hbefore.permit, hbefore.zones, hbefore.intent, fun hne =>
      (hbefore.rests hne).takeFree, hbefore.kept⟩
  · exact ⟨hafter.gov, hafter.trip, hafter.alert, hafter.heat, hafter.permit, hafter.zones, hafter.intent, fun hne =>
      (hafter.rests hne).takeFree, hafter.kept⟩
  · exact hafter

theorem EStopped.openPorts (h : EStopped s t) : EStopped s t.openPorts :=
  ⟨by simpa using h.gov, (hasTrip_congr (by simp) _).trans h.trip, (hasAlert_congr (by simp) _).trans h.alert, by simpa using h.heat,
    by simpa using h.permit, by simpa using h.zones, by simpa using h.intent, fun hne => (h.rests hne).openPorts, by simpa using h.kept⟩

theorem EStopped.endAct (h : EStopped s t) : EStopped s t.endAct :=
  ⟨endAct_gov h.gov (by simp), (hasTrip_endAct t _).trans h.trip, (hasAlert_endAct t _).trans h.alert, by simpa using h.heat,
    by simpa using h.permit, by simpa using h.zones, by simpa using h.intent, fun hne => (h.rests hne).endAct, by simpa using h.kept⟩

/-- HEAT OFF holds no ZONE_UNSETTLED (R124). -/
theorem endAct_not_unsettled (h : s.rst.line.heat = false) : s.endAct.hasHold .zoneUnsettled = false := by
  rw [endAct_hold, syncUnsettled_hold, h]
  rfl

/-- E_STOP asserted, by the first level or by a rise, is the assertion with the level taken, and the ports perhaps opened (R11, R160). -/
theorem settleInput_eStop (hraw : (s.inputs.get .eStop).raw = true) (hlevel : (s.inputs.get .eStop).level ≠ some true) :
    s.settleInput .eStop = (s.settled .eStop true).assertEStop.openPorts ∨
      s.settleInput .eStop = (s.settled .eStop true).assertEStop := by
  cases hold : (s.inputs.get .eStop).level with
  | none =>
    left
    rw [settleInput_first hold, hraw]
    rfl
  | some old =>
    right
    obtain rfl : old = false := by
      cases old with
      | false => rfl
      | true => exact absurd hold hlevel
    simp only [State.settleInput, hold, hraw]
    rfl

/-- Settles O27: the assertion of E_STOP by its two orders, and the web-break window's expiry. -/
theorem tripsBringTheLineToRest : Obligations.TripsBringTheLineToRest := by
  unfold Obligations.TripsBringTheLineToRest
  refine ⟨fun s hsettle hraw hlevel => ⟨_, exec_debounceSettle hsettle, ?_⟩, fun s hwindow => ⟨(s.raiseTrip .webBreak).endAct, ?_, ?_⟩⟩
  · have hstopped : EStopped s (s.settleInput .eStop) := by
      have hspec : EStopped s (s.settled .eStop true).assertEStop := by
        obtain ⟨hgov, htrip, halert, hheat, hpermit, hzones, hintent, hrests, hkept⟩ := assertEStop_spec (s.settled .eStop true)
        exact ⟨hgov, htrip, halert, hheat, hpermit, hzones, hintent, fun hne =>
          (hrests hne).of rfl rfl rfl, hkept⟩
      rcases settleInput_eStop hraw hlevel with heq | heq <;> rw [heq]
      · exact hspec.openPorts
      · exact hspec
    have hrefs := endAct_refs_atRest (s := s.settleInput .eStop) (by rw [hstopped.gov]; rfl)
    have hended := hstopped.endAct
    refine ⟨hended.gov, hended.trip, hended.alert, hended.heat, hended.permit, fun z _ => hended.zones z,
      endAct_not_unsettled hstopped.heat, hrefs.1, hrefs.2, hended.kept.1, hended.kept.2.1, hended.kept.2.2, hended.intent, fun hne => ?_⟩
    obtain ⟨hintent, hpending, hphase, hhead, ⟨hstrike, hdepths, hlimit, hcycle⟩, hcut, hcutLimit, hdivert, hcutter⟩ := hended.rests hne
    exact ⟨hintent, hpending, hphase, hhead, hstrike, hdepths, hlimit, hcycle, hcut, hcutLimit, hdivert, hcutter⟩
  · simp [exec, execWebBreakExpiry, hwindow]
  · obtain ⟨hgov, htrip, halert⟩ := raiseTrip_spec s .webBreak
    have hrefs := endAct_refs_atRest (s := s.raiseTrip .webBreak) (by rw [hgov]; rfl)
    refine ⟨(hasAlert_endAct _ _).trans halert, (hasTrip_endAct _ _).trans htrip, endAct_gov hgov (by simp), hrefs.1, hrefs.2, by simp,
      by simp, by simp, by simp, by simp, by simp, fun hlaw => by simpa using raiseTrip_intent hlaw .webBreak, fun hne => ?_⟩
    obtain ⟨hintent, hpending, hphase, hhead, ⟨hstrike, hdepths, hlimit, hcycle⟩, hcut, hcutLimit, hdivert, hcutter⟩ :=
      (raiseTrip_rests hne .webBreak).endAct
    exact ⟨hintent, hpending, hphase, hhead, hstrike, hdepths, hlimit, hcycle, hcut, hcutLimit, hdivert, hcutter⟩

end Sys2Proof.Machine
end

section
/-! SUPPORT. LINE_RESET (O47): what each unit is after it. -/

namespace Sys2Proof.Machine

variable {s t : State}

/-- The end of an act computes one value of FSU again (R74). -/
theorem endAct_fsu (s : State) : s.endAct.fsu = { s.fsu with webBreak := s.endAct.fsu.webBreak } := by
  unfold State.endAct State.regulate
  simp

/-- The state of a LINE_RESET before the end of the act. -/
def State.resetUnits (s : State) : State :=
  s.resetRecords.resetLink.resetFeed.resetFormer.resetHeat.resetExit.resetGovernor

theorem resetLine_eq (s : State) : s.resetLine = s.resetUnits.endAct := rfl

/-! ### The records and the ports -/

theorem resetUnits_rst (s : State) : s.resetUnits.rst = s.resetRecords.rst := by simp [State.resetUnits]

theorem resetRecords_panels (s : State) : s.resetRecords.rst.panels = [] := by simp [State.resetRecords]

theorem resetRecords_line (s : State) : s.resetRecords.rst.line = { s.rst.line with windowOpen := true, heat := false } := by
  simp [State.resetRecords]

theorem Lot.lineReset_offWeb (l : Lot) (n : Nat) : (l.lineReset n).onWeb = false := by
  unfold Lot.lineReset
  split
  · rfl
  · rename_i h
    exact Bool.eq_false_iff.mpr h

theorem resetRecords_lots (s : State) : ∀ l ∈ s.resetRecords.rst.lots, l.onWeb = false := by
  intro l hl
  have hlots : s.resetRecords.rst.lots = (s.rst.lots.filter Lot.committed).map fun l => l.lineReset (s.panelsOf l.number) := by
    simp [State.resetRecords]
  rw [hlots] at hl
  obtain ⟨l', -, rfl⟩ := List.mem_map.mp hl
  exact Lot.lineReset_offWeb l' _

theorem resetRecords_rolls_eq (s : State) : s.resetRecords.rst.rolls = s.rst.rolls.filter fun r => decide (r.state ≠ .new) := by
  rw [State.resetRecords_rolls]
  refine List.filter_congr fun r _ => ?_
  unfold Roll.committed
  cases r.state <;> rfl

theorem resetGovernor_ports (s : State) : s.resetGovernor.lnk.sup = s.lnk.sup ∧ s.resetGovernor.lnk.pen = s.lnk.pen := by
  unfold State.resetGovernor
  dsimp only
  split
  · split <;> exact ⟨rfl, rfl⟩
  · exact ⟨rfl, rfl⟩

theorem resetUnits_port (s : State) (q : Port) : s.resetUnits.port q = s.resetRecords.resetPort (s.port q) := by
  obtain ⟨hsup, hpen⟩ := resetGovernor_ports s.resetRecords.resetLink.resetFeed.resetFormer.resetHeat.resetExit
  cases q
  · exact hsup.trans (by simp [State.resetLink, State.port])
  · exact hpen.trans (by simp [State.resetLink, State.port])

theorem resetSlot_ends (s : State) (v : Slot) : s.resetSlot v = .empty ∨ ∃ tb k, s.resetSlot v = .lost tb k := by
  unfold State.resetSlot
  split
  · exact Or.inl rfl
  · split
    · exact Or.inl rfl
    · exact Or.inr ⟨_, _, rfl⟩
  · split
    · exact Or.inl rfl
    · exact Or.inr ⟨_, _, rfl⟩
  · exact Or.inl rfl

/-! ### The governor (R176) -/

/-- The governor with its intent cleared and its sets emptied (R176). -/
def State.emptied (s : State) : State :=
  { s with sgv := { s.sgv with
    intent := false, holds := holdsAfterReset s.hsu.pressure, stops := 0#5, trips := 0#3, stopPending := false } }

theorem resetGovernor_eq (s : State) :
    s.resetGovernor =
      if s.sgv.gov = .tripped then
        if s.asserted .eStop then (s.emptied.raiseAlert .eStop).addTrip .eStop
        else { s.emptied with sgv := { s.emptied.sgv with gov := .stopped } }
      else s.emptied := rfl

theorem resetGovernor_intent (s : State) :
    s.resetGovernor.sgv.intent = false ∧ s.resetGovernor.sgv.stopPending = false ∧ s.resetGovernor.sgv.stops = 0#5 ∧
      s.resetGovernor.sgv.holds = holdsAfterReset s.hsu.pressure := by
  rw [resetGovernor_eq]
  split
  · split <;> exact ⟨rfl, rfl, rfl, rfl⟩
  · exact ⟨rfl, rfl, rfl, rfl⟩

theorem resetGovernor_of_released (h : s.sgv.gov = .stopped ∨ s.sgv.gov = .tripped ∧ s.asserted .eStop = false) :
    s.resetGovernor.sgv.gov = .stopped ∧ s.resetGovernor.sgv.trips = 0#3 ∧ s.resetGovernor.lnk = s.lnk := by
  rw [resetGovernor_eq]
  rcases h with hgov | ⟨hgov, hreleased⟩
  · rw [if_neg (by simp [hgov])]
    exact ⟨hgov, rfl, rfl⟩
  · rw [if_pos hgov, if_neg (by simp [hreleased])]
    exact ⟨rfl, rfl, rfl⟩

theorem resetGovernor_of_asserted (h : s.sgv.gov = .tripped) (hasserted : s.asserted .eStop = true) (halerts : s.lnk.alerts = 0#17) :
    s.resetGovernor.sgv.gov = .tripped ∧ (∀ c, s.resetGovernor.hasTrip c = decide (c = .eStop)) ∧
      ∀ a, s.resetGovernor.hasAlert a = decide (a = .eStop) := by
  rw [resetGovernor_eq, if_pos h, if_pos hasserted]
  refine ⟨h, fun c => ?_, fun a => ?_⟩
  · have hbits : hasBit 0#3 c.bit = false := by cases c <;> decide
    have hnone : (s.emptied.raiseAlert .eStop).hasTrip c = false := hbits
    rw [hasTrip_addTrip, hnone, Bool.false_or]
  · have hempty : s.emptied.hasAlert a = false := by
      have hbits : hasBit 0#17 a.bit = false := by cases a <;> decide
      rw [← hbits, ← halerts]
      rfl
    have hraised := hasAlert_raiseAlert s.emptied .eStop a
    rw [hempty, Bool.false_or] at hraised
    exact hraised

theorem hasBit_holdsAfterReset (p : PressureState) (h : HoldReason) :
    hasBit (holdsAfterReset p) h.bit = true ↔ h = .steamLow ∧ p ≠ .normal := by
  cases p <;> cases h <;> decide

/-! ### The whole -/

/-- What LINE_RESET leaves of the records, the ports and the units, the governor's state apart. -/
structure UnitsReset (s t : State) : Prop where
  panels : t.rst.panels = []
  lots : ∀ l ∈ t.rst.lots, l.onWeb = false
  line : t.rst.line = { s.rst.line with windowOpen := true, heat := false }
  rolls : t.rst.rolls = s.rst.rolls.filter fun r => decide (r.state ≠ .new)
  ltr : t.ltr = Ltr.reset
  fsu : t.fsu = { s.fsu with locked := false, lossWatch := none, lockCount := t.fsu.lockCount, webBreak := t.fsu.webBreak }
  former : t.pfm.forming = none ∧ t.pfm.nextStart = none ∧ t.pfm.nextStrike = none ∧ t.pfm.stepTarget = none ∧
    t.pfm.strike = false ∧ t.pfm.cycle = cycleAt (s.asserted .home) ∧ t.pfm.nextWaste = s.pfm.nextWaste
  heat : (∀ z, (t.hsu.zones.get z).mode = .off) ∧ t.hsu.permit = none ∧ t.hsu.pressure = s.hsu.pressure
  exit : t.exu = { s.exu with cut := false, limit := none, divert := true, cutSerial := none, pendingFault := false,
                              last := none, cycle := cycleAt (s.asserted .cutHome) }
  governor : t.sgv.intent = false ∧ t.sgv.stopPending = false ∧ t.sgv.stops = 0#5 ∧
    ∀ h, t.hasHold h = true ↔ h = .steamLow ∧ s.hsu.pressure ≠ .normal
  ports : ∀ q, (t.port q).inactivity = none ∧ (t.slot q = .empty ∨ ∃ tb k, t.slot q = .lost tb k)

theorem resetUnits_hsu (s : State) : s.resetUnits.hsu = s.resetRecords.resetLink.resetFeed.resetFormer.resetHeat.hsu := by
  simp [State.resetUnits]

theorem resetHeat_hsu (s : State) :
    (∀ z, (s.resetHeat.hsu.zones.get z).mode = .off) ∧ s.resetHeat.hsu.permit = none := by
  have hhsu : s.resetHeat.hsu = { s.zonesOff.hsu with permit := none } := by simp [State.resetHeat]
  refine ⟨fun z => ?_, by rw [hhsu]⟩
  rw [hhsu]
  show ((s.hsu.zones.map fun _ (v : Zone) => { v with mode := .off, settle := none }).get z).mode = .off
  rw [Four.get_map]

theorem resetLine_unitsReset (s : State) : UnitsReset s s.resetLine := by
  have hrst : s.resetLine.rst = s.resetRecords.rst := by
    rw [resetLine_eq]
    simp [resetUnits_rst]
  have hgovernor : s.resetUnits.sgv.intent = false ∧ s.resetUnits.sgv.stopPending = false ∧ s.resetUnits.sgv.stops = 0#5 ∧
      s.resetUnits.sgv.holds = holdsAfterReset s.hsu.pressure := by
    have hraw := resetGovernor_intent s.resetRecords.resetLink.resetFeed.resetFormer.resetHeat.resetExit
    simp only [State.resetExit_frame, State.resetHeat_frame, State.resetFormer_frame, State.resetFeed_frame, State.resetLink_frame,
      State.resetRecords_frame] at hraw
    exact hraw
  obtain ⟨hintent, hpending, hstops, hholds⟩ := hgovernor
  have hhsu : s.resetLine.hsu = s.resetRecords.resetLink.resetFeed.resetFormer.resetHeat.hsu := by
    simp [resetLine_eq, resetUnits_hsu]
  have hheat : s.resetUnits.rst.line.heat = false := by rw [resetUnits_rst, resetRecords_line]
  refine ⟨?_, ?_, ?_, ?_, ?_, ?_, ?_, ?_, ?_, ⟨?_, ?_, ?_, fun h => ?_⟩, fun q => ?_⟩
  · rw [hrst, resetRecords_panels]
  · rw [hrst]; exact resetRecords_lots s
  · rw [hrst, resetRecords_line]
  · rw [hrst, resetRecords_rolls_eq]
  · simp [resetLine_eq, State.resetUnits, State.resetFeed]
  · have hfsu : s.resetUnits.fsu = s.resetRecords.clearTension.fsu := by
      simp [State.resetUnits, State.resetFeed, State.clearTension]
    rw [resetLine_eq, endAct_fsu, hfsu]
    simp [State.clearTension]
  · simp [resetLine_eq, State.resetUnits, State.resetFormer, Pfm.reset, State.asserted]
  · obtain ⟨hzones, hpermit⟩ := resetHeat_hsu s.resetRecords.resetLink.resetFeed.resetFormer
    exact ⟨fun z => by rw [hhsu]; exact hzones z, by rw [hhsu]; exact hpermit, by simp⟩
  · simp [resetLine_eq, State.resetUnits, State.resetExit, State.asserted]
  · simpa [resetLine_eq] using hintent
  · simpa [resetLine_eq] using hpending
  · simpa [resetLine_eq] using hstops
  · rw [resetLine_eq]
    by_cases hunsettled : h = .zoneUnsettled
    · rw [hunsettled, endAct_not_unsettled hheat]
      simp
    · rw [endAct_hasHold hunsettled, State.hasHold, hholds]
      exact hasBit_holdsAfterReset s.hsu.pressure h
  · rw [resetLine_eq]
    unfold State.slot
    rw [port_endAct, resetUnits_port]
    exact ⟨rfl, resetSlot_ends _ _⟩

/-- Where E_STOP is released, or the governor was in STOPPED, LINE_RESET leaves it in STOPPED (R176). -/
theorem resetUnits_of_released (h : s.sgv.gov = .stopped ∨ s.sgv.gov = .tripped ∧ s.asserted .eStop = false) :
    s.resetUnits.sgv.gov = .stopped ∧ s.resetUnits.sgv.trips = 0#3 ∧ s.resetUnits.lnk.alerts = 0#17 := by
  have hspec : s.resetUnits.sgv.gov = .stopped ∧ s.resetUnits.sgv.trips = 0#3 ∧
      s.resetUnits.lnk = s.resetRecords.resetLink.resetFeed.resetFormer.resetHeat.resetExit.lnk := by
    refine resetGovernor_of_released ?_
    rw [asserted_congr (s := s) (by simp)]
    simpa using h
  obtain ⟨hgov, htrips, hlnk⟩ := hspec
  exact ⟨hgov, htrips, by rw [hlnk]; simp [State.resetLink]⟩

/-- With E_STOP asserted a TRIPPED line stays so, and ESTOP alone is raised again (R176). -/
theorem resetUnits_of_asserted (h : s.sgv.gov = .tripped) (hasserted : s.asserted .eStop = true) :
    s.resetUnits.sgv.gov = .tripped ∧ (∀ c, s.resetUnits.hasTrip c = decide (c = .eStop)) ∧
      ∀ a, s.resetUnits.hasAlert a = decide (a = .eStop) := by
  refine resetGovernor_of_asserted (by simpa using h) ?_ (by simp [State.resetLink])
  rw [asserted_congr (s := s) (by simp)]
  exact hasserted

theorem resetUnits_atRest (h : s.sgv.gov = .stopped ∨ s.sgv.gov = .tripped) : s.resetUnits.sgv.gov.atRest = true := by
  by_cases hasserted : s.sgv.gov = .tripped ∧ s.asserted .eStop = true
  · rw [(resetUnits_of_asserted hasserted.1 hasserted.2).1]
    rfl
  · rw [(resetUnits_of_released ?_).1]
    · rfl
    · rcases h with hgov | hgov
      · exact Or.inl hgov
      · exact Or.inr ⟨hgov, Bool.eq_false_iff.mpr fun hon => hasserted ⟨hgov, hon⟩⟩

theorem setReceiver_port (s : State) (p q : Port) (v : Receiver) :
    ((s.setReceiver p v).port q).inactivity = (s.port q).inactivity ∧ (s.setReceiver p v).slot q = s.slot q := by
  cases p <;> cases q <;> exact ⟨rfl, rfl⟩

theorem lineReset_of_rest (h : (s.sgv.gov = .stopped ∨ s.sgv.gov = .tripped) ∧ s.sgv.standstill = true) :
    answerLineReset .sup [] s = done s.resetLine := (supervisorOnly_sup s _).trans (if_pos h)

theorem lineReset_of_not_rest (h : ¬ ((s.sgv.gov = .stopped ∨ s.sgv.gov = .tripped) ∧ s.sgv.standstill = true)) :
    answerLineReset .sup [] s = (s, say .wrongState) := (supervisorOnly_sup s _).trans (if_neg h)

/-- What LINE_RESET leaves of the governor's state, its trip causes and the alerts, where the line was STOPPED or TRIPPED. -/
structure GovernorReset (s t : State) : Prop where
  refs : t.sgv.flatRef = 0 ∧ t.sgv.beltRef = 0
  released : s.sgv.gov = .stopped ∨ s.asserted .eStop = false → t.sgv.gov = .stopped ∧ t.sgv.trips = 0#3
  alerts : s.sgv.gov = .stopped → t.lnk.alerts = 0#17
  asserted : s.sgv.gov = .tripped → s.asserted .eStop = true →
    t.sgv.gov = .tripped ∧ (∀ c, t.hasTrip c = decide (c = .eStop)) ∧ ∀ a, t.hasAlert a = decide (a = .eStop)

theorem resetLine_governorReset (hgov : s.sgv.gov = .stopped ∨ s.sgv.gov = .tripped) : GovernorReset s s.resetLine where
  refs := endAct_refs_atRest (resetUnits_atRest hgov)
  released := fun hreleased => by
    have hcase : s.sgv.gov = .stopped ∨ s.sgv.gov = .tripped ∧ s.asserted .eStop = false :=
      hgov.imp_right fun htripped => ⟨htripped, hreleased.resolve_left (by simp [htripped])⟩
    obtain ⟨hgov', htrips, -⟩ := resetUnits_of_released hcase
    exact ⟨endAct_gov hgov' (by simp), by simpa [resetLine_eq] using htrips⟩
  alerts := fun hstopped => by
    obtain ⟨-, -, halerts⟩ := resetUnits_of_released (Or.inl hstopped)
    simpa [resetLine_eq] using halerts
  asserted := fun htripped hasserted => by
    obtain ⟨hgov', htrips, halerts⟩ := resetUnits_of_asserted htripped hasserted
    exact ⟨endAct_gov hgov' (by simp), fun c => (hasTrip_endAct _ c).trans (htrips c), fun a => (hasAlert_endAct _ a).trans (halerts a)⟩

/-- Settles O47: refused where the line is not at rest, else each unit by its part of the reset. -/
theorem lineResetActsOnEveryUnit : Obligations.LineResetActsOnEveryUnit := by
  unfold Obligations.LineResetActsOnEveryUnit
  refine fun s hears => ⟨fun hnot => ?_, fun hgov hstill =>
    ⟨(s.restartInactivity .sup).resetLine.setReceiver .sup (.answering [0x00#8]), ?_, ?_⟩⟩
  · exact congrArg Host.Outcome.next (takeRequest_answered hears (lineReset_of_not_rest hnot))
  · exact congrArg Host.Outcome.next (takeRequest_done hears (lineReset_of_rest (s := s.restartInactivity .sup) ⟨hgov, hstill⟩))
  · have hreset := resetLine_unitsReset (s.restartInactivity .sup)
    have hgoverned := resetLine_governorReset (s := s.restartInactivity .sup) hgov
    generalize (s.restartInactivity .sup).resetLine = t at hreset hgoverned ⊢
    obtain ⟨hintent, hpending, hstops, hholds⟩ := hreset.governor
    obtain ⟨hforming, hstart, hstrike, htarget, hdown, hcycle, hwaste⟩ := hreset.former
    obtain ⟨hzones, hpermit, hpressure⟩ := hreset.heat
    have hline : t.rst.line.windowOpen = true ∧ t.rst.line.heat = false ∧ t.rst.line.configured = s.rst.line.configured := by
      rw [hreset.line]
      exact ⟨rfl, rfl, rfl⟩
    obtain ⟨hwindow, hheat, hconfigured⟩ := hline
    refine ⟨rfl, hreset.panels, hreset.lots, hwindow, hheat, hconfigured, hreset.ltr, hreset.fsu, hreset.rolls, hforming, hstart,
      hstrike, htarget, hdown, hcycle, hwaste, fun z _ => hzones z, hpermit, hpressure, hreset.exit, hholds, hstops, hintent, hpending,
      hgoverned.refs.1, hgoverned.refs.2, hgoverned.released, hgoverned.alerts, hgoverned.asserted, fun q => ?_⟩
    obtain ⟨htimer, hslot⟩ := setReceiver_port t .sup q (.answering [0x00#8])
    rw [htimer, hslot]
    exact hreset.ports q

end Sys2Proof.Machine
end

section
/-! SUPPORT. The match count (O31): from MATCHING to MATCHED and PRESS. -/

namespace Sys2Proof.Machine

variable {s t : State} {x : Station}

/-! ### The parts (R63, R64) -/

theorem pressTest_presses (hphase : s.fsu.phase = .matching) (hin : s.fsu.incoming = some x) (hx : s.station x = .matched)
    (hspeed : s.fsu.web.speed ≤ (s.rst.line.spliceSpeed.getD 0 : Nat)) : s.pressTest = s.enterPress :=
  if_pos ⟨hphase, by simp [State.incomingMatched, hin, hx], hspeed⟩

theorem pressTest_waits (hin : s.fsu.incoming = some x)
    (h : s.station x ≠ .matched ∨ (s.rst.line.spliceSpeed.getD 0 : Nat) < s.fsu.web.speed) : s.pressTest = s := by
  refine if_neg fun ⟨_, hmatched, hspeed⟩ => ?_
  simp only [State.incomingMatched, hin, Option.any_some, beq_iff_eq] at hmatched
  rcases h with hx | hfast
  · exact hx hmatched
  · omega

theorem matchReached_matches {n : Nat} (hphase : s.fsu.phase = .matching) (hin : s.fsu.incoming = some x)
    (hcount : s.fsu.matchCount = some n) (hn : 2000 ≤ n) (hx : s.station x = .matching) : s.matchReached = s.setStation x .matched := by
  unfold State.matchReached
  rw [hphase, hin, hcount]
  exact if_pos ⟨hn, hx⟩

theorem matchReached_waits (hin : s.fsu.incoming = some x)
    (h : ¬ (s.station x = .matching ∧ ∃ n, s.fsu.matchCount = some n ∧ 2000 ≤ n)) : s.matchReached = s := by
  unfold State.matchReached
  split
  · rename_i n _ hin' hcount
    obtain rfl : x = _ := Option.some.inj (hin.symm.trans hin')
    exact if_neg fun ⟨hn, hx⟩ => h ⟨hx, n, hcount, hn⟩
  · rfl

theorem autoSpliceTest_of_busy (h : s.fsu.phase ≠ .idle) : s.autoSpliceTest = s := by
  simp [State.autoSpliceTest, State.autoSpliceReady, h]

/-! ### A forward feed count in MATCHING -/

/-- What the match count reads and writes. -/
def SharesMatch (s t : State) : Prop :=
  t.fsu.phase = s.fsu.phase ∧ t.fsu.incoming = s.fsu.incoming ∧ t.fsu.matchCount = s.fsu.matchCount ∧ t.fsu.staA = s.fsu.staA ∧
    t.fsu.staB = s.fsu.staB ∧ t.fsu.extend = s.fsu.extend ∧ t.fsu.limit = s.fsu.limit ∧ t.fsu.web.speed = s.fsu.web.speed ∧
    t.rst.line = s.rst.line

/-- What one forward count in MATCHING makes of the splice (R63, R64). -/
def MatchCounted (s t : State) (x : Station) : Prop :=
  let reached := s.station x = .matching ∧ ∃ n, s.fsu.matchCount = some n ∧ 1999 ≤ n
  let matched := reached ∨ s.station x = .matched
  t.fsu.matchCount = s.fsu.matchCount.map (fun n => min 2000 (n + 1)) ∧
    (matched → t.station x = .matched ∧
      ((s.rst.line.spliceSpeed.getD 0 : Nat) < s.fsu.web.speed →
        t.fsu.phase = .matching ∧ t.fsu.extend = s.fsu.extend ∧ t.fsu.limit = s.fsu.limit) ∧
      (s.fsu.web.speed ≤ (s.rst.line.spliceSpeed.getD 0 : Nat) →
        t.fsu.phase = .press ∧ t.fsu.extend = true ∧ t.fsu.limit = some 400)) ∧
    (¬ matched → t.station x = s.station x ∧ t.fsu.phase = .matching ∧ t.fsu.extend = s.fsu.extend ∧
      t.fsu.limit = s.fsu.limit)

theorem MatchCounted.of {s' : State} (h : MatchCounted s' t x) (hshares : SharesMatch s s') : MatchCounted s t x := by
  obtain ⟨-, -, hcount, ha, hb, hextend, hlimit, hspeed, hline⟩ := hshares
  unfold MatchCounted at h
  rwa [station_congr ha hb, hcount, hextend, hlimit, hspeed, hline] at h

theorem MatchCounted.fsu {t' : State} (h : MatchCounted s t x) (hfsu : t'.fsu = t.fsu) : MatchCounted s t' x := by
  unfold MatchCounted
  rwa [station_of_fsu hfsu, hfsu]

/-- The press tested on a MATCHED station. -/
theorem pressTest_counted (hphase : s.fsu.phase = .matching) (hin : s.fsu.incoming = some x) (hx : s.station x = .matched) :
    s.pressTest.station x = .matched ∧
      ((s.rst.line.spliceSpeed.getD 0 : Nat) < s.fsu.web.speed →
        s.pressTest.fsu.phase = .matching ∧ s.pressTest.fsu.extend = s.fsu.extend ∧ s.pressTest.fsu.limit = s.fsu.limit) ∧
      (s.fsu.web.speed ≤ (s.rst.line.spliceSpeed.getD 0 : Nat) →
        s.pressTest.fsu.phase = .press ∧ s.pressTest.fsu.extend = true ∧ s.pressTest.fsu.limit = some 400) := by
  refine ⟨(pressTest_station s x).trans hx, fun hfast => ?_, fun hslow => ?_⟩
  · rw [pressTest_waits hin (Or.inr hfast)]
    exact ⟨hphase, rfl, rfl⟩
  · rw [pressTest_presses hphase hin hx hslow]
    exact ⟨rfl, rfl, rfl⟩

theorem matchPart_counted (hphase : s.fsu.phase = .matching) (hin : s.fsu.incoming = some x) :
    MatchCounted s (s.matchPart .forward) x := by
  have hcounted : s.countMatch.fsu.matchCount = s.fsu.matchCount.map fun n => min 2000 (n + 1) := by
    simp [State.countMatch, hphase, matchCounts]
  have hphase' : s.countMatch.fsu.phase = .matching := by simpa using hphase
  have hin' : s.countMatch.fsu.incoming = some x := by simpa using hin
  have hstation : s.countMatch.station x = s.station x := station_congr (by simp) (by simp) x
  have hpart : s.matchPart .forward = s.countMatch.matchReached.pressTest := rfl
  have hreached : (s.countMatch.station x = .matching ∧ ∃ n, s.countMatch.fsu.matchCount = some n ∧ 2000 ≤ n) ↔
      s.station x = .matching ∧ ∃ n, s.fsu.matchCount = some n ∧ 1999 ≤ n := by
    rw [hstation, hcounted]
    refine and_congr_right fun _ => ⟨fun ⟨n, hn, hle⟩ => ?_, fun ⟨n, hn, hle⟩ => ⟨min 2000 (n + 1), by rw [hn]; rfl, by omega⟩⟩
    obtain ⟨m, hm, rfl⟩ := Option.map_eq_some_iff.mp hn
    exact ⟨m, hm, by omega⟩
  unfold MatchCounted
  refine ⟨by rw [hpart]; simpa using hcounted, fun hmatched => ?_, fun hnot => ?_⟩
  · rw [hpart]
    by_cases hreach : s.station x = .matching ∧ ∃ n, s.fsu.matchCount = some n ∧ 1999 ≤ n
    · obtain ⟨hx, n, hn, hle⟩ := hreached.mpr hreach
      rw [matchReached_matches hphase' hin' hn hle hx]
      simpa using pressTest_counted (s := s.countMatch.setStation x .matched) (by simpa using hphase') (by simpa using hin')
        (station_setStation_self _ x _)
    · rw [matchReached_waits hin' fun hreach' => hreach (hreached.mp hreach')]
      have hx : s.countMatch.station x = .matched := hstation.trans (hmatched.resolve_left hreach)
      simpa using pressTest_counted hphase' hin' hx
  · rw [hpart, matchReached_waits hin' fun hreach => hnot (Or.inl (hreached.mp hreach)),
      pressTest_waits hin' (Or.inl fun hx => hnot (Or.inr (hstation.symm.trans hx)))]
    exact ⟨hstation, hphase', by simp, by simp⟩

theorem MatchCounted.phase (h : MatchCounted s t x) : t.fsu.phase = .matching ∨ t.fsu.phase = .press := by
  obtain ⟨-, hmatched, hwaits⟩ := h
  by_cases hcase : (s.station x = .matching ∧ ∃ n, s.fsu.matchCount = some n ∧ 1999 ≤ n) ∨ s.station x = .matched
  · obtain ⟨-, hfast, hslow⟩ := hmatched hcase
    rcases lt_or_ge ((s.rst.line.spliceSpeed.getD 0 : Nat) : Int) s.fsu.web.speed with hspeed | hspeed
    · exact Or.inl (hfast hspeed).1
    · exact Or.inr (hslow hspeed).1
  · exact Or.inl (hwaits hcase).2.1

theorem fsuCount_counted (hphase : s.fsu.phase = .matching) (hin : s.fsu.incoming = some x) (hout : s.rollsOut .forward = false) :
    MatchCounted s (s.fsuCount .forward) x := by
  have hshares : SharesMatch s ((s.tensionPart .forward).chargeRoll .forward).judgeExpiring := by simp [SharesMatch]
  have hcounted : MatchCounted s (((s.tensionPart .forward).chargeRoll .forward).judgeExpiring.matchPart .forward) x :=
    (matchPart_counted (hshares.1.trans hphase) (hshares.2.1.trans hin)).of hshares
  have hcases := matchAndRollOut_cases ((s.tensionPart .forward).chargeRoll .forward).judgeExpiring .forward (s.rollsOut .forward)
  have hpart : ((s.tensionPart .forward).chargeRoll .forward).judgeExpiring.matchAndRollOut .forward (s.rollsOut .forward) =
      ((s.tensionPart .forward).chargeRoll .forward).judgeExpiring.matchPart .forward := by
    rcases hcases with ⟨-, heq⟩ | ⟨htrue, -⟩
    · exact heq
    · rw [hout] at htrue
      cases htrue
  unfold State.fsuCount
  dsimp only
  rw [hpart]
  split
  · rw [autoSpliceTest_of_busy]
    · exact hcounted
    · rcases hcounted.phase with hp | hp <;> simp [hp]
  · exact hcounted

theorem rollsOut_of_long {d : Travel} (h : ∀ r, s.activeRoll? = some r → r.remaining ≠ 1) : s.rollsOut d = false := by
  unfold State.rollsOut
  cases hactive : s.activeRoll? with
  | none => simp
  | some r => simp [h r hactive]

theorem activeRoll?_of {s t : State} (hrolls : t.rst.rolls = s.rst.rolls) (hfsu : t.fsu.staA = s.fsu.staA ∧ t.fsu.staB = s.fsu.staB) :
    t.activeRoll? = s.activeRoll? := by
  unfold State.activeRoll?
  rw [activeStation_congr hfsu.1 hfsu.2]
  exact congrArg _ (funext fun x => boundRoll?_congr hrolls x)

theorem feedUnits_counted (hphase : s.fsu.phase = .matching) (hin : s.fsu.incoming = some x)
    (hlong : ∀ r, s.activeRoll? = some r → r.remaining ≠ 1) : MatchCounted s (s.feedUnits .forward) x := by
  have hcount {u : State} (hrolls : u.rst.rolls = s.rst.rolls) (hfsu : u.fsu = s.fsu) (hline : u.rst.line = s.rst.line) :
      MatchCounted s (u.fsuCount .forward) x := by
    refine MatchCounted.of (s' := u) ?_ (by simp [SharesMatch, hfsu, hline])
    refine fsuCount_counted (by rw [hfsu]; exact hphase) (by rw [hfsu]; exact hin) (rollsOut_of_long ?_)
    rw [activeRoll?_of hrolls (by simp [hfsu])]
    exact hlong
  rcases feedUnits_forward_cases s with heq | heq | heq <;> rw [heq]
  · exact (hcount rfl rfl rfl).fsu (by simp)
  · exact (hcount (u := s.takeFree) rfl rfl rfl).fsu (by simp)
  · exact hcount (by simp) (by simp) (by simp)

theorem feedCount_counted (hphase : s.fsu.phase = .matching) (hin : s.fsu.incoming = some x)
    (hlong : ∀ r, s.activeRoll? = some r → r.remaining ≠ 1) :
    MatchCounted s (((s.countWeb .forward).feedUnits .forward).formUnits .forward).endAct x := by
  have hspeed : (s.countWeb .forward).fsu.web.speed = s.fsu.web.speed := rfl
  have hlong' : ∀ r, (s.countWeb .forward).activeRoll? = some r → r.remaining ≠ 1 := by
    rw [activeRoll?_of (s := s) (by simp) (by simp)]
    exact hlong
  have hcounted := feedUnits_counted (s := s.countWeb .forward) (by simpa using hphase) (by simpa using hin) hlong'
  have hformed := (hcounted.of (s := s) (by simp [SharesMatch, hspeed])).fsu
    (t' := ((s.countWeb .forward).feedUnits .forward).formUnits .forward) (by simp)
  unfold MatchCounted at hformed ⊢
  simpa using hformed

/-! ### A speed refresh in MATCHING -/

theorem endRundown_station_ne (hx : s.station x ≠ .rundown) (y : Station) : (s.endRundown y).station x = s.station x := by
  unfold State.endRundown
  split
  · rename_i h
    exact station_setStation_ne s _ fun heq => hx (heq ▸ h.1)
  · rfl

theorem judgeBand_inBand (hphase : s.fsu.phase = .matching) (hin : s.fsu.incoming = some x) (hband : s.inBand x = true) :
    s.judgeBand = { s with fsu := { s.fsu with matchCount := some (s.fsu.matchCount.getD 0) } } := by
  unfold State.judgeBand
  rw [hphase, hin]
  exact if_pos hband

theorem judgeBand_outOfBand (hphase : s.fsu.phase = .matching) (hin : s.fsu.incoming = some x) (hband : ¬ s.inBand x = true)
    (hx : s.station x = .matching ∨ s.station x = .matched) :
    s.judgeBand.fsu.matchCount = none ∧ s.judgeBand.station x = .matching := by
  unfold State.judgeBand
  rw [hphase, hin]
  dsimp only
  rw [if_neg hband]
  have hkept : ({ s with fsu := { s.fsu with matchCount := none } } : State).station x = s.station x := by cases x <;> rfl
  split
  · exact ⟨by simp, station_setStation_self _ x _⟩
  · rename_i hnot
    exact ⟨rfl, hkept.trans (hx.resolve_right hnot)⟩

/-- What a speed refresh makes of a splice in MATCHING (R63, R64). -/
theorem refresh_judged (hphase : s.fsu.phase = .matching) (hin : s.fsu.incoming = some x)
    (hx : s.station x = .matching ∨ s.station x = .matched) :
    let u := s.judgeBand.pressTest
    (s.inBand x = true → u.fsu.matchCount = some (s.fsu.matchCount.getD 0) ∧ u.station x = s.station x ∧
      (s.station x = .matched ∧ s.fsu.web.speed ≤ (s.rst.line.spliceSpeed.getD 0 : Nat) →
        u.fsu.phase = .press ∧ u.fsu.extend = true ∧ u.fsu.limit = some 400) ∧
      (s.station x = .matching ∨ (s.rst.line.spliceSpeed.getD 0 : Nat) < s.fsu.web.speed →
        u.fsu.phase = .matching ∧ u.fsu.extend = s.fsu.extend ∧ u.fsu.limit = s.fsu.limit)) ∧
    (¬ s.inBand x = true → u.fsu.matchCount = none ∧ u.station x = .matching ∧ u.fsu.phase = .matching ∧
      u.fsu.extend = s.fsu.extend ∧ u.fsu.limit = s.fsu.limit) := by
  have hphase' : s.judgeBand.fsu.phase = .matching := by simpa using hphase
  have hin' : s.judgeBand.fsu.incoming = some x := by simpa using hin
  refine ⟨fun hband => ?_, fun hband => ?_⟩
  · have hjudged := judgeBand_inBand hphase hin hband
    have hstation : s.judgeBand.station x = s.station x := by rw [hjudged]; cases x <;> rfl
    have hcount : s.judgeBand.pressTest.fsu.matchCount = s.judgeBand.fsu.matchCount := by simp
    refine ⟨by rw [hcount, hjudged], (pressTest_station _ x).trans hstation,
      fun ⟨hmatched, hslow⟩ => ?_, fun hwaits => ?_⟩
    · rw [pressTest_presses hphase' hin' (hstation.trans hmatched) (by simpa using hslow)]
      exact ⟨rfl, rfl, rfl⟩
    · have hstays : s.judgeBand.station x ≠ .matched ∨
          (s.judgeBand.rst.line.spliceSpeed.getD 0 : Nat) < s.judgeBand.fsu.web.speed := by
        rcases hwaits with hmatching | hfast
        · exact Or.inl (by rw [hstation, hmatching]; simp)
        · exact Or.inr (by simpa using hfast)
      rw [pressTest_waits hin' hstays]
      exact ⟨hphase', by simp, by simp⟩
  · obtain ⟨hcount, hstation⟩ := judgeBand_outOfBand hphase hin hband hx
    rw [pressTest_waits hin' (Or.inl (by rw [hstation]; simp))]
    exact ⟨hcount, hstation, hphase', by simp, by simp⟩

theorem inBand_iff (s : State) (x : Station) :
    s.inBand x = true ↔ ((s.surfSpeed x - s.fsu.web.speed).natAbs : Int) * 1000 ≤ 10 * s.fsu.web.speed := by
  simp [State.inBand]

/-- Settles O31: by the count reached, by the feed count, and by the refresh. -/
theorem matchCountPressesTheHead : Obligations.MatchCountPressesTheHead := by
  unfold Obligations.MatchCountPressesTheHead
  refine ⟨fun s x n hphase hin hcount hn hx => ?_, fun s x hphase hin hlong => ⟨_, rfl, feedCount_counted hphase hin hlong⟩,
    fun a b s x hphase hin hx => ?_⟩
  · have hreached := matchReached_matches hphase hin hcount hn hx
    have hself : (s.setStation x .matched).station x = .matched := station_setStation_self s x _
    refine ⟨fun hfast => completes_of_endAct (u := s.matchReached.pressTest) rfl ?_,
      fun hslow => completes_of_endAct (u := s.matchReached.pressTest) rfl ?_⟩
    · rw [hreached, pressTest_waits (x := x) (by simpa using hin) (Or.inr (by simpa using hfast))]
    · rw [hreached, pressTest_presses (x := x) (by simpa using hphase) (by simpa using hin) hself (by simpa using hslow)]
      rfl
  · have hx' : (s.refreshSpeeds a b).station x = .matching ∨ (s.refreshSpeeds a b).station x = .matched := by
      cases x <;> exact hx
    refine ⟨((((s.refreshSpeeds a b).judgeBand.pressTest).endRundown .a).endRundown .b).endAct, rfl, ?_⟩
    have hjudged := refresh_judged (s := s.refreshSpeeds a b) hphase hin hx'
    have hpressed : (s.refreshSpeeds a b).judgeBand.pressTest.station x ≠ .rundown := by
      by_cases hband : (s.refreshSpeeds a b).inBand x = true
      · rw [(hjudged.1 hband).2.1]
        rcases hx' with h | h <;> simp [h]
      · simp [(hjudged.2 hband).2.1]
    have hstation : ((((s.refreshSpeeds a b).judgeBand.pressTest).endRundown .a).endRundown .b).endAct.station x =
        (s.refreshSpeeds a b).judgeBand.pressTest.station x := by
      have hfirst := endRundown_station_ne hpressed .a
      rw [station_endAct, endRundown_station_ne (by rwa [hfirst]) .b, hfirst]
    have hsurf : ((((s.refreshSpeeds a b).judgeBand.pressTest).endRundown .a).endRundown .b).endAct.surfSpeed x =
        (s.refreshSpeeds a b).surfSpeed x := surfSpeed_congr (by simp) (by simp) x
    have hkept : (s.refreshSpeeds a b).station x = s.station x := station_congr (by simp) (by simp) x
    have hcount : (s.refreshSpeeds a b).fsu.matchCount = s.fsu.matchCount := by simp
    dsimp only at hjudged ⊢
    rw [hstation, hsurf]
    simp only [inBand_iff, hkept, hcount] at hjudged
    simpa using hjudged

end Sys2Proof.Machine
end

section
/-! SUPPORT. The tension lock (O30): a count of the web reaches it in its first part alone. -/

namespace Sys2Proof.Machine

variable {s t : State}

/-! ### What leaves the lock alone -/

/-- The tension lock, its two counts and its hold reason are the same in two states. -/
structure SharesLock (s t : State) : Prop where
  locked : t.fsu.locked = s.fsu.locked
  lockCount : t.fsu.lockCount = s.fsu.lockCount
  lossWatch : t.fsu.lossWatch = s.fsu.lossWatch
  hold : t.hasHold .tension = s.hasHold .tension

theorem SharesLock.refl (s : State) : SharesLock s s := ⟨rfl, rfl, rfl, rfl⟩

theorem SharesLock.trans {u : State} (h : SharesLock s t) (h' : SharesLock t u) : SharesLock s u :=
  ⟨h'.locked.trans h.locked, h'.lockCount.trans h.lockCount, h'.lossWatch.trans h.lossWatch, h'.hold.trans h.hold⟩

theorem endAct_sharesLock (s : State) : SharesLock s s.endAct :=
  ⟨by simp, by simp, by simp, endAct_hasHold (by decide)⟩

theorem endStarvation_hasHold {h : HoldReason} (hne : h ≠ .lotStarved) (s : State) : s.endStarvation.hasHold h = s.hasHold h := by
  unfold State.endStarvation
  split
  · show (({ s with ltr := { s.ltr with starved := false } } : State).dropHold .lotStarved).hasHold h = _
    rw [hasHold_dropHold, decide_eq_true hne, Bool.and_true]
    rfl
  · rfl

/-- LTR sets and withdraws no hold reason but its own. -/
theorem decideNext_hasHold {h : HoldReason} (hne : h ≠ .lotStarved) (s : State) (c : Coord) :
    (s.decideNext c).hasHold h = s.hasHold h := by
  have hwaste : ∀ u : State, (u.openWaste c).hasHold h = u.hasHold h := fun u => hasHold_congr (by simp) h
  unfold State.decideNext
  split
  · exact hwaste s
  · split
    · exact (endStarvation_hasHold hne _).trans (hasHold_congr (by simp) h)
    · unfold State.starve
      dsimp only
      split
      · exact hwaste s
      · rw [hasHold_setHold, decide_eq_false hne, Bool.or_false]
        exact hwaste s

theorem segmentArrival_sharesLock (s : State) : SharesLock s s.segmentArrival := by
  have hentry (u : State) (c : Coord) : (u.entryDecision c).hasHold .tension = u.hasHold .tension :=
    (hasHold_congr (by simp [State.entryDecision]) _).trans (decideNext_hasHold (by decide) u c)
  refine ⟨by simp, by simp, by simp, ?_⟩
  unfold State.segmentArrival
  split
  · unfold State.segmentEnd
    split
    · exact (hentry _ _).trans (hasHold_congr (by simp) _)
    · exact hentry s _
    · rfl
  · rfl

/-- PFM sets and withdraws no hold reason but its own. -/
theorem strikeArrival_hasHold {h : HoldReason} (hne : h ≠ .strikeSaturated) (s : State) : s.strikeArrival.hasHold h = s.hasHold h := by
  have hmiss (k : PanelKey) : (s.missStrike k).hasHold h = s.hasHold h := by
    unfold State.missStrike
    dsimp only
    split
    · rfl
    · split
      · rfl
      · split
        · rw [hasHold_setHold, decide_eq_false hne, Bool.or_false]
          exact hasHold_congr (by simp) h
        · exact hasHold_congr (by simp) h
  unfold State.strikeArrival
  split
  · rename_i k f _ _
    split
    · refine Eq.trans (hasHold_congr (s := s.strikeOrMiss f k) (by simp) h) ?_
      unfold State.strikeOrMiss
      split
      · rfl
      · split
        · split
          · rfl
          · exact hasHold_congr (by simp) h
        · exact hmiss _
    · rfl
  · rfl

theorem formUnits_sharesLock (s : State) (d : Travel) : SharesLock s (s.formUnits d) := by
  refine ⟨by simp, by simp, by simp, ?_⟩
  cases d with
  | reverse => rfl
  | forward =>
    have hlater : (s.formUnits .forward).hasHold .tension = s.strikeArrival.hasHold .tension :=
      hasHold_congr (by simp [State.formUnits]) _
    exact hlater.trans (strikeArrival_hasHold (by decide) s)

/-- FSU's part of a count reaches the lock through the tension part alone. -/
theorem fsuCount_sharesLock (s : State) (d : Travel) : SharesLock (s.tensionPart d) (s.fsuCount d) := by
  have hcounted : SharesLock (s.tensionPart d)
      (((s.tensionPart d).chargeRoll d).judgeExpiring.matchAndRollOut d (s.rollsOut d)) :=
    ⟨by simp, by simp, by simp, hasHold_congr (by simp) _⟩
  have htest (u : State) : SharesLock u u.autoSpliceTest := ⟨by simp, by simp, by simp, hasHold_congr (by simp) _⟩
  unfold State.fsuCount
  dsimp only
  split
  · exact hcounted.trans (htest _)
  · exact hcounted

/-! ### A forward count -/

/-- What a forward count makes of the tension lock (R72, R73). -/
structure TensionCounted (s t : State) : Prop where
  locks : s.fsu.locked = false → (∃ n, s.fsu.lockCount = some n ∧ 2999 ≤ n) →
    t.fsu.locked = true ∧ t.fsu.lossWatch = none ∧ t.hasHold .tension = false
  stays : ¬ (s.fsu.locked = false ∧ ∃ n, s.fsu.lockCount = some n ∧ 2999 ≤ n) →
    t.fsu.locked = s.fsu.locked ∧
      (s.sgv.gov = .run → t.fsu.lossWatch = s.fsu.lossWatch.map fun n => min 20000 (n + 1)) ∧
      (s.sgv.gov ≠ .run → t.fsu.lossWatch = s.fsu.lossWatch) ∧
      (∀ n, s.fsu.locked = false → s.fsu.lossWatch = some n → s.sgv.gov = .run → 19999 ≤ n → t.hasHold .tension = true) ∧
      (s.fsu.locked = true ∨ (∀ n, s.fsu.lossWatch = some n → n < 19999) → t.hasHold .tension = s.hasHold .tension)
  count : t.fsu.lockCount = s.fsu.lockCount.map fun n => min 3000 (n + 1)

theorem TensionCounted.shares {u : State} (h : TensionCounted s t) (hlock : SharesLock t u) : TensionCounted s u := by
  obtain ⟨hlocked, hcount, hwatch, hhold⟩ := hlock
  exact ⟨by rw [hlocked, hwatch, hhold]; exact h.locks, by rw [hlocked, hwatch, hhold]; exact h.stays, by rw [hcount]; exact h.count⟩

theorem TensionCounted.of {s' : State} (h : TensionCounted s' t) (hlock : SharesLock s s') (hgov : s'.sgv.gov = s.sgv.gov) :
    TensionCounted s t := by
  obtain ⟨hlocked, hcount, hwatch, hhold⟩ := hlock
  obtain ⟨hlocks, hstays, hcounted⟩ := h
  rw [hlocked, hcount] at hlocks
  rw [hlocked, hcount, hwatch, hhold, hgov] at hstays
  exact ⟨hlocks, hstays, hcount ▸ hcounted⟩

theorem lockReached_locks {n : Nat} (hcount : s.fsu.lockCount = some n) (hn : 3000 ≤ n) (hlocked : s.fsu.locked = false) :
    s.lockReached = ({ s with fsu := { s.fsu with locked := true, lossWatch := none } } : State).dropHold .tension := by
  unfold State.lockReached
  rw [hcount]
  exact if_pos ⟨hn, hlocked⟩

theorem lockReached_stays (h : ¬ (s.fsu.locked = false ∧ ∃ n, s.fsu.lockCount = some n ∧ 3000 ≤ n)) : s.lockReached = s := by
  unfold State.lockReached
  split
  · rfl
  · rename_i n hcount
    exact if_neg fun ⟨hn, hlocked⟩ => h ⟨hlocked, n, hcount, hn⟩

theorem watchReached_holds {n : Nat} (hwatch : s.fsu.lossWatch = some n) (hn : 20000 ≤ n) (hlocked : s.fsu.locked = false) :
    s.watchReached = s.setHold .tension := by
  unfold State.watchReached
  rw [hwatch]
  exact if_pos ⟨hn, hlocked⟩

theorem watchReached_stays (h : s.fsu.locked = true ∨ ∀ n, s.fsu.lossWatch = some n → n < 20000) : s.watchReached = s := by
  unfold State.watchReached
  split
  · rfl
  · rename_i n hwatch
    refine if_neg fun ⟨hn, hlocked⟩ => ?_
    rcases h with htrue | hlow
    · rw [htrue] at hlocked
      cases hlocked
    · exact absurd (hlow n hwatch) (Nat.not_lt.mpr hn)

theorem tensionPart_counted (s : State) : TensionCounted s (s.tensionPart .forward) := by
  have hdue : (∃ n, s.countTension.fsu.lockCount = some n ∧ 3000 ≤ n) ↔ ∃ n, s.fsu.lockCount = some n ∧ 2999 ≤ n := by
    show (∃ n, s.fsu.lockCount.map (fun n => min 3000 (n + 1)) = some n ∧ 3000 ≤ n) ↔ _
    cases s.fsu.lockCount with
    | none => simp
    | some n => simp
  have hpart : s.tensionPart .forward = s.countTension.lockReached.watchReached := rfl
  refine ⟨fun hlocked hcount => ?_, fun hnot => ?_, by rw [hpart]; simp [State.countTension, lockCounts]⟩
  · obtain ⟨n, hn, hle⟩ := hdue.mpr hcount
    rw [hpart, lockReached_locks hn hle hlocked, watchReached_stays (Or.inl rfl)]
    exact ⟨rfl, rfl, by rw [hasHold_dropHold]; simp⟩
  · rw [hpart, lockReached_stays (s := s.countTension) fun ⟨hlocked, hcount⟩ => hnot ⟨hlocked, hdue.mp hcount⟩]
    refine ⟨by simp [State.countTension], fun hrun => by simp [State.countTension, hrun, watchCounts],
      fun hrun => by simp [State.countTension, hrun], fun n hlocked hwatch hrun hn => ?_, fun hlow => ?_⟩
    · have hreached : s.countTension.fsu.lossWatch = some (min 20000 (n + 1)) := by
        simp [State.countTension, hrun, hwatch, watchCounts]
      rw [watchReached_holds hreached (by omega) hlocked, hasHold_setHold]
      exact Bool.or_true _
    · rw [watchReached_stays]
      · rfl
      · refine hlow.imp id fun hlow m hm => ?_
        simp only [State.countTension, watchCounts] at hm
        split at hm
        · obtain ⟨n, hn, rfl⟩ := Option.map_eq_some_iff.mp hm
          have := hlow n hn
          omega
        · have := hlow m hm
          omega

theorem feedUnits_tension (s : State) : TensionCounted s (s.feedUnits .forward) := by
  have hcount (u : State) : TensionCounted u (u.fsuCount .forward) := (tensionPart_counted u).shares (fsuCount_sharesLock u _)
  rcases feedUnits_forward_cases s with h | h | h <;> rw [h]
  · exact (hcount s).shares (segmentArrival_sharesLock _)
  · exact ((hcount s.takeFree).of (s := s) ⟨rfl, rfl, rfl, rfl⟩ rfl).shares (segmentArrival_sharesLock _)
  · exact (hcount _).of ((show SharesLock s s.takeFree from ⟨rfl, rfl, rfl, rfl⟩).trans (segmentArrival_sharesLock _)) (by simp)

theorem feedCount_tension (s : State) :
    TensionCounted s (((s.countWeb .forward).feedUnits .forward).formUnits .forward).endAct :=
  ((feedUnits_tension _).of (s := s) ⟨by simp, by simp, by simp, hasHold_congr (by simp) _⟩ (by simp)).shares
    ((formUnits_sharesLock _ _).trans (endAct_sharesLock _))

theorem feedCount_reverse_sharesLock (s : State) :
    SharesLock s (((s.countWeb .reverse).feedUnits .reverse).formUnits .reverse).endAct := by
  have hweb : SharesLock s (s.countWeb .reverse) := ⟨by simp, by simp, by simp, hasHold_congr (by simp) _⟩
  exact (hweb.trans (fsuCount_sharesLock _ .reverse)).trans ((formUnits_sharesLock _ _).trans (endAct_sharesLock _))

/-- An act that ends with a hold reason standing does not end in RUN. -/
theorem endAct_ne_run {h : HoldReason} (hhold : s.endAct.hasHold h = true) : s.endAct.sgv.gov ≠ .run := by
  intro hrun
  obtain ⟨-, -, -, hlaw⟩ := endAct_governorLaw s
  have hnone := (hlaw hrun).2
  unfold State.hasHold at hhold
  rw [hnone] at hhold
  cases h <;> exact absurd hhold (by decide)

/-! ### The dancer -/

theorem endBand_unlocked (h : s.fsu.locked = false) : s.endBand = { s with fsu := { s.fsu with lockCount := none } } :=
  if_neg (by simp [h])

theorem endBand_locked (h : s.fsu.locked = true) :
    s.endBand = ({ s with fsu := { s.fsu with
      lockCount := none, locked := false, lossWatch := some (s.fsu.lossWatch.getD 0) } } : State).raiseAlert .tensionLost :=
  if_pos h

theorem exec_dancerReading {n : Nat} (hn : n ≤ 1000) (s : State) :
    exec (.senseReading .dancer (n : Int) false) s = .next (s.takeDancer n).endAct := by
  have hvalid : validReading .dancer (n : Int) false = some n := by
    simp [validReading, greatestReading, readingIn, hn]
  show execSenseReading _ _ _ _ = _
  rw [execSenseReading, hvalid]
  rfl

theorem dancerInBand_iff (s : State) (n : Nat) :
    s.dancerInBand n = true ↔ 500 ≤ n + s.rst.line.tensionBand.getD 0 ∧ n ≤ 500 + s.rst.line.tensionBand.getD 0 := by
  simp [State.dancerInBand]

theorem takeDancer_outOfBand {n : Nat} (hconfigured : s.rst.line.configured = true) (h : ¬ s.dancerInBand n = true) :
    s.takeDancer n = ({ s with fsu := { s.fsu with dancer := some n, dancerWindow := some 50 } } : State).endBand := by
  unfold State.takeDancer
  dsimp only
  rw [if_pos hconfigured, if_neg h]

theorem takeDancer_inBand {n : Nat} (hconfigured : s.rst.line.configured = true) (h : s.dancerInBand n = true) :
    s.takeDancer n = { s with fsu := { s.fsu with
      dancer := some n, dancerWindow := some 50, lockCount := some (s.fsu.lockCount.getD 0) } } := by
  unfold State.takeDancer
  dsimp only
  rw [if_pos hconfigured, if_pos h]

theorem exec_dancerTimeout (h : s.fsu.dancerWindow.isSome = true) :
    exec .dancerTimeout s = .next ({ s with fsu := { s.fsu with dancerWindow := none } } : State).endBand.endAct :=
  congrArg Host.Outcome.next (if_pos h)

/-- Settles O30: by the dancer's reading, by its timeout, and by the count. -/
theorem tensionLockFollowsTheDancer : Obligations.TensionLockFollowsTheDancer := by
  unfold Obligations.TensionLockFollowsTheDancer
  refine ⟨fun n s hn hconfigured => ?_, fun s hwindow => ?_, fun s => ⟨_, rfl, ?_⟩, fun s => ⟨_, rfl, ?_⟩,
    fun n s hcount hn hlocked => ?_, fun n s hwatch hn hlocked => ?_⟩
  · have hexec := exec_dancerReading hn s
    have hband := dancerInBand_iff s n
    refine ⟨fun hin => ?_, fun hout hlocked => ?_, fun hout hlocked => ?_⟩
    · rw [takeDancer_inBand hconfigured (hband.mpr hin)] at hexec
      exact completes_of_endAct hexec rfl
    · rw [takeDancer_outOfBand hconfigured (hband.not.mpr hout)] at hexec
      exact completes_of_endAct hexec (congrArg State.unregulated (endBand_unlocked hlocked))
    · rw [takeDancer_outOfBand hconfigured (hband.not.mpr hout)] at hexec
      exact completes_of_endAct hexec (congrArg State.unregulated (endBand_locked hlocked))
  · have hexec := exec_dancerTimeout hwindow
    exact ⟨fun hlocked => completes_of_endAct hexec (congrArg State.unregulated (endBand_unlocked hlocked)),
      fun hlocked => completes_of_endAct hexec (congrArg State.unregulated (endBand_locked hlocked))⟩
  · obtain ⟨hlocks, hstays, hcount⟩ := feedCount_tension s
    refine ⟨fun ⟨hlocked, hdue⟩ => hlocks hlocked hdue, fun hnot => ?_, hcount⟩
    obtain ⟨hlocked, hrun, hother, hhold, hkept⟩ := hstays hnot
    exact ⟨hlocked, hrun, hother, fun n hun hwatch hgov hn => ⟨hhold n hun hwatch hgov hn, endAct_ne_run (hhold n hun hwatch hgov hn)⟩,
      hkept⟩
  · have hlock := feedCount_reverse_sharesLock s
    exact ⟨hlock.locked, hlock.lockCount, hlock.lossWatch, hlock.hold⟩
  · exact completes_of_endAct (u := s.lockReached) rfl (congrArg State.unregulated (lockReached_locks hcount hn hlocked))
  · exact completes_of_endAct (u := s.watchReached) rfl (congrArg State.unregulated (watchReached_holds hwatch hn hlocked))

end Sys2Proof.Machine
end

section
/-! SUPPORT. The joint (O24): the rolls it moves, the Expiring it judges, and the joint handed to the tracker. -/

namespace Sys2Proof.Machine

variable {s : State} {x : Station} {r : Roll}

/-! ### The rolls on the stations -/

theorem Station.other_other (x : Station) : x.other.other = x := by cases x <;> rfl

/-- The one roll on a station is the roll bound to it. -/
theorem RollsSit.boundRoll?_eq {st : Station → StationState} (h : RollsSit s.rst.rolls st) (hr : r ∈ s.rst.rolls)
    (hx : r.station = some x) : s.boundRoll? x = some r := by
  cases hbound : s.boundRoll? x with
  | none => exact absurd hx (boundRoll?_eq_none.mp hbound r hr)
  | some q => rw [h.alone q (boundRoll?_mem hbound) r hr x (boundRoll?_station hbound) hx]

/-- A roll of the table stands under its tag. -/
theorem roll?_of_mem (h : risingKeys (s.rst.rolls.map (·.tag))) (hr : r ∈ s.rst.rolls) : s.roll? r.tag = some r := by
  cases hroll : s.roll? r.tag with
  | none => exact absurd (beq_self_eq_true r.tag) (List.find?_eq_none.mp hroll r hr)
  | some q => rw [risingKeys_injective h (roll?_mem hroll) hr (roll?_tag hroll)]

theorem activeStation_of_feeding (hx : s.station x = .feeding) (hother : s.station x.other ≠ .feeding) : s.activeStation = some x := by
  unfold State.activeStation
  cases x with
  | a => exact if_pos hx
  | b => exact (if_neg hother).trans (if_pos hx)

/-- What the stations and the rolls of a splice before its joint are (R62, R63). -/
structure SpliceBound (s : State) (x : Station) (ro ri : Roll) : Prop where
  incoming : s.fsu.incoming = some x
  outgoing : s.fsu.outgoing = some x.other
  feeding : s.station x.other = .feeding
  taking : s.station x = .matching ∨ s.station x = .matched
  outRoll : s.boundRoll? x.other = some ro
  inRoll : s.boundRoll? x = some ri

/-- The rolls a joint leaves (R65). -/
theorem joinRolls_rolls {ro ri : Roll} (h : Stationed s) (hb : SpliceBound s x ro ri) :
    s.spendOutgoing.feedIncoming.rst.rolls = ((s.putRoll { ro with state := .spent }).putRoll
        { ri with state := .active, remaining := ri.initLen.getD 0 }).rst.rolls ∧
      s.spendOutgoing.feedIncoming.boundRoll? x = some { ri with state := .active, remaining := ri.initLen.getD 0 } ∧
      ro.tag ≠ ri.tag ∧ s.spendOutgoing.feedIncoming.station x = .feeding ∧
      s.spendOutgoing.feedIncoming.station x.other = .joined := by
  obtain ⟨hin, hout, hfeeding, hx, hro, hri⟩ := hb
  have hne : ro.tag ≠ ri.tag := by
    intro htag
    have hsame := risingKeys_injective h.1.rising (boundRoll?_mem hro) (boundRoll?_mem hri) htag
    have hstation := (boundRoll?_station hro).symm.trans (hsame ▸ boundRoll?_station hri)
    exact Station.other_ne x (Option.some.inj hstation)
  obtain ⟨hsits, hfsu⟩ := h.spent hout hfeeding
  have hspent : s.spendOutgoing = s.rebind x.other .joined { ro with state := .spent } := by
    unfold State.spendOutgoing
    rw [hout]
    dsimp only
    rw [hro]
    rfl
  have hspentRolls : s.spendOutgoing.rst.rolls = (s.putRoll { ro with state := .spent }).rst.rolls := by
    rw [hspent, rebind_rolls]
    rfl
  have hri' : s.spendOutgoing.boundRoll? x = some ri := by
    refine hsits.boundRoll?_eq ?_ (boundRoll?_station hri)
    rw [hspentRolls]
    exact (mem_upsert_iff h.1.rising).mpr (Or.inr ⟨boundRoll?_mem hri, hne.symm⟩)
  have hin' : s.spendOutgoing.fsu.incoming = some x := by simpa using hin
  have hfed : s.spendOutgoing.feedIncoming =
      s.spendOutgoing.rebind x .feeding { ri with state := .active, remaining := ri.initLen.getD 0 } := by
    unfold State.feedIncoming
    rw [hin']
    dsimp only
    rw [hri']
    rfl
  rw [hfed]
  refine ⟨?_, ?_, hne, station_setStation_self _ x _, (station_setStation_other _ x _).trans ?_⟩
  · rw [rebind_rolls, hspentRolls]
    rfl
  · rw [boundRoll?_congr (s := s.spendOutgoing.putRoll { ri with state := .active, remaining := ri.initLen.getD 0 })
      (by rw [rebind_rolls]; rfl)]
    exact boundRoll?_putRoll hri' rfl rfl
  · exact (station_of_fsu hfsu _).trans (station_setStation_self s _ _)

/-! ### Expiring judged (R58) -/

/-- What FSU makes of the ACTIVE roll and of the alerts where it judges Expiring (R58). -/
theorem judgeExpiring_judges (h : s.ActiveIs x r) :
    s.judgeExpiring.roll? r.tag = some { r with expiring := r.expiring || s.expiringHolds x r } ∧
      SharesOtherRolls s s.judgeExpiring r.tag ∧
      ∀ a, s.judgeExpiring.hasAlert a = (s.hasAlert a || (decide (a = .rollLow) && s.expiringHolds x r && !r.expiring)) := by
  have hothers := (judgeExpiring_active h).2
  obtain ⟨hactive, hbound, hroll⟩ := h
  refine ⟨?_, hothers, fun a => ?_⟩ <;> unfold State.judgeExpiring <;> rw [hactive] <;> dsimp only <;> rw [hbound] <;> dsimp only
  · split
    · rename_i hjudged
      rw [hjudged.1, hjudged.2]
      exact roll?_putRoll_self s { r with expiring := true }
    · rename_i hnot
      have hkept : (r.expiring || s.expiringHolds x r) = r.expiring := by
        cases he : r.expiring <;> simp_all
      rw [hkept]
      exact hroll
  · split
    · rename_i hjudged
      rw [hasAlert_raiseAlert, hjudged.1, hjudged.2]
      simp [State.putRoll, State.hasAlert]
    · rename_i hnot
      have hquiet : (s.expiringHolds x r && !r.expiring) = false := by
        cases he : r.expiring <;> simp_all
      rw [Bool.and_assoc, hquiet, Bool.and_false, Bool.or_false]

/-! ### The joint handed over (R87) -/

/-- A coordinate lies in an extent (R3). -/
theorem inExtent_iff (c head tail : Coord) : inExtent c head tail = true ↔ 0 ≤ coordDiff c head ∧ coordDiff c tail < 0 := by
  simp [inExtent, reaches]

theorem handJoint_none (h : s.segmentExtent = none) (j : Coord) : s.handJoint j = s := by
  unfold State.handJoint
  rw [h]

theorem handJoint_within {b e j : Coord} (h : s.segmentExtent = some (b, e)) (hin : 0 ≤ coordDiff j b ∧ coordDiff j e < 0) :
    (s.handJoint j).ltr.pendingJoint = s.ltr.pendingJoint ∧
      (∀ n l, s.ltr.segment = .lot n → s.lot? n = some l → (s.handJoint j).lot? n = some (l.withJoint j (s.lotFlatLen l))) ∧
      ∀ m, s.ltr.segment ≠ .lot m → (s.handJoint j).lot? m = s.lot? m := by
  unfold State.handJoint
  rw [h]
  dsimp only
  rw [if_pos ((inExtent_iff j b e).mpr hin)]
  split
  · rename_i n hsegment
    refine ⟨by simp, fun m l hm hl => ?_, fun m hm => ?_⟩
    · obtain rfl : n = m := Segment.lot.inj (hsegment.symm.trans hm)
      exact (assignJoint_lot? hl j).1
    · cases hl : s.lot? n with
      | none => rw [State.assignJoint, hl]
      | some l => exact (assignJoint_lot? hl j).2 m fun heq => hm (heq ▸ hsegment)
  · rename_i hno
    exact ⟨rfl, fun n _ hn => absurd hn (hno n), fun _ _ => rfl⟩

theorem handJoint_outside {b e j : Coord} (h : s.segmentExtent = some (b, e)) (hout : ¬ (0 ≤ coordDiff j b ∧ coordDiff j e < 0)) :
    (s.handJoint j).rst.lots = s.rst.lots ∧ (s.handJoint j).ltr.pendingJoint =
      if 0 ≤ coordDiff j e ∧ s.ltr.pendingJoint = none then some j else s.ltr.pendingJoint := by
  unfold State.handJoint
  rw [h]
  dsimp only
  rw [if_neg ((inExtent_iff j b e).not.mpr hout)]
  by_cases hpast : 0 ≤ coordDiff j e
  · rw [if_pos (show reaches j e = true from decide_eq_true hpast)]
    split
    · rename_i hnone
      exact ⟨rfl, (if_pos ⟨hpast, hnone⟩).symm⟩
    · rename_i hsome
      exact ⟨rfl, (if_neg fun hboth => by rw [hsome] at hboth; cases hboth.2).symm⟩
  · rw [if_neg (show ¬ reaches j e = true by simpa [reaches] using hpast)]
    exact ⟨rfl, (if_neg fun hboth => hpast hboth.1).symm⟩

end Sys2Proof.Machine
end

section
/-! SUPPORT. The splice head's inputs (O24): the joint made. -/

namespace Sys2Proof.Machine

variable {s t : State} {x : Station} {ro ri : Roll}

/-- What the rise of EXTENDED leaves of the splice, the stations, the rolls and the alerts (R65, R58). -/
structure JointMade (s t : State) (x : Station) (ro ri : Roll) (low : Bool) : Prop where
  splice : t.fsu.phase = .cut ∧ t.fsu.knife = true ∧ t.fsu.extend = s.fsu.extend ∧ t.fsu.limit = some 300 ∧
    t.fsu.outcome = s.fsu.outcome ∧ t.fsu.incoming = some x ∧ t.fsu.outgoing = some x.other ∧ t.fsu.w = s.fsu.w
  stations : t.station x.other = .joined ∧ t.station x = .feeding
  outRoll : t.roll? ro.tag = some { ro with state := .spent }
  inRoll : t.roll? ri.tag = some { ri with state := .active, remaining := ri.initLen.getD 0, expiring := ri.expiring || low }
  others : ∀ tag, tag ≠ ro.tag → tag ≠ ri.tag → t.roll? tag = s.roll? tag
  alerts : ∀ a, t.hasAlert a = (s.hasAlert a || (decide (a = .rollLow) && low && !ri.expiring))
  tracker : t.ltr.classChange = false ∧ t.ltr.segment = s.ltr.segment ∧ t.ltr.starved = s.ltr.starved

/-- What the joint at W leaves of the lots and of the pending joint (R87). -/
structure JointTracked (s t : State) : Prop where
  none : s.segmentExtent = none → t.rst.lots = s.rst.lots ∧ t.ltr.pendingJoint = s.ltr.pendingJoint
  within : ∀ b e, s.segmentExtent = some (b, e) → 0 ≤ coordDiff s.fsu.w b ∧ coordDiff s.fsu.w e < 0 →
    t.ltr.pendingJoint = s.ltr.pendingJoint ∧
      (∀ n l, s.ltr.segment = .lot n → s.lot? n = some l → t.lot? n = some (l.withJoint s.fsu.w (s.lotFlatLen l))) ∧
      ∀ m, s.ltr.segment ≠ .lot m → t.lot? m = s.lot? m
  outside : ∀ b e, s.segmentExtent = some (b, e) → ¬ (0 ≤ coordDiff s.fsu.w b ∧ coordDiff s.fsu.w e < 0) →
    t.rst.lots = s.rst.lots ∧ t.ltr.pendingJoint =
      if 0 ≤ coordDiff s.fsu.w e ∧ s.ltr.pendingJoint = Option.none then some s.fsu.w else s.ltr.pendingJoint

/-- The joint handed to the tracker, before Expiring is judged. -/
def State.jointHanded (s : State) : State := ((s.spendOutgoing.feedIncoming).setClassChange false).handJoint s.fsu.w

theorem makeJoint_eq (s : State) : s.makeJoint = { s.jointHanded.judgeExpiring.retarget with
    fsu := { s.jointHanded.judgeExpiring.retarget.fsu with phase := .cut, knife := true, limit := some 300 } } := rfl

theorem makeJoint_tracked (s : State) : JointTracked s s.makeJoint.endAct := by
  have hlot (m : Nat) : s.makeJoint.endAct.lot? m = s.jointHanded.lot? m := lot?_congr (by simp [makeJoint_eq]) m
  have hlots : s.makeJoint.endAct.rst.lots = s.jointHanded.rst.lots := by simp [makeJoint_eq]
  have hpending : s.makeJoint.endAct.ltr.pendingJoint = s.jointHanded.ltr.pendingJoint := by simp [makeJoint_eq]
  have hextent : (s.spendOutgoing.feedIncoming.setClassChange false).segmentExtent = s.segmentExtent :=
    segmentExtent_congr (by simp) (by simp)
  have hlots' : (s.spendOutgoing.feedIncoming.setClassChange false).rst.lots = s.rst.lots := by simp
  have hpending' : (s.spendOutgoing.feedIncoming.setClassChange false).ltr.pendingJoint = s.ltr.pendingJoint := by simp
  have hflat (l : Lot) : (s.spendOutgoing.feedIncoming.setClassChange false).lotFlatLen l = s.lotFlatLen l :=
    lotFlatLen_congr (by simp) l
  refine ⟨fun hnone => ?_, fun b e hext hin => ?_, fun b e hext hout => ?_⟩
  · rw [hlots, hpending, State.jointHanded, handJoint_none (hextent.trans hnone)]
    exact ⟨hlots', hpending'⟩
  · obtain ⟨hkept, hself, hothers⟩ := handJoint_within (hextent.trans hext) hin
    refine ⟨hpending.trans (hkept.trans hpending'), fun n l hn hl => ?_, fun m hm => ?_⟩
    · rw [hlot, ← hflat]
      exact hself n l (by simpa using hn) ((lot?_congr hlots' n).trans hl)
    · rw [hlot, State.jointHanded, hothers m (by simpa using hm), lot?_congr hlots']
  · obtain ⟨hkept, hjoint⟩ := handJoint_outside (hextent.trans hext) hout
    rw [hlots, hpending, State.jointHanded, hkept, hjoint, hpending']
    exact ⟨hlots', rfl⟩

theorem makeJoint_made (h : Stationed s) (hb : SpliceBound s x ro ri) :
    JointMade s s.makeJoint.endAct x ro ri
      ((s.rst.line.configured && decide (ri.initLen.getD 0 ≤ s.rst.line.spliceReserve.getD 0)) || s.asserted x.coreNear) := by
  obtain ⟨hrolls, hbound, hne, hfeeding, hjoined⟩ := joinRolls_rolls h hb
  let ri' : Roll := { ri with state := .active, remaining := ri.initLen.getD 0 }
  have hfsu : s.jointHanded.fsu = s.spendOutgoing.feedIncoming.fsu := by simp [State.jointHanded]
  have hjointRolls : s.jointHanded.rst.rolls = ((s.putRoll { ro with state := .spent }).putRoll ri').rst.rolls := by
    simpa [State.jointHanded] using hrolls
  have hactive : s.jointHanded.ActiveIs x ri' := by
    refine ⟨activeStation_of_feeding ?_ ?_, ?_, (roll?_congr hjointRolls _).trans (roll?_putRoll_self _ ri')⟩
    · exact (station_of_fsu hfsu x).trans hfeeding
    · rw [station_of_fsu hfsu, hjoined]
      decide
    · exact (boundRoll?_congr (by simp [State.jointHanded]) x).trans hbound
  have hlow : s.jointHanded.expiringHolds x ri' =
      ((s.rst.line.configured && decide (ri.initLen.getD 0 ≤ s.rst.line.spliceReserve.getD 0)) || s.asserted x.coreNear) := by
    have hcore : s.jointHanded.asserted x.coreNear = s.asserted x.coreNear := asserted_congr (by simp [State.jointHanded]) _
    unfold State.expiringHolds
    rw [hcore]
    simp [State.jointHanded, ri']
  obtain ⟨hin, hothers, halerts⟩ := judgeExpiring_judges hactive
  have hroll (tag : Nat) : s.makeJoint.endAct.roll? tag = s.jointHanded.judgeExpiring.roll? tag := roll?_congr (by simp [makeJoint_eq]) tag
  have hstation (y : Station) : s.makeJoint.endAct.station y = s.spendOutgoing.feedIncoming.station y :=
    station_congr (by simp [makeJoint_eq, hfsu]) (by simp [makeJoint_eq, hfsu]) y
  have houter (tag : Nat) (htag : tag ≠ ri.tag) : s.makeJoint.endAct.roll? tag = (s.putRoll { ro with state := .spent }).roll? tag := by
    rw [hroll, hothers tag htag, roll?_congr hjointRolls]
    exact roll?_putRoll_ne _ ri' htag
  refine ⟨?_, ⟨(hstation _).trans hjoined, (hstation _).trans hfeeding⟩, ?_, ?_, fun tag hout htag => ?_, fun a => ?_, ?_⟩
  · obtain ⟨hincoming, houtgoing, -⟩ := hb
    simp [makeJoint_eq, hfsu, hincoming, houtgoing]
  · rw [houter _ hne]
    exact roll?_putRoll_self s { ro with state := .spent }
  · rw [hroll, ← hlow]
    exact hin
  · rw [houter tag htag]
    exact roll?_putRoll_ne s { ro with state := .spent } hout
  · rw [← hlow, hasAlert_endAct, hasAlert_congr (s := s.jointHanded.judgeExpiring) (by simp [makeJoint_eq]), halerts,
      hasAlert_congr (s := s) (t := s.jointHanded) (by simp [State.jointHanded])]
  · have hltr : s.jointHanded.ltr.classChange = (s.spendOutgoing.feedIncoming.setClassChange false).ltr.classChange := by
      simp [State.jointHanded]
    refine ⟨?_, by simp [makeJoint_eq, State.jointHanded], by simp [makeJoint_eq, State.jointHanded]⟩
    have hkept : s.makeJoint.endAct.ltr.classChange = s.jointHanded.ltr.classChange := by simp [makeJoint_eq]
    rw [hkept, hltr]
    rfl

end Sys2Proof.Machine
end

section
/-! SUPPORT. The splice head's inputs (O24): both asserted, and the splice completed. -/

namespace Sys2Proof.Machine

variable {s : State}

/-! ### The end COMPLETED (R67) -/

theorem completeSplice_quiet (h : s.rst.line.autoSplice = false ∨ s.sgv.stopPending = true) :
    s.completeSplice = ((s.runDownOutgoing.clearTension).spliceOver .completed).haltIfPending := by
  refine afterSplice_quiet ?_
  rcases h with hoff | hpending
  · exact Or.inl (by simpa using hoff)
  · exact Or.inr (Or.inl (by simpa using hpending))

theorem runDownOutgoing_station {y : Station} (h : s.fsu.outgoing = some y) :
    s.runDownOutgoing.station y = (if s.station y = .joined then .rundown else s.station y) ∧
      s.runDownOutgoing.station y.other = s.station y.other := by
  unfold State.runDownOutgoing
  rw [h]
  dsimp only
  split
  · exact ⟨station_setStation_self s y _, station_setStation_other s y _⟩
  · exact ⟨rfl, rfl⟩

/-- What the end of a splice COMPLETED leaves (R67, R158). -/
structure SpliceCompleted (s t : State) : Prop where
  ended : t.fsu.phase = .idle ∧ t.fsu.outcome = .completed ∧ t.fsu.limit = none ∧ t.fsu.extend = false ∧ t.fsu.knife = false ∧
    t.fsu.locked = false ∧ t.fsu.lossWatch = none
  outgoing : ∀ y, s.fsu.outgoing = some y →
    t.station y = (if s.station y = .joined then .rundown else s.station y) ∧ t.station y.other = s.station y.other
  halts : s.sgv.stopPending = true → t.sgv.gov = .halting ∧ t.sgv.stopPending = false
  kept : t.rst = s.rst ∧ t.lnk = s.lnk ∧ t.exu = s.exu ∧ t.fsu.w = s.fsu.w ∧ t.sgv.stops = s.sgv.stops

theorem completeSplice_completes (h : s.rst.line.autoSplice = false ∨ s.sgv.stopPending = true) :
    SpliceCompleted s s.completeSplice.endAct := by
  have hquiet := completeSplice_quiet h
  obtain ⟨hfsu, -⟩ := haltIfPending_idle (s := s.runDownOutgoing.clearTension.spliceOver .completed) rfl
  rw [hquiet]
  have hstation (x : Station) : (s.runDownOutgoing.clearTension.spliceOver .completed).haltIfPending.endAct.station x =
      s.runDownOutgoing.station x := by
    rw [station_endAct, station_of_fsu hfsu]
    exact station_congr rfl rfl x
  refine ⟨?_, fun y hy => ?_, fun hpending => ?_, by simp⟩
  · simp only [State.endAct_frame, hfsu]
    exact ⟨rfl, rfl, rfl, rfl, rfl, rfl, rfl⟩
  · rw [hstation, hstation]
    exact runDownOutgoing_station hy
  · obtain ⟨hgov, hnone, -⟩ :=
      haltIfPending_halts (s := s.runDownOutgoing.clearTension.spliceOver .completed) (by simpa using hpending)
    exact ⟨endAct_halting hgov, by simpa using hnone⟩

/-! ### Both inputs asserted (R70) -/

theorem raiseStop_matching (hphase : s.fsu.phase = .matching) (hrun : s.running = true) (c : StopCause) :
    (s.raiseStop c).fsu = (s.abandonSplice .abandoned).fsu ∧ (s.raiseStop c).sgv.gov = .halting ∧
      (s.raiseStop c).sgv.stopPending = false ∧ (s.raiseStop c).sgv.intent = false := by
  have hphase' : ((s.raiseAlert c.alert).addStop c).fsu.phase = .matching := hphase
  have hhalt : s.raiseStop c = ((s.raiseAlert c.alert).addStop c).enterHalting := by
    have hgov : ((s.raiseAlert c.alert).addStop c).sgv.gov = s.sgv.gov := rfl
    simp only [State.running, Bool.or_eq_true, beq_iff_eq] at hrun
    unfold State.raiseStop State.stopLine
    rw [hgov, hphase']
    rcases hrun with hrun | hrun <;> rw [hrun] <;> rfl
  rw [hhalt]
  refine ⟨?_, enterHalting_gov _⟩
  unfold State.enterHalting
  dsimp only
  rw [if_pos (by simpa using hphase)]
  exact abandonSplice_fsu_congr (by simp) _

theorem headFault_of_press (hphase : s.fsu.phase = .press) (hrun : s.running = true) :
    s.headFault = ((s.raiseStop .spliceSensor).abandonSplice .abandoned).haltIfPending ∧
      (s.raiseStop .spliceSensor).sgv.stopPending = true := by
  have hstop := raiseStop_headOn (s := s) (by simp [hphase, SplicePhase.headOn]) .spliceSensor
  rw [if_pos hrun] at hstop
  have hjoint : (s.raiseStop .spliceSensor).fsu.phase.beforeJoint = true := by
    rw [raiseStop_phase (by simp [hphase]), hphase]
    rfl
  unfold State.headFault
  dsimp only
  rw [if_pos hjoint]
  exact ⟨afterSplice_quiet (Or.inr (Or.inl (by simpa using hstop))), hstop⟩

theorem headFault_of_not_press (hphase : s.fsu.phase ≠ .press) (hrun : s.fsu.phase ≠ .idle → s.running = true) :
    s.headFault = s.raiseStop .spliceSensor := by
  have hphase' : (s.raiseStop .spliceSensor).fsu.phase.beforeJoint = false := by
    by_cases hmatching : s.fsu.phase = .matching
    · rw [(raiseStop_matching hmatching (hrun (by simp [hmatching])) _).1, abandonSplice_phase]
      rfl
    · rw [raiseStop_phase hmatching]
      cases hs : s.fsu.phase <;> simp_all [SplicePhase.beforeJoint]
  unfold State.headFault
  dsimp only
  rw [hphase']
  rfl

/-- The cause stands after a head fault, and the records and the cutter are untouched. -/
theorem headFault_raises (hrun : s.fsu.phase ≠ .idle → s.running = true) :
    s.headFault.hasAlert .spliceSensor = true ∧ s.headFault.hasStop .spliceSensor = true ∧ s.headFault.rst = s.rst ∧
      s.headFault.exu = s.exu ∧ s.headFault.fsu.w = s.fsu.w := by
  obtain ⟨hstop, halert, -⟩ := raiseStop_spec s .spliceSensor
  by_cases hphase : s.fsu.phase = .press
  · rw [(headFault_of_press hphase (hrun (by simp [hphase]))).1]
    refine ⟨?_, ?_, by simp, by simp, by simp⟩
    · rw [hasAlert_congr (s := s.raiseStop .spliceSensor) (by simp)]
      exact halert
    · rw [hasStop_congr (s := s.raiseStop .spliceSensor) (by simp)]
      exact hstop
  · rw [headFault_of_not_press hphase hrun]
    exact ⟨halert, hstop, by simp, by simp, by simp⟩

/-- Before its joint the splice is abandoned and the line halts (R70, R158). -/
theorem headFault_abandons (hphase : s.fsu.phase = .matching ∨ s.fsu.phase = .press) (hrun : s.running = true) :
    s.headFault.fsu = (s.abandonSplice .abandoned).fsu ∧ s.headFault.sgv.gov = .halting ∧ s.headFault.sgv.stopPending = false ∧
      s.headFault.sgv.intent = false := by
  rcases hphase with hphase | hphase
  · rw [headFault_of_not_press (by simp [hphase]) fun _ => hrun]
    exact raiseStop_matching hphase hrun _
  · obtain ⟨heq, hpending⟩ := headFault_of_press hphase hrun
    have hidle := abandonSplice_phase (s.raiseStop .spliceSensor) .abandoned
    rw [heq]
    refine ⟨(haltIfPending_idle hidle).1.trans (abandonSplice_fsu_congr (raiseStop_fsu (by simp [hphase]) _) _), ?_⟩
    exact haltIfPending_halts (by simpa using hpending)

end Sys2Proof.Machine
end

section
/-! SUPPORT. The splice head's inputs (O24): each change of the three inputs. -/

namespace Sys2Proof.Machine

variable {s : State}

/-- An input other than SEATED settles without touching a station. -/
theorem Stationed.settled (h : Stationed s) {i : Input} (hi : ∀ x : Station, i ≠ x.seatedPin) (v : Bool) : Stationed (s.settled i v) :=
  h.pin fun x hx => absurd hx (hi x)

theorem headConflict_settled {i j : Input} (h : i = .extended ∧ j = .retracted ∨ i = .retracted ∧ j = .extended) :
    (s.settled i true).headConflict = s.asserted j := by
  unfold State.headConflict
  rcases h with ⟨rfl, rfl⟩ | ⟨rfl, rfl⟩
  · rw [settled_asserted_self, settled_asserted_ne s true (by decide), Bool.true_and]
  · rw [settled_asserted_self, settled_asserted_ne s true (by decide), Bool.and_true]

/-! ### The rise of EXTENDED in PRESS -/

theorem extendedRise_joins (hconflict : s.headConflict = false) (hphase : s.fsu.phase = .press) : s.extendedRise = s.makeJoint := by
  rw [State.extendedRise, hconflict, if_neg Bool.false_ne_true, if_pos hphase]

theorem spliceBound_of_stationed {x : Station} {ro ri : Roll} (h : Stationed s) (hphase : s.fsu.phase = .press)
    (hin : s.fsu.incoming = some x) (hro : s.boundRoll? x.other = some ro) (hri : s.boundRoll? x = some ri) :
    SpliceBound s x ro ri := by
  obtain ⟨y, hin', hout, hfeeding⟩ := h.2.beforeJoint (Or.inr hphase)
  obtain rfl : x = y := Option.some.inj (hin.symm.trans hin')
  exact ⟨hin, hout, hfeeding, (h.2.incoming x).mpr ⟨Or.inr hphase, hin⟩, hro, hri⟩

/-! ### A rise that leaves both asserted -/

/-- What a rise that leaves both inputs asserted makes of the line (R70). -/
structure HeadFaulted (s t : State) (i : Input) : Prop where
  raised : t.hasAlert .spliceSensor = true ∧ t.hasStop .spliceSensor = true
  abandoned : s.fsu.phase = .matching ∨ s.fsu.phase = .press →
    t.fsu.phase = .idle ∧ t.fsu.outcome = .abandoned ∧ t.fsu.extend = false ∧ t.fsu.knife = false ∧
      (∀ x, s.fsu.incoming = some x → t.station x = .prepared ∧ t.station x.other = .feeding) ∧
      t.sgv.gov = .halting ∧ t.sgv.intent = false ∧ t.sgv.stopPending = false
  goesOn : s.fsu.phase = .idle ∨ s.fsu.phase = .cut ∨ s.fsu.phase = .retract ∧ i = .extended →
    t.fsu.phase = s.fsu.phase ∧ t.fsu.outcome = s.fsu.outcome ∧ t.fsu.extend = s.fsu.extend ∧
      t.fsu.knife = s.fsu.knife ∧ t.fsu.limit = s.fsu.limit ∧ t.sgv.gov = s.sgv.gov.afterStop s.fsu.phase
  completes : s.fsu.phase = .retract → i = .retracted →
    t.fsu.phase = .idle ∧ t.fsu.outcome = .completed ∧ t.fsu.limit = none ∧ t.sgv.gov = .halting
  kept : t.rst = s.rst ∧ t.exu = s.exu ∧ t.fsu.w = s.fsu.w

/-- A head fault as it stands at the end of its act, in any phase but the RETRACT that a rise of RETRACTED ends. -/
theorem headFault_faulted (h : Stationed s) {i : Input} (hnot : ¬ (s.fsu.phase = .retract ∧ i = .retracted)) :
    HeadFaulted s s.headFault.endAct i := by
  obtain ⟨halert, hstop, hrst, -, -⟩ := headFault_raises h.2.runs
  refine ⟨⟨(hasAlert_endAct _ _).trans halert, (hasStop_endAct _ _).trans hstop⟩, fun hphase => ?_, fun hphase => ?_,
    fun hphase hi => absurd ⟨hphase, hi⟩ hnot, by simpa using hrst, by simp, by simp⟩
  · have hne : s.fsu.phase ≠ .idle := by rcases hphase with hphase | hphase <;> simp [hphase]
    obtain ⟨hfsu, hgov, hpending, hintent⟩ := headFault_abandons hphase (h.2.runs hne)
    obtain ⟨hidle, houtcome, hextend, hknife, -, -⟩ := abandonSplice_ends hne .abandoned
    refine ⟨by simpa [hfsu] using hidle, by simpa [hfsu] using houtcome, by simpa [hfsu] using hextend, by simpa [hfsu] using hknife,
      fun x hin => ?_, endAct_halting hgov, by simpa using hintent, by simpa using hpending⟩
    obtain ⟨y, hin', -, hfeeding⟩ := h.2.beforeJoint hphase
    obtain rfl : x = y := Option.some.inj (hin.symm.trans hin')
    have hx := (h.2.incoming x).mpr ⟨hphase, hin⟩
    have hjoint : s.fsu.phase.beforeJoint = true := by rcases hphase with hphase | hphase <;> simp [hphase, SplicePhase.beforeJoint]
    rw [station_endAct, station_endAct, station_of_fsu hfsu, station_of_fsu hfsu, abandonSplice_station _ hjoint hin hx,
      abandonSplice_station _ hjoint hin hx]
    exact ⟨station_setStation_self s x _, (station_setStation_other s x _).trans hfeeding⟩
  · have hphases : s.fsu.phase ≠ .press ∧ s.fsu.phase ≠ .matching := by
      rcases hphase with hphase | hphase | ⟨hphase, -⟩ <;> simp [hphase]
    obtain ⟨hpress, hmatching⟩ := hphases
    have hfsu := raiseStop_fsu hmatching .spliceSensor
    have hgov := (raiseStop_spec s .spliceSensor).2.2
    rw [headFault_of_not_press hpress h.2.runs]
    refine ⟨?_, ?_, ?_, ?_, ?_, endAct_gov hgov (afterStop_ne_run _ _)⟩ <;> simp [hfsu]

/-- In RETRACT the rise of RETRACTED that finds EXTENDED asserted raises the cause and ends the splice all the same (R67, R70). -/
theorem retractedRise_faulted (h : Stationed s) (hconflict : s.headConflict = true) :
    HeadFaulted s s.retractedRise.endAct .retracted := by
  unfold State.retractedRise
  dsimp only
  rw [if_pos hconflict]
  by_cases hphase : s.fsu.phase = .retract
  · have hrun := h.2.runs (by simp [hphase])
    have hfault := headFault_of_not_press (s := s) (by simp [hphase]) fun _ => hrun
    have hfsu := raiseStop_fsu (s := s) (by simp [hphase]) .spliceSensor
    have hpending := raiseStop_headOn (s := s) (by simp [hphase, SplicePhase.headOn]) .spliceSensor
    rw [if_pos hrun] at hpending
    obtain ⟨halert, hstop, hrst, hexu, hw⟩ := headFault_raises h.2.runs
    rw [if_pos (by rw [hfault, hfsu, hphase])]
    rw [← hfault] at hpending
    have hdone := completeSplice_completes (s := s.headFault) (Or.inr hpending)
    obtain ⟨hrst', hlnk', hexu', hw', hstops'⟩ := hdone.kept
    obtain ⟨hidle, houtcome, hlimit, -⟩ := hdone.ended
    refine ⟨⟨(hasAlert_congr (by rw [hlnk']) _).trans halert, (hasStop_congr hstops' _).trans hstop⟩,
      fun hwas => by rcases hwas with hwas | hwas <;> simp [hphase] at hwas,
      fun hwas => by rcases hwas with hwas | hwas | ⟨-, hwas⟩ <;> simp [hphase] at hwas,
      fun _ _ => ⟨hidle, houtcome, hlimit, (hdone.halts hpending).1⟩, hrst'.trans hrst, hexu'.trans hexu, hw'.trans hw⟩
  · have hphase' : s.headFault.fsu.phase ≠ .retract := by
      by_cases hjoint : s.fsu.phase = .matching ∨ s.fsu.phase = .press
      · have hrun := h.2.runs (by rcases hjoint with hjoint | hjoint <;> simp [hjoint])
        rw [(headFault_abandons hjoint hrun).1, abandonSplice_phase]
        decide
      · rw [not_or] at hjoint
        rw [headFault_of_not_press hjoint.2 h.2.runs, raiseStop_fsu hjoint.1]
        exact hphase
    rw [if_neg hphase']
    exact headFault_faulted h fun hboth => hphase hboth.1

/-- The rise, of either input, that finds the other asserted. -/
theorem rising_faulted {i : Input} (hlaw : StationLaw s)
    (hboth : i = .extended ∧ s.asserted .retracted = true ∨ i = .retracted ∧ s.asserted .extended = true) :
    HeadFaulted (s.settled i true) ((s.settled i true).inputRise i).endAct i := by
  have h := (stationLaw_iff_stationed s).mp hlaw
  rcases hboth with ⟨rfl, hother⟩ | ⟨rfl, hother⟩
  · have hconflict := (headConflict_settled (s := s) (Or.inl ⟨rfl, rfl⟩)).trans hother
    have hrise : (s.settled .extended true).inputRise .extended = (s.settled .extended true).headFault := if_pos hconflict
    rw [hrise]
    exact headFault_faulted (h.settled (fun x => by cases x <;> decide) true) (by simp)
  · exact retractedRise_faulted (h.settled (fun x => by cases x <;> decide) true)
      ((headConflict_settled (Or.inr ⟨rfl, rfl⟩)).trans hother)

theorem retractedRise_completes (hconflict : s.headConflict = false) (hphase : s.fsu.phase = .retract) :
    s.retractedRise = s.completeSplice := by
  unfold State.retractedRise
  dsimp only
  rw [hconflict, if_neg Bool.false_ne_true, if_pos hphase]

/-- Settles O24: by the joint, the fault, the end COMPLETED, the head lost in CUT, and the changes that do nothing more. -/
theorem spliceHeadInputs : Obligations.SpliceHeadInputs := by
  unfold Obligations.SpliceHeadInputs
  refine ⟨fun s x ro ri hlaw hrise hclear hphase hin hro hri => ?_, fun s i hlaw hrise hboth => ?_,
    fun s y hrise hclear hphase hout hquiet => ?_, fun s hfall hphase => ?_, fun s => ?_⟩
  · have h := ((stationLaw_iff_stationed s).mp hlaw).settled (i := .extended) (fun y => by cases y <;> decide) true
    have hb := spliceBound_of_stationed h hphase hin hro hri
    have hjoint : (s.settled .extended true).inputRise .extended = (s.settled .extended true).makeJoint :=
      extendedRise_joins ((headConflict_settled (Or.inl ⟨rfl, rfl⟩)).trans hclear) hphase
    have hexec := exec_rising hrise
    rw [hjoint] at hexec
    have hcore : (s.settled .extended true).asserted x.coreNear = s.asserted x.coreNear :=
      settled_asserted_ne s true (by cases x <;> decide)
    obtain ⟨hsplice, hstations, houtRoll, hinRoll, hothers, halerts, htracker⟩ := makeJoint_made h hb
    obtain ⟨hnone, hwithin, houtside⟩ := makeJoint_tracked (s.settled .extended true)
    rw [hcore] at hinRoll halerts
    obtain ⟨hcut, hknife, hextend, hlimit, houtcome, hincoming, houtgoing, hw⟩ := hsplice
    obtain ⟨hchange, hsegment, hstarved⟩ := htracker
    refine ⟨_, hexec, hcut, hknife, hextend, hlimit, houtcome, hincoming, houtgoing, hw, hstations.1, hstations.2, houtRoll, hinRoll,
      hothers, halerts, hchange, hsegment, hstarved, ?_⟩
    split
    · rename_i hext
      exact hnone hext
    · rename_i b e hext
      split
      · rename_i hin
        exact hwithin b e hext hin
      · rename_i hnot
        exact houtside b e hext hnot
  · obtain ⟨⟨halert, hstop⟩, habandoned, hgoesOn, hcompletes, hrst, hexu, hw⟩ := rising_faulted hlaw hboth
    exact ⟨_, exec_rising hrise, halert, hstop, habandoned, hgoesOn, hcompletes, hrst, hexu, hw⟩
  · have hdone : (s.settled .retracted true).inputRise .retracted = (s.settled .retracted true).completeSplice :=
      retractedRise_completes ((headConflict_settled (Or.inr ⟨rfl, rfl⟩)).trans hclear) hphase
    have hexec := exec_rising hrise
    rw [hdone] at hexec
    obtain ⟨⟨hidle, houtcome, hlimit, hextend, hknife, hlocked, hwatch⟩, houtgoing, hhalts, hrst, hlnk, hexu, hw, -⟩ :=
      completeSplice_completes (s := s.settled .retracted true) hquiet
    obtain ⟨hself, hother⟩ := houtgoing y hout
    exact ⟨_, hexec, hidle, houtcome, hlimit, hextend, hknife, hlocked, hwatch, hself, hother, hhalts, hrst, hlnk, hexu, hw⟩
  · have hcut : (s.settled .extended false).fsu.phase = .cut := hphase
    have hfault : (s.settled .extended false).inputFall .extended = (s.settled .extended false).raiseStop .spliceSensor := if_pos hcut
    have hexec := exec_falling hfall
    rw [hfault] at hexec
    obtain ⟨hstop, halert, hgov⟩ := raiseStop_spec (s.settled .extended false) .spliceSensor
    have hfsu := raiseStop_fsu (s := s.settled .extended false) (by rw [hcut]; decide) .spliceSensor
    rw [hcut] at hgov
    exact ⟨_, hexec, (hasAlert_endAct _ _).trans halert, (hasStop_endAct _ _).trans hstop, endAct_gov hgov (afterStop_ne_run _ _),
      by simp [hfsu, hphase], by simp [hfsu], by simp [hfsu], by simp [hfsu], by simp⟩
  · refine ⟨fun hrise hclear hphase => completes_of_rising hrise ?_, fun hrise hclear hphase => completes_of_rising hrise ?_,
      fun hrise hphase => completes_of_rising hrise (if_neg hphase), fun hfall hphase => completes_of_falling hfall (if_neg hphase),
      fun hfall => completes_of_falling hfall rfl, fun hfall => completes_of_falling hfall rfl⟩
    · have hconflict := (headConflict_settled (s := s) (i := .extended) (Or.inl ⟨rfl, rfl⟩)).trans hclear
      show (s.settled .extended true).extendedRise = _
      rw [State.extendedRise, hconflict, if_neg Bool.false_ne_true]
      exact if_neg hphase
    · have hconflict := (headConflict_settled (s := s) (i := .retracted) (Or.inr ⟨rfl, rfl⟩)).trans hclear
      show (s.settled .retracted true).retractedRise = _
      unfold State.retractedRise
      dsimp only
      rw [hconflict, if_neg Bool.false_ne_true]
      exact if_neg hphase

end Sys2Proof.Machine
end

section
/-! SUPPORT. The stations' inputs (O23): SEATED. -/

namespace Sys2Proof.Machine

variable {s t : State} {x : Station} {r : Roll}

theorem inputRise_seated (s : State) (x : Station) : s.inputRise x.seatedPin = s.seatedRise x := by cases x <;> rfl

theorem inputFall_seated (s : State) (x : Station) : s.inputFall x.seatedPin = s.seatedFall x := by cases x <;> rfl

/-! ### The rise (R53) -/

theorem declaredFor?_eq (s : State) (x : Station) :
    s.declaredFor? x = s.rst.rolls.find? fun r => decide (r.state = .declared ∧ r.intended = some x) := by
  unfold State.declaredFor?
  congr 1
  funext r
  simp [Bool.decide_and, Bool.beq_eq_decide_eq]

theorem seatedRise_binds (h : (s.rst.rolls.find? fun r => decide (r.state = .declared ∧ r.intended = some x)) = some r) :
    s.seatedRise x = (s.setStation x .seated).putRoll { r with state := .mounted, station := some x } := by
  unfold State.seatedRise
  dsimp only
  rw [declaredFor?_eq, setStation_rolls, h]
  rfl

theorem seatedRise_unknown (h : ∀ r ∈ s.rst.rolls, ¬ (r.state = .declared ∧ r.intended = some x)) :
    s.seatedRise x = (s.setStation x .seated).raiseAlert .rollUnknown := by
  have hnone : (s.rst.rolls.find? fun r => decide (r.state = .declared ∧ r.intended = some x)) = none :=
    List.find?_eq_none.mpr fun r hr => by simpa using h r hr
  unfold State.seatedRise
  dsimp only
  rw [declaredFor?_eq, setStation_rolls, hnone]

/-! ### A roll lifted off its station (R54) -/

/-- A roll that has not fed, lifted off its station (R54). -/
def State.returned (s : State) (r : Roll) : Roll := { r with
  state := .declared, station := none, leaderReady := false
  intended :=
    if ∃ q ∈ s.rst.rolls, q.tag ≠ r.tag ∧ q.state = .declared ∧ q.intended = r.intended then none else r.intended }

theorem returnRoll_eq (s : State) (r : Roll) : s.returnRoll r = s.putRoll (s.returned r) := by
  have htaken : (if s.intendedTaken r.tag r.intended then none else r.intended) =
      if ∃ q ∈ s.rst.rolls, q.tag ≠ r.tag ∧ q.state = .declared ∧ q.intended = r.intended then none else r.intended := by
    cases hintended : r.intended with
    | none => simp
    | some x => simp [State.intendedTaken, and_assoc]
  unfold State.returnRoll State.returned
  rw [htaken]

theorem emptyStation_of_none (h : s.boundRoll? x = none) : s.emptyStation x = s.setStation x .empty := by
  unfold State.emptyStation
  rw [h]

theorem emptyStation_of_some (h : s.boundRoll? x = some r) : s.emptyStation x = (s.setStation x .empty).unbindRoll r := by
  unfold State.emptyStation
  rw [h]

theorem emptyStation_spent (h : s.boundRoll? x = some r) (hstate : r.state = .spent) :
    s.emptyStation x = (s.setStation x .empty).putRoll { r with station := none } := by
  rw [emptyStation_of_some h, State.unbindRoll, hstate]

theorem emptyStation_active (h : s.boundRoll? x = some r) (hstate : r.state = .active) :
    s.emptyStation x = (s.setStation x .empty).putRoll { r with state := .spent, station := none } := by
  rw [emptyStation_of_some h, State.unbindRoll, hstate]

theorem emptyStation_returns (h : s.boundRoll? x = some r) (hstate : r.state = .mounted ∨ r.state = .prepared) :
    s.emptyStation x = (s.setStation x .empty).putRoll (s.returned r) := by
  have hreturned : (s.setStation x .empty).returned r = s.returned r := by cases x <;> rfl
  rw [emptyStation_of_some h, State.unbindRoll]
  rcases hstate with hstate | hstate <;> rw [hstate, ← hreturned] <;> exact returnRoll_eq _ r

/-- What a station's fall leaves of the rolls: the roll that was on it replaced. -/
theorem emptied_rolls {r' : Roll} (hrolls : t.rst.rolls = ((s.setStation x .empty).putRoll r').rst.rolls) (htag : r'.tag = r.tag) :
    t.roll? r.tag = some r' ∧ ∀ tag, tag ≠ r.tag → t.roll? tag = s.roll? tag := by
  refine ⟨?_, fun tag hne => ?_⟩
  · rw [roll?_congr hrolls, ← htag]
    exact roll?_putRoll_self _ r'
  · rw [roll?_congr hrolls, roll?_putRoll_ne _ r' (htag ▸ hne)]
    exact roll?_congr (setStation_rolls s x _) tag

/-! ### The fall in MATCHING or MATCHED (R54, R71) -/

/-- No auto-splice begins without a PREPARED station across from the FEEDING one (R61). -/
theorem autoSpliceTest_of_unprepared (h : ∀ y, s.activeStation = some y → s.station y.other ≠ .prepared) : s.autoSpliceTest = s := by
  refine if_neg fun hready => ?_
  unfold State.autoSpliceReady at hready
  split at hready
  · rename_i y r hactive _
    simp [h y hactive] at hready
  · simp at hready

theorem afterSplice_of_unprepared (h : ∀ y, s.activeStation = some y → s.station y.other ≠ .prepared) :
    s.afterSplice = s.haltIfPending := by
  by_cases hpending : s.sgv.stopPending = true
  · exact afterSplice_quiet (Or.inr (Or.inl hpending))
  · unfold State.afterSplice
    rw [haltIfPending_of_not_pending (Bool.eq_false_iff.mpr hpending)]
    exact autoSpliceTest_of_unprepared h

/-- What the incoming roll lifted off before the joint leaves (R54, R68, R71). -/
structure IncomingLifted (s t : State) (x : Station) (r : Roll) : Prop where
  stations : t.station x = .empty ∧ t.station x.other = s.station x.other
  rolls : t.roll? r.tag = some (s.returned r) ∧ ∀ tag, tag ≠ r.tag → t.roll? tag = s.roll? tag
  ended : t.fsu.phase = .idle ∧ t.fsu.outcome = .abandoned ∧ t.fsu.extend = false ∧ t.fsu.knife = false ∧
    t.ltr = { s.ltr with classChange := false }
  halts : s.sgv.stopPending = true → t.sgv.gov = .halting ∧ t.sgv.stopPending = false
  kept : t.rst.lots = s.rst.lots ∧ t.rst.panels = s.rst.panels ∧ t.rst.line = s.rst.line ∧ t.fsu.w = s.fsu.w

theorem incoming_lifted (hphase : s.fsu.phase.beforeJoint = true) (hin : s.fsu.incoming = some x)
    (hx : s.station x = .matching ∨ s.station x = .matched) (hother : s.station x.other = .feeding) (hbound : s.boundRoll? x = some r)
    (hstate : r.state = .mounted ∨ r.state = .prepared) :
    IncomingLifted s (((s.abandonSplice .abandoned).emptyStation x).afterSplice).endAct x r := by
  have hne : s.fsu.phase ≠ .idle := by
    intro hidle
    rw [hidle] at hphase
    cases hphase
  obtain ⟨hidle, houtcome, hextend, hknife, -, hltr⟩ := abandonSplice_ends hne .abandoned
  obtain ⟨u, hu⟩ : ∃ u, u = (s.abandonSplice .abandoned).emptyStation x := ⟨_, rfl⟩
  have hufsu : u.fsu = ((s.abandonSplice .abandoned).setStation x .empty).fsu := hu ▸ emptyStation_fsu _ x
  have hself : u.station x = .empty := (station_of_fsu hufsu x).trans (station_setStation_self _ x _)
  have hfeeding : u.station x.other = .feeding := by
    rw [station_of_fsu hufsu, station_setStation_other, abandonSplice_station _ hphase hin hx, station_setStation_other]
    exact hother
  have hrolls : u.rst.rolls = ((s.setStation x .empty).putRoll (s.returned r)).rst.rolls := by
    rw [hu, ← emptyStation_returns hbound hstate]
    exact emptyStation_rolls_congr (by simp) x
  have huphase : u.fsu.phase = .idle := by rw [hufsu]; simpa using hidle
  have hafter : u.afterSplice = u.haltIfPending := by
    refine afterSplice_of_unprepared fun y hy => ?_
    have hactive := activeStation_of_feeding (s := u) (x := x.other) hfeeding (by rw [Station.other_other, hself]; decide)
    obtain rfl : x.other = y := Option.some.inj (hactive.symm.trans hy)
    rw [Station.other_other, hself]
    decide
  obtain ⟨hfsu, hhltr⟩ := haltIfPending_idle huphase
  have hstation (y : Station) : u.haltIfPending.endAct.station y = u.station y := (station_endAct _ y).trans (station_of_fsu hfsu y)
  have hultr : u.ltr = (s.abandonSplice .abandoned).ltr := by simp [hu]
  rw [← hu, hafter]
  refine ⟨⟨(hstation x).trans hself, (hstation _).trans (hfeeding.trans hother.symm)⟩,
    emptied_rolls (x := x) (by simpa using hrolls) rfl, ?_, fun hpending => ?_, by simp [hu]⟩
  · simp [hfsu, hufsu, hhltr, hultr, hidle, houtcome, hextend, hknife, hltr]
  · obtain ⟨hgov, hnone, -⟩ := haltIfPending_halts (s := u) (by simpa [hu] using hpending)
    exact ⟨endAct_halting hgov, by simpa using hnone⟩

end Sys2Proof.Machine
end

section
/-! SUPPORT. The stations' inputs (O23): the FEEDING station's roll lifted off, and CORE_NEAR. -/

namespace Sys2Proof.Machine

variable {s t : State} {x : Station} {r : Roll}

/-! ### The roll of a FEEDING station lifted off (R54, R71) -/

theorem raiseTrip_fsu (h : s.sgv.gov = .tripped → s.fsu.phase = .idle) (c : TripCause) :
    (s.raiseTrip c).fsu = (s.abandonSplice .abandoned).fsu := by
  unfold State.raiseTrip
  dsimp only
  split
  · rename_i htripped
    rw [abandonSplice_of_idle (h htripped)]
    rfl
  · unfold State.enterTripped
    dsimp only
    simp only [State.clearTarget_frame, State.zonesToStandby_frame, State.exitTrip_frame, State.bladeTrip_frame]
    refine abandonSplice_fsu_congr (s := s) ?_ _
    rfl

/-- What the roll of a FEEDING station lifted off leaves (R54, R68, R71, R159). -/
structure FeedingLifted (s t : State) (x : Station) (r : Roll) : Prop where
  station : t.station x = .empty
  rolls : t.roll? r.tag = some { r with state := .spent, station := none } ∧ ∀ tag, tag ≠ r.tag → t.roll? tag = s.roll? tag
  trips : t.hasAlert .rollUnseated = true ∧ t.hasTrip .rollUnseated = true ∧ t.sgv.gov = .tripped ∧ t.sgv.flatRef = 0
  phase : t.fsu.phase = .idle
  outcome : s.fsu.phase ≠ .idle → t.fsu.outcome = .abandoned
  incoming : ∀ y, (s.fsu.phase = .matching ∨ s.fsu.phase = .press) → s.fsu.incoming = some y → t.station y = .prepared
  kept : t.rst.line = s.rst.line ∧ t.fsu.w = s.fsu.w

theorem feeding_lifted (hbound : s.boundRoll? x = some r) (hstate : r.state = .active)
    (hrest : s.sgv.gov = .tripped → s.fsu.phase = .idle)
    (hin : ∀ y, (s.fsu.phase = .matching ∨ s.fsu.phase = .press) → s.fsu.incoming = some y →
      y ≠ x ∧ (s.station y = .matching ∨ s.station y = .matched)) :
    FeedingLifted s (((s.emptyStation x).raiseTrip .rollUnseated).retarget).endAct x r := by
  have hfsu : ((s.emptyStation x).raiseTrip .rollUnseated).fsu = ((s.abandonSplice .abandoned).setStation x .empty).fsu := by
    rw [raiseTrip_fsu (by simpa [emptyStation_fsu] using hrest), ← abandonSplice_setStation_empty]
    exact abandonSplice_fsu_congr (emptyStation_fsu s x) _
  obtain ⟨hgov, htrip, halert⟩ := raiseTrip_spec (s.emptyStation x) .rollUnseated
  have hstation (y : Station) : (((s.emptyStation x).raiseTrip .rollUnseated).retarget).endAct.station y =
      ((s.abandonSplice .abandoned).setStation x .empty).station y := by
    rw [station_endAct]
    exact station_of_fsu (by simpa using hfsu) y
  have hgov' : ((s.emptyStation x).raiseTrip .rollUnseated).retarget.sgv.gov = .tripped := by simpa using hgov
  refine ⟨(hstation x).trans (station_setStation_self _ x _), emptied_rolls (x := x) ?_ rfl, ⟨?_, ?_, ?_, ?_⟩, ?_, fun hne => ?_,
    fun y hphase hy => ?_, by simp⟩
  · rw [← emptyStation_active hbound hstate]
    simp
  · rw [hasAlert_endAct, hasAlert_congr (s := (s.emptyStation x).raiseTrip .rollUnseated) (by simp)]
    exact halert
  · rw [hasTrip_endAct, hasTrip_congr (s := (s.emptyStation x).raiseTrip .rollUnseated) (by simp)]
    exact htrip
  · exact endAct_gov hgov' (by decide)
  · exact (endAct_refs_atRest (by rw [hgov']; rfl)).1
  · simp [hfsu, abandonSplice_phase]
  · simp [hfsu, (abandonSplice_ends hne .abandoned).2.1]
  · obtain ⟨hne, hy'⟩ := hin y hphase hy
    have hjoint : s.fsu.phase.beforeJoint = true := by rcases hphase with hphase | hphase <;> simp [hphase, SplicePhase.beforeJoint]
    rw [hstation, station_setStation_ne _ _ hne, abandonSplice_station _ hjoint hy hy']
    exact station_setStation_self s y _

/-! ### The fall, by the station's state -/

/-- The state of the roll on a station is one its station's state fits. -/
theorem Stationed.fits (h : Stationed s) (hbound : s.boundRoll? x = some r) : (s.station x).fits (some r.state) = true :=
  h.1.held r (boundRoll?_mem hbound) x (boundRoll?_station hbound)

/-- A station in none of MATCHING, MATCHED and FEEDING becomes EMPTY (R54). -/
theorem seatedFall_empties (h : s.station x ≠ .matching ∧ s.station x ≠ .matched ∧ s.station x ≠ .feeding) :
    s.seatedFall x = s.emptyStation x := by
  obtain ⟨hmatching, hmatched, hfeeding⟩ := h
  unfold State.seatedFall
  split <;> first | rfl | contradiction

theorem seatedFall_of_incoming (h : s.station x = .matching ∨ s.station x = .matched) :
    s.seatedFall x = ((s.abandonSplice .abandoned).emptyStation x).afterSplice := by
  unfold State.seatedFall
  rcases h with h | h <;> rw [h]

theorem seatedFall_of_feeding (h : s.station x = .feeding) :
    s.seatedFall x = ((s.emptyStation x).raiseTrip .rollUnseated).retarget := by
  unfold State.seatedFall
  rw [h]

/-- The incoming roll lifted off, as the model's law says it stands (R54, R71). -/
theorem Stationed.incoming_lifted (h : Stationed s) (hbound : s.boundRoll? x = some r)
    (hx : s.station x = .matching ∨ s.station x = .matched) :
    IncomingLifted s (((s.settled x.seatedPin false).seatedFall x).endAct) x r := by
  obtain ⟨hphase, hin⟩ := (h.2.incoming x).mp hx
  obtain ⟨y, hin', -, hfeeding⟩ := h.2.beforeJoint hphase
  obtain rfl : x = y := Option.some.inj (hin.symm.trans hin')
  have hprepared : r.state = .prepared := by
    have hfits := h.fits hbound
    rcases hx with hx | hx <;> simpa [hx, StationState.fits] using hfits
  have hjoint : s.fsu.phase.beforeJoint = true := by rcases hphase with hphase | hphase <;> simp [hphase, SplicePhase.beforeJoint]
  rw [seatedFall_of_incoming (s := s.settled x.seatedPin false) hx]
  obtain ⟨hstations, hrolls, hended, hhalts, hkept⟩ :=
    Machine.incoming_lifted (s := s.settled x.seatedPin false) hjoint hin hx hfeeding hbound (Or.inr hprepared)
  exact ⟨hstations, hrolls, hended, hhalts, hkept⟩

/-- The roll that feeds lifted off, as the model's law says it stands (R54, R71). -/
theorem Stationed.feeding_lifted (h : Stationed s) (hbound : s.boundRoll? x = some r) (hx : s.station x = .feeding) :
    FeedingLifted s (((s.settled x.seatedPin false).seatedFall x).endAct) x r := by
  have hactive : r.state = .active := by simpa [hx, StationState.fits] using h.fits hbound
  have hincoming (y : Station) (hphase : s.fsu.phase = .matching ∨ s.fsu.phase = .press) (hy : s.fsu.incoming = some y) :
      y ≠ x ∧ (s.station y = .matching ∨ s.station y = .matched) := by
    have hy' := (h.2.incoming y).mpr ⟨hphase, hy⟩
    refine ⟨fun heq => ?_, hy'⟩
    rw [heq, hx] at hy'
    rcases hy' with hy' | hy' <;> cases hy'
  rw [seatedFall_of_feeding (s := s.settled x.seatedPin false) hx]
  obtain ⟨hstation, hrolls, htrips, hphase, houtcome, hin, hkept⟩ :=
    Machine.feeding_lifted (s := s.settled x.seatedPin false) hbound hactive h.untripped hincoming
  exact ⟨hstation, hrolls, htrips, hphase, houtcome, hin, hkept⟩

/-! ### CORE_NEAR (R58, R61) -/

theorem inputRise_coreNear (s : State) (x : Station) : s.inputRise x.coreNear = s.coreNearRise x := by cases x <;> rfl

theorem inputFall_coreNear (s : State) (x : Station) : s.inputFall x.coreNear = s := by cases x <;> rfl

theorem judgeExpiring_sets (hactive : s.activeStation = some x) (hbound : s.boundRoll? x = some r) (hclear : r.expiring = false)
    (hnear : s.asserted x.coreNear = true) : s.judgeExpiring = (s.putRoll { r with expiring := true }).raiseAlert .rollLow := by
  unfold State.judgeExpiring
  rw [hactive]
  dsimp only
  rw [hbound]
  exact if_pos ⟨hclear, by simp [State.expiringHolds, hnear]⟩

theorem judgeExpiring_of_expiring (hactive : s.activeStation = some x) (hbound : s.boundRoll? x = some r) (hset : r.expiring = true) :
    s.judgeExpiring = s := by
  unfold State.judgeExpiring
  rw [hactive]
  dsimp only
  rw [hbound]
  exact if_neg fun hjudged => by rw [hset] at hjudged; cases hjudged.1

theorem activeExpiring_of (hactive : s.activeStation = some x) (hbound : s.boundRoll? x = some r) : s.activeExpiring = r.expiring := by
  unfold State.activeExpiring
  rw [activeRoll?_eq_some.mpr ⟨x, hactive, hbound⟩]
  rfl

/-- The ACTIVE roll with its Expiring set and ROLL_LOW raised. -/
def State.expired (s : State) (r : Roll) : State := (s.putRoll { r with expiring := true }).raiseAlert .rollLow

theorem expired_active (hactive : s.activeStation = some x) (hbound : s.boundRoll? x = some r) :
    (s.expired r).activeStation = some x ∧ (s.expired r).boundRoll? x = some { r with expiring := true } := by
  obtain ⟨h, h', -⟩ := putRoll_activeIs (r' := { r with expiring := true }) hactive hbound rfl rfl
  exact ⟨h, h'⟩

theorem coreNearRise_sets (hactive : s.activeStation = some x) (hbound : s.boundRoll? x = some r) (hclear : r.expiring = false)
    (hnear : s.asserted x.coreNear = true) : s.coreNearRise x = (s.expired r).autoSpliceTest := by
  have hjudged : s.judgeExpiring = s.expired r := judgeExpiring_sets hactive hbound hclear hnear
  obtain ⟨hactive', hbound'⟩ := expired_active hactive hbound
  have hset : (s.expired r).activeExpiring = true := activeExpiring_of hactive' hbound'
  have hwas : s.activeExpiring = false := (activeExpiring_of hactive hbound).trans hclear
  unfold State.coreNearRise
  rw [if_pos hactive, hjudged, hset, hwas]
  rfl

theorem coreNearRise_quiet (h : s.activeStation ≠ some x ∨ ∃ r, s.boundRoll? x = some r ∧ r.expiring = true) : s.coreNearRise x = s := by
  unfold State.coreNearRise
  by_cases hactive : s.activeStation = some x
  · obtain ⟨r, hbound, hset⟩ := h.resolve_left (not_not.mpr hactive)
    rw [if_pos hactive, judgeExpiring_of_expiring hactive hbound hset, Bool.and_not_self]
    rfl
  · exact if_neg hactive

/-- The conditions of an auto-splice all hold (R61). -/
theorem autoSpliceTest_attempts (hauto : s.rst.line.autoSplice = true) (hrun : s.running = true) (hphase : s.fsu.phase = .idle)
    (hactive : s.activeStation = some x) (hbound : s.boundRoll? x = some r) (hexpiring : r.expiring = true)
    (hspent : r.attemptSpent = false) (hprepared : s.station x.other = .prepared) : s.autoSpliceTest = s.attemptAutoSplice := by
  refine if_pos ?_
  unfold State.autoSpliceReady
  rw [activeRoll?_eq_some.mpr ⟨x, hactive, hbound⟩, hactive]
  simp [hauto, hrun, hphase, hexpiring, hspent, hprepared]

/-- What an attempt at an auto-splice leaves: the requested station, the attempt spent, and the splice begun or refused (R61). -/
theorem attemptAutoSplice_spec (hactive : s.activeStation = some x) (hbound : s.boundRoll? x = some r) (hphase : s.fsu.phase = .idle) :
    s.attemptAutoSplice.rst.line.requested = some x.other ∧
      s.attemptAutoSplice.roll? r.tag = some { r with attemptSpent := true } ∧ KeepsAlert .rollLow s s.attemptAutoSplice ∧
      (s.attemptAutoSplice.fsu.phase = .matching ∧ s.attemptAutoSplice.station x.other = .matching ∨
        s.attemptAutoSplice.fsu.phase = .idle ∧ s.attemptAutoSplice.fsu.outcome = .refused ∧
          s.attemptAutoSplice.hasAlert .spliceFailed = true) := by
  unfold State.attemptAutoSplice
  rw [activeRoll?_eq_some.mpr ⟨x, hactive, hbound⟩, hactive]
  dsimp only
  generalize hu : ({ s with rst := { s.rst with line := { s.rst.line with requested := some x.other } } } : State).putRoll
    { r with attemptSpent := true } = u
  have hrequested : u.rst.line.requested = some x.other := hu ▸ rfl
  have hroll : u.roll? r.tag = some { r with attemptSpent := true } := hu ▸ roll?_putRoll_self _ { r with attemptSpent := true }
  have halerts : u.lnk.alerts = s.lnk.alerts := hu ▸ rfl
  have hidle : u.fsu.phase = .idle := hu ▸ hphase
  split
  · refine ⟨hrequested, hroll, ?_, Or.inr ⟨hidle, rfl, ?_⟩⟩
    · exact (keepsAlert_of_alerts halerts).trans (raiseAlert_keepsAlert .rollLow .spliceFailed (u.setOutcome .refused))
    · rw [hasAlert_raiseAlert]
      exact Bool.or_true _
  · refine ⟨by simpa using hrequested, (roll?_congr (by simp) _).trans hroll, keepsAlert_of_alerts (by simpa using halerts), Or.inl ?_⟩
    rw [beginSplice_eq hrequested]
    exact ⟨rfl, (station_congr rfl rfl _).trans (station_setStation_self u x.other .matching)⟩

/-- Settles O23: by the rise and the fall of SEATED, by CORE_NEAR, and by KEY. -/
theorem stationInputs : Obligations.StationInputs := by
  unfold Obligations.StationInputs
  refine ⟨fun s x hrise => ⟨fun r hr => completes_of_rising hrise ?_, fun hnone => completes_of_rising hrise ?_⟩,
    fun s x hlaw hfall => ?_, fun s x => ⟨fun hrise => ⟨fun r hactive hbound hclear => ⟨fun hoff => ?_, fun hauto hrun hphase hspent hprepared => ?_⟩,
      fun hquiet => ?_⟩, fun hfall => completes_of_falling hfall (inputFall_coreNear _ x)⟩,
    fun s => ⟨fun hrise => completes_of_rising hrise rfl, fun hfall => completes_of_falling hfall rfl⟩⟩
  · rw [inputRise_seated]
    exact seatedRise_binds hr
  · rw [inputRise_seated]
    exact seatedRise_unknown hnone
  · have h := (stationLaw_iff_stationed s).mp hlaw
    have hexec := exec_falling hfall
    rw [inputFall_seated] at hexec
    have hempties (hoff : s.station x ≠ .matching ∧ s.station x ≠ .matched ∧ s.station x ≠ .feeding) {e : State}
        (he : (s.settled x.seatedPin false).emptyStation x = e) : Completes (.debounceSettle x.seatedPin) s e :=
      completes_of_falling hfall ((inputFall_seated _ x).trans ((seatedFall_empties (s := s.settled x.seatedPin false) hoff).trans he))
    refine ⟨fun hseated hnone => hempties (by simp [hseated]) (emptyStation_of_none hnone), fun r hbound => ⟨fun hx hspent => ?_,
      fun hx hunspent => ?_, fun hx => ?_, fun hx => ?_⟩⟩
    · exact hempties (by rcases hx with hx | hx | hx <;> simp [hx]) (emptyStation_spent hbound hspent)
    · have hfits := h.fits hbound
      have hstate : r.state = .mounted ∨ r.state = .prepared := by
        rcases hx with hx | hx <;> simp_all [StationState.fits]
      exact hempties (by rcases hx with hx | hx <;> simp [hx]) (emptyStation_returns hbound hstate)
    · obtain ⟨⟨hself, hother⟩, ⟨hroll, hrolls⟩, ⟨hidle, houtcome, hextend, hknife, hltr⟩, hhalts, hlots, hpanels, hline, hw⟩ :=
        h.incoming_lifted hbound hx
      exact ⟨_, hexec, hself, hother, hroll, hrolls, hidle, houtcome, hextend, hknife, hltr, hhalts, hlots, hpanels, hline, hw⟩
    · obtain ⟨hself, ⟨hroll, hrolls⟩, ⟨halert, htrip, hgov, href⟩, hidle, houtcome, hin, hline, hw⟩ := h.feeding_lifted hbound hx
      exact ⟨_, hexec, hself, hroll, hrolls, halert, htrip, hgov, href, hidle, houtcome, hin, hline, hw⟩
  · refine completes_of_rising hrise ?_
    rw [inputRise_coreNear, coreNearRise_sets (s := s.settled x.coreNear true) hactive hbound hclear (settled_asserted_self s _ true)]
    exact autoSpliceTest_off hoff
  · have hexec := exec_rising hrise
    obtain ⟨hactive', hbound'⟩ := expired_active (s := s.settled x.coreNear true) hactive hbound
    rw [inputRise_coreNear, coreNearRise_sets (s := s.settled x.coreNear true) hactive hbound hclear (settled_asserted_self s _ true),
      autoSpliceTest_attempts (s := (s.settled x.coreNear true).expired r) hauto hrun hphase hactive' hbound' rfl hspent hprepared] at hexec
    obtain ⟨hrequested, hroll, hlow, hcases⟩ := attemptAutoSplice_spec hactive' hbound' hphase
    have hraised : ((s.settled x.coreNear true).expired r).hasAlert .rollLow = true := by
      rw [State.expired, hasAlert_raiseAlert]
      exact Bool.or_true _
    refine ⟨_, _, hexec, by simpa using hrequested, (roll?_congr (by simp) _).trans hroll, rfl, rfl,
      (hasAlert_endAct _ _).trans (hlow hraised), hcases.imp (fun h => ?_) fun h => ?_⟩
    · obtain ⟨hmatching, hstation⟩ := h
      exact ⟨by simpa using hmatching, (station_endAct _ _).trans hstation⟩
    · obtain ⟨hidle, houtcome, hfailed⟩ := h
      exact ⟨by simpa using hidle, by simpa using houtcome, (hasAlert_endAct _ _).trans hfailed⟩
  · refine completes_of_rising hrise ?_
    rw [inputRise_coreNear]
    exact coreNearRise_quiet hquiet

end Sys2Proof.Machine
end

section
/-! SUPPORT. CLOSE by the slot it finds (O52): what each slot answers, and the refusals of a commit. -/

namespace Sys2Proof.Machine

variable {s u : State} {p : Port}

/-! ### The slot found -/

/-- CLOSE without operands is the request itself. -/
theorem answerClose_nil (p : Port) (s : State) : answerClose p [] s = s.close p := rfl

/-- The slot set replaces the inactivity timer the request restarted (R184). -/
theorem setSlot_restartInactivity (s : State) (p : Port) (v : Slot) : (s.restartInactivity p).setSlot p v = s.setSlot p v := by
  cases p <;> rfl

theorem close_of_empty (h : s.slot p = .empty) : s.close p = (s, say .notOpen) := by
  unfold State.close
  rw [h]
  rfl

theorem close_of_lost {t : Table} {k : Nat} (h : s.slot p = .lost t k) : s.close p = (s.setSlot p .empty, say .gone) := by
  unfold State.close
  rw [h]
  rfl

theorem close_of_read {t : Table} {k : Nat} (h : s.slot p = .read t k) : s.close p = done (s.setSlot p .empty) := by
  unfold State.close State.endOpen
  rw [h]

theorem close_of_unstaged {k : Nat} {st : Staging} (h : s.slot p = .write k st) (hempty : st.isEmpty = true) :
    s.close p = done (s.endOpen p).endAct := by
  unfold State.close State.closeSlot
  rw [h]
  dsimp only
  rw [if_pos hempty]

theorem close_of_refusal {k : Nat} {st : Staging} {r : Reply} (h : s.slot p = .write k st) (hstaged : st.isEmpty = false)
    (hcommit : s.commit p k st = .error r) : s.close p = (s, r) := by
  unfold State.close State.closeSlot
  rw [h]
  dsimp only
  rw [hstaged, if_neg Bool.false_ne_true, hcommit]

theorem endOpen_of_committed {k : Nat} {st : Staging} (h : s.slot p = .write k st) (hnew : s.neverCommitted st.table k = false) :
    s.endOpen p = s.setSlot p .empty := by
  have hnew' : (s.setSlot p .empty).neverCommitted st.table k = false := by
    rw [← hnew]
    cases p <;> rfl
  unfold State.endOpen
  rw [h]
  dsimp only
  rw [hnew']
  rfl

theorem endOpen_of_new {k : Nat} {st : Staging} (h : s.slot p = .write k st) (hnew : s.neverCommitted st.table k = true) :
    s.endOpen p = ((s.setSlot p .empty).dropRecord st.table k).sweep := by
  have hnew' : (s.setSlot p .empty).neverCommitted st.table k = true := by
    rw [← hnew]
    cases p <;> rfl
  unfold State.endOpen
  rw [h]
  dsimp only
  rw [if_pos hnew']

/-! ### A record removed (R31, R43, R51, R79) -/

theorem recordExists_congr {s t : State} (h : t.rst = s.rst) (tb : Table) (k : Nat) : t.recordExists tb k = s.recordExists tb k := by
  unfold State.recordExists State.pattern? State.class? State.roll? State.lot? State.panel?
  rw [h]

/-- A record never committed is gone from its table once it is dropped. -/
theorem dropRecord_gone {tb : Table} {k : Nat} (hnew : s.neverCommitted tb k = true) : (s.dropRecord tb k).recordExists tb k = false := by
  have hgone {α : Type} (key : α → Nat) (l : List α) : ((dropKey key k l).find? fun y => key y == k).isSome = false := by
    rw [find?_dropKey_self]
    rfl
  cases tb with
  | pattern => exact hgone Pattern.number s.rst.patterns
  | cls => exact hgone FabricClass.number s.rst.classes
  | roll => exact hgone Roll.tag s.rst.rolls
  | lot => exact hgone Lot.number s.rst.lots
  | panel => cases hnew
  | line => cases hnew

/-- A slot EMPTY, without a timer, stays so where other records' slots are swept (R185). -/
theorem sweep_port_of_empty (h : s.slot p = .empty) : s.sweep.slot p = .empty ∧ (s.sweep.port p).inactivity = none := by
  cases p with
  | sup =>
    have h' : s.lnk.sup.slot = .empty := h
    exact ⟨by show s.sweepSlot s.lnk.sup.slot = _; rw [h']; rfl, by show (s.sweepSlot s.lnk.sup.slot).timer = _; rw [h']; rfl⟩
  | pen =>
    have h' : s.lnk.pen.slot = .empty := h
    exact ⟨by show s.sweepSlot s.lnk.pen.slot = _; rw [h']; rfl, by show (s.sweepSlot s.lnk.pen.slot).timer = _; rw [h']; rfl⟩

theorem endOpen_removes {k : Nat} {st : Staging} (h : s.slot p = .write k st) (hnew : s.neverCommitted st.table k = true) :
    (s.endOpen p).recordExists st.table k = false ∧ (s.endOpen p).slot p = .empty ∧ ((s.endOpen p).port p).inactivity = none := by
  have hnew' : (s.setSlot p .empty).neverCommitted st.table k = true := by
    rw [← hnew]
    cases p <;> rfl
  have hslot : ((s.setSlot p .empty).dropRecord st.table k).slot p = .empty := by
    have hlnk : ((s.setSlot p .empty).dropRecord st.table k).lnk = (s.setSlot p .empty).lnk := by simp
    rw [← slot_setSlot_self s p .empty]
    cases p
    · exact congrArg (fun l : Lnk => l.sup.slot) hlnk
    · exact congrArg (fun l : Lnk => l.pen.slot) hlnk
  rw [endOpen_of_new h hnew]
  exact ⟨(recordExists_congr (by simp) _ _).trans (dropRecord_gone hnew'), sweep_port_of_empty hslot⟩

/-! ### The refusal of a commit -/

/-- The refusal of a commit by the rule of its table, if it is refused (R192). -/
def State.commitRefusal (s : State) (p : Port) (k : Nat) : Staging → Option Reply
  | .pattern g => (s.pattern? k).elim (some (say .gone)) (s.patternRefusal · g)
  | .cls g => (s.class? k).elim (some (say .gone)) (·.refusal g)
  | .roll g => (s.roll? k).elim (some (say .gone)) (s.rollRefusal · g)
  | .lot g => (s.lot? k).elim (some (say .gone)) (s.lotRefusal · g)
  | .panel _ => (s.panel? (panelKeyOf k)).elim (some (say .gone)) fun _ => none
  | .line g => s.lineRefusal p g

/-- A commit is an error exactly where it is refused, and with that refusal. -/
theorem commit_eq_error {k : Nat} {st : Staging} {r : Reply} : s.commit p k st = .error r ↔ s.commitRefusal p k st = some r := by
  cases st with
  | pattern g =>
    simp only [State.commit, State.commitPattern, State.commitRefusal]
    cases s.pattern? k with
    | none => simp
    | some q => cases hr : s.patternRefusal q g <;> simp [hr]
  | cls g =>
    simp only [State.commit, State.commitClass, State.commitRefusal]
    cases s.class? k with
    | none => simp
    | some q => cases hr : q.refusal g <;> simp [hr]
  | roll g =>
    simp only [State.commit, State.commitRoll, State.commitRefusal]
    cases s.roll? k with
    | none => simp
    | some q => cases hr : s.rollRefusal q g <;> simp [hr]
  | lot g =>
    simp only [State.commit, State.commitLot, State.commitRefusal]
    cases s.lot? k with
    | none => simp
    | some q => cases hr : s.lotRefusal q g <;> simp [hr]
  | panel g =>
    simp only [State.commit, State.commitPanel, State.commitRefusal]
    cases s.panel? (panelKeyOf k) <;> simp
  | line g =>
    simp only [State.commit, State.commitLine, State.commitRefusal]
    cases hr : s.lineRefusal p g <;> simp

/-- The checks of a commit read no port. -/
theorem commitRefusal_restartInactivity (s : State) (p : Port) (k : Nat) (st : Staging) :
    (s.restartInactivity p).commitRefusal p k st = s.commitRefusal p k st := by
  obtain ⟨l, hl⟩ := restartInactivity_lnk s p
  rw [hl]
  cases st <;> rfl

theorem commit_error_restartInactivity {k : Nat} {st : Staging} {r : Reply} (h : s.commit p k st = .error r) :
    (s.restartInactivity p).commit p k st = .error r := by
  rw [commit_eq_error, commitRefusal_restartInactivity]
  exact commit_eq_error.mp h

/-- CLOSE of a commit refused answers the refusal and changes nothing (R192). -/
theorem closeRecord_of_refusal {k : Nat} {st : Staging} {r : Reply} (hears : s.hears p = true) (hslot : s.slot p = .write k st)
    (hstaged : st.isEmpty = false) (hrefusal : s.commitRefusal p k st = some r) : Yields (.closeRecord p []) s (s.answered p r) := by
  have hcommit := commit_error_restartInactivity (commit_eq_error.mpr hrefusal)
  exact congrArg Host.Outcome.next (takeRequest_answered hears
    (close_of_refusal ((slot_restartInactivity s p p).trans hslot) hstaged hcommit))

end Sys2Proof.Machine
end

section
/-! SUPPORT. CLOSE of an accepted commit (O52): what it leaves of a panel, of the Line record's set speed and of a lot's hold. -/

namespace Sys2Proof.Machine

variable {s u e : State} {p : Port}

/-- The state with a port's open ended and OK on its way, and nothing else done. -/
def State.ended (s : State) (p : Port) : State := (s.setSlot p .empty).setReceiver p (.answering [0x00#8])

theorem closedWith_unregulated (u : State) (p : Port) : (u.closedWith p).unregulated = (u.ended p).unregulated := by
  unfold State.closedWith State.ended
  rw [unregulated_setReceiver, endAct_unregulated, ← unregulated_setReceiver]
  rfl

/-- An accepted commit whose effect leaves the ports alone. -/
theorem completes_of_commit {k : Nat} {st : Staging} (hears : s.hears p = true) (hslot : s.slot p = .write k st)
    (hstaged : st.isEmpty = false) (hcommit : (s.restartInactivity p).commit p k st = .ok u)
    (hu : u.setSlot p .empty = e.setSlot p .empty) : Completes (.closeRecord p []) s (e.ended p) := by
  refine ⟨_, closeRecord_of_commit hears hslot hstaged hcommit, ?_⟩
  rw [closedWith_unregulated]
  exact congrArg (fun v : State => (v.setReceiver p (.answering [0x00#8])).unregulated) hu

/-! ### The Line record's set speed (R72, R174) -/

/-- The set speed written, and the tension lock cleared where it changes. -/
def State.spedTo (s : State) (n : Nat) : State :=
  let s1 := { s with rst := { s.rst with line := { s.rst.line with setSpeed := n } } }
  if n = s.rst.line.setSpeed then s1
  else { s1 with fsu := { s.fsu with locked := false, lockCount := s.fsu.lockCount.map fun _ => 0, lossWatch := none } }

theorem lineRefusal_setSpeed {n : Nat} (hkey : p = .sup ∨ s.asserted .key = true) : s.lineRefusal p { setSpeed := some n } = none := by
  have hopen : ¬ (p = .pen ∧ (some n).isSome = true ∧ s.keyLocal = false) := by
    rintro ⟨hpen, -, hlocal⟩
    rcases hkey with hsup | hkey
    · rw [hpen] at hsup
      cases hsup
    · rw [State.keyLocal, hkey] at hlocal
      cases hlocal
  unfold State.lineRefusal
  exact if_neg hopen

theorem commit_setSpeed {k n : Nat} (hkey : p = .sup ∨ s.asserted .key = true) :
    s.commit p k (.line { setSpeed := some n }) = .ok (s.spedTo n) := by
  have hwritten : s.rst.line.written { setSpeed := some n } = { s.rst.line with setSpeed := n } := by
    simp [LineRecord.written, inView, LineStage.setOnce]
  have hcommitted : ({ s with rst := { s.rst with line := { s.rst.line with setSpeed := n } } } : State).lineCommitted s.rst.line
      { setSpeed := some n } = s.spedTo n := by
    unfold State.lineCommitted State.spedTo State.heatCommitted
    by_cases hn : n = s.rst.line.setSpeed
    · simp [State.when, hn]
    · simp [State.when, hn, Ne.symm hn, State.clearTension]
  simp only [State.commit, State.commitLine, lineRefusal_setSpeed hkey, hwritten, hcommitted]

/-! ### A lot's hold (R80) -/

theorem lotRefusal_held {l : Lot} {v : Bool} (hpattern : l.pattern.isSome = true) (hcls : l.cls.isSome = true)
    (hordered : l.ordered.isSome = true) : s.lotRefusal l { held := some v } = none := by
  obtain ⟨a, ha⟩ := Option.isSome_iff_exists.mp hpattern
  obtain ⟨b, hb⟩ := Option.isSome_iff_exists.mp hcls
  obtain ⟨c, hc⟩ := Option.isSome_iff_exists.mp hordered
  simp [State.lotRefusal, firstRefusal, LotStage.locked, inView, State.belowEntered, State.badPlace, ha, hb, hc]

theorem commit_held {k : Nat} {l : Lot} {v : Bool} (hlot : s.lot? k = some l) (hpattern : l.pattern.isSome = true)
    (hcls : l.cls.isSome = true) (hordered : l.ordered.isSome = true) :
    s.commit p k (.lot { held := some v }) = .ok (s.putLot (l.written { held := some v })).settleCounts := by
  simp [State.commit, State.commitLot, hlot, lotRefusal_held hpattern hcls hordered, State.placeCommitted, State.orderedCommitted]

theorem written_held {l : Lot} {v : Bool} (hstate : l.state ≠ .new) :
    (l.written { held := some v }).held = v ∧ (l.written { held := some v }).state = l.state ∧
      (l.written { held := some v }).number = l.number := by
  simp [Lot.written, Lot.replan, hstate]

theorem closeRecord_holds {k : Nat} {l : Lot} {v : Bool} (hears : s.hears p = true) (hslot : s.slot p = .write k (.lot { held := some v }))
    (hlot : s.lot? k = some l) (hstate : l.state ≠ .new) (hpattern : l.pattern.isSome = true) (hcls : l.cls.isSome = true)
    (hordered : l.ordered.isSome = true) : ∃ t l', exec (.closeRecord p []) s = .next t ∧ t.says p .ok ∧
      t.slot p = .empty ∧ t.lot? k = some l' ∧ l'.held = v ∧ l'.state = l.state ∧ t.rst.order = s.rst.order ∧
      t.rst.panels = s.rst.panels ∧ t.rst.rolls = s.rst.rolls ∧ t.fsu.w = s.fsu.w ∧ t.exu = s.exu ∧ t.ltr = s.ltr := by
  have hlot' : (s.restartInactivity p).lot? k = some l := (lot?_congr (by simp) k).trans hlot
  obtain ⟨hheld, hkept, hnumber⟩ := written_held (v := v) hstate
  have hcommit := commit_held (p := p) (v := v) hlot' hpattern hcls hordered
  have hfound : (((s.restartInactivity p).putLot (l.written { held := some v })).settleCounts.closedWith p).lot? k =
      some (l.written { held := some v }) := by
    have hself : ((s.restartInactivity p).putLot (l.written { held := some v })).lot? k = some (l.written { held := some v }) := by
      rw [← lot?_number hlot, ← hnumber]
      exact lot?_putLot_self _ _
    rw [← hself]
    exact lot?_congr (by simp [State.closedWith]) k
  refine ⟨_, _, closeRecord_of_commit hears hslot rfl hcommit, closedWith_says _ p, closedWith_slot _ p, hfound, hheld, hkept, ?_⟩
  simp [State.closedWith]

/-! ### The statement -/

theorem commit_panel {k : Nat} {v : Bool} {q : Panel} (hpanel : s.panel? (panelKeyOf k) = some q) :
    s.commit p k (.panel { reject := some v }) = .ok (s.changePanel q.key fun x => { x with reject := v }) := by
  simp [State.commit, State.commitPanel, hpanel]

/-- Settles O52: by the slot found, and by the staged fields. -/
theorem closeCommitsTheStagedFields : Obligations.CloseCommitsTheStagedFields := by
  unfold Obligations.CloseCommitsTheStagedFields
  intro p s hears
  have hslot' {v : Slot} (h : s.slot p = v) : (s.restartInactivity p).slot p = v := (slot_restartInactivity s p p).trans h
  have hdone {u : State} (h : (s.restartInactivity p).close p = done u) :
      Yields (.closeRecord p []) s (u.setReceiver p (.answering [0x00#8])) := congrArg Host.Outcome.next (takeRequest_done hears h)
  refine ⟨fun hslot => ?_, fun t k hslot => ?_, fun t k hslot => ?_, fun k st hslot hempty hold => ?_, fun k st hslot hempty hnew => ?_,
    fun k st r hslot hstaged hcommit => ?_, fun k v q hslot hpanel => ?_, fun k n hslot hkey => ?_,
    fun k v l hslot hlot hstate hpattern hcls hordered => ?_⟩
  · exact congrArg Host.Outcome.next (takeRequest_answered hears (close_of_empty (hslot' hslot)))
  · refine congrArg Host.Outcome.next ((State.takeRequest_taken (answerClose p []) hears).trans ?_)
    rw [answerClose_nil, close_of_lost (hslot' hslot), setSlot_restartInactivity]
    rfl
  · have hyields := hdone (close_of_read (hslot' hslot))
    rwa [setSlot_restartInactivity] at hyields
  · have hyields := hdone (close_of_unstaged (hslot' hslot) hempty)
    have hold' : (s.restartInactivity p).neverCommitted st.table k = false := by
      rw [← hold]
      cases p <;> rfl
    rw [endOpen_of_committed (hslot' hslot) hold', setSlot_restartInactivity] at hyields
    refine ⟨_, hyields, ?_⟩
    rw [unregulated_setReceiver, endAct_unregulated, ← unregulated_setReceiver]
  · have hyields := hdone (close_of_unstaged (hslot' hslot) hempty)
    have hnew' : (s.restartInactivity p).neverCommitted st.table k = true := by
      rw [← hnew]
      cases p <;> rfl
    obtain ⟨hgone, hended, htimer⟩ := endOpen_removes (hslot' hslot) hnew'
    generalize hu : (s.restartInactivity p).endOpen p = u at hyields hgone hended htimer
    have hport := port_setPort_self u.endAct p { u.endAct.port p with receiver := .answering [0x00#8] }
    refine ⟨_, hyields, congrArg PortState.receiver hport, ?_, ?_, (recordExists_congr (by simp) _ _).trans hgone, ?_⟩
    · exact (congrArg PortState.slot hport).trans ((congrArg PortState.slot (port_endAct u p)).trans hended)
    · exact (congrArg PortState.inactivity hport).trans ((congrArg PortState.inactivity (port_endAct u p)).trans htimer)
    · simp [← hu]
  · exact closeRecord_of_refusal hears hslot hstaged (commit_eq_error.mp hcommit)
  · have hpanel' : (s.restartInactivity p).panel? (panelKeyOf k) = some q := by
      rw [← hpanel]
      cases p <;> rfl
    exact completes_of_commit hears hslot rfl (commit_panel hpanel') (by cases p <;> rfl)
  · have hkey' : p = .sup ∨ (s.restartInactivity p).asserted .key = true := hkey.imp_right fun h => by
      rw [← h]
      cases p <;> rfl
    refine completes_of_commit hears hslot rfl (commit_setSpeed hkey') ?_
    unfold State.spedTo
    simp only [State.restartInactivity_frame]
    split <;> cases p <;> rfl
  · exact closeRecord_holds hears hslot hlot hstate hpattern hcls hordered

end Sys2Proof.Machine
end

section
/-! SUPPORT. Threading and the auto-splice test (O54, O56): the rolls and stations they leave. -/

namespace Sys2Proof.Machine

variable {s t : State} {x : Station} {r : Roll}

/-- What of a roll its place on the line decides. -/
def Roll.feed (r : Roll) : RollState × Option Station × Option Nat × Nat := (r.state, r.station, r.cls, r.remaining)

/-- A roll put back with the same feed. -/
theorem putRoll_feed {r' : Roll} (hr : s.roll? r'.tag = some r) (hfeed : r'.feed = r.feed) (tag : Nat) :
    ((s.putRoll r').roll? tag).map Roll.feed = (s.roll? tag).map Roll.feed := by
  by_cases htag : tag = r'.tag
  · rw [htag, roll?_putRoll_self, hr, Option.map_some, Option.map_some, hfeed]
  · rw [roll?_putRoll_ne s r' htag]

/-! ### Threading (R56) -/

theorem feedFrom_of_bound (h : s.boundRoll? x = some r) :
    s.feedFrom x = s.rebind x .feeding { r with state := .active, remaining := r.initLen.getD 0 } := by
  unfold State.feedFrom
  rw [h]

/-- What a threading leaves: the station FEEDING, its roll ACTIVE with its initial length, the lock UNLOCKED (R56). -/
structure Threaded (s t : State) (x : Station) (r : Roll) : Prop where
  station : t.station x = .feeding
  unlocked : t.fsu.locked = false
  roll : ∃ e, t.roll? r.tag = some { r with state := .active, remaining := r.initLen.getD 0, expiring := e }
  others : ∀ tag, tag ≠ r.tag → t.roll? tag = s.roll? tag

theorem thread_threads (hbound : s.boundRoll? x = some r) (hnone : s.activeStation = none) : Threaded s (s.thread x) x r := by
  let q : Roll := { r with state := .active, remaining := r.initLen.getD 0 }
  have hfed := feedFrom_of_bound hbound
  have hfsu : (s.feedFrom x).fsu = (s.setStation x .feeding).fsu := feedFrom_fsu s x
  have hstation (y : Station) : (s.feedFrom x).unlocked.station y = (s.setStation x .feeding).station y :=
    (station_congr rfl rfl y).trans (station_of_fsu hfsu y)
  have hrolls : (s.feedFrom x).unlocked.rst.rolls = (s.putRoll q).rst.rolls := by
    show (s.feedFrom x).rst.rolls = _
    rw [hfed, rebind_rolls]
    rfl
  have hactive : (s.feedFrom x).unlocked.ActiveIs x q := by
    refine ⟨activeStation_of_feeding ((hstation x).trans (station_setStation_self s x _)) ?_, ?_, ?_⟩
    · rw [hstation, station_setStation_other]
      exact Stationed.not_feeding_of_inactive hnone _
    · exact (boundRoll?_congr (s := s.putRoll q) hrolls x).trans (boundRoll?_putRoll hbound rfl rfl)
    · exact (roll?_congr (s := s.putRoll q) hrolls _).trans (roll?_putRoll_self s q)
  obtain ⟨hroll, hothers, -⟩ := judgeExpiring_judges hactive
  have hthread : (s.thread x).fsu = (s.feedFrom x).unlocked.fsu ∧
      (s.thread x).rst.rolls = (s.feedFrom x).unlocked.judgeExpiring.rst.rolls := by
    rw [thread_eq]
    simp
  refine ⟨(station_of_fsu hthread.1 x).trans ((hstation x).trans (station_setStation_self s x _)), by rw [hthread.1]; rfl,
    ⟨_, (roll?_congr hthread.2 _).trans hroll⟩, fun tag htag => ?_⟩
  rw [roll?_congr hthread.2, hothers tag htag, roll?_congr hrolls]
  exact roll?_putRoll_ne s q htag

theorem threadTest_threads (hrequested : s.rst.line.requested = some x)
    (h : s.activeStation = none ∧ s.sgv.gov = .stopped ∧ s.station x = .prepared) : s.threadTest = s.thread x := by
  unfold State.threadTest
  rw [hrequested]
  exact if_pos h

theorem threadTest_waits (h : ¬ (s.activeStation = none ∧ s.sgv.gov = .stopped)) : s.threadTest = s := by
  unfold State.threadTest
  split
  · rfl
  · exact if_neg fun ⟨hnone, hstopped, _⟩ => h ⟨hnone, hstopped⟩

/-! ### The auto-splice test (R61) -/

/-- What an auto-splice attempt leaves of the stations and the rolls. -/
structure AutoSpliced (s t : State) : Prop where
  on : s.rst.line.autoSplice = true
  across : ∃ y r, s.activeStation = some y ∧ s.boundRoll? y = some r ∧ s.station y.other = .prepared ∧
    t.rst.rolls = (s.putRoll { r with attemptSpent := true }).rst.rolls ∧ t.station y = s.station y ∧
    (t.station y.other = .prepared ∨ t.station y.other = .matching)

theorem attemptAutoSplice_rolls {y : Station} (hactive : s.activeStation = some y) (hbound : s.boundRoll? y = some r)
    (hprepared : s.station y.other = .prepared) :
    s.attemptAutoSplice.rst.rolls = (s.putRoll { r with attemptSpent := true }).rst.rolls ∧
      s.attemptAutoSplice.station y = s.station y ∧
      (s.attemptAutoSplice.station y.other = .prepared ∨ s.attemptAutoSplice.station y.other = .matching) := by
  unfold State.attemptAutoSplice
  rw [activeRoll?_eq_some.mpr ⟨y, hactive, hbound⟩, hactive]
  dsimp only
  generalize hu : ({ s with rst := { s.rst with line := { s.rst.line with requested := some y.other } } } : State).putRoll
    { r with attemptSpent := true } = u
  have hrequested : u.rst.line.requested = some y.other := hu ▸ rfl
  have hrolls : u.rst.rolls = (s.putRoll { r with attemptSpent := true }).rst.rolls := hu ▸ rfl
  have hstation (z : Station) : u.station z = s.station z := hu ▸ station_congr rfl rfl z
  split
  · exact ⟨hrolls, hstation y, Or.inl ((hstation _).trans hprepared)⟩
  · rw [beginSplice_eq hrequested]
    have hbegun (z : Station) : (u.spliceBegun y.other).station z = (u.setStation y.other .matching).station z :=
      station_congr rfl rfl z
    refine ⟨(setStation_rolls u y.other .matching).trans hrolls, ?_, Or.inr ((hbegun _).trans (station_setStation_self u y.other _))⟩
    rw [hbegun, station_setStation_ne u _ (Ne.symm (Station.other_ne y))]
    exact hstation y

theorem autoSpliceTest_cases (s : State) : s.autoSpliceTest = s ∨ AutoSpliced s s.autoSpliceTest := by
  by_cases hready : s.autoSpliceReady = true
  · have htest : s.autoSpliceTest = s.attemptAutoSplice := if_pos hready
    rw [htest]
    right
    unfold State.autoSpliceReady at hready
    split at hready
    · rename_i y r hactive hroll
      obtain ⟨z, hactive', hbound⟩ := activeRoll?_eq_some.mp hroll
      obtain rfl : y = z := Option.some.inj (hactive.symm.trans hactive')
      simp only [Bool.and_eq_true, beq_iff_eq] at hready
      obtain ⟨⟨⟨hauto, -⟩, -⟩, ⟨-, -⟩, hprepared⟩ := hready
      exact ⟨hauto, y, r, hactive, hbound, hprepared, attemptAutoSplice_rolls hactive hbound hprepared⟩
    · simp at hready
  · exact Or.inl (if_neg hready)

end Sys2Proof.Machine
end

section
/-! SUPPORT. The checks of a roll's commit (O54), each as the statement names it. -/

namespace Sys2Proof.Machine

variable {s : State} {r : Roll} {st : RollStage}

/-! ### Checks in order -/

theorem firstRefusal_cons_true (e : Reply) (rest : List (Bool × Reply)) : firstRefusal ((true, e) :: rest) = some e := rfl

theorem firstRefusal_cons_false (e : Reply) (rest : List (Bool × Reply)) :
    firstRefusal ((false, e) :: rest) = firstRefusal rest := rfl

/-! ### What each check of R49 asks -/

/-- A field past DECLARED is staged (R49, check 1). -/
def Roll.locks (r : Roll) (st : RollStage) : Prop :=
  ¬ (r.state = .new ∨ r.state = .declared) ∧ (st.cls ≠ none ∨ st.initLen ≠ none ∨ st.intended ≠ none)

/-- The roll's state refuses the staged leader value (R50, R71). -/
def State.leaderWrong (s : State) (r : Roll) (st : RollStage) : Prop :=
  st.leaderReady = some true ∧ (r.state = .new ∨ r.state = .declared) ∨
    st.leaderReady ≠ none ∧ (r.state = .active ∨ r.state = .spent) ∨
    st.leaderReady = some false ∧ r.state = .prepared ∧ s.fsu.phase = .press ∧
      ∃ x, r.station = some x ∧ (s.station x = .matching ∨ s.station x = .matched)

/-- The class is DEFINED (R49, check 5). -/
def State.classDefined (s : State) (cls : Option Nat) : Prop := ∃ c d, cls = some c ∧ s.class? c = some d ∧ d.state = .defined

/-- Another DECLARED roll has the station (R49, check 6). -/
def State.stationTaken (s : State) (r : Roll) (intended : Option Station) : Prop :=
  ∃ x, intended = some x ∧ ∃ q ∈ s.rst.rolls, q.tag ≠ r.tag ∧ q.state = .declared ∧ q.intended = some x

theorem locks_iff : (!r.open && st.locked) = true ↔ r.locks st := by
  simp [Roll.open, RollStage.locked, Roll.locks, Option.isSome_iff_ne_none, or_assoc]

theorem stationMatching_iff (y : Option Station) :
    s.stationMatching y = true ↔ ∃ x, y = some x ∧ (s.station x = .matching ∨ s.station x = .matched) := by
  cases y <;> simp [State.stationMatching]

theorem leaderWrong_iff : st.leaderReady.any (s.leaderRefused r) = true ↔ s.leaderWrong r st := by
  unfold State.leaderWrong
  cases hleader : st.leaderReady with
  | none => simp
  | some v => cases hstate : r.state <;> cases v <;> simp [State.leaderRefused, stationMatching_iff, hstate, and_comm]

theorem classDefined_iff (cls : Option Nat) : (cls.bind s.definedClass?).isNone = false ↔ s.classDefined cls := by
  unfold State.classDefined
  cases cls with
  | none => simp
  | some c =>
    cases hclass : s.class? c with
    | none => simp [State.definedClass?, hclass]
    | some d => by_cases hd : d.state = .defined <;> simp [State.definedClass?, hclass, hd]

theorem stationTaken_iff (intended : Option Station) : s.intendedTaken r.tag intended = true ↔ s.stationTaken r intended := by
  unfold State.stationTaken
  cases intended with
  | none => simp [State.intendedTaken]
  | some x => simp [State.intendedTaken, and_assoc]

/-! ### The refusal, check by check -/

theorem rollRefusal_locked (h : r.locks st) : s.rollRefusal r st = some (say .locked) := by
  unfold State.rollRefusal
  rw [locks_iff.mpr h, firstRefusal_cons_true]

/-- The checks past the first two. -/
theorem rollRefusal_past (hlocked : ¬ r.locks st) (hwrong : ¬ s.leaderWrong r st) : s.rollRefusal r st = firstRefusal
    [((inView st.cls r.cls).isNone, invalid 0x01 0), ((inView st.initLen r.initLen).isNone, invalid 0x02 0),
     ((((inView st.cls r.cls).bind s.definedClass?).isNone), invalid 0x01 0),
     (s.intendedTaken r.tag (st.intended.getD r.intended), invalid 0x03 0)] := by
  unfold State.rollRefusal
  rw [Bool.eq_false_iff.mpr (locks_iff.not.mpr hlocked), firstRefusal_cons_false,
    Bool.eq_false_iff.mpr (leaderWrong_iff.not.mpr hwrong), firstRefusal_cons_false]

theorem rollRefusal_wrong (hlocked : ¬ r.locks st) (hwrong : s.leaderWrong r st) : s.rollRefusal r st = some (say .wrongState) := by
  unfold State.rollRefusal
  rw [Bool.eq_false_iff.mpr (locks_iff.not.mpr hlocked), firstRefusal_cons_false, leaderWrong_iff.mpr hwrong, firstRefusal_cons_true]

theorem rollRefusal_noClass (hlocked : ¬ r.locks st) (hwrong : ¬ s.leaderWrong r st) (hcls : inView st.cls r.cls = none) :
    s.rollRefusal r st = some (invalid 0x01 0) := by
  rw [rollRefusal_past hlocked hwrong, hcls]
  rfl

theorem rollRefusal_noLength (hlocked : ¬ r.locks st) (hwrong : ¬ s.leaderWrong r st) (hcls : inView st.cls r.cls ≠ none)
    (hlen : inView st.initLen r.initLen = none) : s.rollRefusal r st = some (invalid 0x02 0) := by
  obtain ⟨c, hc⟩ := Option.ne_none_iff_exists'.mp hcls
  rw [rollRefusal_past hlocked hwrong, hc, hlen]
  rfl

/-- The checks past the first four. -/
theorem rollRefusal_set (hlocked : ¬ r.locks st) (hwrong : ¬ s.leaderWrong r st) (hcls : inView st.cls r.cls ≠ none)
    (hlen : inView st.initLen r.initLen ≠ none) : s.rollRefusal r st = firstRefusal
      [((((inView st.cls r.cls).bind s.definedClass?).isNone), invalid 0x01 0),
       (s.intendedTaken r.tag (st.intended.getD r.intended), invalid 0x03 0)] := by
  obtain ⟨c, hc⟩ := Option.ne_none_iff_exists'.mp hcls
  obtain ⟨n, hn⟩ := Option.ne_none_iff_exists'.mp hlen
  rw [rollRefusal_past hlocked hwrong, hc, hn]
  rfl

theorem classDefined_ne_none {cls : Option Nat} (h : s.classDefined cls) : cls ≠ none := by
  obtain ⟨c, -, rfl, -⟩ := h
  simp

theorem rollRefusal_undefined (hlocked : ¬ r.locks st) (hwrong : ¬ s.leaderWrong r st) (hcls : inView st.cls r.cls ≠ none)
    (hlen : inView st.initLen r.initLen ≠ none) (hdefined : ¬ s.classDefined (inView st.cls r.cls)) :
    s.rollRefusal r st = some (invalid 0x01 0) := by
  rw [rollRefusal_set hlocked hwrong hcls hlen, eq_true_of_ne_false ((classDefined_iff _).not.mpr hdefined), firstRefusal_cons_true]

theorem rollRefusal_taken (hlocked : ¬ r.locks st) (hwrong : ¬ s.leaderWrong r st) (hlen : inView st.initLen r.initLen ≠ none)
    (hdefined : s.classDefined (inView st.cls r.cls)) (htaken : s.stationTaken r (st.intended.getD r.intended)) :
    s.rollRefusal r st = some (invalid 0x03 0) := by
  rw [rollRefusal_set hlocked hwrong (classDefined_ne_none hdefined) hlen, (classDefined_iff _).mpr hdefined,
    firstRefusal_cons_false, (stationTaken_iff _).mpr htaken, firstRefusal_cons_true]

theorem rollRefusal_none (hlocked : ¬ r.locks st) (hwrong : ¬ s.leaderWrong r st) (hlen : inView st.initLen r.initLen ≠ none)
    (hdefined : s.classDefined (inView st.cls r.cls)) (htaken : ¬ s.stationTaken r (st.intended.getD r.intended)) :
    s.rollRefusal r st = none := by
  rw [rollRefusal_set hlocked hwrong (classDefined_ne_none hdefined) hlen, (classDefined_iff _).mpr hdefined,
    firstRefusal_cons_false, Bool.eq_false_iff.mpr ((stationTaken_iff _).not.mpr htaken)]
  rfl

end Sys2Proof.Machine
end

section
/-! SUPPORT. A roll's commit accepted (O54): what it leaves, by the roll's state and the staged leader value. -/

namespace Sys2Proof.Machine

variable {s t : State} {x : Station} {r q : Roll} {st : RollStage}

/-! ### The commit -/

/-- The state after a roll's commit that is not refused (R49, R50). -/
def State.rollCommitted (s : State) (r : Roll) (st : RollStage) : State :=
  ((s.putRoll (r.written st)).settleCounts.leaderCommitted (r.written st) st.leaderReady).bindCommitted (r.written st)

theorem commit_roll {p : Port} {k : Nat} (hroll : s.roll? k = some r) (hrefusal : s.rollRefusal r st = none) :
    s.commit p k (.roll st) = .ok (s.rollCommitted r st) := by
  simp [State.commit, State.commitRoll, hroll, hrefusal, State.rollCommitted]

/-- The roll left in the table of `t` in the place of `r` with the fields written, and the rest of the line as it was. -/
structure RollKept (s t : State) (r r' : Roll) (st : RollStage) : Prop where
  found : t.roll? r.tag = some r'
  fields : r'.cls = inView st.cls r.cls ∧ r'.initLen = inView st.initLen r.initLen ∧ r'.intended = st.intended.getD r.intended ∧
    r'.leaderReady = st.leaderReady.getD r.leaderReady
  others : ∀ tag, tag ≠ r.tag → (t.roll? tag).map Roll.feed = (s.roll? tag).map Roll.feed
  kept : t.fsu.w = s.fsu.w ∧ t.exu = s.exu ∧ t.inputs = s.inputs

/-- A roll of the same tag and the written fields put in the place of `r`. -/
theorem RollKept.of_rolls {r' : Roll} (hrolls : t.rst.rolls = (s.putRoll r').rst.rolls) (htag : r'.tag = r.tag)
    (hfields : r'.cls = (r.written st).cls ∧ r'.initLen = (r.written st).initLen ∧ r'.intended = (r.written st).intended ∧
      r'.leaderReady = (r.written st).leaderReady)
    (hkept : t.fsu.w = s.fsu.w ∧ t.exu = s.exu ∧ t.inputs = s.inputs) : RollKept s t r r' st := by
  refine ⟨?_, hfields, fun tag hne => ?_, hkept⟩
  · rw [roll?_congr hrolls, ← htag]
    exact roll?_putRoll_self s r'
  · rw [roll?_congr hrolls, roll?_putRoll_ne s r' (htag ▸ hne)]

/-- The roll written and the counts settled: the rolls and all that is no record stand as the writing left them. -/
theorem writtenState_rolls (s : State) (q : Roll) : (s.putRoll q).settleCounts.rst.rolls = (s.putRoll q).rst.rolls := by simp

/-- A second roll of the same tag takes the place of the first. -/
theorem putRoll_putRoll_rolls {q' : Roll} (hrolls : t.rst.rolls = (s.putRoll q).rst.rolls) (htag : q'.tag = q.tag) :
    (t.putRoll q').rst.rolls = (s.putRoll q').rst.rolls := by
  show upsert Roll.tag q' t.rst.rolls = upsert Roll.tag q' s.rst.rolls
  rw [hrolls]
  exact upsert_upsert htag

theorem written_len (h : r.state ≠ .active ∧ r.state ≠ .spent) (st : RollStage) :
    (r.written st).remaining = (inView st.initLen r.initLen).getD 0 := if_neg (not_or.mpr h)

theorem written_state (h : r.state ≠ .new) (st : RollStage) : (r.written st).state = r.state := if_neg h

theorem written_state_early (h : r.state = .new ∨ r.state = .declared) (st : RollStage) : (r.written st).state = .declared := by
  rcases h with h | h <;> simp [Roll.written, h]

/-! ### NEW and DECLARED (R49) -/

theorem bindCommitted_binds (hstate : r.state = .declared) (hintended : r.intended = some x)
    (hfree : s.station x = .seated ∧ s.boundRoll? x = none) : s.bindCommitted r = s.bindRoll x r := by
  unfold State.bindCommitted
  rw [hstate, hintended]
  exact if_pos ⟨hfree.1, by rw [hfree.2]; rfl⟩

theorem bindCommitted_leaves (h : ∀ x, r.intended = some x → ¬ (s.station x = .seated ∧ s.boundRoll? x = none)) :
    s.bindCommitted r = s := by
  unfold State.bindCommitted
  split
  · rename_i x _ hintended
    exact if_neg fun ⟨hseated, hnone⟩ => h x hintended ⟨hseated, Option.isNone_iff_eq_none.mp hnone⟩
  · rfl

/-- What a commit makes of a roll NEW or DECLARED (R49, R53). -/
structure RollDeclared (s t : State) (r' : Roll) : Prop where
  stations : t.fsu.staA = s.fsu.staA ∧ t.fsu.staB = s.fsu.staB
  place : (∃ x, r'.intended = some x ∧ s.station x = .seated ∧ s.boundRoll? x = none ∧ r'.state = .mounted ∧ r'.station = some x) ∨
    (∀ x, r'.intended = some x → ¬ (s.station x = .seated ∧ s.boundRoll? x = none)) ∧ r'.state = .declared ∧ r'.station = none

theorem rollCommitted_declared (h : Stationed s) (hr : r ∈ s.rst.rolls) (hstate : r.state = .new ∨ r.state = .declared) :
    ∃ r', RollKept s (s.rollCommitted r st) r r' st ∧ r'.remaining = (inView st.initLen r.initLen).getD 0 ∧
      RollDeclared s (s.rollCommitted r st) r' := by
  have hdeclared := written_state_early hstate st
  have hlen : (r.written st).remaining = (inView st.initLen r.initLen).getD 0 :=
    written_len (by rcases hstate with hstate | hstate <;> simp [hstate]) st
  have hoff := (h.1.unplaced hr hstate).1
  obtain ⟨w, hw⟩ : ∃ w, w = (s.putRoll (r.written st)).settleCounts := ⟨_, rfl⟩
  have hrolls : w.rst.rolls = (s.putRoll (r.written st)).rst.rolls := hw ▸ writtenState_rolls s _
  have hfsu : w.fsu = s.fsu := by simp [hw]
  have hkept : w.exu = s.exu ∧ w.inputs = s.inputs := by simp [hw]
  have hcommitted : s.rollCommitted r st = w.bindCommitted (r.written st) := by
    rw [State.rollCommitted, leaderCommitted_of_declared hdeclared, hw]
  have hfree (x : Station) : w.boundRoll? x = none ↔ s.boundRoll? x = none := by
    rw [boundRoll?_eq_none, boundRoll?_eq_none, hrolls]
    have hmem (z : Roll) : z ∈ (s.putRoll (r.written st)).rst.rolls ↔ z = r.written st ∨ z ∈ s.rst.rolls ∧ z.tag ≠ r.tag :=
      mem_upsert_iff h.1.rising
    refine ⟨fun hnone z hz hzx => ?_, fun hnone z hz => ?_⟩
    · by_cases htag : z.tag = r.tag
      · rw [risingKeys_injective h.1.rising hz hr htag, hoff] at hzx
        cases hzx
      · exact hnone z ((hmem z).mpr (Or.inr ⟨hz, htag⟩)) hzx
    · rcases (hmem z).mp hz with rfl | ⟨hz, -⟩
      · show r.station ≠ some x
        rw [hoff]
        simp
      · exact hnone z hz
  by_cases hbinds : ∃ x, (r.written st).intended = some x ∧ s.station x = .seated ∧ s.boundRoll? x = none
  · obtain ⟨x, hintended, hseated, hnone⟩ := hbinds
    have hbound : w.bindCommitted (r.written st) = w.bindRoll x (r.written st) :=
      bindCommitted_binds hdeclared hintended ⟨(station_of_fsu hfsu x).trans hseated, (hfree x).mpr hnone⟩
    rw [hcommitted, hbound]
    refine ⟨{ r.written st with state := .mounted, station := some x }, RollKept.of_rolls (putRoll_putRoll_rolls hrolls rfl) rfl
      ⟨rfl, rfl, rfl, rfl⟩ ⟨congrArg Fsu.w hfsu, hkept⟩, hlen, ⟨congrArg Fsu.staA hfsu, congrArg Fsu.staB hfsu⟩,
      Or.inl ⟨x, hintended, hseated, hnone, rfl, rfl⟩⟩
  · have hnone (x : Station) (hintended : (r.written st).intended = some x) : ¬ (s.station x = .seated ∧ s.boundRoll? x = none) :=
      fun hboth => hbinds ⟨x, hintended, hboth⟩
    have hleft : w.bindCommitted (r.written st) = w := bindCommitted_leaves fun x hintended => by
      rw [station_of_fsu hfsu, hfree]
      exact hnone x hintended
    rw [hcommitted, hleft]
    exact ⟨r.written st, RollKept.of_rolls hrolls rfl ⟨rfl, rfl, rfl, rfl⟩ ⟨congrArg Fsu.w hfsu, hkept⟩, hlen,
      ⟨congrArg Fsu.staA hfsu, congrArg Fsu.staB hfsu⟩, Or.inr ⟨hnone, hdeclared, hoff⟩⟩

/-! ### Past DECLARED, the leader as it was (R50) -/

theorem leaderCommitted_quiet {v : Option Bool} (hready : ¬ (r.state = .mounted ∧ v = some true))
    (hnot : ¬ (r.state = .prepared ∧ v = some false)) : s.leaderCommitted r v = s := by
  unfold State.leaderCommitted
  split
  · rename_i hstate _
    exact absurd ⟨hstate, rfl⟩ hready
  · rename_i hstate _
    exact absurd ⟨hstate, rfl⟩ hnot
  · rfl

theorem rollCommitted_past (hstate : ¬ (r.state = .new ∨ r.state = .declared)) :
    s.rollCommitted r st = (s.putRoll (r.written st)).settleCounts.leaderCommitted (r.written st) st.leaderReady := by
  rw [not_or] at hstate
  refine bindCommitted_of_not_declared ?_ _
  rw [written_state hstate.1]
  exact hstate.2

theorem rollCommitted_quiet (hstate : ¬ (r.state = .new ∨ r.state = .declared))
    (hready : ¬ (r.state = .mounted ∧ st.leaderReady = some true)) (hnot : ¬ (r.state = .prepared ∧ st.leaderReady = some false)) :
    RollKept s (s.rollCommitted r st) r (r.written st) st := by
  have hwritten := written_state (not_or.mp hstate).1 st
  rw [rollCommitted_past hstate, leaderCommitted_quiet (hwritten ▸ hready) (hwritten ▸ hnot)]
  exact RollKept.of_rolls (writtenState_rolls s _) rfl ⟨rfl, rfl, rfl, rfl⟩ (by simp)

/-! ### The leader taken back (R50, R71) -/

/-- What the leader NOT_READY makes of a PREPARED roll. -/
theorem rollCommitted_unprepares (h : Stationed s) (hstate : r.state = .prepared) (hx : r.station = some x)
    (hleader : st.leaderReady = some false) (hpress : s.fsu.phase = .press → ¬ (s.station x = .matching ∨ s.station x = .matched)) :
    RollKept s (s.rollCommitted r st) r { r.written st with state := .mounted } st ∧ (s.rollCommitted r st).station x = .seated ∧
      (s.station x = .matching ∨ s.station x = .matched →
        (s.rollCommitted r st).fsu.phase = .idle ∧ (s.rollCommitted r st).fsu.outcome = .abandoned) := by
  have hwritten : (r.written st).state = .prepared := (written_state (by simp [hstate]) st).trans hstate
  obtain ⟨w, hw⟩ : ∃ w, w = (s.putRoll (r.written st)).settleCounts := ⟨_, rfl⟩
  have hrolls : w.rst.rolls = (s.putRoll (r.written st)).rst.rolls := hw ▸ writtenState_rolls s _
  have hfsu : w.fsu = s.fsu := by simp [hw]
  have hkept : w.exu = s.exu ∧ w.inputs = s.inputs := by simp [hw]
  have hcommitted : s.rollCommitted r st = w.unprepareRoll (r.written st) x := by
    have hstation : (r.written st).station = some x := hx
    rw [rollCommitted_past (by simp [hstate]), hleader, ← hw]
    simp only [State.leaderCommitted, hwritten, hstation]
  have hmatching : w.stationMatching (some x) = true ↔ s.station x = .matching ∨ s.station x = .matched := by
    rw [stationMatching_iff]
    simp [station_of_fsu hfsu]
  rw [hcommitted]
  unfold State.unprepareRoll
  by_cases hin : s.station x = .matching ∨ s.station x = .matched
  · obtain ⟨hphase, hincoming⟩ := (h.2.incoming x).mp hin
    have hphase : s.fsu.phase = .matching := hphase.resolve_right fun hp => hpress hp hin
    obtain ⟨y, hincoming', -, hfeeding⟩ := h.2.beforeJoint (Or.inl hphase)
    obtain rfl : x = y := Option.some.inj (hincoming.symm.trans hincoming')
    have hjoint : s.fsu.phase.beforeJoint = true := by simp [hphase, SplicePhase.beforeJoint]
    have hafsu : (w.abandonSplice .abandoned).fsu = (s.abandonSplice .abandoned).fsu := abandonSplice_fsu_congr hfsu _
    obtain ⟨hidle, houtcome, -⟩ := abandonSplice_ends (s := s) (by simp [hphase]) .abandoned
    rw [if_pos (hmatching.mpr hin)]
    obtain ⟨v, hv⟩ : ∃ v, v = ((w.abandonSplice .abandoned).putRoll { r.written st with state := .mounted }).setStation x .seated :=
      ⟨_, rfl⟩
    have hself : v.station x = .seated := hv ▸ station_setStation_self _ x _
    have hother : v.station x.other = .feeding := by
      rw [hv, station_setStation_other, station_of_fsu (s := s.abandonSplice .abandoned) (by simpa [State.putRoll] using hafsu),
        abandonSplice_station _ hjoint hincoming hin, station_setStation_other]
      exact hfeeding
    have hafter : v.afterSplice = v.haltIfPending := by
      refine afterSplice_of_unprepared fun y hy => ?_
      have hactive := activeStation_of_feeding (s := v) (x := x.other) hother (by rw [Station.other_other, hself]; decide)
      obtain rfl : x.other = y := Option.some.inj (hactive.symm.trans hy)
      rw [Station.other_other, hself]
      decide
    have hvphase : v.fsu.phase = .idle := by simp [hv, hafsu, hidle]
    obtain ⟨hvfsu, -⟩ := haltIfPending_idle hvphase
    have hvrolls : v.rst.rolls = (s.putRoll { r.written st with state := .mounted }).rst.rolls := by
      rw [hv, setStation_rolls]
      exact putRoll_putRoll_rolls (q := r.written st) (by simpa using hrolls) rfl
    rw [← hv, hafter]
    refine ⟨RollKept.of_rolls (by simpa using hvrolls) rfl ⟨rfl, rfl, rfl, rfl⟩ ?_, (station_of_fsu hvfsu x).trans hself, fun _ => ?_⟩
    · simp [hv, hfsu, hkept]
    · rw [hvfsu]
      simp [hv, hafsu, hidle, houtcome]
  · rw [if_neg (hmatching.not.mpr hin)]
    refine ⟨RollKept.of_rolls ?_ rfl ⟨rfl, rfl, rfl, rfl⟩ (by simp [hfsu, hkept]), station_setStation_self _ x _, fun hboth => absurd hboth hin⟩
    rw [setStation_rolls]
    exact putRoll_putRoll_rolls hrolls rfl

end Sys2Proof.Machine
end

section
/-! SUPPORT. A roll's commit accepted (O54): the leader READY, and CLOSE of a staged roll. -/

namespace Sys2Proof.Machine

variable {s t : State} {x : Station} {r q : Roll} {st : RollStage}

/-! ### The leader READY on a MOUNTED roll (R50, R56, R61) -/

theorem RollKept.of_found {u : State} (h : RollKept s u r q st) {r' : Roll} (hfound : t.roll? r.tag = some r')
    (hfields : r'.cls = q.cls ∧ r'.initLen = q.initLen ∧ r'.intended = q.intended ∧ r'.leaderReady = q.leaderReady)
    (hothers : ∀ tag, tag ≠ r.tag → (t.roll? tag).map Roll.feed = (u.roll? tag).map Roll.feed)
    (hkept : t.fsu.w = u.fsu.w ∧ t.exu = u.exu ∧ t.inputs = u.inputs) : RollKept s t r r' st := by
  obtain ⟨-, ⟨hcls, hlen, hintended, hleader⟩, hothers', hw, hexu, hinputs⟩ := h
  obtain ⟨hcls', hlen', hintended', hleader'⟩ := hfields
  obtain ⟨hw', hexu', hinputs'⟩ := hkept
  exact ⟨hfound, ⟨hcls'.trans hcls, hlen'.trans hlen, hintended'.trans hintended, hleader'.trans hleader⟩,
    fun tag hne => (hothers tag hne).trans (hothers' tag hne), hw'.trans hw, hexu'.trans hexu, hinputs'.trans hinputs⟩

/-- What the leader READY makes of a MOUNTED roll: threaded at once, or PREPARED (R50, R56). -/
structure RollReadied (s t : State) (x : Station) (r' : Roll) : Prop where
  place : r'.station = some x
  threads : s.rst.line.requested = some x ∧ s.activeStation = none ∧ s.sgv.gov = .stopped →
    r'.state = .active ∧ t.station x = .feeding ∧ t.fsu.locked = false
  waits : ¬ (s.rst.line.requested = some x ∧ s.activeStation = none ∧ s.sgv.gov = .stopped) →
    r'.state = .prepared ∧ (t.station x = .prepared ∨ s.rst.line.autoSplice = true ∧ t.station x = .matching)

/-- The auto-splice test beside a station just PREPARED. -/
theorem autoSpliceTest_prepared (hrising : risingKeys (s.rst.rolls.map (·.tag))) (hbound : s.boundRoll? x = some r)
    (hx : s.station x = .prepared) :
    s.autoSpliceTest.roll? r.tag = some r ∧
      (∀ tag, (s.autoSpliceTest.roll? tag).map Roll.feed = (s.roll? tag).map Roll.feed) ∧
      (s.autoSpliceTest.station x = .prepared ∨ s.rst.line.autoSplice = true ∧ s.autoSpliceTest.station x = .matching) := by
  have hmem := boundRoll?_mem hbound
  rcases autoSpliceTest_cases s with hsame | ⟨hon, y, ra, hactive, hboundY, -, hrolls, -, hacross⟩
  · rw [hsame]
    exact ⟨roll?_of_mem hrising hmem, fun _ => rfl, Or.inl hx⟩
  · have hne : y ≠ x := by
      rintro rfl
      rw [station_of_activeStation hactive] at hx
      cases hx
    have hother : y.other = x := by rw [Station.eq_other_of_ne hne, Station.other_other]
    have hra := boundRoll?_mem hboundY
    have htag : r.tag ≠ ra.tag := by
      intro heq
      have hsame := risingKeys_injective hrising hmem hra heq
      have hstation := (boundRoll?_station hbound).symm.trans (hsame ▸ boundRoll?_station hboundY)
      exact hne (Option.some.inj hstation).symm
    rw [hother] at hacross
    refine ⟨?_, fun tag => ?_, hacross.imp id fun hmatching => ⟨hon, hmatching⟩⟩
    · rw [roll?_congr hrolls, roll?_putRoll_ne s { ra with attemptSpent := true } htag]
      exact roll?_of_mem hrising hmem
    · rw [roll?_congr hrolls]
      exact putRoll_feed (r := ra) (r' := { ra with attemptSpent := true }) (roll?_of_mem hrising hra) rfl tag

theorem leaderCommitted_readies (hstate : r.state = .mounted) (hx : r.station = some x) :
    s.leaderCommitted r (some true) = s.prepareRoll r x := by
  simp only [State.leaderCommitted, hstate, hx]

theorem rollCommitted_prepares (h : Stationed s) (hr : r ∈ s.rst.rolls) (hstate : r.state = .mounted) (hx : r.station = some x)
    (hleader : st.leaderReady = some true) :
    ∃ r', RollKept s (s.rollCommitted r st) r r' st ∧ r'.remaining = (inView st.initLen r.initLen).getD 0 ∧
      RollReadied s (s.rollCommitted r st) x r' := by
  have hwritten : (r.written st).state = .mounted := (written_state (by simp [hstate]) st).trans hstate
  have hlen : (r.written st).remaining = (inView st.initLen r.initLen).getD 0 := written_len (by simp [hstate]) st
  have hbound : s.boundRoll? x = some r := h.1.boundRoll?_eq hr hx
  have hseated : s.station x = .seated := by
    have hfits := h.fits hbound
    cases hv : s.station x <;> simp_all [StationState.fits]
  let q : Roll := { r.written st with state := .prepared }
  have hqx : q.station = some x := hx
  obtain ⟨v, hv⟩ : ∃ v, v = ((s.putRoll (r.written st)).settleCounts.putRoll q).setStation x .prepared := ⟨_, rfl⟩
  have hvrolls : v.rst.rolls = (s.putRoll q).rst.rolls := by
    rw [hv, setStation_rolls]
    exact putRoll_putRoll_rolls (writtenState_rolls s _) rfl
  have hvrising : risingKeys (v.rst.rolls.map (·.tag)) := by
    rw [hvrolls]
    exact risingKeys_upsert q h.1.rising
  have hvbound : v.boundRoll? x = some q :=
    (boundRoll?_congr (s := s.putRoll q) hvrolls x).trans (boundRoll?_putRoll hbound rfl rfl)
  have hvx : v.station x = .prepared := hv ▸ station_setStation_self _ x _
  have hvactive : v.activeStation = s.activeStation := by
    have hwas : (s.putRoll (r.written st)).settleCounts.fsu = s.fsu := by simp
    rw [hv, activeStation_setStation (s := (s.putRoll (r.written st)).settleCounts.putRoll q) ?_ (by decide)]
    · exact activeStation_congr (congrArg Fsu.staA hwas) (congrArg Fsu.staB hwas)
    · rw [station_of_fsu (s := s) (by simp), hseated]
      decide
  have hvline : v.rst.line = s.rst.line ∧ v.sgv = s.sgv := by simp [hv]
  have hkept : RollKept s v r q st :=
    RollKept.of_rolls hvrolls rfl ⟨rfl, rfl, rfl, rfl⟩ (by simp [hv])
  have hcommitted : s.rollCommitted r st = (if s.rst.line.requested = some x then v.threadTest else v).autoSpliceTest := by
    have hline : (s.putRoll (r.written st)).settleCounts.rst.line = s.rst.line := by simp
    rw [rollCommitted_past (by simp [hstate]), hleader, leaderCommitted_readies hwritten hx, hv, ← hline]
    rfl
  by_cases hthread : s.rst.line.requested = some x ∧ s.activeStation = none ∧ s.sgv.gov = .stopped
  · obtain ⟨hrequested, hnone, hstopped⟩ := hthread
    have hthreads : v.threadTest = v.thread x :=
      threadTest_threads (by rw [hvline.1]; exact hrequested) ⟨hvactive.trans hnone, by rw [hvline.2]; exact hstopped, hvx⟩
    have hrest : (v.thread x).autoSpliceTest = v.thread x :=
      autoSpliceTest_of_rest (by simp [State.running, hvline, hstopped])
    obtain ⟨hfeeding, hunlocked, ⟨e, hroll⟩, hothers⟩ := thread_threads hvbound (hvactive.trans hnone)
    rw [hcommitted, if_pos hrequested, hthreads, hrest]
    refine ⟨_, hkept.of_found hroll ⟨rfl, rfl, rfl, rfl⟩ (fun tag hne => congrArg _ (hothers tag hne)) (by simp), rfl,
      hqx, fun _ => ⟨rfl, hfeeding, hunlocked⟩, fun hnot => absurd ⟨hrequested, hnone, hstopped⟩ hnot⟩
  · have hwaits : (if s.rst.line.requested = some x then v.threadTest else v) = v := by
      split
      · rename_i hrequested
        refine threadTest_waits fun hboth => hthread ⟨hrequested, ?_⟩
        rwa [hvactive, hvline.2] at hboth
      · rfl
    obtain ⟨hroll, hothers, hstation⟩ := autoSpliceTest_prepared hvrising hvbound hvx
    rw [hvline.1] at hstation
    rw [hcommitted, hwaits]
    exact ⟨q, hkept.of_found hroll ⟨rfl, rfl, rfl, rfl⟩ (fun tag _ => hothers tag) (by simp), hlen, hqx,
      fun hboth => absurd hboth hthread, fun _ => ⟨rfl, hstation⟩⟩

/-! ### CLOSE -/

theorem closeRecord_refusesRoll {p : Port} {k : Nat} {e : Reply} (hears : s.hears p = true) (hslot : s.slot p = .write k (.roll st))
    (hstaged : (Staging.roll st).isEmpty = false) (hroll : s.roll? k = some r) (h : s.rollRefusal r st = some e) :
    Yields (.closeRecord p []) s (s.answered p e) := by
  refine closeRecord_of_refusal hears hslot hstaged ?_
  rw [State.commitRefusal, hroll]
  exact h

/-- The end of the act leaves a commit's stations, rolls and splice. -/
theorem closedWith_line (u : State) (p : Port) :
    (u.closedWith p).rst = u.rst ∧ (u.closedWith p).inputs = u.inputs ∧ (u.closedWith p).exu = u.exu ∧
      (u.closedWith p).fsu = { u.fsu with webBreak := (u.closedWith p).fsu.webBreak } := by
  refine ⟨by simp [State.closedWith], by simp [State.closedWith], by simp [State.closedWith], ?_⟩
  have hfsu : (u.closedWith p).fsu = (u.setSlot p .empty).endAct.fsu := by simp [State.closedWith]
  rw [hfsu, endAct_fsu]
  simp

/-- The state of a request, but for its ports. -/
theorem restartInactivity_stationed (h : Stationed s) (p : Port) : Stationed (s.restartInactivity p) :=
  h.acts (by simp) fun _ hrun => (running_of_gov (by simp)).trans hrun

theorem closedWith_station (u : State) (p : Port) (y : Station) : (u.closedWith p).station y = u.station y := by
  have hfsu := (closedWith_line u p).2.2.2
  exact station_congr (by rw [hfsu]) (by rw [hfsu]) y

theorem RollKept.closed {u : State} {p : Port} (h : RollKept (s.restartInactivity p) u r q st) : RollKept s (u.closedWith p) r q st := by
  obtain ⟨hrst, hinputs, hexu, hfsu⟩ := closedWith_line u p
  have hroll (tag : Nat) : (u.closedWith p).roll? tag = u.roll? tag := roll?_congr (by rw [hrst]) tag
  have hwas (tag : Nat) : (s.restartInactivity p).roll? tag = s.roll? tag := roll?_congr (by simp) tag
  obtain ⟨hfound, hfields, hothers, hw, hexu', hinputs'⟩ := h
  refine ⟨(hroll _).trans hfound, hfields, fun tag hne => ?_, ?_, hexu.trans (hexu'.trans (by simp)), hinputs.trans (hinputs'.trans (by simp))⟩
  · rw [hroll, hothers tag hne, hwas]
  · rw [hfsu]
    exact hw.trans (by simp)

/-- A roll past DECLARED and before ACTIVE is on a station. -/
theorem Stationed.placed (h : Stationed s) (hr : r ∈ s.rst.rolls) (hstate : r.state = .mounted ∨ r.state = .prepared) :
    ∃ x, r.station = some x := by
  have hplaced := h.1.placed r hr
  refine Option.isSome_iff_exists.mp ?_
  rcases hstate with hstate | hstate <;> simp_all [Roll.placed, Option.isSome_iff_ne_none]

/-- Settles O54: by the checks in order, and by what each leader value makes of the roll. -/
theorem closeCommitsARoll : Obligations.CloseCommitsARoll := by
  unfold Obligations.CloseCommitsARoll
  intro s p k st r hears hslot hstaged hroll
  have hrefuses {e : Reply} (h : s.rollRefusal r st = some e) : Yields (.closeRecord p []) s (s.answered p e) :=
    closeRecord_refusesRoll hears hslot hstaged hroll h
  refine ⟨fun hlocked => hrefuses (rollRefusal_locked hlocked), fun hlocked hwrong => hrefuses (rollRefusal_wrong hlocked hwrong),
    fun hlocked hwrong hcls => hrefuses (rollRefusal_noClass hlocked hwrong hcls),
    fun hlocked hwrong hcls hlen => hrefuses (rollRefusal_noLength hlocked hwrong hcls hlen),
    fun hlocked hwrong hcls hlen hdefined => hrefuses (rollRefusal_undefined hlocked hwrong hcls hlen hdefined),
    fun hlocked hwrong hlen hdefined htaken => hrefuses (rollRefusal_taken hlocked hwrong hlen hdefined htaken),
    fun hlocked hwrong hlen hdefined hfree hlaw => ?_⟩
  have h := restartInactivity_stationed ((stationLaw_iff_stationed s).mp hlaw) p
  obtain rfl : r.tag = k := roll?_tag hroll
  have hroll' : (s.restartInactivity p).roll? r.tag = some r := (roll?_congr (by simp) _).trans hroll
  have hr := roll?_mem hroll'
  have hrefusal : (s.restartInactivity p).rollRefusal r st = none := by
    have hsame := commitRefusal_restartInactivity s p r.tag (.roll st)
    simp only [State.commitRefusal, hroll, hroll', Option.elim_some] at hsame
    exact hsame.trans (rollRefusal_none hlocked hwrong hlen hdefined hfree)
  have hexec := closeRecord_of_commit hears hslot hstaged (commit_roll hroll' hrefusal)
  have hstation (y : Station) : (s.restartInactivity p).station y = s.station y := station_of_fsu (by simp) y
  have hbound (y : Station) : (s.restartInactivity p).boundRoll? y = s.boundRoll? y := boundRoll?_congr (by simp) y
  have hactive : (s.restartInactivity p).activeStation = s.activeStation := activeStation_congr (by simp) (by simp)
  obtain ⟨-, -, -, hfsu⟩ := closedWith_line ((s.restartInactivity p).rollCommitted r st) p
  by_cases hearly : r.state = .new ∨ r.state = .declared
  · obtain ⟨r', hkept, hremaining, ⟨ha, hb⟩, hplace⟩ := rollCommitted_declared (st := st) h hr hearly
    obtain ⟨hfound, ⟨hcls', hlen', hintended, hleader⟩, hothers, hw, hexu, hinputs⟩ := hkept.closed
    simp only [hstation, hbound, hintended] at hplace
    refine ⟨_, r', hexec, closedWith_says _ p, closedWith_slot _ p, hfound, hcls', hlen', hintended, hleader, hothers, hw, hexu, hinputs,
      fun _ => ⟨hremaining, ?_, ?_, hplace⟩, fun x hm => ?_, fun x hp => ?_, fun hnot => absurd hearly hnot⟩
    · rw [hfsu]
      exact ha.trans (by simp)
    · rw [hfsu]
      exact hb.trans (by simp)
    · rcases hearly with hs | hs <;> simp [hs] at hm
    · rcases hearly with hs | hs <;> simp [hs] at hp
  by_cases hready : r.state = .mounted ∧ st.leaderReady = some true
  · obtain ⟨hstate, hleader'⟩ := hready
    obtain ⟨x, hx⟩ := h.placed hr (Or.inl hstate)
    obtain ⟨r', hkept, hremaining, hplace, hthreads, hwaits⟩ := rollCommitted_prepares (st := st) h hr hstate hx hleader'
    obtain ⟨hfound, ⟨hcls', hlen', hintended, hleader⟩, hothers, hw, hexu, hinputs⟩ := hkept.closed
    rw [hactive] at hthreads hwaits
    refine ⟨_, r', hexec, closedWith_says _ p, closedWith_slot _ p, hfound, hcls', hlen', hintended, hleader, hothers, hw, hexu, hinputs,
      fun hnot => absurd hnot hearly, fun y _ _ hy => ?_, fun y hp => by simp [hstate] at hp, fun _ hnot => absurd ⟨hstate, hleader'⟩ hnot⟩
    obtain rfl : x = y := Option.some.inj (hx.symm.trans hy)
    rw [closedWith_station, hfsu]
    exact ⟨hremaining, hplace, by simpa using hthreads, by simpa using hwaits⟩
  by_cases hnot : r.state = .prepared ∧ st.leaderReady = some false
  · obtain ⟨hstate, hleader'⟩ := hnot
    obtain ⟨x, hx⟩ := h.placed hr (Or.inr hstate)
    have hpress : (s.restartInactivity p).fsu.phase = .press →
        ¬ ((s.restartInactivity p).station x = .matching ∨ (s.restartInactivity p).station x = .matched) := by
      rw [hstation]
      exact fun hphase hin => hwrong (Or.inr (Or.inr ⟨hleader', hstate, by simpa using hphase, x, hx, hin⟩))
    obtain ⟨hkept, hseated, habandoned⟩ := rollCommitted_unprepares (st := st) h hstate hx hleader' hpress
    obtain ⟨hfound, ⟨hcls', hlen', hintended, hleader⟩, hothers, hw, hexu, hinputs⟩ := hkept.closed
    rw [hstation] at habandoned
    refine ⟨_, _, hexec, closedWith_says _ p, closedWith_slot _ p, hfound, hcls', hlen', hintended, hleader, hothers, hw, hexu, hinputs,
      fun hnot => absurd hnot hearly, fun y hm => by simp [hstate] at hm, fun y _ _ hy => ?_, fun _ _ hno => absurd ⟨hstate, hleader'⟩ hno⟩
    obtain rfl : x = y := Option.some.inj (hx.symm.trans hy)
    rw [closedWith_station, hfsu]
    exact ⟨rfl, hx, hseated, habandoned⟩
  · have hkept := rollCommitted_quiet (s := s.restartInactivity p) hearly hready hnot
    obtain ⟨hfound, ⟨hcls', hlen', hintended, hleader⟩, hothers, hw, hexu, hinputs⟩ := hkept.closed
    exact ⟨_, _, hexec, closedWith_says _ p, closedWith_slot _ p, hfound, hcls', hlen', hintended, hleader, hothers, hw, hexu, hinputs,
      fun hno => absurd hno hearly, fun y hm hv => absurd ⟨hm, hv⟩ hready, fun y hp hv => absurd ⟨hp, hv⟩ hnot,
      fun _ _ _ => ⟨written_state (not_or.mp hearly).1 st, rfl⟩⟩

end Sys2Proof.Machine
end

section
/-! SUPPORT. The checks of a Line commit, in order (O56): the key, the set-once window, the fields unset in view, HEAT ON. -/

namespace Sys2Proof.Machine

variable {s : State} {p : Port} {st : LineStage}

/-- A set-once field: its identifier, the value staged and the value of the record (R171). -/
abbrev SetOnceField : Type := Byte × Option Nat × Option Nat

/-- The nine set-once fields, in the order of R171's table. -/
def LineRecord.setOnceFields (l : LineRecord) (st : LineStage) : List SetOnceField :=
  [(0x01#8, st.strikePeriod, l.strikePeriod), (0x02#8, st.creep, l.creep), (0x03#8, st.spliceSpeed, l.spliceSpeed),
    (0x04#8, st.accel, l.accel), (0x05#8, st.permitPeriod, l.permitPeriod), (0x06#8, st.spliceReserve, l.spliceReserve),
    (0x07#8, st.tensionBand, l.tensionBand), (0x08#8, st.standby, l.standby), (0x09#8, st.wasteLen, l.wasteLen)]

/-- A set-once field's entry in view. -/
def SetOnceField.entry (f : SetOnceField) : Nat × Nat × Option Nat := (f.1.toNat, 0, inView f.2.1 f.2.2)

/-- A set-once field staged, or set in the record. -/
def SetOnceField.isSet (f : SetOnceField) : Prop := f.2.1 ≠ none ∨ f.2.2 ≠ none

theorem setOnceInView_eq (l : LineRecord) (st : LineStage) : l.setOnceInView st = (l.setOnceFields st).map SetOnceField.entry := rfl

theorem inView_isNone {α : Type} (a b : Option α) : (inView a b).isNone = true ↔ ¬ (a ≠ none ∨ b ≠ none) := by
  cases a <;> simp [inView]

theorem setOnce_iff (l : LineRecord) (st : LineStage) : st.setOnce = true ↔ ∃ f ∈ l.setOnceFields st, f.2.1 ≠ none := by
  simp [LineStage.setOnce, LineRecord.setOnceFields, Option.isSome_iff_ne_none, or_assoc]

/-! ### The fields unset in view -/

/-- The first field unset in view is the one named. -/
theorem firstUnset_names {before after : List SetOnceField} {f : SetOnceField} (hbefore : ∀ g ∈ before, g.isSet) (hf : ¬ f.isSet) :
    firstUnset ((before ++ f :: after).map SetOnceField.entry) = some { status := .invalid, payload := [f.1, 0#8] } := by
  induction before with
  | nil =>
    have hnone : (inView f.2.1 f.2.2).isNone = true := (inView_isNone _ _).mpr hf
    simp [firstUnset, SetOnceField.entry, hnone, invalid]
  | cons g before ih =>
    have hsome : (inView g.2.1 g.2.2).isNone = false :=
      Bool.eq_false_iff.mpr fun hnone => (inView_isNone _ _).mp hnone (hbefore g List.mem_cons_self)
    rw [← ih fun g' hg' => hbefore g' (List.mem_cons_of_mem _ hg')]
    simp [firstUnset, SetOnceField.entry, hsome]

theorem firstUnset_none {fields : List SetOnceField} (h : ∀ f ∈ fields, f.isSet) : firstUnset (fields.map SetOnceField.entry) = none := by
  induction fields with
  | nil => rfl
  | cons f fields ih =>
    have hsome : (inView f.2.1 f.2.2).isNone = false :=
      Bool.eq_false_iff.mpr fun hnone => (inView_isNone _ _).mp hnone (h f List.mem_cons_self)
    rw [← ih fun g hg => h g (List.mem_cons_of_mem _ hg)]
    simp [firstUnset, SetOnceField.entry, hsome]

/-! ### The refusal -/

/-- The key admits a staged set speed (R181). -/
def State.admitsSpeed (s : State) (p : Port) (st : LineStage) : Prop := p = .pen → st.setSpeed = none ∨ s.asserted .key = true

theorem admitsSpeed_iff : s.admitsSpeed p st ↔ ¬ (p = .pen ∧ st.setSpeed.isSome = true ∧ s.keyLocal = false) := by
  unfold State.admitsSpeed State.keyLocal
  cases st.setSpeed <;> simp

theorem lineRefusal_fixed (hkey : s.admitsSpeed p st) (honce : st.setOnce = true) (hclosed : s.rst.line.windowOpen = false) :
    s.lineRefusal p st = some (say .fixed) := by
  unfold State.lineRefusal
  dsimp only
  rw [if_neg (admitsSpeed_iff.mp hkey), if_pos ⟨honce, hclosed⟩]

theorem lineRefusal_unset {before after : List SetOnceField} {f : SetOnceField} (hkey : s.admitsSpeed p st) (honce : st.setOnce = true)
    (hopen : s.rst.line.windowOpen = true) (hfields : s.rst.line.setOnceFields st = before ++ f :: after)
    (hbefore : ∀ g ∈ before, g.isSet) (hf : ¬ f.isSet) :
    s.lineRefusal p st = some { status := .invalid, payload := [f.1, 0#8] } := by
  unfold State.lineRefusal
  dsimp only
  rw [if_neg (admitsSpeed_iff.mp hkey), if_neg (by simp [hopen]), if_pos honce, setOnceInView_eq, hfields, firstUnset_names hbefore hf]

/-- The set-once checks passed: the window OPEN and every set-once field set in view, where one is staged. -/
def State.setOncePasses (s : State) (st : LineStage) : Prop :=
  st.setOnce = true → s.rst.line.windowOpen = true ∧ ∀ f ∈ s.rst.line.setOnceFields st, f.isSet

/-- Past the set-once checks only HEAT ON is refused. -/
theorem lineRefusal_past (hkey : s.admitsSpeed p st) (hpasses : s.setOncePasses st) : s.lineRefusal p st = firstRefusal
    [(st.heat == some true && s.asserted .eStop, say .notReady),
      (st.heat == some true && !s.rst.line.configured && !st.setOnce, say .notConfigured)] := by
  have hopen : ¬ (st.setOnce = true ∧ s.rst.line.windowOpen = false) := by
    rintro ⟨honce, hclosed⟩
    rw [(hpasses honce).1] at hclosed
    cases hclosed
  have hunset : (if st.setOnce then firstUnset (s.rst.line.setOnceInView st) else none) = none := by
    split
    case isTrue honce => exact firstUnset_none (hpasses honce).2
    case isFalse => rfl
  unfold State.lineRefusal
  dsimp only
  rw [if_neg (admitsSpeed_iff.mp hkey), if_neg hopen, hunset]

theorem lineRefusal_notReady (hkey : s.admitsSpeed p st) (hpasses : s.setOncePasses st) (hon : st.heat = some true)
    (hestop : s.asserted .eStop = true) : s.lineRefusal p st = some (say .notReady) := by
  rw [lineRefusal_past hkey hpasses, hon, hestop]
  rfl

theorem lineRefusal_notConfigured (hkey : s.admitsSpeed p st) (hpasses : s.setOncePasses st) (hon : st.heat = some true)
    (hestop : s.asserted .eStop = false) (hconfigured : s.rst.line.configured = false) (honce : st.setOnce = false) :
    s.lineRefusal p st = some (say .notConfigured) := by
  rw [lineRefusal_past hkey hpasses, hon, hestop, hconfigured, honce]
  rfl

theorem lineRefusal_none (hkey : s.admitsSpeed p st) (hpasses : s.setOncePasses st)
    (hheat : st.heat = some true → s.asserted .eStop = false ∧ (s.rst.line.configured = true ∨ st.setOnce = true)) :
    s.lineRefusal p st = none := by
  rw [lineRefusal_past hkey hpasses]
  by_cases hon : st.heat = some true
  · obtain ⟨hestop, hconfigured⟩ := hheat hon
    have hknown : (!s.rst.line.configured && !st.setOnce) = false := by
      rcases hconfigured with h | h <;> simp [h]
    rw [Bool.and_assoc, hknown, hestop, Bool.and_false]
    rfl
  · have hoff : (st.heat == some true) = false := beq_eq_false_iff_ne.mpr hon
    rw [hoff]
    rfl

end Sys2Proof.Machine
end

section
/-! SUPPORT. The units' acts on a changed Line record, HEAT apart (O56): what each keeps of the record, the counts and the panels. -/

namespace Sys2Proof.Machine

variable {s t u : State}

/-! ### An act where its condition holds -/

theorem relates_when {R : State → State → Prop} {g : State → State} (hrefl : R s s) (h : R s (g s)) (c : Bool) : R s (s.when c g) := by
  rcases State.when_cases s c g with hw | hw <;> rw [hw]
  · exact hrefl
  · exact h

/-! ### No station FEEDING (R58, R61) -/

theorem judgeExpiring_of_inactive (h : s.activeStation = none) : s.judgeExpiring = s := by
  unfold State.judgeExpiring
  rw [h]

theorem autoSpliceTest_of_inactive (h : s.activeStation = none) : s.autoSpliceTest = s :=
  autoSpliceTest_of_unprepared fun y hy => by
    rw [h] at hy
    cases hy

theorem configuredCommitted_of_inactive (h : s.activeStation = none) : s.configuredCommitted = s := by
  unfold State.configuredCommitted
  rw [judgeExpiring_of_inactive h, autoSpliceTest_of_inactive h, ite_self]

/-! ### The record, the counts and the governor -/

/-- The acts keep the Line record but for a request of auto-splice, the governor's state, the counts, the inputs and ZONE_SENSOR. -/
structure LineKept (s t : State) : Prop where
  line : SharesLine s t
  requested : s.rst.line.autoSplice = false → t.rst.line.requested = s.rst.line.requested
  gov : t.sgv.gov = s.sgv.gov
  alert : KeepsAlert .zoneSensor s t
  counts : t.fsu.w = s.fsu.w ∧ t.exu = s.exu ∧ t.inputs = s.inputs

namespace LineKept

theorem refl (s : State) : LineKept s s := ⟨sharesLine_of_eq rfl, fun _ => rfl, rfl, id, rfl, rfl, rfl⟩

theorem trans (h : LineKept s t) (h' : LineKept t u) : LineKept s u := by
  obtain ⟨hline, hrequested, hgov, halert, hw, hexu, hinputs⟩ := h
  obtain ⟨hline', hrequested', hgov', halert', hw', hexu', hinputs'⟩ := h'
  refine ⟨hline.trans hline', fun hoff => ?_, hgov'.trans hgov, halert.trans halert', hw'.trans hw, hexu'.trans hexu, hinputs'.trans hinputs⟩
  have hoff' : t.rst.line.autoSplice = false := by rw [hline]; exact hoff
  exact (hrequested' hoff').trans (hrequested hoff)

theorem of_eq (hline : t.rst.line = s.rst.line) (hgov : t.sgv.gov = s.sgv.gov) (halert : KeepsAlert .zoneSensor s t)
    (hcounts : t.fsu.w = s.fsu.w ∧ t.exu = s.exu ∧ t.inputs = s.inputs) : LineKept s t :=
  ⟨sharesLine_of_eq hline, fun _ => congrArg LineRecord.requested hline, hgov, halert, hcounts⟩

end LineKept

theorem judgeExpiring_keepsAlert (a : Alert) (s : State) : KeepsAlert a s s.judgeExpiring := by
  unfold State.judgeExpiring
  split
  · exact id
  · split
    · exact id
    · split
      · exact raiseAlert_keepsAlert a .rollLow (s.putRoll _)
      · exact id

theorem feedFrom_keeps (s : State) (x : Station) :
    (s.feedFrom x).unlocked.lnk = s.lnk ∧ (s.feedFrom x).unlocked.hsu = s.hsu ∧ (s.feedFrom x).unlocked.sgv = s.sgv := by
  unfold State.feedFrom State.unlocked
  split <;> simp [State.rebind]

theorem threadTest_keepsAlert (a : Alert) (s : State) : KeepsAlert a s s.threadTest := by
  unfold State.threadTest
  split
  · exact id
  · rename_i x _
    split
    · rw [thread_eq]
      have hfed : KeepsAlert a s (s.feedFrom x).unlocked := keepsAlert_of_alerts (congrArg Lnk.alerts (feedFrom_keeps s x).1)
      have hjudged := judgeExpiring_keepsAlert a (s.feedFrom x).unlocked
      exact hfed.trans (hjudged.trans (keepsAlert_of_alerts (by simp)))
    · exact id

theorem clearTension_lineKept (s : State) : LineKept s s.clearTension := .of_eq (by simp) (by simp) (keepsAlert_of_alerts (by simp)) (by simp)

theorem standbyCommitted_lineKept (s : State) : LineKept s s.standbyCommitted :=
  .of_eq (by simp) (by simp) (keepsAlert_of_alerts (by simp)) (by simp)

theorem judgeExpiring_lineKept (s : State) : LineKept s s.judgeExpiring :=
  .of_eq (by simp) (by simp) (judgeExpiring_keepsAlert _ s) (by simp)

theorem threadTest_lineKept (s : State) : LineKept s s.threadTest := .of_eq (by simp) (by simp) (threadTest_keepsAlert _ s) (by simp)

theorem autoSpliceTest_lineKept (s : State) : LineKept s s.autoSpliceTest :=
  ⟨autoSpliceTest_sharesLine s, fun hoff => by rw [autoSpliceTest_off hoff], by simp, autoSpliceTest_keepsAlert _ s, by simp⟩

theorem configuredCommitted_lineKept (s : State) : LineKept s s.configuredCommitted := by
  unfold State.configuredCommitted
  split
  · exact (judgeExpiring_lineKept s).trans (autoSpliceTest_lineKept _)
  · exact judgeExpiring_lineKept s

/-! ### The panels and the FEEDING station -/

/-- The acts keep the lots, the panels, the segment and the station FEEDING. -/
structure PanelsKept (s t : State) : Prop where
  lots : t.rst.lots = s.rst.lots
  panels : t.rst.panels = s.rst.panels
  segment : t.ltr.segment = s.ltr.segment
  active : t.activeStation = s.activeStation

namespace PanelsKept

theorem refl (s : State) : PanelsKept s s := ⟨rfl, rfl, rfl, rfl⟩

theorem trans (h : PanelsKept s t) (h' : PanelsKept t u) : PanelsKept s u :=
  ⟨h'.lots.trans h.lots, h'.panels.trans h.panels, h'.segment.trans h.segment, h'.active.trans h.active⟩

end PanelsKept

theorem autoSpliceTest_activeStation (s : State) : s.autoSpliceTest.activeStation = s.activeStation := by
  rcases autoSpliceTest_cases s with hsame | ⟨-, y, r, hactive, -, -, -, hkept, hacross⟩
  · rw [hsame]
  · rw [hactive]
    refine activeStation_of_feeding (hkept.trans (station_of_activeStation hactive)) fun hfeeding => ?_
    rcases hacross with h | h <;> rw [h] at hfeeding <;> cases hfeeding

theorem autoSpliceTest_panelsKept (s : State) : PanelsKept s s.autoSpliceTest :=
  ⟨by simp, by simp, by simp, autoSpliceTest_activeStation s⟩

theorem judgeExpiring_panelsKept (s : State) : PanelsKept s s.judgeExpiring :=
  ⟨by simp, by simp, by simp, activeStation_congr (by simp) (by simp)⟩

theorem configuredCommitted_panelsKept (s : State) : PanelsKept s s.configuredCommitted := by
  unfold State.configuredCommitted
  split
  · exact (judgeExpiring_panelsKept s).trans (autoSpliceTest_panelsKept _)
  · exact judgeExpiring_panelsKept s

theorem clearTension_panelsKept (s : State) : PanelsKept s s.clearTension :=
  ⟨by simp, by simp, by simp, activeStation_congr (by simp) (by simp)⟩

theorem standbyCommitted_panelsKept (s : State) : PanelsKept s s.standbyCommitted :=
  ⟨by simp, by simp, by simp, activeStation_congr (by simp) (by simp)⟩

theorem heatCommitted_panelsKept (s : State) (v : Option Bool) : PanelsKept s (s.heatCommitted v) :=
  ⟨by simp, by simp, by simp, activeStation_congr (by simp) (by simp)⟩

/-! ### The zones -/

/-- Threading retargets no zone: it happens in STOPPED (R56, R119). -/
theorem threadTest_hsu (s : State) : s.threadTest.hsu = s.hsu := by
  unfold State.threadTest
  split
  · rfl
  · rename_i x _
    split
    · rename_i hthread
      obtain ⟨-, hstopped, -⟩ := hthread
      obtain ⟨-, hhsu, hsgv⟩ := feedFrom_keeps s x
      have hrest : ((s.feedFrom x).unlocked.judgeExpiring.threadUnderLot).running = false :=
        (running_of_gov (s := s) (by simp [hsgv])).trans (by simp [State.running, hstopped])
      rw [thread_eq, State.retarget, hrest, Bool.and_false]
      simp [State.handClasses, hhsu]
    · rfl

theorem standbyCommitted_off (h : s.rst.line.heat = false) : s.standbyCommitted = s := by
  unfold State.standbyCommitted
  rw [h]
  rfl

end Sys2Proof.Machine
end

section
/-! SUPPORT. A committed change of HEAT (O56): the permit, the zones out of OFF or into it, and ZONE_SENSOR. -/

namespace Sys2Proof.Machine

variable {s t : State}

/-! ### HEAT ON (R120, R123, R129, R130) -/

/-- HEAT ON with its permit timer started. -/
def State.heatStarted (s : State) : State :=
  { s with
    rst := { s.rst with line := { s.rst.line with heat := true } }
    hsu := { s.hsu with permit := some (s.rst.line.permitPeriod.getD 0) } }

/-- A zone as HEAT ON leaves it: out of OFF, to its class target on a running line, to the standby target else. -/
def State.zoneOn (s : State) (z : ZoneId) (v : Zone) : Zone :=
  if v.mode = .off then if s.running then s.warmZone z v else s.standbyZone v else v

theorem zoneOn_fresh (z : ZoneId) (v : Zone) : (s.zoneOn z v).fresh = v.fresh := by
  unfold State.zoneOn
  split
  · split <;> rfl
  · rfl

/-- HEAT ON with the zones moved out of OFF. -/
def State.heatMoved (s : State) : State :=
  if s.heatStarted.running then
    (s.heatStarted.mapZones fun z v => if v.mode = .off then s.heatStarted.warmZone z v else v).takeFreeIf
      (s.heatStarted.readsMissingSetpoint fun _ v => v.mode == .off)
  else s.heatStarted.mapZones fun _ v => if v.mode = .off then s.heatStarted.standbyZone v else v

theorem heatOn_eq (s : State) : s.heatOn = if s.heatMoved.anyStale then s.heatMoved.raiseAlert .zoneSensor else s.heatMoved := rfl

/-- The zones move alike, the free index apart. -/
theorem heatMoved_eq (s : State) : ∃ c, s.heatMoved = (s.heatStarted.mapZones s.heatStarted.zoneOn).takeFreeIf c := by
  unfold State.heatMoved
  split
  case isTrue hrun =>
    refine ⟨_, congrArg (fun g => (s.heatStarted.mapZones g).takeFreeIf _) ?_⟩
    funext z v
    rw [State.zoneOn, if_pos hrun]
  case isFalse hrest =>
    refine ⟨false, congrArg s.heatStarted.mapZones ?_⟩
    funext z v
    rw [State.zoneOn, if_neg hrest]

/-- What HEAT ON leaves of the heat-set unit and of the record. -/
structure HeatedOn (s t : State) : Prop where
  line : t.rst.line = { s.rst.line with heat := true }
  permit : t.hsu.permit = some (s.rst.line.permitPeriod.getD 0)
  stale : (∃ z ∈ allZones, (s.hsu.zones.get z).fresh = false) → t.hasAlert .zoneSensor = true
  zones : ∀ z, t.hsu.zones.get z = s.heatStarted.zoneOn z (s.hsu.zones.get z)

theorem heatOn_heatedOn (s : State) : HeatedOn s s.heatOn := by
  obtain ⟨c, hc⟩ := heatMoved_eq s
  have hrst : s.heatMoved.rst = s.heatStarted.rst := by rw [hc]; simp
  have hhsu : s.heatMoved.hsu = (s.heatStarted.mapZones s.heatStarted.zoneOn).hsu := by rw [hc]; simp
  have hzones (z : ZoneId) : s.heatMoved.hsu.zones.get z = s.heatStarted.zoneOn z (s.hsu.zones.get z) := by
    rw [hhsu]
    exact Four.get_map _ _ z
  have hkept : s.heatOn.hsu = s.heatMoved.hsu ∧ s.heatOn.rst = s.heatMoved.rst := by
    rw [heatOn_eq]
    split <;> exact ⟨rfl, rfl⟩
  refine ⟨?_, ?_, ?_, fun z => ?_⟩
  · rw [hkept.2, hrst]
    rfl
  · rw [hkept.1, hhsu]
    rfl
  · rintro ⟨z, -, hstale⟩
    have hany : s.heatMoved.anyStale = true := by
      refine (Four.any_iff _ _).mpr ⟨z, ?_⟩
      rw [hzones, zoneOn_fresh, hstale]
      rfl
    rw [heatOn_eq, if_pos hany, hasAlert_raiseAlert]
    simp
  · rw [hkept.1, hzones]

/-! ### HEAT OFF (R118, R120, R129) -/

/-- What HEAT OFF leaves of the heat-set unit and of the record. -/
structure HeatedOff (s t : State) : Prop where
  line : t.rst.line = { s.rst.line with heat := false }
  permit : t.hsu.permit = none
  zones : ∀ z, (t.hsu.zones.get z).mode = .off ∧ (t.hsu.zones.get z).settle = none

theorem heatOff_heatedOff (s : State) : HeatedOff s s.heatOff := ⟨rfl, rfl, zonesOff_get s⟩

/-! ### The committed change -/

theorem heatCommitted_on (h : s.rst.line.heat = false) : s.heatCommitted (some true) = s.heatOn :=
  if_neg (Bool.eq_false_iff.mp h)

theorem heatCommitted_off (h : s.rst.line.heat = true) : s.heatCommitted (some false) = s.heatOff := if_pos h

/-- HEAT not staged, or staged as it is, changes nothing. -/
theorem heatCommitted_same {v : Option Bool} (h : v = none ∨ v = some s.rst.line.heat) : s.heatCommitted v = s := by
  rcases h with rfl | rfl
  · rfl
  · cases hheat : s.rst.line.heat <;> simp [State.heatCommitted, hheat]

theorem heatCommitted_line (s : State) (v : Option Bool) :
    (s.heatCommitted v).rst.line = { s.rst.line with heat := v.getD s.rst.line.heat } := by
  by_cases hsame : v = none ∨ v = some s.rst.line.heat
  · rw [heatCommitted_same hsame]
    rcases hsame with rfl | rfl <;> rfl
  · obtain ⟨hnone, hother⟩ := not_or.mp hsame
    cases v with
    | none => exact absurd rfl hnone
    | some v =>
      cases v with
      | true =>
        have hoff : s.rst.line.heat = false := Bool.eq_false_iff.mpr fun hon => hother (by rw [hon])
        rw [heatCommitted_on hoff]
        exact (heatOn_heatedOn s).line
      | false =>
        have hon : s.rst.line.heat = true := Bool.not_eq_false _ ▸ fun hoff => hother (by rw [hoff])
        rw [heatCommitted_off hon]
        exact (heatOff_heatedOff s).line

end Sys2Proof.Machine
end

section
/-! SUPPORT. CLOSE of the Line record (O56): the fields written, and the units acting on what changed. -/

namespace Sys2Proof.Machine

variable {s u : State} {p : Port} {st : LineStage} {x : Station} {r : Roll}

/-! ### The order of the acts (R172, R174) -/

/-- The fields written to the Line record, and nothing done yet. -/
def State.fieldsWritten (s : State) (st : LineStage) : State :=
  { s with rst := { s.rst with line := s.rst.line.written st } }

/-- The acts before the change of HEAT. -/
def State.lineBeforeHeat (s : State) (old : LineRecord) : State :=
  ((s.when (old.setSpeed != s.rst.line.setSpeed) State.clearTension).when
    (!old.configured && s.rst.line.configured) State.configuredCommitted).when
    (old.standby != s.rst.line.standby) State.standbyCommitted

/-- The acts after the change of HEAT. -/
def State.lineAfterHeat (s : State) (old new : LineRecord) : State :=
  (s.when (old.requested != new.requested) State.threadTest).when (!old.autoSplice && new.autoSplice) State.autoSpliceTest

theorem lineCommitted_eq (s : State) (old : LineRecord) (st : LineStage) :
    s.lineCommitted old st = ((s.lineBeforeHeat old).heatCommitted st.heat).lineAfterHeat old s.rst.line := rfl

/-! ### Before HEAT -/

theorem lineBeforeHeat_lineKept (s : State) (old : LineRecord) : LineKept s (s.lineBeforeHeat old) := by
  unfold State.lineBeforeHeat
  have hwhen (v : State) {g : State → State} (c : Bool) (h : LineKept v (g v)) : LineKept v (v.when c g) := relates_when (.refl v) h c
  exact ((hwhen s _ (clearTension_lineKept s)).trans (hwhen _ _ (configuredCommitted_lineKept _))).trans
    (hwhen _ _ (standbyCommitted_lineKept _))

theorem lineBeforeHeat_panelsKept (s : State) (old : LineRecord) : PanelsKept s (s.lineBeforeHeat old) := by
  unfold State.lineBeforeHeat
  have hwhen (v : State) {g : State → State} (c : Bool) (h : PanelsKept v (g v)) : PanelsKept v (v.when c g) :=
    relates_when (.refl v) h c
  exact ((hwhen s _ (clearTension_panelsKept s)).trans (hwhen _ _ (configuredCommitted_panelsKept _))).trans
    (hwhen _ _ (standbyCommitted_panelsKept _))

/-- A changed standby temperature reaches no zone while HEAT is OFF, and leaves the permit timer always. -/
theorem lineBeforeHeat_hsu (s : State) (old : LineRecord) :
    (s.lineBeforeHeat old).hsu.permit = s.hsu.permit ∧ (s.rst.line.heat = false → (s.lineBeforeHeat old).hsu = s.hsu) := by
  have hwhen (v : State) {g : State → State} (c : Bool) (h : LineKept v (g v)) (hhsu : (g v).hsu = v.hsu) :
      LineKept v (v.when c g) ∧ (v.when c g).hsu = v.hsu :=
    relates_when (R := fun a b => LineKept a b ∧ b.hsu = a.hsu) ⟨.refl v, rfl⟩ ⟨h, hhsu⟩ c
  obtain ⟨hcleared, hclearedHsu⟩ := hwhen s (old.setSpeed != s.rst.line.setSpeed) (clearTension_lineKept s) (by simp)
  unfold State.lineBeforeHeat
  generalize s.when (old.setSpeed != s.rst.line.setSpeed) State.clearTension = v at *
  obtain ⟨hjudged, hjudgedHsu⟩ := hwhen v (!old.configured && s.rst.line.configured) (configuredCommitted_lineKept v) (by simp)
  generalize v.when (!old.configured && s.rst.line.configured) State.configuredCommitted = w at *
  have hhsu : w.hsu = s.hsu := hjudgedHsu.trans hclearedHsu
  have hheat : w.rst.line.heat = s.rst.line.heat := by rw [(hcleared.trans hjudged).line]
  have hpermit : w.standbyCommitted.hsu.permit = w.hsu.permit := by simp
  rcases State.when_cases w (old.standby != s.rst.line.standby) State.standbyCommitted with h | h <;> rw [h]
  · exact ⟨by rw [hhsu], fun _ => hhsu⟩
  · exact ⟨hpermit.trans (by rw [hhsu]), fun hoff => by rw [standbyCommitted_off (hheat.trans hoff), hhsu]⟩

/-- With no station FEEDING the acts before HEAT move no roll and no station. -/
theorem lineBeforeHeat_of_inactive (h : s.activeStation = none) (old : LineRecord) :
    (s.lineBeforeHeat old).rst = s.rst ∧ ∀ y, (s.lineBeforeHeat old).station y = s.station y := by
  have hcleared : (s.when (old.setSpeed != s.rst.line.setSpeed) State.clearTension).rst = s.rst ∧
      (∀ y, (s.when (old.setSpeed != s.rst.line.setSpeed) State.clearTension).station y = s.station y) ∧
      (s.when (old.setSpeed != s.rst.line.setSpeed) State.clearTension).activeStation = s.activeStation :=
    relates_when (R := fun a b => b.rst = a.rst ∧ (∀ y, b.station y = a.station y) ∧ b.activeStation = a.activeStation)
      ⟨rfl, fun _ => rfl, rfl⟩
      ⟨by simp, fun y => station_congr (by simp) (by simp) y, activeStation_congr (by simp) (by simp)⟩ _
  obtain ⟨hrst, hstation, hactive⟩ := hcleared
  unfold State.lineBeforeHeat
  generalize s.when (old.setSpeed != s.rst.line.setSpeed) State.clearTension = v at *
  have hjudged : v.when (!old.configured && s.rst.line.configured) State.configuredCommitted = v :=
    relates_when (R := fun a b => b = a) rfl (configuredCommitted_of_inactive (hactive.trans h)) _
  rw [hjudged]
  have hstandby : (v.when (old.standby != s.rst.line.standby) State.standbyCommitted).rst = v.rst ∧
      (v.when (old.standby != s.rst.line.standby) State.standbyCommitted).fsu = v.fsu :=
    relates_when (R := fun a b => b.rst = a.rst ∧ b.fsu = a.fsu) ⟨rfl, rfl⟩ ⟨by simp, by simp⟩ _
  exact ⟨hstandby.1.trans hrst, fun y => (station_of_fsu hstandby.2 y).trans (hstation y)⟩

/-! ### After HEAT -/

theorem lineAfterHeat_lineKept (s : State) (old new : LineRecord) : LineKept s (s.lineAfterHeat old new) := by
  unfold State.lineAfterHeat
  have hwhen (v : State) {g : State → State} (c : Bool) (h : LineKept v (g v)) : LineKept v (v.when c g) := relates_when (.refl v) h c
  exact (hwhen s _ (threadTest_lineKept s)).trans (hwhen _ _ (autoSpliceTest_lineKept _))

theorem lineAfterHeat_hsu (s : State) (old new : LineRecord) : (s.lineAfterHeat old new).hsu = s.hsu := by
  have hwhen (v : State) {g : State → State} (c : Bool) (h : (g v).hsu = v.hsu) : (v.when c g).hsu = v.hsu :=
    relates_when (R := fun a b => b.hsu = a.hsu) rfl h c
  exact (hwhen _ _ (by simp)).trans (hwhen s _ (threadTest_hsu s))

/-- No panel moves under an unchanged request, or beside a FEEDING station. -/
theorem lineAfterHeat_panelsKept {old new : LineRecord} (h : old.requested = new.requested ∨ s.activeStation ≠ none) :
    PanelsKept s (s.lineAfterHeat old new) := by
  have hthread : s.when (old.requested != new.requested) State.threadTest = s := by
    rcases h with hsame | hactive
    · rw [hsame, bne_self_eq_false]
      rfl
    · exact relates_when (R := fun a b => b = a) rfl (threadTest_waits fun ⟨hnone, _⟩ => hactive hnone) _
  unfold State.lineAfterHeat
  rw [hthread]
  exact relates_when (.refl s) (autoSpliceTest_panelsKept s) _

/-- A changed request threads a PREPARED station at rest (R56). -/
theorem lineAfterHeat_threads {old new : LineRecord} (hchanged : old.requested ≠ new.requested) (hrequested : s.rst.line.requested = some x)
    (hnone : s.activeStation = none) (hstopped : s.sgv.gov = .stopped) (hx : s.station x = .prepared) (hbound : s.boundRoll? x = some r) :
    Threaded s (s.lineAfterHeat old new) x r := by
  have hthread : s.when (old.requested != new.requested) State.threadTest = s.thread x := by
    rw [bne_iff_ne.mpr hchanged, ← threadTest_threads hrequested ⟨hnone, hstopped, hx⟩]
    rfl
  have hrest : (s.thread x).autoSpliceTest = s.thread x := autoSpliceTest_of_rest (by simp [State.running, hstopped])
  unfold State.lineAfterHeat
  rw [hthread]
  have hsame : (s.thread x).when (!old.autoSplice && new.autoSplice) State.autoSpliceTest = s.thread x :=
    relates_when (R := fun a b => b = a) rfl hrest _
  rw [hsame]
  exact thread_threads hbound hnone

end Sys2Proof.Machine
end

section
/-! SUPPORT. CLOSE of the Line record (O56): what an accepted commit leaves. -/

namespace Sys2Proof.Machine

variable {s u : State} {p : Port} {st : LineStage}

/-! ### The record written (R170, R171) -/

/-- The Line record a commit leaves, but for a request of auto-splice. -/
def LineRecord.committed (l : LineRecord) (st : LineStage) : LineRecord := { l.written st with heat := st.heat.getD l.heat }

/-- What the commit's fields are in the record after it. -/
structure LineFields (l n : LineRecord) (st : LineStage) : Prop where
  setOnce : n.strikePeriod = (st.strikePeriod <|> l.strikePeriod) ∧ n.creep = (st.creep <|> l.creep) ∧
    n.spliceSpeed = (st.spliceSpeed <|> l.spliceSpeed) ∧ n.accel = (st.accel <|> l.accel) ∧
    n.permitPeriod = (st.permitPeriod <|> l.permitPeriod) ∧ n.spliceReserve = (st.spliceReserve <|> l.spliceReserve) ∧
    n.tensionBand = (st.tensionBand <|> l.tensionBand) ∧ n.standby = (st.standby <|> l.standby) ∧
    n.wasteLen = (st.wasteLen <|> l.wasteLen)
  setSpeed : n.setSpeed = st.setSpeed.getD l.setSpeed
  autoSplice : n.autoSplice = st.autoSplice.getD l.autoSplice
  heat : n.heat = st.heat.getD l.heat
  laneMask : n.laneMask = st.laneMask.getD l.laneMask
  trims : n.trims = st.trims.foldl putTrim l.trims
  configured : n.configured = (l.configured || st.setOnce)
  windowOpen : n.windowOpen = (l.windowOpen && !st.setOnce)

theorem committed_fields {l n : LineRecord} (h : n = { l.committed st with requested := n.requested }) : LineFields l n st := by
  rw [h]
  exact ⟨⟨rfl, rfl, rfl, rfl, rfl, rfl, rfl, rfl, rfl⟩, rfl, rfl, rfl, rfl, rfl, rfl, rfl⟩

/-! ### The acts -/

/-- What a change of HEAT from OFF to ON comes to. -/
structure HeatStarts (s t : State) : Prop where
  permit : t.hsu.permit = some (t.rst.line.permitPeriod.getD 0)
  stale : (∃ z ∈ allZones, (s.hsu.zones.get z).fresh = false) → t.hasAlert .zoneSensor = true
  zones : ∀ z ∈ allZones, (s.hsu.zones.get z).mode = .off →
    (s.running = true → (t.hsu.zones.get z).mode = .warming) ∧
      (s.running = false → t.hsu.zones.get z =
        { s.hsu.zones.get z with mode := .standby, target := t.rst.line.standby, targetClass := none, settle := none })

/-- What the units make of the Line record's commit. -/
structure LineActs (s u : State) (st : LineStage) : Prop where
  line : u.rst.line = { s.rst.line.committed st with requested := u.rst.line.requested }
  requested : u.rst.line.autoSplice = false → u.rst.line.requested = st.requested.getD s.rst.line.requested
  on : st.heat = some true → s.rst.line.heat = false → HeatStarts s u
  off : st.heat = some false → s.rst.line.heat = true →
    u.hsu.permit = none ∧ ∀ z, (u.hsu.zones.get z).mode = .off ∧ (u.hsu.zones.get z).settle = none
  same : st.heat = none ∨ st.heat = some s.rst.line.heat → u.hsu.permit = s.hsu.permit
  threads : ∀ x r, st.requested = some (some x) → s.rst.line.requested ≠ some x → s.activeStation = none → s.sgv.gov = .stopped →
    s.station x = .prepared → s.boundRoll? x = some r →
    u.station x = .feeding ∧ (u.roll? r.tag).map (fun q => (q.state, q.remaining)) = some (.active, r.initLen.getD 0)
  counts : u.fsu.w = s.fsu.w ∧ u.exu = s.exu ∧ u.inputs = s.inputs
  panels : st.requested = none ∨ s.activeStation ≠ none →
    u.rst.lots = s.rst.lots ∧ u.rst.panels = s.rst.panels ∧ u.ltr.segment = s.ltr.segment

/-- HEAT ON after the acts before it, and the acts after it. -/
theorem heatOn_starts {v : State} {old new : LineRecord} (hgov : v.sgv.gov = s.sgv.gov) (hhsu : v.hsu = s.hsu) :
    HeatStarts s (v.heatOn.lineAfterHeat old new) := by
  obtain ⟨hline, hpermit, hstale, hzones⟩ := heatOn_heatedOn v
  have hafter := lineAfterHeat_lineKept v.heatOn old new
  have hlineAfter : (v.heatOn.lineAfterHeat old new).rst.line.permitPeriod = v.rst.line.permitPeriod ∧
      (v.heatOn.lineAfterHeat old new).rst.line.standby = v.rst.line.standby := by
    rw [hafter.line, hline]
    exact ⟨rfl, rfl⟩
  have hrun : v.heatStarted.running = s.running := running_of_gov hgov
  rw [hhsu] at hstale
  refine ⟨?_, fun h => hafter.alert (hstale h), fun z _ hoff => ?_⟩
  · rw [lineAfterHeat_hsu, hpermit, hlineAfter.1]
  · have hzone : (v.heatOn.lineAfterHeat old new).hsu.zones.get z =
        if s.running then v.heatStarted.warmZone z (s.hsu.zones.get z) else v.heatStarted.standbyZone (s.hsu.zones.get z) := by
      rw [lineAfterHeat_hsu, hzones, hhsu, State.zoneOn, if_pos hoff, hrun]
    rw [hzone, hlineAfter.2]
    refine ⟨fun hruns => ?_, fun hrests => ?_⟩
    · rw [if_pos hruns]
      rfl
    · rw [hrests]
      rfl

/-- A changed request threads a PREPARED station at rest (R56). -/
theorem lineCommitted_threads {x : Station} {r : Roll} (hrequested : st.requested = some (some x)) (hchanged : s.rst.line.requested ≠ some x)
    (hnone : s.activeStation = none) (hstopped : s.sgv.gov = .stopped) (hx : s.station x = .prepared) (hbound : s.boundRoll? x = some r) :
    ((s.fieldsWritten st).lineCommitted s.rst.line st).station x = .feeding ∧
      (((s.fieldsWritten st).lineCommitted s.rst.line st).roll? r.tag).map (fun q => (q.state, q.remaining)) =
        some (.active, r.initLen.getD 0) := by
  have hnew : (s.fieldsWritten st).rst.line.requested = some x := congrArg (Option.getD · s.rst.line.requested) hrequested
  obtain ⟨hrst, hstation⟩ := lineBeforeHeat_of_inactive (s := s.fieldsWritten st) hnone s.rst.line
  have hgov := (lineBeforeHeat_lineKept (s.fieldsWritten st) s.rst.line).gov
  have hpanels := lineBeforeHeat_panelsKept (s.fieldsWritten st) s.rst.line
  rw [lineCommitted_eq]
  generalize (s.fieldsWritten st).lineBeforeHeat s.rst.line = v at *
  have hheated : (v.heatCommitted st.heat).rst.rolls = v.rst.rolls ∧ (v.heatCommitted st.heat).fsu = v.fsu ∧
      (v.heatCommitted st.heat).sgv.gov = v.sgv.gov := by simp
  have hrequest : (v.heatCommitted st.heat).rst.line.requested = some x := by
    rw [heatCommitted_line, hrst]
    exact hnew
  have hrolls : (v.heatCommitted st.heat).rst.rolls = s.rst.rolls := by
    rw [hheated.1, hrst]
    rfl
  have hactive := (hpanels.trans (heatCommitted_panelsKept v st.heat)).active
  obtain ⟨hfeeding, -, ⟨e, hroll⟩, -⟩ := lineAfterHeat_threads (old := s.rst.line) (new := (s.fieldsWritten st).rst.line)
    (by rw [hnew]; exact hchanged) hrequest (hactive.trans hnone) (hheated.2.2.trans (hgov.trans hstopped))
    ((station_of_fsu hheated.2.1 x).trans ((hstation x).trans hx)) ((boundRoll?_congr hrolls x).trans hbound)
  exact ⟨hfeeding, by rw [hroll]; rfl⟩

theorem lineCommitted_acts (s : State) (st : LineStage) : LineActs s ((s.fieldsWritten st).lineCommitted s.rst.line st) st := by
  have hthreads := @lineCommitted_threads s st
  rw [lineCommitted_eq] at hthreads ⊢
  have hbefore := lineBeforeHeat_lineKept (s.fieldsWritten st) s.rst.line
  have hpanels := lineBeforeHeat_panelsKept (s.fieldsWritten st) s.rst.line
  obtain ⟨hpermit, hhsu⟩ := lineBeforeHeat_hsu (s.fieldsWritten st) s.rst.line
  generalize (s.fieldsWritten st).lineBeforeHeat s.rst.line = v at *
  have hafter := lineAfterHeat_lineKept (v.heatCommitted st.heat) s.rst.line (s.fieldsWritten st).rst.line
  have hafterHsu := lineAfterHeat_hsu (v.heatCommitted st.heat) s.rst.line (s.fieldsWritten st).rst.line
  have hheat : v.rst.line.heat = s.rst.line.heat := by rw [hbefore.line]; rfl
  have hline := heatCommitted_line v st.heat
  have hcounts : (v.heatCommitted st.heat).fsu.w = v.fsu.w ∧ (v.heatCommitted st.heat).exu = v.exu ∧
      (v.heatCommitted st.heat).inputs = v.inputs := by simp
  refine ⟨?_, fun hoff => ?_, fun hon hwas => ?_, fun hon hwas => ?_, fun hsame => ?_, ?_, ?_, fun hquiet => ?_⟩
  · rw [hafter.line, hline, hbefore.line]
    rfl
  · rw [hafter.line, hline] at hoff
    rw [hafter.requested (by rw [hline]; exact hoff), hline]
    rw [hbefore.line] at hoff
    exact hbefore.requested hoff
  · rw [hon, heatCommitted_on (hheat.trans hwas)]
    exact heatOn_starts hbefore.gov (hhsu hwas)
  · rw [hafterHsu, hon, heatCommitted_off (hheat.trans hwas)]
    have hheated := heatOff_heatedOff v
    exact ⟨hheated.permit, hheated.zones⟩
  · rw [hafterHsu, heatCommitted_same (by rwa [hheat])]
    exact hpermit
  · exact @hthreads
  · exact ⟨hafter.counts.1.trans (hcounts.1.trans hbefore.counts.1), hafter.counts.2.1.trans (hcounts.2.1.trans hbefore.counts.2.1),
      hafter.counts.2.2.trans (hcounts.2.2.trans hbefore.counts.2.2)⟩
  · have hheated := hpanels.trans (heatCommitted_panelsKept v st.heat)
    have hkept := hheated.trans (lineAfterHeat_panelsKept (s := v.heatCommitted st.heat) (old := s.rst.line)
      (new := (s.fieldsWritten st).rst.line) ?_)
    · exact ⟨hkept.lots, hkept.panels, hkept.segment⟩
    · refine hquiet.imp (fun hnone => ?_) fun hactive => ?_
      · show _ = st.requested.getD s.rst.line.requested
        rw [hnone]
        rfl
      · rw [hheated.active]
        exact hactive

end Sys2Proof.Machine
end

section
/-! SUPPORT. CLOSE of the Line record (O56): the end of the act, and the statement. -/

namespace Sys2Proof.Machine

variable {s u : State} {p : Port} {st : LineStage}

theorem commit_line {k : Nat} (hrefusal : s.lineRefusal p st = none) :
    s.commit p k (.line st) = .ok ((s.fieldsWritten st).lineCommitted s.rst.line st) := by
  simp only [State.commit, State.commitLine, hrefusal]
  rfl

theorem closedWith_hasAlert (u : State) (p : Port) (a : Alert) : (u.closedWith p).hasAlert a = u.hasAlert a := by
  have hsetSlot : (u.setSlot p .empty).hasAlert a = u.hasAlert a := hasAlert_congr (by simp) a
  rw [← hsetSlot, ← hasAlert_endAct]
  exact hasAlert_congr (by simp [State.closedWith]) a

/-- HEAT OFF at the end of the act holds no ZONE_UNSETTLED (R124). -/
theorem closedWith_not_unsettled (h : u.rst.line.heat = false) : (u.closedWith p).hasHold .zoneUnsettled = false := by
  refine Eq.trans ?_ (endAct_not_unsettled (s := u.setSlot p .empty) (by simpa using h))
  exact hasHold_congr (by simp [State.closedWith]) _

theorem HeatStarts.closed (h : HeatStarts s u) (p : Port) : HeatStarts s (u.closedWith p) := by
  obtain ⟨hrst, hhsu, -⟩ := closedWith_frame u p
  refine ⟨?_, fun hstale => (closedWith_hasAlert u p _).trans (h.stale hstale), ?_⟩ <;> rw [hhsu, hrst]
  · exact h.permit
  · exact h.zones

/-- The end of the act leaves what the units made of the commit. -/
theorem LineActs.closed (h : LineActs s u st) (p : Port) : LineActs s (u.closedWith p) st := by
  obtain ⟨hrst, hhsu, -, -, hltr⟩ := closedWith_frame u p
  obtain ⟨-, hinputs, hexu, hfsu⟩ := closedWith_line u p
  have hroll (tag : Nat) : (u.closedWith p).roll? tag = u.roll? tag := roll?_congr (by rw [hrst]) tag
  refine ⟨?_, ?_, fun hon hwas => (h.on hon hwas).closed p, ?_, ?_, fun x r hrequested hchanged hnone hstopped hx hbound => ?_, ?_, ?_⟩
  · rw [hrst]
    exact h.line
  · rw [hrst]
    exact h.requested
  · rw [hhsu]
    exact h.off
  · rw [hhsu]
    exact h.same
  · rw [closedWith_station, hroll]
    exact h.threads x r hrequested hchanged hnone hstopped hx hbound
  · rw [hinputs, hexu, hfsu]
    exact h.counts
  · rw [hrst, hltr]
    exact h.panels

/-- CLOSE of an accepted commit. -/
theorem closeRecord_commitsLine {k : Nat} (hears : s.hears p = true) (hslot : s.slot p = .write k (.line st))
    (hstaged : (Staging.line st).isEmpty = false) (hrefusal : s.lineRefusal p st = none) :
    ∃ t, exec (.closeRecord p []) s = .next t ∧ t.says p .ok ∧ t.slot p = .empty ∧ LineActs s t st ∧
      (t.rst.line.heat = false → t.hasHold .zoneUnsettled = false) := by
  have hrefusal' : (s.restartInactivity p).lineRefusal p st = none := (commitRefusal_restartInactivity s p k (.line st)).trans hrefusal
  have hexec := closeRecord_of_commit hears hslot hstaged (commit_line hrefusal')
  obtain ⟨l, hl⟩ := restartInactivity_lnk s p
  have hacts : LineActs s (((s.restartInactivity p).fieldsWritten st).lineCommitted (s.restartInactivity p).rst.line st) st := by
    have h := lineCommitted_acts (s.restartInactivity p) st
    rw [hl] at h ⊢
    obtain ⟨hline, hrequested, hon, hoff, hsame, hthreads, hcounts, hpanels⟩ := h
    refine ⟨hline, hrequested, fun h1 h2 => ?_, hoff, hsame, hthreads, hcounts, hpanels⟩
    obtain ⟨hpermit, hstale, hzones⟩ := hon h1 h2
    exact ⟨hpermit, hstale, hzones⟩
  refine ⟨_, hexec, closedWith_says _ p, closedWith_slot _ p, hacts.closed p, fun hheat => closedWith_not_unsettled ?_⟩
  rw [← hheat, (closedWith_frame _ p).1]

/-- Settles O56: by the checks in order, and by what the units make of the record written. -/
theorem closeCommitsTheLineRecord : Obligations.CloseCommitsTheLineRecord := by
  unfold Obligations.CloseCommitsTheLineRecord
  intro s p st hears hslot hstaged hkey close answers l fields once set passes on
  have honce : once ↔ st.setOnce = true := (setOnce_iff l st).symm
  have hpasses (h : passes) : s.setOncePasses st := fun hst => h (honce.mpr hst)
  have hrefuses {e : Reply} (h : s.lineRefusal p st = some e) : answers e := closeRecord_of_refusal hears hslot hstaged h
  refine ⟨fun hstagedOnce hclosed => hrefuses (lineRefusal_fixed hkey (honce.mp hstagedOnce) hclosed),
    fun before f after hstagedOnce hopen hfields hbefore hf => hrefuses (lineRefusal_unset hkey (honce.mp hstagedOnce) hopen hfields hbefore hf),
    fun hpass hon hestop => hrefuses (lineRefusal_notReady hkey (hpasses hpass) hon hestop),
    fun hpass hon hestop hconfigured hno => hrefuses
      (lineRefusal_notConfigured hkey (hpasses hpass) hon hestop hconfigured (Bool.eq_false_iff.mpr fun hst => hno (honce.mpr hst))),
    fun hpass hheat => ?_⟩
  have hrefusal : s.lineRefusal p st = none := lineRefusal_none hkey (hpasses hpass) fun hon => by
    obtain ⟨hestop, hconfigured⟩ := hheat hon
    exact ⟨hestop, hconfigured.imp_right honce.mp⟩
  obtain ⟨t, hexec, hsays, hempty, hacts, hunsettled⟩ := closeRecord_commitsLine hears hslot hstaged hrefusal
  have hfields := committed_fields hacts.line
  obtain ⟨hw, hexu, hinputs⟩ := hacts.counts
  refine ⟨t, hexec, hsays, hempty, ⟨hfields.setOnce, hfields.setSpeed, hfields.autoSplice, hfields.heat, hfields.laneMask, hacts.requested,
    fun hnone => ?_, fun lane v hone => ?_, fun hst => ?_, fun hno => ?_, fun hon hwas => ?_, fun hoff hwas => ?_, hacts.same,
    fun x r _ => hacts.threads x r⟩, hw, hexu, hinputs, hacts.panels⟩
  · rw [hfields.trims, hnone]
    rfl
  · rw [hfields.trims, hone]
    rfl
  · rw [hfields.configured, hfields.windowOpen, honce.mp hst]
    simp
  · have hst : st.setOnce = false := Bool.eq_false_iff.mpr fun hst => hno (honce.mpr hst)
    rw [hfields.configured, hfields.windowOpen, hst]
    simp [l]
  · obtain ⟨hpermit, hstale, hzones⟩ := hacts.on hon hwas
    exact ⟨hpermit, hstale, hzones⟩
  · obtain ⟨hpermit, hzones⟩ := hacts.off hoff hwas
    refine ⟨hpermit, hunsettled ?_, fun z _ => hzones z⟩
    rw [hfields.heat, hoff]
    rfl

end Sys2Proof.Machine
end

section
/-! SUPPORT. The grid of the web (O13): the laws ask a QUEUED lot for a pattern and a class but for no panels ordered, so one with panels
ordered unset meets them until the entry decision of a feed count places it on the web, with an extent that ends where it begins. -/

namespace Sys2Proof.Machine

/-- One pleat of 1,250 counts, 20 deep. -/
def orderlessStep : Step := { advance := 1250, depth := 20, dir := .right }

/-- A READY pattern of two pleats, F = 2,580 and P = 2,500, which one lot names. -/
def orderlessPattern : Pattern :=
  { Pattern.created 1 with
    state := .ready, stepCount := 2, refCount := 1, revision := 1, flatLen := 2580, pleatedLen := 2500, minStep := 1290, blockMap := [0] }

/-- A DEFINED class that a roll and a lot name. -/
def orderlessClass : FabricClass :=
  { FabricClass.created 1 with
    state := .defined, setpoints := ⟨some 1500, some 1500, some 1500, some 1500⟩, maxBelt := some 500, doseMin := some 1, doseMax := some 2,
    refCount := 2, revision := 1 }

/-- An ACTIVE roll of that class, on station A. -/
def orderlessRoll : Roll :=
  { Roll.created 1 with
    state := .active, cls := some 1, initLen := some 30000, remaining := 20000, leaderReady := true, station := some .a }

/-- A QUEUED lot with panels ordered unset, so that it plans none; no commit makes one (R80), and no law excludes it. -/
def lotWithoutOrder : Lot := { Lot.created 1 with state := .queued, pattern := some 1, cls := some 1 }

/-- The WASTE panel forming from coordinate 0. -/
def orderlessWaste : FormContext :=
  { key := { lot := 0, index := 1 }, kind := .waste, start := 0, flatLen := 2500, pleatedLen := 2500, pattern := none, cls := 1, doseMin := 1,
    doseMax := 2, laneMask := 0xFFFF#16, trims := List.replicate 16 0, trimRange := none, steps := [], minStep := 0, nextStep := 1 }

/-- A line whose ACTIVE roll is of that lot's class and whose waste segment, from 2,500 to 5,000, ends with the feed count that waits. -/
def beforeEmptyExtent : State :=
  { State.reset with
    pending := [.feedCount .forward]
    fsu := { Fsu.reset with w := 4999, staA := .feeding }
    ltr := { Ltr.reset with segment := .waste 2500 5000 }
    pfm := { Pfm.reset with forming := some orderlessWaste, nextStart := some 2500, nextWaste := 2 }
    rst := { Store.reset with
      patterns := [orderlessPattern]
      pool := [(0, orderlessStep), (1, orderlessStep)]
      classes := [orderlessClass]
      rolls := [orderlessRoll]
      lots := [lotWithoutOrder]
      order := [1]
      line := { LineRecord.reset with wasteLen := some 2500, configured := true, windowOpen := false } } }

theorem beforeEmptyExtent_lineOrderLaw : LineOrderLaw beforeEmptyExtent := by
  unfold LineOrderLaw risingKeys
  decide +kernel

theorem beforeEmptyExtent_webExtentLaw : WebExtentLaw beforeEmptyExtent := by
  unfold WebExtentLaw
  decide +kernel

theorem beforeEmptyExtent_countLaw : CountLaw beforeEmptyExtent := by
  unfold CountLaw TablesLaw risingKeys
  refine ⟨?_, ?_, ?_, ?_, ?_⟩ <;> decide +kernel

theorem beforeEmptyExtent_poolLaw : PoolLaw beforeEmptyExtent := by
  unfold PoolLaw risingKeys
  decide +kernel

theorem beforeEmptyExtent_panelGridLaw : PanelGridLaw beforeEmptyExtent := by
  refine ⟨by decide +kernel, by unfold State.lengthsInRange; decide +kernel, fun _ => ⟨rfl, rfl, rfl, 2500, 2500, 5000, rfl, rfl, ?_⟩⟩
  have hweb : beforeEmptyExtent.webLots = [] := by decide +kernel
  refine ⟨by decide +kernel, by decide +kernel, by decide +kernel, fun l hl => ?_⟩
  rw [hweb] at hl
  cases hl

theorem beforeEmptyExtent_near : beforeEmptyExtent.nearWeb ∧ beforeEmptyExtent.nearW beforeEmptyExtent.pfm.nextStart = true := by
  unfold State.nearWeb
  decide +kernel

/-- The feed count places the lot from 5,000 to 5,000, so that the segment's end does not lie ahead of W. -/
theorem beforeEmptyExtent_places :
    ∃ t, step beforeEmptyExtent = .next t ∧ t.nearWeb ∧ t.ltr.segment = .lot 1 ∧ t.segmentExtent = some (5000, 5000) ∧
      t.fsu.w = 5000 := by
  refine ⟨_, rfl, ?_⟩
  unfold State.nearWeb
  decide +kernel

/-- Refutes O13 in its second half: a step takes `beforeEmptyExtent`, where every law of its premise holds, to a state whose current
segment ends at W, which the law of the grid excludes. -/
theorem not_tallyLawKept : ¬ Obligations.TallyLawKept := by
  unfold Obligations.TallyLawKept
  rintro ⟨-, hkept⟩
  obtain ⟨t, hstep, hnear, hsegment, hextent, hw⟩ := beforeEmptyExtent_places
  obtain ⟨-, -, hgrid⟩ := hkept _ t beforeEmptyExtent_lineOrderLaw beforeEmptyExtent_webExtentLaw beforeEmptyExtent_countLaw
    beforeEmptyExtent_poolLaw beforeEmptyExtent_panelGridLaw beforeEmptyExtent_near.1 beforeEmptyExtent_near.2 hstep hnear
  obtain ⟨-, -, -, c, b, e, -, hextent', hahead, -⟩ := hgrid (by rw [hsegment]; simp)
  rw [hextent] at hextent'
  cases hextent'
  rw [hw] at hahead
  exact absurd hahead (by decide)

end Sys2Proof.Machine
end

section
/-! SUPPORT. The checks of a lot's commit (O55), each as the statement names it, and the entered count of R89. -/

namespace Sys2Proof.Machine

variable {s : State} {l : Lot} {st : LotStage}

/-! ### The entered count (R89, log entry 37) -/

/-- A number of panels is the entered count with W at `d` counts past the head: the least n with head + n × F ≥ W and not below panels
started, planned at most. -/
def Lot.Entered (l : Lot) (d : Int) (len n : Nat) : Prop :=
  n ≤ l.planned ∧ (d ≤ (n * len : Nat) ∧ l.started ≤ n ∨ n = l.planned) ∧ ∀ m < n, ((m * len : Nat) : Int) < d ∨ m < l.started

/-- The formula of R89 counts the panels whose flat start lies behind W. -/
theorem lt_panelsBehind_iff {d : Int} {len : Nat} (hlen : 0 < len) (m : Nat) :
    m < (if d ≤ 0 then 0 else (d.toNat + len - 1) / len) ↔ ((m * len : Nat) : Int) < d := by
  split
  · omega
  · rw [Nat.lt_iff_add_one_le, Nat.le_div_iff_mul_le hlen, Nat.succ_mul]
    omega

theorem enteredCount_entered {w h : Coord} {len : Nat} (hlen : 0 < len) (l : Lot) :
    l.Entered (coordDiff w h) len (enteredCount w h len l.planned l.started) := by
  have hbehind := lt_panelsBehind_iff (d := coordDiff w h) hlen
  unfold enteredCount keepStarted
  dsimp only
  generalize (if coordDiff w h ≤ 0 then 0 else ((coordDiff w h).toNat + len - 1) / len) = c at hbehind
  refine ⟨Nat.min_le_left _ _, ?_, fun m hm => ?_⟩
  · by_cases hplanned : l.planned ≤ max l.started c
    · exact Or.inr (Nat.min_eq_left hplanned)
    · rw [Nat.min_eq_right (by omega)]
      exact Or.inl ⟨Int.not_lt.mp ((hbehind _).not.mp (by omega)), Nat.le_max_left _ _⟩
  · rw [← hbehind]
    omega

/-- Only one number is the entered count. -/
theorem Lot.Entered.unique {d : Int} {len a b : Nat} (ha : l.Entered d len a) (hb : l.Entered d len b) : a = b := by
  have hnot {a b : Nat} (ha : l.Entered d len a) (hb : l.Entered d len b) : ¬ a < b := fun hlt => by
    obtain ⟨-, hreached, -⟩ := ha
    obtain ⟨hplanned, -, hleast⟩ := hb
    have := hleast a hlt
    omega
  exact Nat.le_antisymm (Nat.not_lt.mp (hnot hb ha)) (Nat.not_lt.mp (hnot ha hb))

/-! ### What each check of R80 asks -/

/-- A field is staged that the lot's state locks (R80, check 1). -/
def Lot.locks (l : Lot) (st : LotStage) : Prop :=
  (¬ (l.state = .new ∨ l.state = .queued) ∧
      (st.pattern ≠ none ∨ st.cls ≠ none ∨ st.makeupAllowance ≠ none ∨ st.restriction ≠ none ∨ st.place ≠ none)) ∨
    ((l.state = .fed ∨ l.state = .done) ∧ st.ordered ≠ none)

/-- The staged pattern is not READY (R80, check 3). -/
def State.patternUnready (s : State) (st : LotStage) : Prop := ∃ n, st.pattern = some n ∧ ∀ q, s.pattern? n = some q → q.state ≠ .ready

/-- The staged class is not DEFINED (R80, check 4). -/
def State.classUndefined (s : State) (st : LotStage) : Prop := ∃ n, st.cls = some n ∧ ∀ c, s.class? n = some c → c.state ≠ .defined

/-- The staged panels ordered leave a FEEDING lot's planned count below its entered count (R80, check 5). -/
def State.leavesBelow (s : State) (l : Lot) (st : LotStage) : Prop :=
  ∃ n m, l.state = .feeding ∧ st.ordered = some n ∧ l.Entered (coordDiff s.fsu.w (l.head.getD 0)) (s.lotFlatLen l) m ∧
    n + l.makeupUsed < m + l.cancelled

/-- The staged place names no waiting lot (R80, check 6). -/
def State.placeUnknown (s : State) (st : LotStage) : Prop :=
  ∃ n, st.place = some n ∧ n ≠ 0 ∧ ∀ m, s.lot? n = some m → m.state ≠ .new ∧ m.state ≠ .queued

/-- A FEEDING lot has a head and a pattern with a flat length. -/
def State.feeds (s : State) (l : Lot) : Prop := l.state = .feeding → l.head.isSome = true ∧ 0 < s.lotFlatLen l

theorem lot_locks_iff :
    ((!l.waiting && st.locked) || ((l.state == .fed || l.state == .done) && st.ordered.isSome)) = true ↔ l.locks st := by
  simp [Lot.waiting, LotStage.locked, Lot.locks, Option.isSome_iff_ne_none, or_assoc]

theorem patternUnready_iff : (st.pattern.any fun n => !s.patternReady n) = true ↔ s.patternUnready st := by
  simp [State.patternUnready, State.patternReady, Option.any_eq_true, Option.any_eq_false]

theorem classUndefined_iff : (st.cls.any fun n => (s.definedClass? n).isNone) = true ↔ s.classUndefined st := by
  simp [State.classUndefined, State.definedClass?, Option.any_eq_true, Option.all_eq_true]

theorem leavesBelow_iff (hfeeds : s.feeds l) : s.belowEntered l st = true ↔ s.leavesBelow l st := by
  unfold State.belowEntered State.leavesBelow
  split
  · rename_i n h hstate hordered hhead
    have hentered := enteredCount_entered (w := s.fsu.w) (h := h) (hfeeds hstate).2 l
    rw [decide_eq_true_iff, hhead, Option.getD_some]
    refine ⟨fun hbelow => ⟨n, _, hstate, hordered, hentered, hbelow⟩, ?_⟩
    rintro ⟨n', m, -, hordered', hm, hbelow⟩
    rw [hordered] at hordered'
    cases hordered'
    rwa [hentered.unique hm]
  · rename_i hnone
    refine ⟨fun hfalse => absurd hfalse Bool.false_ne_true, ?_⟩
    rintro ⟨n, m, hstate, hordered, -⟩
    obtain ⟨h, hhead⟩ := Option.isSome_iff_exists.mp (hfeeds hstate).1
    exact absurd hhead (hnone n h hstate hordered)

theorem placeUnknown_iff : s.badPlace st = true ↔ s.placeUnknown st := by
  simp [State.placeUnknown, State.badPlace, Lot.waiting, Option.any_eq_true, Option.any_eq_false]

/-! ### The refusal, check by check -/

/-- Nothing is locked, and pattern, class and panels ordered are set in view (R80, checks 1 and 2). -/
def Lot.whole (l : Lot) (st : LotStage) : Prop :=
  ¬ l.locks st ∧ inView st.pattern l.pattern ≠ none ∧ inView st.cls l.cls ≠ none ∧ inView st.ordered l.ordered ≠ none

theorem lotRefusal_locked (h : l.locks st) : s.lotRefusal l st = some (say .locked) := by
  unfold State.lotRefusal
  rw [lot_locks_iff.mpr h, firstRefusal_cons_true]

/-- The checks past the first. -/
theorem lotRefusal_past (h : ¬ l.locks st) : s.lotRefusal l st = firstRefusal
    [((inView st.pattern l.pattern).isNone, invalid 0x01 0), ((inView st.cls l.cls).isNone, invalid 0x02 0),
     ((inView st.ordered l.ordered).isNone, invalid 0x03 0), (st.pattern.any fun n => !s.patternReady n, invalid 0x01 0),
     (st.cls.any fun n => (s.definedClass? n).isNone, invalid 0x02 0), (s.belowEntered l st, invalid 0x03 0),
     (s.badPlace st, invalid 0x07 0)] := by
  unfold State.lotRefusal
  rw [Bool.eq_false_iff.mpr (lot_locks_iff.not.mpr h), firstRefusal_cons_false]

theorem lotRefusal_noPattern (h : ¬ l.locks st) (hpattern : inView st.pattern l.pattern = none) :
    s.lotRefusal l st = some (invalid 0x01 0) := by
  rw [lotRefusal_past h, hpattern]
  rfl

theorem lotRefusal_noClass (h : ¬ l.locks st) (hpattern : inView st.pattern l.pattern ≠ none) (hcls : inView st.cls l.cls = none) :
    s.lotRefusal l st = some (invalid 0x02 0) := by
  obtain ⟨n, hn⟩ := Option.ne_none_iff_exists'.mp hpattern
  rw [lotRefusal_past h, hn, hcls]
  rfl

theorem lotRefusal_noOrder (h : ¬ l.locks st) (hpattern : inView st.pattern l.pattern ≠ none) (hcls : inView st.cls l.cls ≠ none)
    (hordered : inView st.ordered l.ordered = none) : s.lotRefusal l st = some (invalid 0x03 0) := by
  obtain ⟨n, hn⟩ := Option.ne_none_iff_exists'.mp hpattern
  obtain ⟨c, hc⟩ := Option.ne_none_iff_exists'.mp hcls
  rw [lotRefusal_past h, hn, hc, hordered]
  rfl

/-- The checks past the first two. -/
theorem lotRefusal_whole (h : l.whole st) : s.lotRefusal l st = firstRefusal
    [(st.pattern.any fun n => !s.patternReady n, invalid 0x01 0), (st.cls.any fun n => (s.definedClass? n).isNone, invalid 0x02 0),
     (s.belowEntered l st, invalid 0x03 0), (s.badPlace st, invalid 0x07 0)] := by
  obtain ⟨hlocked, hpattern, hcls, hordered⟩ := h
  obtain ⟨n, hn⟩ := Option.ne_none_iff_exists'.mp hpattern
  obtain ⟨c, hc⟩ := Option.ne_none_iff_exists'.mp hcls
  obtain ⟨k, hk⟩ := Option.ne_none_iff_exists'.mp hordered
  rw [lotRefusal_past hlocked, hn, hc, hk]
  rfl

theorem lotRefusal_unready (h : l.whole st) (hpattern : s.patternUnready st) : s.lotRefusal l st = some (invalid 0x01 0) := by
  rw [lotRefusal_whole h, patternUnready_iff.mpr hpattern, firstRefusal_cons_true]

/-- The checks past the pattern's state. -/
theorem lotRefusal_ready (h : l.whole st) (hpattern : ¬ s.patternUnready st) : s.lotRefusal l st = firstRefusal
    [(st.cls.any fun n => (s.definedClass? n).isNone, invalid 0x02 0), (s.belowEntered l st, invalid 0x03 0),
     (s.badPlace st, invalid 0x07 0)] := by
  rw [lotRefusal_whole h, Bool.eq_false_iff.mpr (patternUnready_iff.not.mpr hpattern), firstRefusal_cons_false]

theorem lotRefusal_undefined (h : l.whole st) (hpattern : ¬ s.patternUnready st) (hcls : s.classUndefined st) :
    s.lotRefusal l st = some (invalid 0x02 0) := by
  rw [lotRefusal_ready h hpattern, classUndefined_iff.mpr hcls, firstRefusal_cons_true]

/-- The checks past the class's state. -/
theorem lotRefusal_defined (h : l.whole st) (hpattern : ¬ s.patternUnready st) (hcls : ¬ s.classUndefined st) :
    s.lotRefusal l st = firstRefusal [(s.belowEntered l st, invalid 0x03 0), (s.badPlace st, invalid 0x07 0)] := by
  rw [lotRefusal_ready h hpattern, Bool.eq_false_iff.mpr (classUndefined_iff.not.mpr hcls), firstRefusal_cons_false]

theorem lotRefusal_below (hfeeds : s.feeds l) (h : l.whole st) (hpattern : ¬ s.patternUnready st) (hcls : ¬ s.classUndefined st)
    (hbelow : s.leavesBelow l st) : s.lotRefusal l st = some (invalid 0x03 0) := by
  rw [lotRefusal_defined h hpattern hcls, (leavesBelow_iff hfeeds).mpr hbelow, firstRefusal_cons_true]

theorem lotRefusal_badPlace (hfeeds : s.feeds l) (h : l.whole st) (hpattern : ¬ s.patternUnready st) (hcls : ¬ s.classUndefined st)
    (hbelow : ¬ s.leavesBelow l st) (hplace : s.placeUnknown st) : s.lotRefusal l st = some (invalid 0x07 0) := by
  rw [lotRefusal_defined h hpattern hcls, Bool.eq_false_iff.mpr ((leavesBelow_iff hfeeds).not.mpr hbelow), firstRefusal_cons_false,
    placeUnknown_iff.mpr hplace, firstRefusal_cons_true]

theorem lotRefusal_none (hfeeds : s.feeds l) (h : l.whole st) (hpattern : ¬ s.patternUnready st) (hcls : ¬ s.classUndefined st)
    (hbelow : ¬ s.leavesBelow l st) (hplace : ¬ s.placeUnknown st) : s.lotRefusal l st = none := by
  rw [lotRefusal_defined h hpattern hcls, Bool.eq_false_iff.mpr ((leavesBelow_iff hfeeds).not.mpr hbelow), firstRefusal_cons_false,
    Bool.eq_false_iff.mpr (placeUnknown_iff.not.mpr hplace)]
  rfl

end Sys2Proof.Machine
end

section
/-! SUPPORT. A lot's commit accepted (O55): the fields written, the place taken, and the tail of a FEEDING lot. -/

namespace Sys2Proof.Machine

variable {s v : State} {l : Lot} {st : LotStage} {k : Nat}

/-! ### The commit -/

/-- The state after a lot's commit that is not refused (R80). -/
def State.lotCommitted (s : State) (l : Lot) (st : LotStage) : State :=
  (((s.putLot (l.written st)).placeCommitted l.number st).settleCounts).orderedCommitted (l.written st) st

theorem commit_lot {p : Port} (hlot : s.lot? k = some l) (hrefusal : s.lotRefusal l st = none) :
    s.commit p k (.lot st) = .ok (s.lotCommitted l st) := by
  obtain rfl := lot?_number hlot
  simp [State.commit, State.commitLot, hlot, hrefusal, State.lotCommitted]

theorem Lot.written_feeding (l : Lot) (st : LotStage) : (l.written st).state = .feeding ↔ l.state = .feeding := by
  rw [l.written_state]
  split <;> simp_all

theorem orderedCommitted_quiet (h : l.state ≠ .feeding ∨ st.ordered = none) : s.orderedCommitted (l.written st) st = s := by
  refine if_neg fun ⟨hstate, hordered⟩ => ?_
  rcases h with h | h
  · exact h ((l.written_feeding st).mp hstate)
  · rw [h] at hordered
    cases hordered

/-- The counts settled, the lots stand as the writing left them. -/
theorem lotWritten_lot? (s : State) (l : Lot) (st : LotStage) (m : Nat) :
    ((s.putLot (l.written st)).placeCommitted l.number st).settleCounts.lot? m = (s.putLot (l.written st)).lot? m :=
  lot?_congr (by simp) m

/-! ### The place among the waiting lots (R82) -/

theorem insertBefore_append {before after : List Nat} {n m : Nat} (h : m ∉ before) :
    insertBefore n m (before ++ m :: after) = before ++ n :: m :: after := by
  induction before with
  | nil => exact if_pos rfl
  | cons x before ih =>
    obtain ⟨hne, hnot⟩ := not_or.mp (List.mem_cons.not.mp h)
    exact (if_neg (Ne.symm hne)).trans (congrArg (x :: ·) (ih hnot))

/-- The line order of `t` is that of `s` with the lot of a number at the place staged for it. -/
structure PlaceTaken (s t : State) (k : Nat) (place : Option Nat) : Prop where
  stays : place = none ∨ place = some k → t.rst.order = s.rst.order
  last : place = some 0 → k ≠ 0 → t.rst.order = s.rst.order.filter (· != k) ++ [k]
  before : ∀ n before after, place = some n → n ≠ 0 → n ≠ k → s.rst.order.filter (· != k) = before ++ n :: after → n ∉ before →
    t.rst.order = before ++ k :: n :: after

theorem moveInOrder_order {n place : Nat} (h : place ≠ n) :
    (s.moveInOrder n place).rst.order =
      if place = 0 then s.rst.order.filter (· != n) ++ [n] else insertBefore n place (s.rst.order.filter (· != n)) := by
  unfold State.moveInOrder
  rw [if_neg h]

theorem placeCommitted_placed (s : State) (k : Nat) (st : LotStage) : PlaceTaken s (s.placeCommitted k st) k st.place := by
  unfold State.placeCommitted
  refine ⟨fun hplace => ?_, fun hplace hk => ?_, fun n before after hplace hn hne hsplit hbefore => ?_⟩
  · rcases hplace with hplace | hplace
    · rw [hplace]
    · rw [hplace]
      exact congrArg (fun u : State => u.rst.order) (if_pos rfl)
  · rw [hplace]
    exact (moveInOrder_order hk.symm).trans (if_pos rfl)
  · rw [hplace]
    refine (moveInOrder_order hne).trans ((if_neg hn).trans ?_)
    rw [hsplit, insertBefore_append hbefore]

/-! ### A commit that moves no tail -/

/-- The lot of `t` is `l1` in the place of `l`, and the other lots and LTR are those of `s`. -/
structure LotPut (s t : State) (l l1 : Lot) : Prop where
  found : t.lot? l.number = some l1
  others : ∀ m, m ≠ l.number → t.lot? m = s.lot? m
  ltr : t.ltr = s.ltr

theorem putLot_lotPut {l1 : Lot} (hnumber : l1.number = l.number) : LotPut s (s.putLot l1) l l1 :=
  ⟨hnumber ▸ lot?_putLot_self s l1, fun _ hm => lot?_putLot_ne s l1 (hnumber ▸ hm), by simp⟩

/-- The same lots, and the same segment. -/
theorem LotPut.congr {u t : State} {l1 : Lot} (h : LotPut s u l l1) (hlots : t.rst.lots = u.rst.lots) (hltr : t.ltr = u.ltr) :
    LotPut s t l l1 :=
  ⟨(lot?_congr hlots _).trans h.found, fun m hm => (lot?_congr hlots m).trans (h.others m hm), hltr.trans h.ltr⟩

theorem lotCommitted_quiet (h : l.state ≠ .feeding ∨ st.ordered = none) :
    LotPut s (s.lotCommitted l st) l (l.written st) ∧ (s.lotCommitted l st).rst.panels = s.rst.panels ∧
      PlaceTaken s (s.lotCommitted l st) l.number st.place := by
  unfold State.lotCommitted
  rw [orderedCommitted_quiet h]
  obtain ⟨hstays, hlast, hbefore⟩ := placeCommitted_placed (s.putLot (l.written st)) l.number st
  have hput : LotPut s (s.putLot (l.written st)) l (l.written st) := putLot_lotPut rfl
  exact ⟨hput.congr (by simp) (by simp), by simp, by simpa using hstays, by simpa using hlast, by simpa using hbefore⟩

/-! ### An entry decision made at a tail (R84) -/

theorem withJoint_extent {j : Coord} {n : Nat} (h : l.head.isSome = true ∧ l.tail.isSome = true) :
    (l.withJoint j n).head = l.head ∧ (l.withJoint j n).tail.isSome = true := by
  unfold Lot.withJoint
  split
  · exact ⟨rfl, h.2⟩
  · split
    · exact ⟨rfl, by simp [h.1]⟩
    · exact ⟨rfl, h.2⟩

/-- The lot placed begins at the segment start, with or without the joint that was pending. -/
theorem placedLot_extent (v : State) (l : Lot) (c : Coord) (n : Nat) (joint : Option Coord) :
    ((v.placedLot l c).settled n joint).head = some c ∧ ((v.placedLot l c).settled n joint).tail.isSome = true := by
  have hplaced : (v.placedLot l c).head = some c ∧ (v.placedLot l c).tail.isSome = true := ⟨rfl, rfl⟩
  unfold Lot.settled
  split
  · exact hplaced
  · split
    · exact withJoint_extent (l := v.placedLot l c) ⟨rfl, rfl⟩
    · exact hplaced

/-- The segment an entry decision opens begins where the decision is made; a lot that is not QUEUED is not the one it opens with, and
stands as it was (R84–R86). -/
theorem entryDecision_opens {n : Nat} (hl : v.lot? n = some l) (hstate : l.state ≠ .queued) (c : Coord) :
    (v.entryDecision c).lot? n = some l ∧ (v.entryDecision c).ltr.segment ≠ .lot n ∧
      (v.entryDecision c).segmentExtent.map (·.1) = some c := by
  by_cases hwaste : v.ltr.classChange = true ∨ v.firstEligible = none
  · obtain ⟨hsegment, hlots, -⟩ := entryDecision_waste hwaste c
    refine ⟨(lot?_congr hlots n).trans hl, by simp [hsegment], ?_⟩
    simp [State.segmentExtent, hsegment]
  · obtain ⟨hchange, hfound⟩ := not_or.mp hwaste
    obtain ⟨x, hx⟩ := Option.ne_none_iff_exists'.mp hfound
    obtain ⟨hlot, henter⟩ := mayEnter_of_firstEligible hx
    have hne : n ≠ x.number := by
      rintro rfl
      rw [hl] at hlot
      cases hlot
      exact hstate henter.1
    obtain ⟨hsegment, -, hplaced, hothers, -⟩ := entryDecision_of_some (by simpa using hchange) hx c
    obtain ⟨hhead, htail⟩ := placedLot_extent v x c (v.lotFlatLen x) v.ltr.pendingJoint
    obtain ⟨e, he⟩ := Option.isSome_iff_exists.mp htail
    refine ⟨(hothers n hne).trans hl, by simpa [hsegment] using Ne.symm hne, ?_⟩
    simp [State.segmentExtent, hsegment, hplaced, hhead, he]

/-! ### The tail of a FEEDING lot (R89) -/

/-- The tail of the FEEDING lot `l` moved to `tail` with the fields `l1`: ahead of W it stands there, else the lot is FED or DONE and the
next segment begins at it. -/
structure TailTaken (s t : State) (l l1 : Lot) (tail : Coord) : Prop where
  ahead : coordDiff s.fsu.w tail < 0 → LotPut s t l { l1 with tail := some tail } ∧ t.rst.order = s.rst.order
  reached : 0 ≤ coordDiff s.fsu.w tail →
    (∃ l', t.lot? l.number = some l' ∧ (l'.state = .fed ∨ l'.state = .done) ∧ l'.tail = some tail ∧ l'.planned = l1.planned) ∧
      t.ltr.segment ≠ .lot l.number ∧ t.segmentExtent.map (·.1) = some tail

theorem tailMoved_ahead {tail : Coord} (hl : v.lot? k = some l) (htail : l.tail = some tail) (h : coordDiff v.fsu.w tail < 0) :
    v.tailMoved k = v := by
  simp only [State.tailMoved, hl, htail]
  exact if_neg (by simpa [reaches] using h)

theorem tailMoved_reached {tail : Coord} (hl : v.lot? k = some l) (htail : l.tail = some tail) (h : 0 ≤ coordDiff v.fsu.w tail) :
    (v.tailMoved k).lot? k = some (l.finishedIn v) ∧ (v.tailMoved k).ltr.segment ≠ .lot k ∧
      (v.tailMoved k).segmentExtent.map (·.1) = some tail := by
  have hmoved : v.tailMoved k = (v.makeFed k).entryDecision tail := by
    simp only [State.tailMoved, hl, htail]
    exact if_pos (by simpa [reaches] using h)
  rw [hmoved]
  refine entryDecision_opens (makeFed_lot? hl) ?_ tail
  rcases finishedIn_state v l with hstate | hstate <;> simp [hstate]

/-- What a commit of panels ordered on a FEEDING lot comes to: the lot written with its tail moved, and the tail's arrival. -/
theorem lotCommitted_moves (hstate : l.state = .feeding) (hordered : st.ordered ≠ none) (hpattern : st.pattern = none) :
    s.lotCommitted l st =
      (((s.putLot (l.written st)).placeCommitted l.number st).settleCounts.putLot
        ((l.written st).retail (s.lotFlatLen l))).tailMoved l.number := by
  have hwritten : (l.written st).state = .feeding := (l.written_feeding st).mpr hstate
  have hself : (s.putLot (l.written st)).lot? l.number = some (l.written st) := lot?_putLot_self s (l.written st)
  have hflat : ((s.putLot (l.written st)).placeCommitted l.number st).settleCounts.lotFlatLen (l.written st) = s.lotFlatLen l := by
    have hfound : ((s.putLot (l.written st)).placeCommitted l.number st).lot? l.number = some (l.written st) :=
      (lot?_congr (by simp) _).trans hself
    rw [settleCounts_lotFlatLen hfound (by simp [hwritten]), lotFlatLen_congr (s := s) (by simp)]
    unfold State.lotFlatLen
    rw [show (l.written st).pattern = l.pattern by simp [Lot.written, Lot.replan, inView, hpattern]]
  unfold State.lotCommitted State.orderedCommitted
  rw [if_pos ⟨hwritten, Option.isSome_iff_ne_none.mpr hordered⟩, hflat]
  rfl

theorem lotCommitted_tail {h : Coord} (hstate : l.state = .feeding) (hordered : st.ordered ≠ none) (hhead : l.head = some h)
    (hlocks : ¬ l.locks st) :
    TailTaken s (s.lotCommitted l st) l (l.written st) (h + BitVec.ofNat 40 ((l.written st).planned * s.lotFlatLen l)) := by
  obtain ⟨hpattern, hplace⟩ : st.pattern = none ∧ st.place = none := by
    by_contra hstaged
    refine hlocks (Or.inl ⟨by simp [hstate], ?_⟩)
    rcases Classical.not_and_iff_not_or_not.mp hstaged with h | h <;> simp [h]
  obtain ⟨l2, hl2⟩ : ∃ l2, l2 = (l.written st).retail (s.lotFlatLen l) := ⟨_, rfl⟩
  have htail : l2 = { l.written st with tail := some (h + BitVec.ofNat 40 ((l.written st).planned * s.lotFlatLen l)) } := by
    have hwritten : (l.written st).head = some h := hhead
    simp only [hl2, Lot.retail, hwritten, Option.map_some, advance]
  obtain ⟨v, hv⟩ : ∃ v, v = ((s.putLot (l.written st)).placeCommitted l.number st).settleCounts.putLot l2 := ⟨_, rfl⟩
  have hnumber : l2.number = l.number := by rw [htail]; rfl
  have hput : LotPut s v l l2 := by
    refine ⟨?_, fun m hm => ?_, by simp [hv]⟩
    · rw [hv, ← hnumber]
      exact lot?_putLot_self _ l2
    · rw [hv, lot?_putLot_ne _ l2 (hnumber ▸ hm), lotWritten_lot?]
      exact lot?_putLot_ne s (l.written st) hm
  have hw : v.fsu.w = s.fsu.w := by simp [hv]
  have htail' : l2.tail = some (h + BitVec.ofNat 40 ((l.written st).planned * s.lotFlatLen l)) := by rw [htail]
  have hplanned : l2.planned = (l.written st).planned := by rw [htail]
  rw [lotCommitted_moves hstate hordered hpattern, ← hl2, ← hv]
  refine ⟨fun hahead => ?_, fun hreached => ?_⟩
  · rw [tailMoved_ahead hput.found htail' (hw ▸ hahead), ← htail]
    exact ⟨hput, by simp [hv, State.placeCommitted, hplace]⟩
  · obtain ⟨hfound, hsegment, hextent⟩ := tailMoved_reached hput.found htail' (hw ▸ hreached)
    refine ⟨⟨_, hfound, (finishedIn_state v l2).symm, htail', hplanned⟩, hsegment, hextent⟩

end Sys2Proof.Machine
end

section
/-! SUPPORT. CLOSE of a staged lot (O55): the refusals in order, the end of the act, and the statement. -/

namespace Sys2Proof.Machine

variable {s t u : State} {p : Port} {l : Lot} {st : LotStage} {k : Nat}

theorem closeRecord_refusesLot {e : Reply} (hears : s.hears p = true) (hslot : s.slot p = .write k (.lot st))
    (hstaged : (Staging.lot st).isEmpty = false) (hlot : s.lot? k = some l) (h : s.lotRefusal l st = some e) :
    Yields (.closeRecord p []) s (s.answered p e) := by
  refine closeRecord_of_refusal hears hslot hstaged ?_
  rw [State.commitRefusal, hlot]
  exact h

/-! ### What an accepted commit leaves -/

/-- The state `t` is `s` with the staged fields of the lot `l` committed. -/
structure LotCommits (s t : State) (l : Lot) (st : LotStage) : Prop where
  counts : t.fsu.w = s.fsu.w ∧ t.exu = s.exu ∧ t.rst.rolls = s.rst.rolls ∧ t.inputs = s.inputs
  quiet : l.state ≠ .feeding ∨ st.ordered = none →
    LotPut s t l (l.written st) ∧ t.rst.panels = s.rst.panels ∧ PlaceTaken s t l.number st.place
  moved : ∀ h, l.state = .feeding → st.ordered ≠ none → l.head = some h →
    TailTaken s t l (l.written st) (h + BitVec.ofNat 40 ((l.written st).planned * s.lotFlatLen l))

theorem lotCommitted_commits (hlocks : ¬ l.locks st) : LotCommits s (s.lotCommitted l st) l st :=
  ⟨by simp [State.lotCommitted], lotCommitted_quiet, fun _ hstate hordered hhead => lotCommitted_tail hstate hordered hhead hlocks⟩

/-- The commit reads and writes no port. -/
theorem LotCommits.of_restartInactivity (h : LotCommits (s.restartInactivity p) t l st) : LotCommits s t l st := by
  obtain ⟨lnk, hlnk⟩ := restartInactivity_lnk s p
  rw [hlnk] at h
  obtain ⟨hcounts, hquiet, hmoved⟩ := h
  refine ⟨hcounts, fun hstill => ?_, fun h hstate hordered hhead => ?_⟩
  · obtain ⟨⟨hfound, hothers, hltr⟩, hpanels, ⟨hstays, hlast, hbefore⟩⟩ := hquiet hstill
    exact ⟨⟨hfound, hothers, hltr⟩, hpanels, ⟨hstays, hlast, hbefore⟩⟩
  · obtain ⟨hahead, hreached⟩ := hmoved h hstate hordered hhead
    refine ⟨fun hw => ?_, hreached⟩
    obtain ⟨⟨hfound, hothers, hltr⟩, horder⟩ := hahead hw
    exact ⟨⟨hfound, hothers, hltr⟩, horder⟩

/-- The end of the act leaves the lots, the order and the segment of the commit. -/
theorem LotCommits.closed (h : LotCommits s u l st) (p : Port) : LotCommits s (u.closedWith p) l st := by
  obtain ⟨hrst, -, hw, hexu, hltr⟩ := closedWith_frame u p
  obtain ⟨-, hinputs, -, -⟩ := closedWith_line u p
  have hlots : (u.closedWith p).rst.lots = u.rst.lots := by rw [hrst]
  obtain ⟨⟨hw', hexu', hrolls, hinputs'⟩, hquiet, hmoved⟩ := h
  refine ⟨⟨hw.trans hw', hexu.trans hexu', by rw [hrst, hrolls], hinputs.trans hinputs'⟩, fun hstill => ?_,
    fun h hstate hordered hhead => ?_⟩
  · obtain ⟨hput, hpanels, ⟨hstays, hlast, hbefore⟩⟩ := hquiet hstill
    refine ⟨hput.congr hlots hltr, by rw [hrst, hpanels], ?_⟩
    constructor <;> rwa [hrst]
  · obtain ⟨hahead, hreached⟩ := hmoved h hstate hordered hhead
    refine ⟨fun hbefore => ?_, fun hpast => ?_⟩
    · obtain ⟨hput, horder⟩ := hahead hbefore
      exact ⟨hput.congr hlots hltr, by rw [hrst, horder]⟩
    · rw [lot?_congr hlots, segmentExtent_congr (congrArg Ltr.segment hltr) hlots, hltr]
      exact hreached hpast

/-- CLOSE of an accepted commit. -/
theorem closeRecord_commitsLot (hears : s.hears p = true) (hslot : s.slot p = .write k (.lot st))
    (hstaged : (Staging.lot st).isEmpty = false) (hlot : s.lot? k = some l) (hlocks : ¬ l.locks st) (hrefusal : s.lotRefusal l st = none) :
    ∃ t, exec (.closeRecord p []) s = .next t ∧ t.says p .ok ∧ t.slot p = .empty ∧ LotCommits s t l st := by
  have hlot' : (s.restartInactivity p).lot? k = some l := (lot?_congr (by simp) k).trans hlot
  have hrefusal' : (s.restartInactivity p).lotRefusal l st = none := by
    have hsame := commitRefusal_restartInactivity s p k (.lot st)
    simp only [State.commitRefusal, hlot, hlot', Option.elim_some] at hsame
    exact hsame.trans hrefusal
  exact ⟨_, closeRecord_of_commit hears hslot hstaged (commit_lot hlot' hrefusal'), closedWith_says _ p, closedWith_slot _ p,
    (lotCommitted_commits hlocks).of_restartInactivity.closed p⟩

/-- Settles O55: by the checks in order, and by what the commit makes of a lot that is not FEEDING and of a FEEDING one's tail. -/
theorem closeCommitsALot : Obligations.CloseCommitsALot := by
  unfold Obligations.CloseCommitsALot
  intro s p k st l hears hslot hstaged hlot close answers names waits locked pattern cls ordered whole badPattern badClass badPlace len d
    entered below hfeeds
  have hrefuses {e : Reply} (h : s.lotRefusal l st = some e) : answers e := closeRecord_refusesLot hears hslot hstaged hlot h
  refine ⟨fun hlocked => hrefuses (lotRefusal_locked hlocked), fun hlocked hpattern => hrefuses (lotRefusal_noPattern hlocked hpattern),
    fun hlocked hpattern hcls => hrefuses (lotRefusal_noClass hlocked hpattern hcls),
    fun hlocked hpattern hcls hordered => hrefuses (lotRefusal_noOrder hlocked hpattern hcls hordered),
    fun hwhole hpattern => hrefuses (lotRefusal_unready hwhole hpattern),
    fun hwhole hpattern hcls => hrefuses (lotRefusal_undefined hwhole hpattern hcls),
    fun hwhole hpattern hcls hbelow => hrefuses (lotRefusal_below hfeeds hwhole hpattern hcls hbelow),
    fun hwhole hpattern hcls hbelow hplace => hrefuses (lotRefusal_badPlace hfeeds hwhole hpattern hcls hbelow hplace),
    fun hwhole hpattern hcls hbelow hplace _ => ?_⟩
  obtain ⟨t, hexec, hsays, hempty, ⟨hw, hexu, hrolls, hinputs⟩, hquiet, hmoved⟩ :=
    closeRecord_commitsLot hears hslot hstaged hlot hwhole.1 (lotRefusal_none hfeeds hwhole hpattern hcls hbelow hplace)
  obtain rfl : l.number = k := lot?_number hlot
  refine ⟨t, hexec, hsays, hempty, hw, hexu, hrolls, hinputs, fun hstill => ?_, fun h hstate hordered hhead => ?_⟩
  · obtain ⟨⟨hfound, hothers, hltr⟩, hpanels, ⟨hstays, hlast, hbefore⟩⟩ := hquiet hstill
    exact ⟨hfound, hothers, hltr, hpanels, hstays, hlast, hbefore⟩
  · obtain ⟨hahead, hreached⟩ := hmoved h hstate hordered hhead
    refine ⟨fun hbefore => ?_, hreached⟩
    obtain ⟨⟨hfound, hothers, hltr⟩, horder⟩ := hahead hbefore
    exact ⟨hfound, hothers, hltr, horder⟩

end Sys2Proof.Machine
end

section
/-! SUPPORT. The ceiling and the strike ceiling (O15): every act that can change a component ends by computing both, and the acts that
do not end so leave the components as they were. -/

namespace Sys2Proof.Machine

variable {s t : State}

/-! ### What the end of an act computes -/

theorem leastOf_le {l : List Nat} {x : Nat} (h : x ∈ l) : ∃ y, leastOf l = some y ∧ y ≤ x := by
  induction l with
  | nil => cases h
  | cons z zs ih =>
    unfold leastOf
    cases hrest : leastOf zs with
    | none =>
      rcases List.mem_cons.mp h with rfl | hx
      · exact ⟨x, rfl, Nat.le_refl x⟩
      · obtain ⟨y, hy, -⟩ := ih hx
        rw [hrest] at hy
        cases hy
    | some w =>
      refine ⟨min z w, rfl, ?_⟩
      rcases List.mem_cons.mp h with rfl | hx
      · exact Nat.min_le_left _ _
      · obtain ⟨y, hy, hle⟩ := ih hx
        rw [hrest] at hy
        cases hy
        exact Nat.le_trans (Nat.min_le_right _ _) hle

theorem leastOf_mem {l : List Nat} {y : Nat} (h : leastOf l = some y) : y ∈ l := by
  induction l generalizing y with
  | nil => cases h
  | cons z zs ih =>
    unfold leastOf at h
    cases hrest : leastOf zs with
    | none =>
      rw [hrest] at h
      cases h
      exact List.mem_cons_self
    | some w =>
      rw [hrest] at h
      cases h
      rcases Nat.le_total z w with hle | hle
      · rw [Nat.min_eq_left hle]
        exact List.mem_cons_self
      · rw [Nat.min_eq_right hle]
        exact List.mem_cons_of_mem z (ih hrest)

theorem foldl_min_spec (l : List Nat) (n : Nat) :
    l.foldl min n ≤ n ∧ (∀ x ∈ l, l.foldl min n ≤ x) ∧ (l.foldl min n = n ∨ l.foldl min n ∈ l) := by
  induction l generalizing n with
  | nil => simp
  | cons z zs ih =>
    obtain ⟨hle, hall, hmem⟩ := ih (min n z)
    refine ⟨Nat.le_trans hle (Nat.min_le_left n z), fun x hx => ?_, ?_⟩
    · rcases List.mem_cons.mp hx with rfl | hx
      · exact Nat.le_trans hle (Nat.min_le_right n x)
      · exact hall x hx
    · rcases hmem with heq | hmem
      · rcases Nat.le_total n z with hnz | hnz
        · exact Or.inl (heq.trans (Nat.min_eq_left hnz))
        · exact Or.inr (List.mem_cons.mpr (Or.inl (heq.trans (Nat.min_eq_right hnz))))
      · exact Or.inr (List.mem_cons_of_mem z hmem)

/-- The set the strike ceiling is taken over is the list PFM runs through. -/
theorem consumes_iff (s : State) (m : Nat) : s.consumes m ↔ m ∈ s.strikeConsumptions := by
  unfold State.consumes State.strikeConsumptions
  rw [List.mem_append]
  refine or_congr ?_ ?_
  · cases s.pfm.forming with
    | none => simp
    | some f => by_cases hkind : f.kind = .product <;> simp [Option.filter, hkind]
  · simp only [List.mem_filterMap, List.mem_filter, decide_eq_true_eq, Option.map_eq_some_iff, Option.bind_eq_some_iff]
    constructor
    · rintro ⟨l, hl, n, q, hlt, hpattern, hq, rfl⟩
      exact ⟨l, ⟨hl, hlt⟩, q, ⟨n, hpattern, hq⟩, rfl⟩
    · rintro ⟨l, ⟨hl, hlt⟩, q, ⟨n, hpattern, hq⟩, rfl⟩
      exact ⟨l, hl, n, q, hlt, hpattern, hq, rfl⟩

/-- Whatever an act did, its end leaves the strike ceiling the least of its set (R112). -/
theorem endAct_strikeCeilingLaw (s : State) : StrikeCeilingLaw s.endAct := by
  have hceiling : s.endAct.pfm.strikeCeiling = s.endAct.strikeCeilingNow := by
    unfold State.endAct
    generalize s.syncUnsettled.leaveRun = a
    rfl
  intro period hperiod
  have hnow : s.endAct.pfm.strikeCeiling = leastOf (s.endAct.strikeConsumptions.map fun m => m * 100 / period) := by
    rw [hceiling]
    unfold State.strikeCeilingNow
    rw [hperiod]
  refine ⟨fun m hm => ?_, fun x hx => ?_⟩
  · rw [hnow]
    exact leastOf_le (List.mem_map_of_mem ((consumes_iff _ m).mp hm))
  · obtain ⟨m, hm, rfl⟩ := List.mem_map.mp (leastOf_mem (hnow.symm.trans hx))
    exact ⟨m, (consumes_iff _ m).mpr hm, rfl⟩

/-- Whatever an act did, its end leaves the ceiling the least of its components (R166). -/
theorem endAct_ceilingLaw (s : State) : CeilingLaw s.endAct := by
  have hceiling : s.endAct.sgv.ceiling = s.endAct.ceilingParts.foldl min 600 := by
    unfold State.endAct
    generalize s.syncUnsettled.leaveRun.syncStrikeCeiling = a
    rfl
  unfold CeilingLaw
  rw [hceiling]
  exact foldl_min_spec _ 600

/-! ### What the components are, written out -/

/-- A class is counted in the class ceiling (R167). -/
def State.countsClass (s : State) (n : Nat) : Prop := n ∈ s.sgv.classSet ∨ ∃ f, s.pfm.forming = some f ∧ n = f.cls

/-- A maximum belt speed of a counted DEFINED class. -/
def State.beltLimit (s : State) (v : Nat) : Prop :=
  ∃ n k, s.countsClass n ∧ s.class? n = some k ∧ k.state = .defined ∧ k.maxBelt = some v

/-- A PRODUCT panel is forming in a context. -/
def State.formsProduct (s : State) (f : FormContext) : Prop := s.pfm.forming = some f ∧ f.kind = .product

theorem mem_countedClasses (s : State) (n : Nat) : n ∈ s.countedClasses ↔ s.countsClass n := by
  unfold State.countedClasses State.countsClass
  cases s.pfm.forming <;> simp

theorem classCeiling_eq_some (s : State) (n x : Nat) :
    s.classCeiling n = some x ↔
      ∃ k v, s.class? n = some k ∧ k.state = .defined ∧ k.maxBelt = some v ∧ x = v * s.formingRatio.1 / s.formingRatio.2 := by
  unfold State.classCeiling State.definedClass?
  simp only [Option.map_eq_some_iff, Option.bind_eq_some_iff, Option.filter_eq_some_iff, beq_iff_eq]
  constructor
  · rintro ⟨v, ⟨k, ⟨hk, hstate⟩, hv⟩, rfl⟩
    exact ⟨k, v, hk, hstate, hv, rfl⟩
  · rintro ⟨k, v, hk, hstate, hv, rfl⟩
    exact ⟨v, ⟨k, ⟨hk, hstate⟩, hv⟩, rfl⟩

/-- A speed scaled by F / P of a forming PRODUCT panel, and by 1 with none forming (R167). -/
theorem scaled_iff (s : State) (v x : Nat) :
    x = v * s.formingRatio.1 / s.formingRatio.2 ↔
      (∃ f, s.formsProduct f ∧ x = v * f.flatLen / f.pleatedLen) ∨ (∀ f, ¬ s.formsProduct f) ∧ x = v := by
  unfold State.formingRatio State.formsProduct
  cases s.pfm.forming with
  | none => simp
  | some f => by_cases hkind : f.kind = .product <;> simp [hkind]

theorem mem_ceilingParts (s : State) (x : Nat) :
    x ∈ s.ceilingParts ↔
      (∃ v, s.beltLimit v ∧
        ((∃ f, s.formsProduct f ∧ x = v * f.flatLen / f.pleatedLen) ∨ (∀ f, ¬ s.formsProduct f) ∧ x = v)) ∨
        s.pfm.strikeCeiling = some x ∨ s.fsu.phase ≠ .idle ∧ s.rst.line.spliceSpeed = some x := by
  have hsplice : s.spliceCeiling = some x ↔ s.fsu.phase ≠ .idle ∧ s.rst.line.spliceSpeed = some x := by
    unfold State.spliceCeiling
    split <;> simp_all
  unfold State.ceilingParts
  simp only [List.mem_append, Option.mem_toList, List.mem_filterMap, mem_countedClasses, classCeiling_eq_some, hsplice, or_assoc,
    ← scaled_iff]
  refine or_congr_left ?_
  constructor
  · rintro ⟨n, hn, k, v, hk, hstate, hv, hx⟩
    exact ⟨v, ⟨n, k, hn, hk, hstate, hv⟩, hx⟩
  · rintro ⟨v, ⟨n, k, hn, hk, hstate, hv⟩, hx⟩
    exact ⟨n, hn, k, v, hk, hstate, hv, hx⟩

/-! ### Which commands end an act -/

/-- What a command off the ports can do: end an act, or one of the few things that touch no component. -/
theorem exec_offWire {c : Instr} (hwire : c.onWire = false) (ht : exec c s = .next t) :
    (∃ u : State, t = u.endAct) ∨ t = s ∨ (∃ i v, t = s.setPin i v) ∨ (∃ p, t = s.endOpen p) ∨ execResetPin s = .next t := by
  cases c with
  | resetPin => exact Or.inr (Or.inr (Or.inr (Or.inr ht)))
  | rawInputChange i v =>
    cases ht
    exact Or.inr (Or.inr (Or.inl ⟨i, _, rfl⟩))
  | inactivityExpiry p =>
    cases ht
    split
    · exact Or.inr (Or.inr (Or.inr (Or.inl ⟨p, rfl⟩)))
    · exact Or.inr (Or.inl rfl)
  | rampIntervalExpiry => cases ht; split <;> exact Or.inl ⟨_, rfl⟩
  | senseReading k v f =>
    cases ht
    split
    · exact Or.inr (Or.inl rfl)
    · exact Or.inl ⟨_, rfl⟩
  | feedCount | beltCount | speedRefresh | tensionLockCount | tensionWatchCount | matchCount | doseIntervalExpiry =>
    cases ht; exact Or.inl ⟨_, rfl⟩
  | debounceSettle | dancerTimeout | matchLimitExpiry | headLimitExpiry | knifeLimitExpiry | retractLimitExpiry | webBreakExpiry
  | bladeLimitExpiry | cutterLimitExpiry | zoneSettleExpiry | readingStale | heatPermitExpiry | standstillExpiry =>
    cases ht
    split
    · exact Or.inl ⟨_, rfl⟩
    · exact Or.inr (Or.inl rfl)
  | _ => cases hwire

/-- The commands of the periods, the encoders and the counts end an act whatever they find. -/
theorem exec_periodic {c : Instr} (s : State) (h : (∃ d, c = .feedCount d) ∨ (∃ d, c = .beltCount d) ∨ (∃ a b, c = .speedRefresh a b) ∨
      c = .tensionLockCount ∨ c = .tensionWatchCount ∨ c = .matchCount ∨ c = .doseIntervalExpiry ∨ c = .rampIntervalExpiry) :
    ∃ u : State, exec c s = .next u.endAct := by
  rcases h with ⟨d, rfl⟩ | ⟨d, rfl⟩ | ⟨a, b, rfl⟩ | rfl | rfl | rfl | rfl | rfl
  case inr.inr.inr.inr.inr.inr.inr =>
    show ∃ u : State, execRampIntervalExpiry s = .next u.endAct
    unfold execRampIntervalExpiry
    split <;> exact ⟨_, rfl⟩
  all_goals exact ⟨_, rfl⟩

/-! ### What the ceiling's law speaks of -/

/-- The maximum belt speed a class number stands for: that of its DEFINED class. -/
def State.definedBelt (s : State) (n : Nat) : Option Nat := (s.definedClass? n).bind (·.maxBelt)

/-- The ceiling and all that its components are taken from are the same in two states. -/
structure SharesCeiling (s t : State) : Prop where
  sgv : t.sgv.ceiling = s.sgv.ceiling ∧ t.sgv.classSet = s.sgv.classSet
  pfm : t.pfm = s.pfm
  phase : t.fsu.phase = s.fsu.phase
  line : t.rst.line = s.rst.line
  belts : ∀ n, t.definedBelt n = s.definedBelt n

theorem CeilingLaw.of_shares (h : CeilingLaw s) (hshares : SharesCeiling s t) : CeilingLaw t := by
  obtain ⟨⟨hceiling, hclasses⟩, hpfm, hphase, hline, hbelts⟩ := hshares
  have hratio : t.formingRatio = s.formingRatio := by
    unfold State.formingRatio
    rw [hpfm]
  have hclass : t.classCeiling = s.classCeiling := by
    funext n
    have hbelt := hbelts n
    unfold State.definedBelt at hbelt
    unfold State.classCeiling
    rw [hbelt, hratio]
  have hparts : t.ceilingParts = s.ceilingParts := by
    unfold State.ceilingParts State.countedClasses State.spliceCeiling
    rw [hclass, hclasses, hpfm, hphase, hline]
  unfold CeilingLaw
  rw [hceiling, hparts]
  exact h

theorem definedBelt_congr (h : t.rst.classes = s.rst.classes) (n : Nat) : t.definedBelt n = s.definedBelt n := by
  unfold State.definedBelt State.definedClass?
  rw [class?_congr h]

/-- A class not DEFINED stands for no belt speed, whether its record is there or not. -/
theorem definedBelt_eq_none {n : Nat} (h : ∀ c, s.class? n = some c → c.state ≠ .defined) : s.definedBelt n = none := by
  have hnone : s.definedClass? n = none := by
    refine Option.filter_eq_none_iff.mpr fun c hc => ?_
    simpa using h c hc
  unfold State.definedBelt
  rw [hnone]
  rfl

/-- The counts are no part of what a class stands for. -/
theorem definedBelt_settleCounts (s : State) (n : Nat) : s.settleCounts.definedBelt n = s.definedBelt n := by
  unfold State.definedBelt State.definedClass? State.class?
  have hclasses : s.settleCounts.rst.classes =
      s.rst.classes.map fun c => { c with refCount := classRefs s.rst.rolls s.rst.lots c.number } := by
    simp [State.settleCounts, State.recount]
  rw [hclasses, List.find?_map]
  show Option.bind (Option.filter _ (Option.map _ (s.rst.classes.find? fun c => c.number == n))) _ = _
  cases s.rst.classes.find? fun c => c.number == n with
  | none => rfl
  | some c => cases hstate : c.state <;> simp [Option.filter, hstate]

theorem SharesCeiling.settled (s : State) : SharesCeiling s s.settleCounts where
  sgv := by simp
  pfm := by simp
  phase := by simp
  line := by simp
  belts := definedBelt_settleCounts s

theorem SharesCeiling.trans {u : State} (h : SharesCeiling s t) (h' : SharesCeiling t u) : SharesCeiling s u where
  sgv := ⟨h'.sgv.1.trans h.sgv.1, h'.sgv.2.trans h.sgv.2⟩
  pfm := h'.pfm.trans h.pfm
  phase := h'.phase.trans h.phase
  line := h'.line.trans h.line
  belts n := (h'.belts n).trans (h.belts n)

/-- A class put in where none of its number was, and not DEFINED. -/
theorem createIn_sharesCeiling (s : State) (p : Port) (tb : Table) (n : Nat) (st : RollStage) (inRange : Bool) :
    SharesCeiling s (s.createIn p tb n st inRange).1 where
  sgv := by simp
  pfm := by simp
  phase := by simp
  line := by simp
  belts m := by
    cases tb with
    | cls =>
      unfold State.createIn State.createClass
      dsimp only
      split
      · rfl
      split
      · rfl
      split
      · rfl
      rename_i hfree
      have hput : (s.putClass (FabricClass.created n)).definedBelt m = s.definedBelt m := by
        by_cases hm : m = n
        · subst hm
          have hnone : s.definedBelt m = none := definedBelt_eq_none fun c hc => by simp [hc] at hfree
          rw [hnone]
          refine definedBelt_eq_none fun c hc => ?_
          rw [show (s.putClass (FabricClass.created m)).class? m = some (FabricClass.created m) from
            class?_putClass_self s (FabricClass.created m)] at hc
          cases hc
          simp [FabricClass.created]
        · unfold State.definedBelt State.definedClass?
          rw [class?_putClass_ne s (FabricClass.created n) hm]
      exact (definedBelt_congr (by simp [State.openCreated, done]) m).trans hput
    | _ =>
      refine definedBelt_congr ?_ m
      simp only [State.createIn, State.createPattern, State.createRoll, State.createLot]
      (repeat' split) <;> first | rfl | simp [State.openCreated, done]

theorem dropRecord_definedBelt {tb : Table} {k : Nat} (hnew : s.neverCommitted tb k = true) (n : Nat) :
    (s.dropRecord tb k).definedBelt n = s.definedBelt n := by
  cases tb with
  | cls =>
    by_cases hn : n = k
    · subst hn
      obtain ⟨c, hc, hstate⟩ := (Option.any_eq_true _ _).mp hnew
      have hgone : (s.dropRecord .cls n).class? n = none := find?_dropKey_self FabricClass.number n _
      rw [definedBelt_eq_none fun x hx => by simp [hgone] at hx, definedBelt_eq_none fun x hx => ?_]
      obtain rfl : c = x := Option.some.inj (hc.symm.trans hx)
      simp_all
    · have hfound : (s.dropRecord .cls k).class? n = s.class? n := find?_dropKey_ne FabricClass.number hn _
      unfold State.definedBelt State.definedClass?
      rw [hfound]
  | _ => exact definedBelt_congr (by simp [State.dropRecord, State.leaveOrder]) n

/-- A record never committed stands for nothing that the ceiling is taken from. -/
theorem endOpen_sharesCeiling (s : State) (p : Port) : SharesCeiling s (s.endOpen p) where
  sgv := by simp
  pfm := by simp
  phase := by simp
  line := by simp
  belts n := by
    unfold State.endOpen
    split
    · rename_i key st _
      dsimp only
      split
      · rename_i hnew
        have hdrop : ((s.setSlot p .empty).dropRecord st.table key).definedBelt n = (s.setSlot p .empty).definedBelt n :=
          dropRecord_definedBelt hnew n
        rw [definedBelt_congr (s := (s.setSlot p .empty).dropRecord st.table key) (by simp), hdrop,
          definedBelt_congr (s := s) (by simp)]
      · exact definedBelt_congr (by simp) n
    all_goals exact definedBelt_congr (by simp) n

theorem retireIn_ceilingLaw (h : CeilingLaw s) (tb : Table) (n : Nat) : CeilingLaw (s.retireIn tb n).1 := by
  have hsettled {u : State} (hu : SharesCeiling s u) : CeilingLaw u.settleCounts := h.of_shares (hu.trans (SharesCeiling.settled u))
  have hshares {u : State} (hrst : u.rst.classes = s.rst.classes ∧ u.rst.line = s.rst.line) (hpfm : u.pfm = s.pfm) (hfsu : u.fsu = s.fsu)
      (hsgv : u.sgv = s.sgv) : SharesCeiling s u :=
    ⟨by rw [hsgv]; exact ⟨rfl, rfl⟩, hpfm, by rw [hfsu], hrst.2, definedBelt_congr hrst.1⟩
  unfold State.retireIn
  (repeat' split) <;> try exact h
  · unfold State.retirePattern
    (repeat' split) <;> exact h
  · unfold State.retireClass
    (repeat' split) <;> try exact h
    exact endAct_ceilingLaw _
  · unfold State.retireRoll
    (repeat' split) <;> first | exact h | exact hsettled (hshares ⟨rfl, rfl⟩ rfl rfl rfl)
  · unfold State.retireLot
    (repeat' split) <;> first | exact h | exact endAct_ceilingLaw _ | exact hsettled (hshares ⟨rfl, rfl⟩ rfl rfl rfl)

theorem ceilingLaw_answersKeep : AnswersKeep CeilingLaw where
  port _ _ hs := hs.of_shares ⟨by simp, by simp, by simp, by simp, definedBelt_congr (by simp)⟩
  create _ _ _ _ _ hs := hs.of_shares (createIn_sharesCeiling _ _ _ _ _ _)
  close {s} p hs := by
    unfold State.close
    split
    · exact hs
    · exact hs.of_shares ⟨by simp, by simp, by simp, by simp, definedBelt_congr (by simp)⟩
    · exact hs.of_shares (endOpen_sharesCeiling s p)
    · split
      · exact hs
      · exact endAct_ceilingLaw _
  next {s} p hs := by
    have hopen {u : State} (hu : CeilingLaw u) (tb : Table) (k : Option Nat) (write : Bool) :
        CeilingLaw (u.openNext p tb k write).1 :=
      hu.of_shares ⟨by simp, by simp, by simp, by simp, definedBelt_congr (by simp)⟩
    unfold State.next
    split
    · exact hs
    · exact hs.of_shares ⟨by simp, by simp, by simp, by simp, definedBelt_congr (by simp)⟩
    · exact hopen (hs.of_shares (endOpen_sharesCeiling s p)) _ _ _
    · split
      · exact hs
      · exact hopen (endAct_ceilingLaw _) _ _ _
  discard {s} p hs := by
    unfold State.discard
    split
    · exact hs
    · exact hs.of_shares ⟨by simp, by simp, by simp, by simp, definedBelt_congr (by simp)⟩
    all_goals exact hs.of_shares (endOpen_sharesCeiling s p)
  retire tb n hs := retireIn_ceilingLaw hs tb n
  start hs := by
    unfold State.tryStart
    (repeat' split) <;> first | exact hs | exact endAct_ceilingLaw _
  stop _ := endAct_ceilingLaw _
  hold _ := endAct_ceilingLaw _
  resume _ := endAct_ceilingLaw _
  step hs := by
    unfold State.tryStep
    (repeat' split) <;> first | exact hs | exact endAct_ceilingLaw _
  splice hs := by
    unfold State.splice
    split
    · exact hs.of_shares ⟨by simp, by simp, by simp, by simp, definedBelt_congr (by simp)⟩
    · exact endAct_ceilingLaw _
  permit hs := hs.of_shares ⟨by simp, by simp, by simp, by simp, definedBelt_congr (by simp)⟩
  clear _ _ := endAct_ceilingLaw _
  tripReset hs := by
    unfold State.resetTrip
    (repeat' split) <;> first | exact hs | exact endAct_ceilingLaw _
  lineReset hs := by
    unfold State.lineReset
    split
    · exact endAct_ceilingLaw _
    · exact hs

theorem exec_ceilingLaw {c : Instr} (ht : exec c s = .next t) (hs : CeilingLaw s) : CeilingLaw t := by
  by_cases hwire : c.onWire = true
  · exact ceilingLaw_answersKeep.exec hwire ht hs
  rcases exec_offWire (by simpa using hwire) ht with ⟨u, rfl⟩ | rfl | ⟨i, v, rfl⟩ | ⟨p, rfl⟩ | hreset
  · exact endAct_ceilingLaw u
  · exact hs
  · exact hs.of_shares ⟨⟨rfl, rfl⟩, rfl, rfl, rfl, fun _ => rfl⟩
  · exact hs.of_shares (endOpen_sharesCeiling s p)
  · cases hreset
    exact ceilingLaw_reset.of_shares ⟨⟨rfl, rfl⟩, rfl, rfl, rfl, fun _ => rfl⟩

end Sys2Proof.Machine
end

section
/-! The ceiling is the least of its components (O15): what the strike ceiling is taken over stays where no act ends. -/

namespace Sys2Proof.Machine

variable {s t : State}

theorem mem_webLots {l : Lot} : l ∈ s.webLots ↔ (∃ n ∈ s.rst.order, s.lot? n = some l) ∧ l.onWeb = true := by
  unfold State.webLots
  rw [List.mem_filter, List.mem_filterMap]

/-- The strike ceiling and all that it is taken over are the same in two states: the minimum step consumptions of the patterns that
the lots on the web name, not the rest of any record. -/
structure SharesStrikes (s t : State) : Prop where
  pfm : t.pfm = s.pfm
  line : t.rst.line = s.rst.line
  web : ∀ l, l ∈ t.webLots ↔ l ∈ s.webLots
  minSteps : ∀ l ∈ s.webLots, ∀ n, l.pattern = some n → (t.pattern? n).map (·.minStep) = (s.pattern? n).map (·.minStep)

theorem SharesStrikes.consumes (h : SharesStrikes s t) (m : Nat) : t.consumes m ↔ s.consumes m := by
  have hstep {l : Lot} {n : Nat} (hl : l ∈ s.webLots) (hn : l.pattern = some n) :
      (∃ q, t.pattern? n = some q ∧ m = q.minStep) ↔ ∃ q, s.pattern? n = some q ∧ m = q.minStep := by
    have hmap := congrArg (· = some m) (h.minSteps l hl n hn)
    simpa only [Option.map_eq_some_iff, eq_comm (b := m), eq_iff_iff] using hmap
  unfold State.consumes
  rw [h.pfm]
  refine or_congr_right ⟨?_, ?_⟩
  · rintro ⟨l, hl, n, q, hlt, hn, hq⟩
    have hl' := (h.web l).mp hl
    obtain ⟨x, hx⟩ := (hstep hl' hn).mp ⟨q, hq⟩
    exact ⟨l, hl', n, x, hlt, hn, hx⟩
  · rintro ⟨l, hl, n, q, hlt, hn, hq⟩
    obtain ⟨x, hx⟩ := (hstep hl hn).mpr ⟨q, hq⟩
    exact ⟨l, (h.web l).mpr hl, n, x, hlt, hn, hx⟩

theorem StrikeCeilingLaw.of_shares (h : StrikeCeilingLaw s) (hshares : SharesStrikes s t) : StrikeCeilingLaw t := by
  intro period hperiod
  rw [hshares.line] at hperiod
  obtain ⟨hleast, hmem⟩ := h period hperiod
  simp only [hshares.consumes, hshares.pfm]
  exact ⟨hleast, hmem⟩

theorem webLots_congr (hlots : t.rst.lots = s.rst.lots) (horder : t.rst.order = s.rst.order) : t.webLots = s.webLots := by
  unfold State.webLots
  rw [horder, funext (lot?_congr hlots)]

/-- Where only the patterns move, the lots on the web are the same. -/
theorem SharesStrikes.patterns (hpfm : t.pfm = s.pfm) (hline : t.rst.line = s.rst.line) (hlots : t.rst.lots = s.rst.lots)
    (horder : t.rst.order = s.rst.order)
    (hminSteps : ∀ l ∈ s.webLots, ∀ n, l.pattern = some n → (t.pattern? n).map (·.minStep) = (s.pattern? n).map (·.minStep)) :
    SharesStrikes s t :=
  ⟨hpfm, hline, fun l => by rw [webLots_congr hlots horder], hminSteps⟩

theorem SharesStrikes.same (hpfm : t.pfm = s.pfm) (hline : t.rst.line = s.rst.line) (hlots : t.rst.lots = s.rst.lots)
    (horder : t.rst.order = s.rst.order) (hpatterns : t.rst.patterns = s.rst.patterns) : SharesStrikes s t :=
  SharesStrikes.patterns hpfm hline hlots horder fun _ _ _ _ => by rw [pattern?_congr hpatterns]

theorem SharesStrikes.trans {u : State} (h : SharesStrikes s t) (h' : SharesStrikes t u) : SharesStrikes s u where
  pfm := h'.pfm.trans h.pfm
  line := h'.line.trans h.line
  web l := (h'.web l).trans (h.web l)
  minSteps l hl n hn := (h'.minSteps l ((h.web l).mpr hl) n hn).trans (h.minSteps l hl n hn)

/-! ### What the counts say of a pattern on the web -/

/-- A lot on the web names a committed pattern that counts it (R26). -/
theorem CountLaw.pattern_of_web (h : CountLaw s) {l : Lot} (hl : l ∈ s.webLots) {n : Nat} (hn : l.pattern = some n) :
    ∃ q, s.pattern? n = some q ∧ q.state ≠ .edit ∧ q.refCount ≠ 0 := by
  obtain ⟨htables, hcounts, -, hnamed, -⟩ := h
  obtain ⟨⟨m, -, hfound⟩, hweb⟩ := mem_webLots.mp hl
  have hmem := lot?_mem hfound
  have hstate : l.state ≠ .new ∧ l.state ≠ .done := by
    constructor <;> intro hstate <;> simp [Lot.onWeb, hstate] at hweb
  obtain ⟨⟨q, hq, hpattern, hedit⟩, -⟩ := (hnamed l hmem).2 hstate.1 hstate.2
  obtain rfl : q.number = n := Option.some.inj (hpattern.symm.trans hn)
  have hrising := htables.1
  refine ⟨q, ?_, hedit, ?_⟩
  · cases hfind : s.pattern? q.number with
    | none => exact absurd rfl (find?_key_eq_none.mp hfind q hq)
    | some x => rw [risingKeys_injective hrising (pattern?_mem hfind) hq (pattern?_number hfind)]
  · rw [hcounts q hq, ← patternRefs_eq_countP]
    exact patternRefs_ne_zero hmem hstate.2 hn

/-- A pattern that a lot not DONE names outlives a recount, its count apart (R26, R30). -/
theorem settleCounts_pattern? {n : Nat} (h : patternRefs s.rst.lots n ≠ 0) :
    s.settleCounts.pattern? n = (s.pattern? n).map fun p => { p with refCount := patternRefs s.rst.lots p.number } := by
  have hkept : (fun p : Pattern =>
      decide ((!Pattern.spentRetiring { p with refCount := patternRefs s.rst.lots p.number }) = true ∧
        (p.number == n) = true)) = fun p => p.number == n := by
    funext p
    by_cases hp : p.number = n
    · simp [hp, Pattern.spentRetiring, h]
    · simp [hp]
  show ((s.rst.patterns.map fun p => { p with refCount := patternRefs s.rst.lots p.number }).filter _).find? _ = _
  rw [List.find?_filter, List.find?_map]
  exact congrArg (fun test => (s.rst.patterns.find? test).map _) hkept

/-- The counts settled keep every pattern that a lot on the web names. -/
theorem settleCounts_sharesStrikes (s : State) : SharesStrikes s s.settleCounts := by
  refine SharesStrikes.patterns (by simp) (by simp) (by simp) (by simp) fun l hl n hn => ?_
  obtain ⟨⟨m, -, hfound⟩, hweb⟩ := mem_webLots.mp hl
  have hrefs : patternRefs s.rst.lots n ≠ 0 :=
    patternRefs_ne_zero (lot?_mem hfound) (fun hdone => by simp [Lot.onWeb, hdone] at hweb) hn
  rw [settleCounts_pattern? hrefs, Option.map_map]
  rfl

/-! ### The record commands that end no act -/

/-- A pattern of another number moves, or none that a lot on the web names. -/
theorem SharesStrikes.otherPattern (hpfm : t.pfm = s.pfm) (hline : t.rst.line = s.rst.line) (hlots : t.rst.lots = s.rst.lots)
    (horder : t.rst.order = s.rst.order) {k : Nat} (hunnamed : ∀ l ∈ s.webLots, l.pattern ≠ some k)
    (hothers : ∀ n, n ≠ k → t.pattern? n = s.pattern? n) : SharesStrikes s t := by
  refine SharesStrikes.patterns hpfm hline hlots horder fun l hl n hn => ?_
  rw [hothers n fun hk => hunnamed l hl (hk ▸ hn)]

/-- A lot off the web comes or goes. -/
theorem SharesStrikes.otherLot (hpfm : t.pfm = s.pfm) (hline : t.rst.line = s.rst.line) (hpatterns : t.rst.patterns = s.rst.patterns)
    {k : Nat} (hlots : ∀ n, n ≠ k → t.lot? n = s.lot? n) (horder : ∀ n, n ≠ k → (n ∈ t.rst.order ↔ n ∈ s.rst.order))
    (hwas : ∀ l, s.lot? k = some l → l.onWeb = false) (his : ∀ l, t.lot? k = some l → l.onWeb = false) : SharesStrikes s t := by
  refine ⟨hpfm, hline, fun l => ?_, fun _ _ _ _ => by rw [pattern?_congr hpatterns]⟩
  simp only [mem_webLots]
  refine and_congr_left fun hweb => exists_congr fun n => ?_
  by_cases hn : n = k
  · subst hn
    constructor <;> rintro ⟨-, hl⟩
    · rw [his l hl] at hweb
      cases hweb
    · rw [hwas l hl] at hweb
      cases hweb
  · rw [hlots n hn, horder n hn]

theorem createIn_sharesStrikes (hcount : CountLaw s) (p : Port) (tb : Table) (n : Nat) (st : RollStage) (inRange : Bool) :
    SharesStrikes s (s.createIn p tb n st inRange).1 := by
  have hsame : SharesStrikes s s := SharesStrikes.same rfl rfl rfl rfl rfl
  cases tb with
  | pattern =>
    simp only [State.createIn, State.createPattern]
    split
    · exact hsame
    split
    · exact hsame
    split
    · exact hsame
    rename_i hfree
    refine SharesStrikes.otherPattern (k := n) (by simp [State.openCreated, done]) (by simp [State.openCreated, done])
      (by simp [State.openCreated, done]) (by simp [State.openCreated, done]) (fun l hl hn => ?_) fun m hm => ?_
    · obtain ⟨q, hq, -⟩ := hcount.pattern_of_web hl hn
      simp [hq] at hfree
    · rw [pattern?_congr (s := s.putPattern (Pattern.created n)) (by simp [State.openCreated, done])]
      exact find?_upsert_ne Pattern.number (Pattern.created n) s.rst.patterns hm
  | lot =>
    simp only [State.createIn, State.createLot]
    split
    · exact hsame
    split
    · exact hsame
    split
    · exact hsame
    split
    · exact hsame
    rename_i hfree _
    refine SharesStrikes.otherLot (k := n) (by simp [State.openCreated, done]) (by simp [State.openCreated, done])
      (by simp [State.openCreated, done]) (fun m hm => ?_) (fun m hm => by simp [State.openCreated, done, hm])
      (fun l hl => by simp [hl] at hfree) fun l hl => ?_
    · rw [lot?_congr (s := s.putLot (Lot.created n)) (by simp [State.openCreated, done])]
      exact lot?_putLot_ne s (Lot.created n) hm
    · rw [lot?_congr (s := s.putLot (Lot.created n)) (by simp [State.openCreated, done]),
        show (s.putLot (Lot.created n)).lot? n = _ from lot?_putLot_self s (Lot.created n)] at hl
      cases hl
      rfl
  | cls | roll | panel | line =>
    simp only [State.createIn, State.createClass, State.createRoll]
    (repeat' split) <;> try exact hsame
    all_goals apply SharesStrikes.same <;> simp [State.openCreated, done]

theorem dropLot_sharesStrikes {n : Nat} (hoff : ∀ l, s.lot? n = some l → l.onWeb = false) : SharesStrikes s (s.dropRecord .lot n) := by
  refine SharesStrikes.otherLot (k := n) rfl rfl rfl (fun m hm => find?_dropKey_ne Lot.number hm _)
    (fun m hm => by simp [State.dropRecord, State.leaveOrder, hm]) hoff fun l hl => ?_
  rw [show (s.dropRecord .lot n).lot? n = none from find?_dropKey_self Lot.number n _] at hl
  cases hl

theorem dropPattern_sharesStrikes {n : Nat} (hunnamed : ∀ l ∈ s.webLots, l.pattern ≠ some n) :
    SharesStrikes s (s.dropRecord .pattern n) :=
  SharesStrikes.otherPattern rfl rfl rfl rfl hunnamed fun _ hm => find?_dropKey_ne Pattern.number hm _

theorem dropRecord_sharesStrikes (hcount : CountLaw s) {tb : Table} {n : Nat} (hnew : s.neverCommitted tb n = true) :
    SharesStrikes s (s.dropRecord tb n) := by
  cases tb with
  | pattern =>
    obtain ⟨q, hq, hstate⟩ := (Option.any_eq_true _ _).mp hnew
    refine dropPattern_sharesStrikes fun l hl hn => ?_
    obtain ⟨x, hx, hedit, -⟩ := hcount.pattern_of_web hl hn
    obtain rfl : q = x := Option.some.inj (hq.symm.trans hx)
    exact hedit (by simpa using hstate)
  | lot =>
    obtain ⟨x, hx, hstate⟩ := (Option.any_eq_true _ _).mp hnew
    refine dropLot_sharesStrikes fun l hl => ?_
    obtain rfl : x = l := Option.some.inj (hx.symm.trans hl)
    have hstate : x.state = .new := by simpa using hstate
    simp [Lot.onWeb, hstate]
  | cls | roll | panel | line => exact SharesStrikes.same rfl rfl rfl rfl rfl

theorem countLaw_congr (h : CountLaw s) (hrst : t.rst = s.rst) : CountLaw t := by
  unfold CountLaw TablesLaw at h ⊢
  rw [hrst]
  exact h

theorem endOpen_sharesStrikes (hcount : CountLaw s) (p : Port) : SharesStrikes s (s.endOpen p) := by
  have hrst (v : Slot) : (s.setSlot p v).rst = s.rst := by simp
  have hslot (v : Slot) : SharesStrikes s (s.setSlot p v) := by
    apply SharesStrikes.same <;> simp
  unfold State.endOpen
  split
  · dsimp only
    split
    · rename_i hnew
      have hdrop := dropRecord_sharesStrikes (countLaw_congr hcount (hrst .empty)) hnew
      exact (hslot _).trans (hdrop.trans (by apply SharesStrikes.same <;> simp))
    · exact hslot _
  all_goals exact hslot _

theorem retireIn_strikeCeilingLaw (hcount : CountLaw s) (h : StrikeCeilingLaw s) (tb : Table) (n : Nat) :
    StrikeCeilingLaw (s.retireIn tb n).1 := by
  have hsettled {u : State} (hu : SharesStrikes s u) : StrikeCeilingLaw u.settleCounts :=
    h.of_shares (hu.trans (settleCounts_sharesStrikes u))
  unfold State.retireIn
  (repeat' split) <;> try exact h
  · unfold State.retirePattern
    split
    · exact h
    split
    · exact h
    rename_i q hq
    obtain rfl : q.number = n := pattern?_number hq
    split
    · exact h
    · exact h
    split
    · rename_i hfree
      have hunnamed : ∀ l ∈ s.webLots, l.pattern ≠ some q.number := fun l hl hn => by
        obtain ⟨x, hx, -, hrefs⟩ := hcount.pattern_of_web hl hn
        obtain rfl : q = x := Option.some.inj (hq.symm.trans hx)
        exact hrefs hfree
      refine h.of_shares (SharesStrikes.otherPattern (k := q.number) (by simp [done]) (by simp [done])
        (by simp [done, State.freePattern, State.dropRecord]) (by simp [done, State.freePattern, State.dropRecord]) hunnamed fun m hm => ?_)
      rw [pattern?_congr (s := s.dropRecord .pattern q.number) (by simp [done, State.freePattern, State.dropRecord])]
      exact find?_dropKey_ne Pattern.number hm _
    · refine h.of_shares (SharesStrikes.patterns rfl rfl rfl rfl fun l hl m hm => ?_)
      by_cases hk : m = q.number
      · subst hk
        rw [hq, show (done (s.putPattern { q with state := .retiring })).1.pattern? q.number = some { q with state := .retiring } from
          pattern?_putPattern_self s { q with state := .retiring }]
        rfl
      · rw [show (done (s.putPattern { q with state := .retiring })).1.pattern? m = s.pattern? m from
          find?_upsert_ne Pattern.number { q with state := .retiring } s.rst.patterns hk]
  · unfold State.retireClass
    (repeat' split) <;> first | exact h | exact endAct_strikeCeilingLaw _
  · unfold State.retireRoll
    (repeat' split) <;> first | exact h | exact hsettled (SharesStrikes.same rfl rfl rfl rfl rfl)
  · unfold State.retireLot
    split
    · exact h
    rename_i l hl
    have hdropped (hstate : l.onWeb = false) : SharesStrikes s (s.dropRecord .lot n) :=
      dropLot_sharesStrikes fun x hx => by rwa [← Option.some.inj (hl.symm.trans hx)]
    cases hstate : l.state
    · exact h
    · exact hsettled (hdropped (by simp [Lot.onWeb, hstate]))
    · exact endAct_strikeCeilingLaw _
    · exact h
    · exact hsettled (hdropped (by simp [Lot.onWeb, hstate]))

/-! ### The requests -/

theorem StrikeCeilingLaw.setPort (h : StrikeCeilingLaw s) (p : Port) (v : PortState) : StrikeCeilingLaw (s.setPort p v) :=
  h.of_shares (by apply SharesStrikes.same <;> simp)

theorem StrikeCeilingLaw.setSlot (h : StrikeCeilingLaw s) (p : Port) (v : Slot) : StrikeCeilingLaw (s.setSlot p v) := h.setPort p _

theorem StrikeCeilingLaw.openNext (h : StrikeCeilingLaw s) (p : Port) (tb : Table) (k : Option Nat) (write : Bool) :
    StrikeCeilingLaw (s.openNext p tb k write).1 :=
  h.of_shares (by apply SharesStrikes.same <;> simp)

theorem freshSlot_rst {p : Port} (h : s.freshSlot p = some t) : ∃ v, t = s ∨ t = s.setSlot p v := by
  unfold State.freshSlot at h
  split at h <;> cases h
  · exact ⟨.empty, Or.inl rfl⟩
  · exact ⟨.empty, Or.inr rfl⟩

/-- The requests that move nothing but a port's slot, and those that end an act or are refused. -/
theorem slotAnswer_strikeCeilingLaw (h : StrikeCeilingLaw s) (p : Port) (ops : List Byte) :
    StrikeCeilingLaw (answerOpen p ops s).1 ∧ StrikeCeilingLaw (answerGet p ops s).1 ∧ StrikeCeilingLaw (answerPut p ops s).1 := by
  refine ⟨?_, h.of_shares ?_, h.of_shares ?_⟩
  · unfold answerOpen
    (repeat' split) <;> try exact h
    rename_i u hfresh
    have hu : StrikeCeilingLaw u := by
      obtain ⟨v, rfl | rfl⟩ := freshSlot_rst hfresh
      · exact h
      · exact h.setSlot p v
    exact hu.of_shares (by apply SharesStrikes.same <;> simp)
  all_goals apply SharesStrikes.same <;> simp

end Sys2Proof.Machine
end

section
/-! The ceiling is the least of its components (O15). -/

namespace Sys2Proof.Machine

variable {s t : State}

/-! ### The answers -/

theorem answerCreate_strikeCeilingLaw (hcount : CountLaw s) (h : StrikeCeilingLaw s) (p : Port) (ops : List Byte) :
    StrikeCeilingLaw (answerCreate p ops s).1 := by
  unfold answerCreate
  (repeat' split) <;> try exact h
  rename_i u hfresh
  obtain ⟨v, rfl | rfl⟩ := freshSlot_rst hfresh
  · exact h.of_shares (createIn_sharesStrikes hcount _ _ _ _ _)
  · exact (h.setSlot p v).of_shares (createIn_sharesStrikes (countLaw_congr hcount (by simp)) _ _ _ _ _)

theorem close_strikeCeilingLaw (hcount : CountLaw s) (h : StrikeCeilingLaw s) (p : Port) : StrikeCeilingLaw (s.close p).1 := by
  unfold State.close
  split
  · exact h
  · exact h.setSlot p _
  · exact h.of_shares (endOpen_sharesStrikes hcount p)
  · split
    · exact h
    · exact endAct_strikeCeilingLaw _

theorem next_strikeCeilingLaw (hcount : CountLaw s) (h : StrikeCeilingLaw s) (p : Port) : StrikeCeilingLaw (s.next p).1 := by
  unfold State.next
  split
  · exact h
  · exact h.of_shares (by apply SharesStrikes.same <;> simp)
  · exact (h.of_shares (endOpen_sharesStrikes hcount p)).openNext p _ _ _
  · split
    · exact h
    · exact (endAct_strikeCeilingLaw _).openNext p _ _ _

theorem discard_strikeCeilingLaw (hcount : CountLaw s) (h : StrikeCeilingLaw s) (p : Port) : StrikeCeilingLaw (s.discard p).1 := by
  unfold State.discard
  split
  · exact h
  · exact h.setSlot p _
  all_goals exact h.of_shares (endOpen_sharesStrikes hcount p)

/-- The commands to the line are refused, or end an act; the heat permit and a splice refused move no strike. -/
theorem lineAnswer_strikeCeilingLaw (h : StrikeCeilingLaw s) :
    StrikeCeilingLaw s.tryStart.1 ∧ StrikeCeilingLaw s.tryStep.1 ∧ StrikeCeilingLaw s.splice.1 ∧ StrikeCeilingLaw s.permitHeat.1 ∧
      StrikeCeilingLaw s.resetTrip.1 ∧ StrikeCeilingLaw s.lineReset.1 := by
  refine ⟨?start, ?step, ?splice, h.of_shares (by apply SharesStrikes.same <;> simp), ?tripReset, ?lineReset⟩
  case splice =>
    unfold State.splice
    split
    · exact h.of_shares (by apply SharesStrikes.same <;> simp)
    · exact endAct_strikeCeilingLaw _
  case start =>
    unfold State.tryStart
    (repeat' split) <;> first | exact h | exact endAct_strikeCeilingLaw _
  case step =>
    unfold State.tryStep
    (repeat' split) <;> first | exact h | exact endAct_strikeCeilingLaw _
  case tripReset =>
    unfold State.resetTrip
    (repeat' split) <;> first | exact h | exact endAct_strikeCeilingLaw _
  case lineReset =>
    unfold State.lineReset
    split
    · exact endAct_strikeCeilingLaw _
    · exact h

theorem answerBody_strikeCeilingLaw (hcount : CountLaw s) (h : StrikeCeilingLaw s) (p : Port) (body : List Byte) :
    StrikeCeilingLaw (answerBody p body s).1 := by
  obtain ⟨hstart, hstep, hsplice, hpermit, htrip, hline⟩ := lineAnswer_strikeCeilingLaw h
  unfold answerBody
  split
  · exact h
  split
  · exact answerCreate_strikeCeilingLaw hcount h p _
  · exact (slotAnswer_strikeCeilingLaw h p _).1
  · exact (slotAnswer_strikeCeilingLaw h p _).2.1
  · exact (slotAnswer_strikeCeilingLaw h p _).2.2
  · exact AnswersKeep.bareKeeps h _ (close_strikeCeilingLaw hcount h p)
  · exact AnswersKeep.bareKeeps h _ (next_strikeCeilingLaw hcount h p)
  · exact AnswersKeep.bareKeeps h _ (discard_strikeCeilingLaw hcount h p)
  · unfold answerRetire
    (repeat' split) <;> first | exact h | exact retireIn_strikeCeilingLaw hcount h _ _
  · exact AnswersKeep.findAnswer h p _
  · exact AnswersKeep.motionKeeps h p _ hstart
  · exact AnswersKeep.bareKeeps h _ (endAct_strikeCeilingLaw _)
  · exact AnswersKeep.bareKeeps h _ (endAct_strikeCeilingLaw _)
  · exact AnswersKeep.motionKeeps h p _ (endAct_strikeCeilingLaw _)
  · exact AnswersKeep.motionKeeps h p _ hstep
  · exact AnswersKeep.motionKeeps h p _ hsplice
  · exact AnswersKeep.supervisorOnlyKeeps h p _ hpermit
  · unfold answerClear
    split
    · exact h
    · exact endAct_strikeCeilingLaw _
  · exact AnswersKeep.motionKeeps h p _ htrip
  · exact AnswersKeep.supervisorOnlyKeeps h p _ hline
  · exact AnswersKeep.bareKeeps h _ h
  · exact AnswersKeep.bareKeeps h _ h
  · exact h

/-! ### The commands -/

/-- What a command of the ports can do: leave the state, move its port, or take a request. -/
theorem exec_onWire {c : Instr} (hwire : c.onWire = true) (ht : exec c s = .next t) :
    t = s ∨ (∃ p v, t = s.setPort p v) ∨ (∃ p, t = s.takeRequest p answerUnknown) ∨ ∃ p body, t = s.takeRequest p (answerBody p body) := by
  have hrequest (p : Port) (body : List Byte) : s.takeRequest p (answerBody p body) = s ∨
      (∃ q v, s.takeRequest p (answerBody p body) = s.setPort q v) ∨
      (∃ q, s.takeRequest p (answerBody p body) = s.takeRequest q answerUnknown) ∨
      ∃ q b, s.takeRequest p (answerBody p body) = s.takeRequest q (answerBody q b) := Or.inr (Or.inr (Or.inr ⟨p, body, rfl⟩))
  have habandon (p : Port) : s.abandonIfReceiving p = s ∨ ∃ q v, s.abandonIfReceiving p = s.setPort q v := by
    unfold State.abandonIfReceiving
    split
    · exact Or.inr ⟨p, _, rfl⟩
    all_goals exact Or.inl rfl
  cases c with
  | interByteGapExpiry p | frameAbandoned p _ =>
    cases ht
    rcases habandon p with h | h
    · exact Or.inl h
    · exact Or.inr (Or.inl h)
  | responseSent p =>
    cases ht
    split
    · exact Or.inr (Or.inl ⟨p, _, rfl⟩)
    all_goals exact Or.inl rfl
  | byteReceived p b f =>
    have ht : execByteReceived p b f s = .next t := ht
    unfold execByteReceived at ht
    cases ht
    split
    · exact Or.inl rfl
    · split
      · exact Or.inr (Or.inl ⟨p, _, rfl⟩)
      · exact Or.inl rfl
    · split
      · exact Or.inr (Or.inl ⟨p, _, rfl⟩)
      · unfold State.takeByte
        split
        · split <;> exact Or.inr (Or.inl ⟨p, _, rfl⟩)
        dsimp only
        split
        · exact Or.inr (Or.inl ⟨p, _, rfl⟩)
        split
        · exact Or.inr (Or.inl ⟨p, _, rfl⟩)
        · exact hrequest p _
    · exact Or.inl rfl
  | unknownCommand p => cases ht; exact Or.inr (Or.inr (Or.inl ⟨p, rfl⟩))
  | create p ops => cases ht; exact hrequest p (0x10#8 :: ops)
  | openRecord p ops => cases ht; exact hrequest p (0x11#8 :: ops)
  | getField p ops => cases ht; exact hrequest p (0x12#8 :: ops)
  | putField p ops => cases ht; exact hrequest p (0x13#8 :: ops)
  | closeRecord p ops => cases ht; exact hrequest p (0x14#8 :: ops)
  | nextRecord p ops => cases ht; exact hrequest p (0x15#8 :: ops)
  | discard p ops => cases ht; exact hrequest p (0x16#8 :: ops)
  | retire p ops => cases ht; exact hrequest p (0x17#8 :: ops)
  | find p ops => cases ht; exact hrequest p (0x18#8 :: ops)
  | start p ops => cases ht; exact hrequest p (0x40#8 :: ops)
  | stop p ops => cases ht; exact hrequest p (0x41#8 :: ops)
  | hold p ops => cases ht; exact hrequest p (0x42#8 :: ops)
  | resume p ops => cases ht; exact hrequest p (0x43#8 :: ops)
  | stepLine p ops => cases ht; exact hrequest p (0x44#8 :: ops)
  | splice p ops => cases ht; exact hrequest p (0x45#8 :: ops)
  | permit p ops => cases ht; exact hrequest p (0x46#8 :: ops)
  | clear p ops => cases ht; exact hrequest p (0x47#8 :: ops)
  | tripReset p ops => cases ht; exact hrequest p (0x48#8 :: ops)
  | lineReset p ops => cases ht; exact hrequest p (0x49#8 :: ops)
  | status p ops => cases ht; exact hrequest p (0x4A#8 :: ops)
  | ident p ops => cases ht; exact hrequest p (0x4B#8 :: ops)
  | _ => cases hwire

theorem takeRequest_strikeCeilingLaw (h : StrikeCeilingLaw s) {p : Port} {answer : State → State × Reply}
    (hanswer : ∀ {u : State}, u.rst = s.rst → StrikeCeilingLaw u → StrikeCeilingLaw (answer u).1) :
    StrikeCeilingLaw (s.takeRequest p answer) := by
  unfold State.takeRequest
  split
  · exact (hanswer (by simp) (h.setPort p _)).setPort p _
  · exact h

theorem exec_strikeCeilingLaw (hcount : CountLaw s) (h : StrikeCeilingLaw s) {c : Instr} (ht : exec c s = .next t) :
    StrikeCeilingLaw t := by
  by_cases hwire : c.onWire = true
  · rcases exec_onWire hwire ht with rfl | ⟨p, v, rfl⟩ | ⟨p, rfl⟩ | ⟨p, body, rfl⟩
    · exact h
    · exact h.setPort p v
    · exact takeRequest_strikeCeilingLaw h fun _ hu => hu
    · exact takeRequest_strikeCeilingLaw h fun hrst hu => answerBody_strikeCeilingLaw (countLaw_congr hcount hrst) hu p body
  rcases exec_offWire (by simpa using hwire) ht with ⟨u, rfl⟩ | rfl | ⟨i, v, rfl⟩ | ⟨p, rfl⟩ | hreset
  · exact endAct_strikeCeilingLaw u
  · exact h
  · exact h.of_shares (SharesStrikes.same rfl rfl rfl rfl rfl)
  · exact h.of_shares (endOpen_sharesStrikes hcount p)
  · cases hreset
    exact strikeCeilingLaw_reset.of_shares (SharesStrikes.same rfl rfl rfl rfl rfl)

/-- Settles O15: the end of an act computes the strike ceiling and then the ceiling from what it finds, so the periodic commands leave
both right from any state; a command that ends no act moves nothing that either is taken over. -/
theorem ceilingIsTheLeastComponent : Obligations.CeilingIsTheLeastComponent := by
  unfold Obligations.CeilingIsTheLeastComponent
  refine ⟨fun s t hs hstep => ?_, fun s t hcount hs hstep => ?_, fun c s hc => ?_⟩
  · unfold step at hstep
    split at hstep
    · cases hstep; exact hs
    · exact exec_ceilingLaw hstep (hs.of_shares ⟨⟨rfl, rfl⟩, rfl, rfl, rfl, fun _ => rfl⟩)
  · unfold step at hstep
    split at hstep
    · cases hstep; exact hs
    · rename_i cs _
      have hs' : StrikeCeilingLaw (s.withPending cs) := hs.of_shares (SharesStrikes.same rfl rfl rfl rfl rfl)
      have hcount' : CountLaw (s.withPending cs) := countLaw_congr hcount rfl
      exact exec_strikeCeilingLaw hcount' hs' hstep
  · obtain ⟨u, hu⟩ := exec_periodic s hc
    obtain ⟨hmax, hleast, hmem⟩ := endAct_ceilingLaw u
    refine ⟨_, hu, endAct_strikeCeilingLaw u, hmax, fun x hx => hleast x ((mem_ceilingParts _ x).mpr hx), hmem.imp_right fun hx => ?_⟩
    exact (mem_ceilingParts _ _).mp hx

end Sys2Proof.Machine
end

section
/-! STOP, HOLD and RESUME (O42). -/

namespace Sys2Proof.Machine

variable {s : State} {p : Port}

theorem setHold_restartInactivity (s : State) (p : Port) (h : HoldReason) :
    (s.restartInactivity p).setHold h = (s.setHold h).restartInactivity p := by
  cases p <;> rfl

theorem dropHold_restartInactivity (s : State) (p : Port) (h : HoldReason) :
    (s.restartInactivity p).dropHold h = (s.dropHold h).restartInactivity p := by
  cases p <;> rfl

theorem says_ok_setReceiver (u : State) (p : Port) : (u.setReceiver p (.answering [0x00#8])).says p .ok := by
  cases p <;> rfl

/-! ### STOP (R163) -/

theorem exec_stop (hears : s.hears p = true) :
    exec (.stop p []) s = .next ((s.restartInactivity p).stopLine.endAct.setReceiver p (.answering [0x00#8])) :=
  congrArg Host.Outcome.next (takeRequest_done (answer := answerStop p []) hears rfl)

/-- A line at rest, or with a stop already deferred, is left by another stop (R158, R163). -/
theorem stopLine_eq_self (hintent : IntentLaw s)
    (h : s.sgv.stopPending = true ∨ s.sgv.gov = .stopped ∨ s.sgv.gov = .halting ∨ s.sgv.gov = .tripped) : s.stopLine = s := by
  unfold IntentLaw at hintent
  unfold State.stopLine
  cases hgov : s.sgv.gov <;> simp only [hgov] at hintent h ⊢
  case stepping | run =>
    rcases h with h | h | h | h
    · rw [hintent.2] at h
      cases h
    all_goals cases h
  case creep =>
    rcases h with h | h | h | h
    · obtain ⟨hset, hhead⟩ := hintent
      rw [if_pos (hhead h)]
      rw [h] at hset
      unfold State.deferStop
      obtain ⟨pending, freeIdx, inputs, rst, lnk, fsu, ltr, pfm, hsu, exu, sgv⟩ := s
      cases sgv
      simp_all
    all_goals cases h

theorem stopLine_of_running (hgov : s.sgv.gov = .creep ∨ s.sgv.gov = .run) :
    s.stopLine = if s.fsu.phase.headOn then s.deferStop else s.enterHalting := by
  unfold State.stopLine
  rcases hgov with hgov | hgov <;> rw [hgov]

theorem stopLine_of_stepping (hgov : s.sgv.gov = .stepping) : s.stopLine = s.enterHalting := by
  unfold State.stopLine
  rw [hgov]

theorem enterHalting_stepTarget (s : State) : s.enterHalting.pfm.stepTarget = none := by
  unfold State.enterHalting
  dsimp only
  split <;> simp [State.clearTarget]

theorem enterHalting_matching (h : s.fsu.phase = .matching) : s.enterHalting.fsu.outcome = .abandoned := by
  have hphase : (State.clearTarget (State.zonesToStandby { s with sgv := { s.sgv with
      gov := .halting, intent := false, stopPending := false, standstill := false, standWindow := some 200 } })).fsu.phase =
        .matching := by simpa using h
  unfold State.enterHalting
  rw [if_pos hphase]
  exact (abandonSplice_ends (by rw [hphase]; simp) .abandoned).2.1

/-! ### HOLD and RESUME (R164) -/

theorem exec_hold (hears : s.hears p = true) :
    exec (.hold p []) s = .next (((s.setHold .host).restartInactivity p).endAct.setReceiver p (.answering [0x00#8])) := by
  rw [← setHold_restartInactivity]
  exact congrArg Host.Outcome.next (takeRequest_done (answer := answerHold p []) hears rfl)

theorem exec_resume (hears : s.hears p = true) (hkey : s.keyAdmits p = true) :
    exec (.resume p []) s = .next (((s.dropHold .host).restartInactivity p).endAct.setReceiver p (.answering [0x00#8])) := by
  have hkey' : (s.restartInactivity p).keyAdmits p = true := (keyAdmits_restartInactivity s p p).trans hkey
  rw [← dropHold_restartInactivity]
  exact congrArg Host.Outcome.next (takeRequest_done (answer := answerResume p []) hears (motion_admitted _ hkey'))

/-- An act that ends and is answered OK completes as the answer to the act's state. -/
theorem unregulated_endAct_answered (u : State) (p : Port) :
    ((u.restartInactivity p).endAct.setReceiver p (.answering [0x00#8])).unregulated = (u.answered p (say .ok)).unregulated := by
  rw [unregulated_setReceiver, endAct_unregulated, ← unregulated_setReceiver]
  rfl

/-- Settles O42: STOP by what `stopLine` does in each governor state, HOLD and RESUME by the end of the act on the reason set or
withdrawn. -/
theorem stopHoldAndResume : Obligations.StopHoldAndResume := by
  unfold Obligations.StopHoldAndResume
  refine ⟨fun p s hintent hears => ?_, fun p s hears => ?_, fun p s hears hkey => ?_⟩
  · set r := s.restartInactivity p with hr
    have hfsu : r.fsu = s.fsu := by simp [hr]
    have hsgv : r.sgv = s.sgv := by simp [hr]
    have hrst : r.rst = s.rst := by simp [hr]
    refine ⟨_, exec_stop hears, says_ok_setReceiver _ p, by simp, by simp, by simp, by simp, by simp, by simp,
      fun hgov => ?_, fun hgov hphase => ?_, fun hgov hpending hphase => ?_, fun hrest => ?_⟩
    · have hstop : r.stopLine = r.enterHalting := stopLine_of_stepping (by rw [hsgv, hgov])
      have hhalt := (enterHalting_gov r).1
      simp only [State.setReceiver_frame, ← hr, hstop, State.endAct_frame]
      exact ⟨endAct_halting hhalt, (endAct_refs_atRest (by rw [hhalt]; rfl)).1, enterHalting_stepTarget r⟩
    · have hhead : r.fsu.phase.headOn = false := by
        rw [hfsu]
        rcases hphase with h | h <;> rw [h] <;> rfl
      have hstop : r.stopLine = r.enterHalting := by
        rw [stopLine_of_running (by rw [hsgv]; exact hgov), hhead]
        rfl
      obtain ⟨hhalt, -, hclear⟩ := enterHalting_gov r
      simp only [State.setReceiver_frame, ← hr, hstop, State.endAct_frame]
      refine ⟨hclear, endAct_halting hhalt, (endAct_refs_atRest (by rw [hhalt]; rfl)).1, ?_, fun hmatching => ?_⟩
      · rw [enterHalting_phase, hfsu]
        rcases hphase with h | h <;> simp [h]
      · exact enterHalting_matching (by rw [hfsu, hmatching])
    · have hhead : r.fsu.phase.headOn = true := by
        rw [hfsu]
        rcases hphase with h | h | h <;> rw [h] <;> rfl
      have hstop : r.stopLine = r.deferStop := by
        rw [stopLine_of_running (by rw [hsgv]; exact hgov), hhead]
        rfl
      have hcreep : r.deferStop.endAct.sgv.gov = .creep := endAct_gov rfl (by simp)
      have href := (endAct_referenceLaw r.deferStop).1 hcreep
      simp only [State.setReceiver_frame, ← hr, hstop]
      refine ⟨by simp [State.deferStop], by simp [State.deferStop], hcreep, by simp [hfsu], ?_⟩
      rw [href]
      simp [hrst]
    · have hstop : r.stopLine = r := stopLine_eq_self (by unfold IntentLaw; rw [hsgv, hfsu]; exact hintent) (by rw [hsgv]; exact hrest)
      rw [← hr, hstop]
      exact unregulated_endAct_answered s p
  · refine ⟨⟨_, exec_hold hears, unregulated_endAct_answered _ p⟩, fun t ht => ?_⟩
    rw [exec_hold hears] at ht
    cases ht
    set u := (s.setHold .host).restartInactivity p with hu
    have hhost : u.endAct.hasHold .host = true := by
      rw [endAct_hasHold (by simp), hasHold_congr (s := s.setHold .host) (by simp [hu]), hasHold_setHold]
      simp
    have hne := endAct_ne_run hhost
    simp only [State.setReceiver_frame, hasHold_congr (s := u.endAct) (t := u.endAct.setReceiver p _) (by simp)]
    refine ⟨hhost, hne, fun hrun => ?_⟩
    exact (endAct_gov_of_run (s := u) (by simpa [hu] using hrun)).resolve_left hne
  · refine ⟨⟨_, exec_resume hears hkey, unregulated_endAct_answered _ p⟩, fun t ht => ?_⟩
    rw [exec_resume hears hkey] at ht
    cases ht
    set u := (s.dropHold .host).restartInactivity p with hu
    rw [hasHold_congr (s := u.endAct) (by simp), endAct_hasHold (by simp), hasHold_congr (s := s.dropHold .host) (by simp [hu]),
      hasHold_dropHold]
    simp

end Sys2Proof.Machine
end

section
/-! HOME and CUT_HOME (O26): their debounced changes move the strike cycle and the cutter cycle. -/

namespace Sys2Proof.Machine

variable {s : State}

/-- A stop cause raised and the act ended: the cause and its alert stand, the governor is where the cause takes it. -/
theorem raiseStop_endAct (s : State) (c : StopCause) :
    (s.raiseStop c).endAct.hasAlert c.alert = true ∧ (s.raiseStop c).endAct.hasStop c = true ∧
      (s.raiseStop c).endAct.sgv.gov = s.sgv.gov.afterStop s.fsu.phase := by
  obtain ⟨hstop, halert, hgov⟩ := raiseStop_spec s c
  exact ⟨(hasAlert_endAct _ _).trans halert, (hasStop_endAct _ _).trans hstop, endAct_gov hgov (afterStop_ne_run _ _)⟩

/-- The strike ceiling apart, the end of an act leaves the Pleat Former. -/
theorem endAct_unregulated_pfm (s : State) : s.endAct.unregulated.pfm = s.unregulated.pfm :=
  congrArg State.pfm (endAct_unregulated s)

/-! ### The strike cycle (R107) -/

theorem homeFall_idle (h : s.pfm.cycle = .idle) : s.homeFall = (s.bladesTo .away).raiseStop .bladeJam := by
  unfold State.homeFall
  rw [h]

theorem homeFall_stroke (h : s.pfm.cycle = .stroke) : s.homeFall = { s with pfm := { s.pfm with strike := false, cycle := .back } } := by
  unfold State.homeFall
  rw [h]

theorem homeFall_else (h : s.pfm.cycle = .back ∨ s.pfm.cycle = .away) : s.homeFall = s := by
  unfold State.homeFall
  rcases h with h | h <;> rw [h]

theorem homeRise_out (h : s.pfm.cycle = .back ∨ s.pfm.cycle = .away) : s.homeRise = (s.bladesTo .idle).testStep := by
  unfold State.homeRise
  rcases h with h | h <;> rw [h]

theorem homeRise_else (h : ¬ (s.pfm.cycle = .back ∨ s.pfm.cycle = .away)) : s.homeRise = s := by
  unfold State.homeRise
  cases hcycle : s.pfm.cycle <;> simp_all

/-! ### The cutter cycle (R143) -/

theorem cutHomeFall_idle (h : s.exu.cycle = .idle) : s.cutHomeFall = (s.cutterTo .away).raiseStop .cutterJam := by
  unfold State.cutHomeFall
  rw [h]

theorem cutHomeFall_stroke (h : s.exu.cycle = .stroke) :
    s.cutHomeFall = { s with exu := { s.exu with cut := false, cycle := .back } } := by
  unfold State.cutHomeFall
  rw [h]

theorem cutHomeFall_else (h : s.exu.cycle = .back ∨ s.exu.cycle = .away) : s.cutHomeFall = s := by
  unfold State.cutHomeFall
  rcases h with h | h <;> rw [h]

theorem cutHomeRise_eq (s : State) :
    s.cutHomeRise = { s with exu := if s.exu.cycle = .back ∨ s.exu.cycle = .away
      then { s.exu with cycle := .idle, cut := false, limit := none, cutSerial := none } else s.exu } := by
  unfold State.cutHomeRise
  cases s.exu.cycle <;> rfl

/-! ### The statement -/

theorem home_falls (h : s.falling .home) : exec (.debounceSettle .home) s = .next (s.settled .home false).homeFall.endAct :=
  exec_falling h

theorem home_rises (h : s.rising .home) : exec (.debounceSettle .home) s = .next (s.settled .home true).homeRise.endAct := exec_rising h

theorem cutHome_falls (h : s.falling .cutHome) :
    exec (.debounceSettle .cutHome) s = .next (s.settled .cutHome false).cutHomeFall.endAct := exec_falling h

/-- Settles O26: each cycle state of the blades and of the cutter taken through the rows of R107 and R143. -/
theorem homeInputsMoveTheCycles : Obligations.HomeInputsMoveTheCycles := by
  unfold Obligations.HomeInputsMoveTheCycles
  refine ⟨⟨fun s hfall => ⟨_, home_falls hfall, ?_⟩, fun s hrise => ⟨_, home_rises hrise, ?_⟩⟩,
    ⟨fun s hfall => ⟨_, cutHome_falls hfall, ?_⟩, fun s hrise => completes_of_rising hrise ?_⟩⟩
  · have hpfm : (s.settled .home false).pfm = s.pfm := by simp
    cases hcycle : s.pfm.cycle with
    | idle =>
      have hjam := raiseStop_endAct ((s.settled .home false).bladesTo .away) .bladeJam
      rw [homeFall_idle (by rw [hpfm, hcycle])]
      exact ⟨by simp [State.bladesTo], by simp [State.bladesTo], by simp [State.bladesTo], by simp [State.bladesTo, depthsAtRest], hjam⟩
    | stroke =>
      rw [homeFall_stroke (by rw [hpfm, hcycle])]
      simp
    | back | away =>
      rw [homeFall_else (by simp [hcycle]), endAct_unregulated_pfm]
      simp [State.unregulated]
  · have hpfm : (s.settled .home true).pfm = s.pfm := by simp
    split
    · rename_i hout
      rw [homeRise_out (by rw [hpfm]; exact hout)]
      simp [State.bladesTo, depthsAtRest]
    · rename_i hin
      rw [homeRise_else (by rw [hpfm]; exact hin), endAct_unregulated_pfm]
      simp [State.unregulated]
  · have hexu : (s.settled .cutHome false).exu = s.exu := by simp
    cases hcycle : s.exu.cycle with
    | idle =>
      have hjam := raiseStop_endAct ((s.settled .cutHome false).cutterTo .away) .cutterJam
      rw [cutHomeFall_idle (by rw [hexu, hcycle])]
      simp only [State.endAct_frame, State.raiseStop_frame]
      simp only [State.cutterTo, hexu, true_and]
      exact hjam
    | stroke =>
      rw [cutHomeFall_stroke (by rw [hexu, hcycle])]
      simp
    | back | away =>
      rw [cutHomeFall_else (by simp [hcycle])]
      simp
  · exact (cutHomeRise_eq _).trans (by simp [State.settled])

end Sys2Proof.Machine
end

section
/-! SUPPORT. A missed strike, and what a record's missed count is through the parts of a feed count (O33, O19). -/

namespace Sys2Proof.Machine

variable {s t u : State}

/-! ### A missed strike (R109) -/

/-- The record with one strike more missed, up to 15. -/
def Panel.missedOnce (p : Panel) : Panel := { p with missed := min 15 (p.missed + 1) }

theorem panel?_congr (h : t.rst.panels = s.rst.panels) (k : PanelKey) : t.panel? k = s.panel? k := by
  unfold State.panel?
  rw [h]

theorem panel?_key {k : PanelKey} {p : Panel} (h : s.panel? k = some p) : p.key = k := by
  simpa using List.find?_some h

theorem changePanel_panel? {k : PanelKey} {g : Panel → Panel} {p : Panel} (hkey : ∀ q, (g q).key = q.key) (h : s.panel? k = some p) :
    (s.changePanel k g).panel? k = some (g p) := by
  have hsame : (fun q : Panel => (if q.key = k then g q else q).key == k) = fun q => q.key == k := by
    funext q
    split <;> simp [hkey]
  have hfind : s.rst.panels.find? (fun q => q.key == k) = some p := h
  show (s.rst.panels.map fun q => if q.key = k then g q else q).find? (fun q => q.key == k) = _
  rw [List.find?_map]
  show Option.map _ (s.rst.panels.find? fun q : Panel => (if q.key = k then g q else q).key == k) = _
  rw [hsame, hfind, Option.map_some, if_pos (panel?_key h)]

theorem missStrike_panel? {k : PanelKey} {p : Panel} (h : s.panel? k = some p) (hmissed : p.missed ≤ 15) :
    (s.missStrike k).panel? k = some p.missedOnce := by
  unfold State.missStrike
  simp only [h]
  split
  · have hfull : p.missed = 15 := by omega
    have hp : p.missedOnce = p := by
      obtain ⟨⟩ := p
      simp_all [Panel.missedOnce]
    rw [h, hp]
  · have hp : p.missedOnce = { p with missed := p.missed + 1 } := by
      unfold Panel.missedOnce
      rw [Nat.min_eq_right (by omega)]
    have hchanged := changePanel_panel? (s := s) (g := fun q => { q with missed := q.missed + 1 }) (fun _ => rfl) h
    rw [hp]
    split
    · exact (panel?_congr rfl k).trans hchanged
    · exact hchanged

/-- The strike that takes the count from 14 to 15 raises STRIKE_SATURATED and its hold (R109). -/
theorem missStrike_saturates {k : PanelKey} {p : Panel} (h : s.panel? k = some p) (hmissed : p.missed = 14) :
    (s.missStrike k).hasAlert .strikeSaturated = true ∧ (s.missStrike k).hasHold .strikeSaturated = true := by
  have hlow : ¬ 15 ≤ p.missed := by omega
  have heq : s.missStrike k =
      ((s.changePanel k fun q => { q with missed := q.missed + 1 }).raiseAlert .strikeSaturated).setHold .strikeSaturated := by
    unfold State.missStrike
    simp only [h, if_neg hlow, if_pos hmissed]
  rw [heq, hasHold_setHold]
  refine ⟨?_, by simp⟩
  show (State.raiseAlert _ .strikeSaturated).hasAlert .strikeSaturated = true
  rw [hasAlert_raiseAlert]
  simp

end Sys2Proof.Machine
end

section
/-! The actuators' limits (O33). -/

namespace Sys2Proof.Machine

variable {s : State}

/-- A stop cause keeps the alerts that stand. -/
theorem raiseStop_keepsAlert (a : Alert) (s : State) (c : StopCause) : KeepsAlert a s (s.raiseStop c) :=
  (raiseAlert_keepsAlert a c.alert s).trans fun h => by
    unfold State.raiseStop
    rw [hasAlert_stopLine]
    exact h

theorem limited_of_out {c : Cycle} (h : c = .stroke ∨ c = .back) : c.limited = true := by rcases h with rfl | rfl <;> rfl

theorem exec_bladeLimitExpiry (hlimit : s.pfm.bladeLimit.isSome = true) (hcycle : s.pfm.cycle = .stroke ∨ s.pfm.cycle = .back) :
    exec .bladeLimitExpiry s = .next ((s.missCurrent.bladesTo .away).raiseStop .bladeJam).endAct := by
  simp [exec, execBladeLimitExpiry, hlimit, limited_of_out hcycle]

theorem exec_cutterLimitExpiry (hlimit : s.exu.limit.isSome = true) (hcycle : s.exu.cycle = .stroke ∨ s.exu.cycle = .back) :
    exec .cutterLimitExpiry s = .next (s.cutterJam.raiseStop .cutterJam).endAct := by
  simp [exec, execCutterLimitExpiry, hlimit, limited_of_out hcycle]

theorem missCurrent_of_strikeFor {k : PanelKey} (h : s.pfm.strikeFor = some k) : s.missCurrent = s.missStrike k := by
  unfold State.missCurrent
  rw [h]

theorem failedStroke_of_cutSerial {n : Nat} (h : s.exu.cutSerial = some n) : s.failedStroke = s.passCutFault n := by
  unfold State.failedStroke
  rw [h]

theorem cutterJam_of_stroke (h : s.exu.cycle = .stroke) : s.cutterJam = s.failedStroke.cutterTo .away := by
  unfold State.cutterJam
  rw [if_pos h]

theorem cutterJam_of_back (h : s.exu.cycle = .back) : s.cutterJam = s.cutterTo .away := by
  unfold State.cutterJam
  rw [if_neg (by rw [h]; simp)]

theorem cutterJam_exu (s : State) : s.cutterJam.exu.cut = false ∧ s.cutterJam.exu.cycle = .away ∧ s.cutterJam.exu.limit = none := by
  unfold State.cutterJam
  split <;> exact ⟨rfl, rfl, rfl⟩

/-- The fault waits for the record created next, or waited before (R146). -/
theorem passCutFault_pendingFault (s : State) (n : Nat) :
    (s.passCutFault n).exu.pendingFault = (s.exu.pendingFault || (!s.hasSerial (n + 1) && decide (s.rst.panelSerial = n + 1))) := by
  unfold State.passCutFault
  split
  · rename_i hserial
    simp [hserial]
  split
  · rename_i hserial hnext
    simp [hserial, hnext]
  · rename_i hnext
    simp [hnext]

/-- Settles O33: a limit's expiry misses the strike, or passes the cut fault on, and raises the jam's stop cause. -/
theorem actuatorLimitsAreJams : Obligations.ActuatorLimitsAreJams := by
  unfold Obligations.ActuatorLimitsAreJams
  refine ⟨fun s hlimit hcycle => ?_, fun s hlimit hcycle => ?_⟩
  · obtain ⟨halert, hstop, hgov⟩ := raiseStop_endAct (s.missCurrent.bladesTo .away) .bladeJam
    refine ⟨_, exec_bladeLimitExpiry hlimit hcycle, by simp [State.bladesTo], by simp [State.bladesTo, depthsAtRest],
      by simp [State.bladesTo], by simp [State.bladesTo], halert, hstop, by simpa using hgov, fun k p hfor hp hmissed => ?_,
      by simp, by simp, by simp, by simp, by simp⟩
    have hmiss := missCurrent_of_strikeFor hfor
    refine ⟨p.missedOnce, ?_, rfl, fun hlast => ?_⟩
    · rw [panel?_congr (s := s.missStrike k) (by simp [hmiss])]
      exact missStrike_panel? hp hmissed
    · obtain ⟨hsaturated, hheld⟩ := missStrike_saturates hp hlast
      rw [hmiss, hasAlert_endAct, endAct_hasHold (by simp)]
      exact ⟨raiseStop_keepsAlert _ _ _ hsaturated, (hasHold_congr (by simp) _).trans hheld⟩
  · obtain ⟨halert, hstop, hgov⟩ := raiseStop_endAct s.cutterJam .cutterJam
    obtain ⟨hcut, haway, hnone⟩ := cutterJam_exu s
    refine ⟨_, exec_cutterLimitExpiry hlimit hcycle, by simpa using hcut, by simpa using haway, by simpa using hnone, by simp, by simp,
      halert, hstop, by simpa using hgov, fun hback => ?_, fun n hstroke hserial => ?_, by simp, by simp, by simp, by simp⟩
    · rw [cutterJam_of_back hback]
      simp [State.cutterTo]
    · rw [cutterJam_of_stroke hstroke, failedStroke_of_cutSerial hserial]
      simp only [State.endAct_frame, State.raiseStop_frame]
      exact ⟨passCutFault_panels s n, passCutFault_pendingFault s n⟩

end Sys2Proof.Machine
end

section
/-! A strike point that arrives (O19). -/

namespace Sys2Proof.Machine

variable {s t u : State}

/-! ### What FSU's and LTR's parts of the count keep -/

/-- The governor is TRIPPED in both states or in neither. -/
def SharesTrip (s t : State) : Prop := t.sgv.gov = .tripped ↔ s.sgv.gov = .tripped

theorem SharesTrip.trans (h : SharesTrip s t) (h' : SharesTrip t u) : SharesTrip s u := Iff.trans h' h

theorem sharesTrip_of_gov (h : t.sgv.gov = s.sgv.gov) : SharesTrip s t := by
  unfold SharesTrip
  rw [h]

theorem afterStop_tripped (g : Governor) (p : SplicePhase) : g.afterStop p = .tripped ↔ g = .tripped := by
  cases g <;> simp [Governor.afterStop] <;> split <;> simp

theorem rollOut_sharesTrip (s : State) : SharesTrip s s.rollOut := by
  have hraise (v : State) (h : v.sgv.gov = s.sgv.gov) : SharesTrip s (v.raiseStop .rollOut) := by
    unfold SharesTrip
    rw [(raiseStop_spec v .rollOut).2.2, afterStop_tripped, h]
  unfold State.rollOut
  refine hraise _ ?_
  (repeat' split) <;> simp

theorem matchAndRollOut_sharesTrip (s : State) (d : Travel) (out : Bool) : SharesTrip s (s.matchAndRollOut d out) := by
  have hmatch (v : State) : SharesTrip v (v.matchPart d) := sharesTrip_of_gov (by simp)
  have hfree (v : State) : SharesTrip v v.takeFree := sharesTrip_of_gov (by simp)
  rcases matchAndRollOut_cases s d out with ⟨-, h⟩ | ⟨-, h | h | h⟩ <;> rw [h]
  · exact hmatch s
  · exact (hmatch s).trans (rollOut_sharesTrip _)
  · exact ((hmatch s).trans (rollOut_sharesTrip _)).trans (hfree _)
  · exact ((rollOut_sharesTrip s).trans (hmatch _)).trans (hfree _)

/-- No part of a feed count before PFM's trips the line or releases it. -/
theorem feedUnits_sharesTrip (s : State) (d : Travel) : SharesTrip s (s.feedUnits d) :=
  feedUnits_relates (R := SharesTrip) SharesTrip.trans (fun _ => sharesTrip_of_gov (by simp))
    (fun u d => fsuCount_relates (R := SharesTrip) (s := u) (d := d) SharesTrip.trans (fun _ => Iff.rfl)
      (fun _ => sharesTrip_of_gov (by simp))
      (fun _ => sharesTrip_of_gov (by simp)) (fun _ => sharesTrip_of_gov (by simp))
      (fun v out => matchAndRollOut_sharesTrip v d out) (fun _ => sharesTrip_of_gov (by simp)))
    (fun _ => sharesTrip_of_gov (by simp)) s d

/-- Every record stands with its missed count. -/
def KeepsMissed (s t : State) : Prop := ∀ k p, s.panel? k = some p → ∃ p', t.panel? k = some p' ∧ p'.missed = p.missed

theorem KeepsMissed.trans (h : KeepsMissed s t) (h' : KeepsMissed t u) : KeepsMissed s u := by
  intro k p hp
  obtain ⟨p', hp', hmissed⟩ := h k p hp
  obtain ⟨p'', hp'', hmissed'⟩ := h' k p' hp'
  exact ⟨p'', hp'', hmissed'.trans hmissed⟩

theorem keepsMissed_of_panels (h : t.rst.panels = s.rst.panels) : KeepsMissed s t := fun k p hp =>
  ⟨p, (panel?_congr h k).trans hp, rfl⟩

/-- A joint flags the forming panel and leaves its missed count (R88). -/
theorem flagForming_keepsMissed (s : State) (n : Nat) (j : Coord) : KeepsMissed s (s.flagForming n j) := by
  unfold State.flagForming
  split
  · exact keepsMissed_of_panels rfl
  rename_i f _
  split
  · intro k p hp
    by_cases hk : k = f.key
    · subst hk
      exact ⟨_, changePanel_panel? (g := fun p => { p with joint := true }) (fun _ => rfl) hp, rfl⟩
    · refine ⟨p, ?_, rfl⟩
      have hsame : (fun q : Panel => (if q.key = f.key then { q with joint := true } else q).key == k) = fun q => q.key == k := by
        funext q
        split <;> rfl
      have hfind : s.rst.panels.find? (fun q => q.key == k) = some p := hp
      show (s.rst.panels.map fun q => if q.key = f.key then { q with joint := true } else q).find? (fun q => q.key == k) = _
      rw [List.find?_map]
      show Option.map _ (s.rst.panels.find? fun q : Panel => (if q.key = f.key then { q with joint := true } else q).key == k) = _
      rw [hsame, hfind, Option.map_some, if_neg (by rw [panel?_key hp]; exact hk)]
  · exact keepsMissed_of_panels rfl

theorem assignJoint_keepsMissed (s : State) (n : Nat) (j : Coord) : KeepsMissed s (s.assignJoint n j) := by
  unfold State.assignJoint
  split
  · exact keepsMissed_of_panels rfl
  split
  · exact keepsMissed_of_panels rfl
  rename_i l _ _
  have hput : KeepsMissed s (s.putLot (l.addJoint j (s.lotFlatLen l))) := keepsMissed_of_panels rfl
  exact hput.trans (flagForming_keepsMissed _ _ _)

theorem entryDecision_keepsMissed (s : State) (c : Coord) : KeepsMissed s (s.entryDecision c) := by
  have hdecide : KeepsMissed s (s.decideNext c) := keepsMissed_of_panels (by
    unfold State.decideNext
    (repeat' split) <;> simp [State.openWaste, State.placeLot])
  refine hdecide.trans (u := (s.decideNext c).settlePendingJoint) ?_
  generalize s.decideNext c = v
  unfold State.settlePendingJoint
  split
  · exact keepsMissed_of_panels rfl
  have htaken : KeepsMissed v { v with ltr := { v.ltr with pendingJoint := none } } := keepsMissed_of_panels rfl
  dsimp only
  split
  · split
    · exact htaken.trans (assignJoint_keepsMissed _ _ _)
    · exact keepsMissed_of_panels rfl
  · exact keepsMissed_of_panels rfl

theorem segmentArrival_keepsMissed (s : State) : KeepsMissed s s.segmentArrival := by
  have hfed (n : Nat) : KeepsMissed s (s.makeFed n) := keepsMissed_of_panels (by
    unfold State.makeFed State.testCompletion
    (repeat' split) <;> simp [State.leaveOrder])
  unfold State.segmentArrival
  split
  · unfold State.segmentEnd
    split
    · exact (hfed _).trans (entryDecision_keepsMissed _ _)
    · exact entryDecision_keepsMissed s _
    · exact keepsMissed_of_panels rfl
  · exact keepsMissed_of_panels rfl

theorem feedUnits_keepsMissed (s : State) (d : Travel) : KeepsMissed s (s.feedUnits d) :=
  feedUnits_relates (R := KeepsMissed) KeepsMissed.trans (fun _ => keepsMissed_of_panels (by simp))
    (fun u d => fsuCount_relates (R := KeepsMissed) (s := u) (d := d) KeepsMissed.trans (fun _ => keepsMissed_of_panels rfl)
      (fun _ => keepsMissed_of_panels (by simp)) (fun _ => keepsMissed_of_panels (by simp)) (fun _ => keepsMissed_of_panels (by simp))
      (fun _ _ => keepsMissed_of_panels (by simp)) (fun _ => keepsMissed_of_panels (by simp)))
    segmentArrival_keepsMissed s d

/-! ### The arrival (R104–R106, R109) -/

theorem strikeArrival_due {c : Coord} {k : Nat} {f : FormContext} (hstrike : s.pfm.nextStrike = some (c, k))
    (hforming : s.pfm.forming = some f)
    (hdue : 20000 ≤ coordDiff s.fsu.w c) : s.strikeArrival = (s.strikeOrMiss f k).armStrike f k := by
  unfold State.strikeArrival
  simp only [hstrike, hforming]
  exact if_pos hdue

theorem strikeOrMiss_strikes {f : FormContext} {k : Nat} {st : Step} (hmask : f.laneMask ≠ 0#16) (hcycle : s.pfm.cycle = .idle)
    (hgov : s.sgv.gov ≠ .tripped) (hst : f.steps[k - 1]? = some st) : s.strikeOrMiss f k = s.beginStrike f st := by
  unfold State.strikeOrMiss
  rw [if_neg hmask, if_pos ⟨hcycle, hgov⟩, hst]

theorem strikeOrMiss_misses {f : FormContext} {k : Nat} (hmask : f.laneMask ≠ 0#16)
    (hbusy : s.pfm.cycle ≠ .idle ∨ s.sgv.gov = .tripped) : s.strikeOrMiss f k = s.missStrike f.key := by
  unfold State.strikeOrMiss
  rw [if_neg hmask, if_neg]
  rintro ⟨hcycle, hgov⟩
  exact hbusy.elim (fun h => h hcycle) hgov

/-- A strike that is not missed leaves the records. -/
theorem strikeOrMiss_panels {f : FormContext} {k : Nat} (h : ¬ (f.laneMask ≠ 0#16 ∧ (s.pfm.cycle ≠ .idle ∨ s.sgv.gov = .tripped))) :
    (s.strikeOrMiss f k).rst.panels = s.rst.panels := by
  unfold State.strikeOrMiss
  split
  · rfl
  rename_i hmask
  split
  · split <;> rfl
  rename_i hbusy
  exact absurd ⟨hmask, by rwa [not_and_or, ne_eq, not_not] at hbusy⟩ h

theorem strikeOrMiss_pfm {f : FormContext} {k : Nat} (h : f.laneMask = 0#16 ∨ s.pfm.cycle ≠ .idle ∨ s.sgv.gov = .tripped) :
    (s.strikeOrMiss f k).pfm = s.pfm := by
  by_cases hmask : f.laneMask = 0#16
  · unfold State.strikeOrMiss
    rw [if_pos hmask]
  · rw [strikeOrMiss_misses hmask (h.resolve_left hmask)]
    simp

/-- A feed count on which a strike point arrives and no panel start: what PFM makes of the state that FSU and LTR leave. -/
theorem feedCount_strikes {c : Coord} {k : Nat} {f : FormContext} (hstrike : s.pfm.nextStrike = some (c, k))
    (hforming : s.pfm.forming = some f)
    (hdue : 20000 ≤ coordDiff (s.fsu.w + 1) c) (hstart : ∀ c', s.pfm.nextStart = some c' → coordDiff (s.fsu.w + 1) c' < 20000) :
    exec (.feedCount .forward) s =
      .next ((((s.countWeb .forward).feedUnits .forward).strikeOrMiss f k).armStrike f k).targetArrival.endAct := by
  have hcounted : ((s.countWeb .forward).feedUnits .forward).fsu.w = (s.countWeb .forward).fsu.w := by simp
  have hw : ((s.countWeb .forward).feedUnits .forward).fsu.w = s.fsu.w + 1 := hcounted
  have harrives : ((s.countWeb .forward).feedUnits .forward).strikeArrival =
      (((s.countWeb .forward).feedUnits .forward).strikeOrMiss f k).armStrike f k :=
    strikeArrival_due (by simpa using hstrike) (by simpa using hforming) (by rw [hw]; exact hdue)
  have hnotDue : ((((s.countWeb .forward).feedUnits .forward).strikeOrMiss f k).armStrike f k).panelStartArrival =
      (((s.countWeb .forward).feedUnits .forward).strikeOrMiss f k).armStrike f k :=
    panelStartArrival_notDue fun c' hc' => by
      have hw' : ((((s.countWeb .forward).feedUnits .forward).strikeOrMiss f k).armStrike f k).fsu.w = s.fsu.w + 1 := by
        simpa using hw
      rw [hw']
      exact hstart c' (by simpa using hc')
  show Host.Outcome.next (((s.countWeb .forward).feedUnits .forward).formUnits .forward).endAct = _
  unfold State.formUnits
  dsimp only
  rw [harrives, hnotDue]

/-- Settles O19: FSU's and LTR's parts of the count leave PFM, the trip and the missed counts as they stand, so the point is struck or
missed by the state before the count. -/
theorem strikePointArrives : Obligations.StrikePointArrives := by
  unfold Obligations.StrikePointArrives
  intro s c k f hstrike hforming hdue hstart
  have hexec := feedCount_strikes hstrike hforming hdue hstart
  have htrip : ((s.countWeb .forward).feedUnits .forward).sgv.gov = .tripped ↔ s.sgv.gov = .tripped :=
    (sharesTrip_of_gov (s := s) (by simp)).trans (feedUnits_sharesTrip _ _)
  have hmissed : KeepsMissed s ((s.countWeb .forward).feedUnits .forward) :=
    (keepsMissed_of_panels (s := s) (by simp)).trans (feedUnits_keepsMissed _ _)
  have hline : ((s.countWeb .forward).feedUnits .forward).rst.line.strikePeriod = s.rst.line.strikePeriod := by
    rw [feedUnits_sharesLine (s.countWeb .forward) .forward]
    simp
  have hcycle : ((s.countWeb .forward).feedUnits .forward).pfm.cycle = s.pfm.cycle := by simp
  have hoff : ((s.countWeb .forward).feedUnits .forward).pfm.strike = s.pfm.strike ∧
      ((s.countWeb .forward).feedUnits .forward).pfm.strikeFor = s.pfm.strikeFor ∧
      ((s.countWeb .forward).feedUnits .forward).pfm.bladeLimit = s.pfm.bladeLimit ∧
      ((s.countWeb .forward).feedUnits .forward).pfm.depths = s.pfm.depths := by simp
  revert hexec htrip hmissed hline hcycle hoff
  generalize (s.countWeb .forward).feedUnits .forward = u
  intro hexec htrip hmissed hline hcycle hoff
  refine ⟨_, hexec, by simp [State.armStrike], ?_, fun st hmask hidle hgov hst => ?_, fun hnone => ?_, fun p hp hlow => ?_⟩
  · simp [State.armStrike, advance]
  · rw [strikeOrMiss_strikes hmask (hcycle.trans hidle) (mt htrip.mp hgov) hst]
    simp only [State.endAct_frame, State.targetArrival_frame, State.armStrike_frame]
    exact ⟨rfl, rfl, rfl, by rw [← hline]; rfl, rfl⟩
  · have hpfm : (u.strikeOrMiss f k).pfm = u.pfm := strikeOrMiss_pfm (by rwa [hcycle, htrip])
    obtain ⟨hstrike', hfor, hlimit, hdepths⟩ := hoff
    simp only [State.endAct_frame, State.targetArrival_frame, State.armStrike_frame, hpfm]
    exact ⟨hstrike', hcycle, hfor, hlimit, hdepths⟩
  · obtain ⟨q, hq, hqmissed⟩ := hmissed _ _ hp
    have hpanels (v : State) : ((v.armStrike f k).targetArrival.endAct).panel? f.key = v.panel? f.key := panel?_congr (by simp) _
    rw [hpanels]
    split
    · rename_i hmiss
      obtain ⟨hmask, hbusy⟩ := hmiss
      rw [strikeOrMiss_misses hmask (by rwa [hcycle, htrip])]
      exact ⟨_, missStrike_panel? hq (by omega), by simp [Panel.missedOnce, hqmissed]⟩
    · rename_i hnot
      exact ⟨q, (panel?_congr (strikeOrMiss_panels (by rwa [hcycle, htrip])) _).trans hq, hqmissed⟩

end Sys2Proof.Machine
end

section
/-! The governor's timers (O36). -/

namespace Sys2Proof.Machine

variable {s : State}

/-! ### The end of an act in RUN (R154, R156) -/

theorem no_zone_warming_iff (s : State) :
    (s.hsu.zones.any fun _ z => z.mode == .warming) = false ↔ ∀ z ∈ allZones, (s.hsu.zones.get z).mode ≠ .warming := by
  simp [Four.any, Four.get, allZones, and_assoc]

/-- With no hold reason and no zone WARMING the end of an act finds none either. -/
theorem syncUnsettled_holds (hholds : s.sgv.holds = 0#6) (hzones : ∀ z ∈ allZones, (s.hsu.zones.get z).mode ≠ .warming) :
    s.syncUnsettled.sgv.holds = 0#6 := by
  unfold State.syncUnsettled
  rw [(no_zone_warming_iff s).mpr hzones, Bool.and_false, if_neg Bool.false_ne_true]
  show clearBit s.sgv.holds _ = 0#6
  rw [hholds]
  decide

/-- A line in RUN that nothing holds ends the act in RUN, its reference carried over under the ceiling. -/
theorem endAct_running (hgov : s.sgv.gov = .run) (hintent : s.sgv.intent = true) (hholds : s.sgv.holds = 0#6)
    (hzones : ∀ z ∈ allZones, (s.hsu.zones.get z).mode ≠ .warming) :
    s.endAct.sgv.gov = .run ∧ s.endAct.sgv.flatRef = min s.sgv.flatRef (s.endAct.sgv.ceiling * 100) := by
  have hstays : s.syncUnsettled.leaveRun = s.syncUnsettled := by
    unfold State.leaveRun
    rw [if_neg]
    simp [syncUnsettled_holds hholds hzones, hintent]
  have hrun : s.syncUnsettled.syncStrikeCeiling.sgv.gov = .run := by
    show s.syncUnsettled.sgv.gov = .run
    simpa using hgov
  have hflat : s.syncUnsettled.syncStrikeCeiling.sgv.flatRef = s.sgv.flatRef := by
    show s.syncUnsettled.sgv.flatRef = _
    simp
  unfold State.endAct
  rw [hstays]
  refine ⟨hrun, ?_⟩
  show State.flatRefUnder _ _ = _
  unfold State.flatRefUnder
  rw [hrun]
  dsimp only
  rw [hflat]
  rfl

/-! ### The ramp interval (R156, R168) -/

theorem exec_ramp_creep (hgov : s.sgv.gov = .creep) :
    exec .rampIntervalExpiry s = .next (if s.mayRun then s.enterRun else s).endAct := by
  show execRampIntervalExpiry s = _
  unfold execRampIntervalExpiry
  rw [hgov]

theorem exec_ramp_run (hgov : s.sgv.gov = .run) : exec .rampIntervalExpiry s = .next s.ramp.endAct := by
  show execRampIntervalExpiry s = _
  unfold execRampIntervalExpiry
  rw [hgov]

theorem exec_ramp_else (hcreep : s.sgv.gov ≠ .creep) (hrun : s.sgv.gov ≠ .run) : exec .rampIntervalExpiry s = .next s.endAct := by
  show execRampIntervalExpiry s = _
  unfold execRampIntervalExpiry
  cases hgov : s.sgv.gov <;> first | rfl | exact absurd hgov hcreep | exact absurd hgov hrun

theorem rampStep_eq (flat target step : Nat) (locked : Bool) :
    rampStep flat target step locked =
      if flat < target ∧ locked = true then min target (flat + step) else if flat < target then flat else max target (flat - step) := by
  unfold rampStep
  by_cases hlow : flat < target <;> cases locked <;> simp [hlow]

/-! ### Standstill (R114, R161) -/

theorem exec_standstill (h : s.sgv.standWindow.isSome = true) : exec .standstillExpiry s = .next s.standStill.endAct := by
  show execStandstillExpiry s = _
  unfold execStandstillExpiry
  rw [if_pos h]

/-- The state with standstill YES and its window run out. -/
def State.stood (s : State) : State := { s with sgv := { s.sgv with standstill := true, standWindow := none } }

theorem stood_stepComplete (s : State) :
    s.stood.stepComplete = true ↔ s.sgv.gov = .stepping ∧ ∃ c, s.pfm.stepTarget = some (c, true) ∧ s.pfm.cycle = .idle := by
  unfold State.stepComplete State.stood
  rcases htarget : s.pfm.stepTarget with _ | ⟨c, reached⟩
  · simp
  · cases reached <;> simp

theorem standStill_stops (h : s.sgv.gov = .halting ∨ s.stood.stepComplete = true) : s.standStill = s.stood.enterStopped := by
  show (if s.sgv.gov = .halting then s.stood.enterStopped else s.stood.testStep) = _
  split
  · rfl
  · rename_i hgov
    exact if_pos (h.resolve_left hgov)

theorem standStill_stays (hgov : s.sgv.gov ≠ .halting) (hstep : ¬ s.stood.stepComplete = true) : s.standStill = s.stood := by
  show (if s.sgv.gov = .halting then s.stood.enterStopped else s.stood.testStep) = _
  rw [if_neg hgov]
  exact if_neg hstep

theorem standStill_still (s : State) : s.standStill.sgv.standstill = true ∧ s.standStill.sgv.standWindow = none := by
  show (if s.sgv.gov = .halting then s.stood.enterStopped else s.stood.testStep).sgv.standstill = true ∧ _
  split <;> simp_all [State.standStill, State.stood]

theorem enterStopped_stops (s : State) :
    s.enterStopped.sgv.gov = .stopped ∧ s.enterStopped.sgv.intent = false ∧ s.enterStopped.pfm.stepTarget = none := by
  simp [State.enterStopped, State.clearTarget]

/-- Settles O36: the ramp interval by the governor's state, standstill by whether it stops the line. -/
theorem governorTimersExpire : Obligations.GovernorTimersExpire := by
  unfold Obligations.GovernorTimersExpire
  refine ⟨⟨fun s hgov hintent hholds hpending hzones => ?_, fun s hgov hintent hholds hzones => ?_, fun s hcreep hrun => ?_⟩,
    fun s hwindow => ?_⟩
  · have hmay : s.mayRun = true := by simp [State.mayRun, hintent, hholds, hpending]
    obtain ⟨hruns, hflat⟩ := endAct_running (s := s.enterRun) (by simp [State.enterRun]) (by simpa [State.enterRun] using hintent)
      (by simpa [State.enterRun] using hholds) (by simpa [State.enterRun] using hzones)
    have hexec := exec_ramp_creep hgov
    rw [if_pos hmay] at hexec
    exact ⟨_, hexec, hruns, by simpa [State.enterRun] using hflat, by simpa [State.enterRun] using hintent, by simp [State.enterRun],
      by simp [State.enterRun], by simp [State.enterRun]⟩
  · obtain ⟨hruns, hflat⟩ := endAct_running (s := s.ramp) hgov hintent hholds hzones
    intro target step
    refine ⟨_, exec_ramp_run hgov, hruns, ?_, by simp [State.ramp], by simp [State.ramp], by simp [State.ramp], by simp [State.ramp]⟩
    rw [hflat, Nat.min_comm]
    exact congrArg _ (rampStep_eq _ _ _ _)
  · exact completes_of_endAct (exec_ramp_else hcreep hrun) rfl
  · have hcomplete : (s.sgv.gov = .halting ∨ s.sgv.gov = .stepping ∧ ∃ c, s.pfm.stepTarget = some (c, true) ∧ s.pfm.cycle = .idle) ↔
        s.sgv.gov = .halting ∨ s.stood.stepComplete = true := or_congr_right (stood_stepComplete s).symm
    refine ⟨_, exec_standstill hwindow, by simp [standStill_still], by simp [standStill_still], ⟨fun hstops => ?_, fun hgov hstep => ?_⟩,
      by simp, by simp, by simp, by simp⟩
    · obtain ⟨hstopped, hclear, htarget⟩ := enterStopped_stops s.stood
      rw [standStill_stops (hcomplete.mp hstops)]
      simp only [State.endAct_frame]
      exact ⟨endAct_gov hstopped (by simp), hclear, htarget, (endAct_refs_atRest (by rw [hstopped]; rfl)).1⟩
    · rw [endAct_unregulated, standStill_stays hgov (mt (stood_stepComplete s).mp hstep)]
      rfl

end Sys2Proof.Machine
end

section
/-! SUPPORT. A panel start (O43, O41, O17): what it does where there is room and its kind is known. -/

namespace Sys2Proof.Machine

variable {s u : State} {c : Coord}

/-! ### The record and the context (R98, R99) -/

/-- A panel begun with its context: its record, the forming context, the retargeting. -/
def State.beginPanel (s : State) (f : FormContext) (joint : Bool) : State := ((s.createPanel f joint).formPanel f).retarget

theorem beginPanel_record (s : State) (f : FormContext) (joint : Bool) :
    (s.beginPanel f joint).rst.panels = s.rst.panels.map (fun p => { p with forming := false }) ++ [s.newPanel f joint] ∧
      (s.beginPanel f joint).exu.pendingFault = false := by
  unfold State.beginPanel
  simp only [State.retarget_frame, State.formPanel_frame]
  exact ⟨rfl, rfl⟩

theorem beginPanel_context (s : State) (f : FormContext) (joint : Bool) :
    (s.beginPanel f joint).pfm.forming = some f ∧ (s.beginPanel f joint).pfm.nextStart = some (advance f.start f.flatLen) ∧
      (s.beginPanel f joint).pfm.nextStrike =
        (if f.kind = .product then (strikePoint f.steps 1).map fun d => (advance f.start d, 1) else none) ∧
      (s.beginPanel f joint).pfm.nextWaste = s.pfm.nextWaste := by
  unfold State.beginPanel
  simp only [State.retarget_frame]
  exact ⟨rfl, rfl, rfl, rfl⟩

theorem beginPanel_others (s : State) (f : FormContext) (joint : Bool) :
    (s.beginPanel f joint).rst.lots = s.rst.lots ∧ (s.beginPanel f joint).rst.order = s.rst.order ∧
      (s.beginPanel f joint).exu.last = s.exu.last ∧ (s.beginPanel f joint).lnk = s.lnk := by
  simp [State.beginPanel]

/-! ### The two kinds of start -/

theorem makeRoom_of_room (h : s.rst.panels.length < 39) : s.makeRoom = s := if_neg (Nat.not_le.mpr h)

theorem lotAt_eq_none_iff : s.lotAt c = none ↔ ∀ l ∈ s.webLots, l.holds c = false := by
  simp [State.lotAt, List.find?_eq_none]

/-- The state with the next waste index taken. -/
def State.wasteTaken (s : State) : State := { s with pfm := { s.pfm with nextWaste := bumpWaste s.pfm.nextWaste } }

/-- In no lot's extent the panel is WASTE (R98). -/
theorem panelStart_waste (hnone : ∀ l ∈ s.makeRoom.webLots, l.holds c = false) :
    s.panelStart c = s.makeRoom.wasteTaken.beginPanel (s.makeRoom.wasteContext c) false := by
  unfold State.panelStart
  dsimp only
  rw [lotAt_eq_none_iff.mpr hnone]
  rfl

/-- In a lot's extent it is PRODUCT, and the lot's started count rises (R98). -/
theorem panelStart_product {l : Lot} {h : Coord} {q : Pattern} (hl : s.makeRoom.lotAt c = some l) (hhead : l.head = some h)
    (hq : l.pattern.bind s.makeRoom.pattern? = some q) :
    s.panelStart c =
      (s.makeRoom.putLot { l with started := l.started + 1 }).beginPanel (s.makeRoom.productContext l q h c)
        (jointIn l.joints c q.flatLen) := by
  unfold State.panelStart
  dsimp only
  simp only [hl, hhead, hq]
  rfl

/-- What a WASTE start makes of a state with room in its panel store. -/
structure WasteStarted (s t : State) (c : Coord) : Prop where
  panels : t.rst.panels = s.rst.panels.map (fun p => { p with forming := false }) ++ [s.newPanel (s.wasteContext c) false]
  forming : t.pfm.forming = some (s.wasteContext c)
  nextStart : t.pfm.nextStart = some (c + BitVec.ofNat 40 (s.rst.line.wasteLen.getD 0))
  nextStrike : t.pfm.nextStrike = none
  nextWaste : t.pfm.nextWaste = bumpWaste s.pfm.nextWaste
  lots : t.rst.lots = s.rst.lots ∧ t.rst.order = s.rst.order
  fault : t.exu.pendingFault = false

theorem panelStart_wasteStarted (hroom : s.rst.panels.length < 39) (hnone : ∀ l ∈ s.webLots, l.holds c = false) :
    WasteStarted s (s.panelStart c) c := by
  have hsame := makeRoom_of_room hroom
  rw [panelStart_waste (by rwa [hsame]), hsame]
  obtain ⟨hpanels, hfault⟩ := beginPanel_record s.wasteTaken (s.wasteContext c) false
  obtain ⟨hforming, hstart, hstrike, hwaste⟩ := beginPanel_context s.wasteTaken (s.wasteContext c) false
  obtain ⟨hlots, horder, -, -⟩ := beginPanel_others s.wasteTaken (s.wasteContext c) false
  exact ⟨hpanels, hforming, hstart, hstrike, hwaste, ⟨hlots, horder⟩, hfault⟩

end Sys2Proof.Machine
end

section
/-! STEP (O43). -/

namespace Sys2Proof.Machine

variable {s : State} {p : Port}

/-! ### The checks (R113) -/

theorem tryStep_unconfigured (h : s.rst.line.configured = false) : s.tryStep = (s, say .notConfigured) := if_pos h

theorem tryStep_notStopped (h : s.rst.line.configured = true) (hgov : s.sgv.gov ≠ .stopped) : s.tryStep = (s, say .wrongState) := by
  unfold State.tryStep
  rw [if_neg (by simp [h]), if_pos hgov]
  rfl

theorem tryStep_notReady (h : s.rst.line.configured = true) (hgov : s.sgv.gov = .stopped)
    (hfails : s.activeStation = none ∨ s.sgv.stops ≠ 0#5 ∨ s.sgv.trips ≠ 0#3 ∨ s.pfm.cycle ≠ .idle) : s.tryStep = (s, say .notReady) := by
  unfold State.tryStep
  rw [if_neg (by simp [h]), if_neg (not_not.mpr hgov)]
  split
  · rfl
  rename_i hfed
  split
  · rfl
  rename_i hcauses
  rw [not_or, not_not, not_not] at hcauses
  have hcycle : s.pfm.cycle ≠ .idle :=
    ((hfails.resolve_left hfed).resolve_left (not_not.mpr hcauses.1)).resolve_left (not_not.mpr hcauses.2)
  exact if_pos hcycle

theorem tryStep_accepted (h : s.rst.line.configured = true) (hgov : s.sgv.gov = .stopped) (hfed : s.activeStation ≠ none)
    (hstops : s.sgv.stops = 0#5) (htrips : s.sgv.trips = 0#3) (hcycle : s.pfm.cycle = .idle) : s.tryStep = done s.beginStep := by
  unfold State.tryStep
  rw [if_neg (by simp [h]), if_neg (not_not.mpr hgov), if_neg hfed, if_neg (by simp [hstops, htrips]), if_neg (not_not.mpr hcycle)]

/-! ### The request -/

theorem step_refused {e : Status} (hears : s.hears p = true) (hkey : s.keyAdmits p = true)
    (h : (s.restartInactivity p).tryStep = (s.restartInactivity p, say e)) : Refuses (.stepLine p []) s p e := by
  have hkey' : (s.restartInactivity p).keyAdmits p = true := (keyAdmits_restartInactivity s p p).trans hkey
  refine congrArg Host.Outcome.next (takeRequest_answered (answer := answerStep p []) hears ?_)
  rw [answerStep, motion_admitted _ hkey', h]

theorem exec_step (hears : s.hears p = true) (hkey : s.keyAdmits p = true)
    (h : (s.restartInactivity p).tryStep = done (s.restartInactivity p).beginStep) :
    exec (.stepLine p []) s = .next ((s.restartInactivity p).beginStep.setReceiver p (.answering [0x00#8])) := by
  have hkey' : (s.restartInactivity p).keyAdmits p = true := (keyAdmits_restartInactivity s p p).trans hkey
  refine congrArg Host.Outcome.next (takeRequest_done (answer := answerStep p []) hears ?_)
  rw [answerStep, motion_admitted _ hkey', h]

/-! ### The step begun (R113) -/

theorem firstStepPanel_of_forming {f : FormContext} (h : s.pfm.forming = some f) : s.firstStepPanel = s := by
  unfold State.firstStepPanel
  rw [h]

theorem firstStepPanel_of_none (h : s.pfm.forming = none) : s.firstStepPanel = s.panelStart (s.fsu.w - 20000#40) := by
  unfold State.firstStepPanel
  rw [h]

/-- What beginning a step leaves as the first panel found it, and the step itself. -/
theorem beginStep_spec (s : State) :
    s.beginStep.sgv.gov = .stepping ∧ s.beginStep.rst.line.windowOpen = false ∧
      s.beginStep.pfm.stepTarget = some (s.firstStepPanel.stepTargetNow, false) ∧
      s.beginStep.pfm.forming = s.firstStepPanel.pfm.forming ∧ s.beginStep.pfm.nextStart = s.firstStepPanel.pfm.nextStart ∧
      s.beginStep.rst.panels = s.firstStepPanel.rst.panels ∧ s.beginStep.rst.lots = s.firstStepPanel.rst.lots := by
  unfold State.beginStep
  generalize s.firstStepPanel = v
  dsimp only
  refine ⟨endAct_gov (by simp) (by simp), ?_, ?_, ?_, ?_, ?_, ?_⟩ <;> simp [State.closeWindow]

/-- Settles O43: the checks of R113 one by one; accepted, the target is taken from the panel forming, or from W past a first WASTE
panel. -/
theorem stepSetsATarget : Obligations.StepSetsATarget := by
  unfold Obligations.StepSetsATarget
  intro p s hears hkey
  have hrst : (s.restartInactivity p).rst = s.rst := by simp
  have hsgv : (s.restartInactivity p).sgv = s.sgv := by simp
  have hpfm : (s.restartInactivity p).pfm = s.pfm := by simp
  have hfsu : (s.restartInactivity p).fsu = s.fsu := by simp
  have hfeeds : (s.restartInactivity p).activeStation = s.activeStation := activeStation_congr (by simp) (by simp)
  refine ⟨fun hline => ?_, fun hline hgov => ?_, fun hline hgov => ⟨fun hfails => ?_, fun hfed hstops htrips hcycle hfirst => ?_⟩⟩
  · exact step_refused hears hkey (tryStep_unconfigured (by rwa [hrst]))
  · exact step_refused hears hkey (tryStep_notStopped (by rwa [hrst]) (by rwa [hsgv]))
  · exact step_refused hears hkey (tryStep_notReady (by rwa [hrst]) (by rwa [hsgv]) (by rwa [hfeeds, hsgv, hpfm]))
  · have hexec := exec_step hears hkey (tryStep_accepted (by rwa [hrst]) (by rwa [hsgv]) (by rwa [hfeeds]) (by rwa [hsgv]) (by rwa [hsgv])
      (by rwa [hpfm]))
    obtain ⟨hstepping, hwindow, htarget, hforming, hstart, hpanels, hlots⟩ := beginStep_spec (s.restartInactivity p)
    refine ⟨_, hexec, says_ok_setReceiver _ p, ?_⟩
    simp only [State.setReceiver_frame, hstepping, hwindow, htarget, hforming, hstart, hpanels, hlots, true_and]
    cases hcontext : s.pfm.forming with
    | some f =>
      rw [firstStepPanel_of_forming (hpfm ▸ hcontext)]
      have htargetNow : (s.restartInactivity p).stepTargetNow = s.stepTargetNow := by
        unfold State.stepTargetNow
        rw [hpfm, hfsu]
      refine ⟨?_, by simp [hcontext], by simp, by simp, by simp, by simp, by simp, by simp⟩
      rw [htargetNow]
      unfold State.stepTargetNow
      rw [hcontext]
      rfl
    | none =>
      obtain ⟨hweb, hroom⟩ := hfirst hcontext
      have hwaste : WasteStarted (s.restartInactivity p) _ _ := panelStart_wasteStarted (c := (s.restartInactivity p).fsu.w - 20000#40)
        (by rwa [hrst]) (by rw [webLots_congr (s := s) (by simp) (by simp), hweb]; simp)
      rw [firstStepPanel_of_none (hpfm ▸ hcontext)]
      refine ⟨?_, by simp, fun _ => ⟨_, hwaste.forming, rfl, by simp [State.wasteContext], ?_⟩, by simp, by simp, by simp,
        by rw [hwaste.lots.1, hrst], by simp⟩
      · unfold State.stepTargetNow
        rw [hwaste.nextStrike]
        simp [advance]
      · rw [hwaste.nextStart, hrst, hfsu]
        rfl

end Sys2Proof.Machine
end

section
/-! START (O41). The statement asks of the state no law that ties the forming panel to a lot on the web. So the forming panel may be of
the lot that START's own entry decision places, and a joint that waits then flags its record in the same act (R87, R101), where the
statement has every record kept but for its forming mark. -/

namespace Sys2Proof.Machine

/-- A PRODUCT panel of lot 1, which is not on the web, forming from coordinate 0. -/
def strayContext : FormContext :=
  { orderlessWaste with key := { lot := 1, index := 1 }, kind := .product, flatLen := 2580, pattern := some 1 }

/-- A STOPPED line, fed and without a cause, with no segment open and the Supervisor heard: lot 1 is QUEUED with four panels planned, a
panel of it forms from 0 on, and a joint waits at 1,000. -/
def jointOverStart : State :=
  { beforeEmptyExtent with
    pending := []
    lnk := { Lnk.reset with sup := { PortState.reset with receiver := .hunting } }
    ltr := { Ltr.reset with pendingJoint := some 1000 }
    fsu := { beforeEmptyExtent.fsu with w := 0 }
    pfm := { beforeEmptyExtent.pfm with forming := some strayContext }
    rst := { beforeEmptyExtent.rst with
      lots := [{ lotWithoutOrder with ordered := some 4, planned := 4 }]
      panels := [State.reset.newPanel strayContext false]
      panelSerial := 1 } }

theorem jointOverStart_accepted :
    jointOverStart.hears .sup = true ∧ jointOverStart.keyAdmits .sup = true ∧ jointOverStart.rst.line.configured = true ∧
      jointOverStart.sgv.gov = .stopped ∧ jointOverStart.activeStation ≠ none ∧ jointOverStart.sgv.stops = 0#5 := by
  decide +kernel

theorem jointOverStart_first :
    jointOverStart.ltr.segment = .none ∧ jointOverStart.webLots = [] ∧ jointOverStart.rst.panels.length < 39 := by
  decide +kernel

/-- The record that stood takes the joint in the act of START. -/
theorem jointOverStart_flagged {t : State} (h : exec (.start .sup []) jointOverStart = .next t) :
    t.rst.panels.map (·.joint) = [true, false] := by
  cases h
  decide +kernel

/-- Refutes O41: in `jointOverStart` the first START places lot 1 under the waiting joint, and the record of the panel that forms, without
a joint before, has one after. -/
theorem not_startEntersCreep : ¬ Obligations.StartEntersCreep := by
  unfold Obligations.StartEntersCreep
  intro h
  obtain ⟨hears, hkey, hline, hgov, hfed, hstops⟩ := jointOverStart_accepted
  obtain ⟨hsegment, hweb, hroom⟩ := jointOverStart_first
  obtain ⟨-, -, haccepted⟩ := h .sup jointOverStart hears hkey
  obtain ⟨t, hexec, -, -, -, -, -, -, -, -, hfirst, -⟩ := (haccepted hline hgov).2 hfed hstops
  obtain ⟨f, q, -, -, -, -, -, -, -, -, -, -, hpanels, -⟩ := hfirst hsegment hweb hroom
  have hflags := jointOverStart_flagged hexec
  rw [hpanels, List.map_append, List.map_map] at hflags
  have hkept : jointOverStart.rst.panels.map ((·.joint) ∘ fun y => { y with forming := false }) = [false] := rfl
  rw [hkept] at hflags
  simp at hflags

end Sys2Proof.Machine
end

section
/-! SUPPORT. The feed count that brings a panel start (O17): what FSU's part of it leaves for PFM. -/

namespace Sys2Proof.Machine

variable {s t u : State} {c : Coord}

/-! ### The ACTIVE roll's class through the count -/

/-- The ACTIVE roll is of the same class in both states. -/
def SharesActiveClass (s t : State) : Prop := t.activeRoll?.bind (·.cls) = s.activeRoll?.bind (·.cls)

theorem SharesActiveClass.trans (h : SharesActiveClass s t) (h' : SharesActiveClass t u) : SharesActiveClass s u := Eq.trans h' h

theorem sharesActiveClass_of_roll (h : t.activeRoll? = s.activeRoll?) : SharesActiveClass s t := by
  unfold SharesActiveClass
  rw [h]

theorem CountsQuietly.sharesActiveClass (h : CountsQuietly s t) : SharesActiveClass s t := by
  have hfirst := congrArg (fun x : Option (Option Nat × Nat × Bool) => x.bind (·.1)) h.roll
  unfold SharesActiveClass
  simpa only [Option.bind_map, Function.comp_def, Roll.fabric] using hfirst

theorem autoSpliceTest_sharesActiveClass (s : State) : SharesActiveClass s s.autoSpliceTest := by
  rcases autoSpliceTest_cases s with hsame | ⟨-, y, r, hactive, hbound, -, hrolls, -⟩
  · exact sharesActiveClass_of_roll (by rw [hsame])
  · have hspent : (s.putRoll { r with attemptSpent := true }).activeRoll? = some { r with attemptSpent := true } :=
      activeRoll?_eq_some.mpr ⟨y, hactive, boundRoll?_putRoll hbound rfl rfl⟩
    unfold SharesActiveClass
    rw [activeRoll?_congr (s := s.putRoll { r with attemptSpent := true }) (autoSpliceTest_activeStation s) hrolls, hspent,
      activeRoll?_eq_some.mpr ⟨y, hactive, hbound⟩]
    rfl

theorem fsuCount_sharesActiveClass (s : State) (d : Travel) : SharesActiveClass s (s.fsuCount d) :=
  fsuCount_relates (R := SharesActiveClass) SharesActiveClass.trans (fun _ => rfl) (fun v => (tensionPart_quiet v d).sharesActiveClass)
    (fun v => (chargeRoll_quiet v d).sharesActiveClass) (fun v => (judgeExpiring_quiet v).sharesActiveClass)
    (fun v out => sharesActiveClass_of_roll (activeRoll?_congr (matchAndRollOut_activeStation v d out) (by simp)))
    autoSpliceTest_sharesActiveClass

/-! ### The state that PFM finds -/

/-- What a panel start reads is the same in two states. -/
structure SharesFormer (s t : State) : Prop where
  tables : t.rst.patterns = s.rst.patterns ∧ t.rst.pool = s.rst.pool ∧ t.rst.classes = s.rst.classes
  lots : t.rst.lots = s.rst.lots ∧ t.rst.order = s.rst.order
  panels : t.rst.panels = s.rst.panels ∧ t.rst.panelSerial = s.rst.panelSerial
  line : SharesLine s t
  context : t.pfm.forming = s.pfm.forming ∧ t.pfm.nextWaste = s.pfm.nextWaste
  exu : t.exu = s.exu
  active : SharesActiveClass s t

theorem counted_sharesFormer (s : State) : SharesFormer s ((s.countWeb .forward).fsuCount .forward) where
  tables := by simp
  lots := by simp
  panels := by simp
  line := SharesLine.trans (sharesLine_of_eq rfl) (fsuCount_sharesLine (s.countWeb .forward) .forward)
  context := by simp
  exu := by simp
  active := SharesActiveClass.trans (sharesActiveClass_of_roll rfl) (fsuCount_sharesActiveClass (s.countWeb .forward) .forward)

namespace SharesFormer

theorem copyClass (h : SharesFormer s t) (n : Nat) : t.copyClass n = s.copyClass n := by
  unfold State.copyClass
  rw [class?_congr h.tables.2.2]

theorem lineFields (h : SharesFormer s t) : t.rst.line.laneMask = s.rst.line.laneMask ∧ t.rst.line.trims = s.rst.line.trims ∧
    t.rst.line.wasteLen = s.rst.line.wasteLen := by
  rw [h.line]
  exact ⟨rfl, rfl, rfl⟩

theorem productContext (h : SharesFormer s t) (l : Lot) (q : Pattern) (b c : Coord) :
    t.productContext l q b c = s.productContext l q b c := by
  obtain ⟨hmask, htrims, -⟩ := h.lineFields
  have hsteps : t.patternSteps q = s.patternSteps q := patternSteps_congr fun _ _ => by rw [h.tables.2.1]
  unfold State.productContext
  rw [h.copyClass, hmask, htrims, hsteps]

theorem wasteContext (h : SharesFormer s t) (c : Coord) : t.wasteContext c = s.wasteContext c := by
  obtain ⟨hmask, htrims, hlen⟩ := h.lineFields
  have hclass : t.wasteClass = s.wasteClass := by
    unfold State.wasteClass
    rw [h.active, h.context.1, funext h.copyClass]
  unfold State.wasteContext
  rw [hclass, hmask, htrims, hlen, h.context.2]

theorem newPanel (h : SharesFormer s t) (f : FormContext) (joint : Bool) : t.newPanel f joint = s.newPanel f joint := by
  unfold State.newPanel
  rw [h.panels.2, h.exu]

theorem webLots (h : SharesFormer s t) : t.webLots = s.webLots := webLots_congr h.lots.1 h.lots.2

end SharesFormer

/-- A feed count on which a panel start arrives, no strike point and no segment end: PFM starts the panel in the state FSU leaves. -/
theorem feedCount_starts (hstart : s.pfm.nextStart = some c) (hdue : 20000 ≤ coordDiff (s.fsu.w + 1) c)
    (hstrike : ∀ c' k, s.pfm.nextStrike = some (c', k) → coordDiff (s.fsu.w + 1) c' < 20000)
    (hsegment : ∀ h e, s.segmentExtent = some (h, e) → coordDiff (s.fsu.w + 1) e < 0) :
    exec (.feedCount .forward) s = .next (((s.countWeb .forward).fsuCount .forward).panelStart c).targetArrival.endAct := by
  have hdueSegment (v : State) (hw : v.fsu.w = s.fsu.w + 1) (hext : v.segmentExtent = s.segmentExtent) : v.segmentDue = false :=
    segmentDue_eq_false fun b e hbe => by
      rw [hw]
      exact hsegment b e (hext ▸ hbe)
  have hcounted : ((s.countWeb .forward).fsuCount .forward).fsu.w = (s.countWeb .forward).fsu.w := by simp
  have hw : ((s.countWeb .forward).fsuCount .forward).fsu.w = s.fsu.w + 1 := hcounted
  have hext : ((s.countWeb .forward).fsuCount .forward).segmentExtent = s.segmentExtent := by
    unfold State.segmentExtent
    rw [funext (lot?_congr (counted_sharesFormer s).lots.1)]
    simp
  have hunits : (s.countWeb .forward).feedUnits .forward = (s.countWeb .forward).fsuCount .forward := by
    have hbefore : (s.countWeb .forward).segmentDue = false := hdueSegment _ rfl rfl
    have hafter : ((s.countWeb .forward).fsuCount .forward).segmentDue = false := hdueSegment _ hw hext
    unfold State.feedUnits State.segmentArrival
    simp [hbefore, hafter]
  have hnone : ((s.countWeb .forward).fsuCount .forward).strikeArrival = (s.countWeb .forward).fsuCount .forward :=
    strikeArrival_notDue fun c' k hc' => by
      rw [hw]
      exact hstrike c' k (by simpa using hc')
  have harrives : ((s.countWeb .forward).fsuCount .forward).panelStartArrival = ((s.countWeb .forward).fsuCount .forward).panelStart c := by
    have hstart' : ((s.countWeb .forward).fsuCount .forward).pfm.nextStart = some c := by simpa using hstart
    unfold State.panelStartArrival
    rw [hstart', hw]
    exact if_pos hdue
  show Host.Outcome.next (((s.countWeb .forward).feedUnits .forward).formUnits .forward).endAct = _
  unfold State.formUnits
  dsimp only
  rw [hunits, hnone, harrives]

end Sys2Proof.Machine
end

section
/-! SUPPORT. A panel start in the state that FSU leaves (O17): where the panel store has room. -/

namespace Sys2Proof.Machine

variable {s t u : State} {c : Coord}

/-- What the rest of the act leaves of a panel start. -/
theorem endAct_started (v : State) :
    v.targetArrival.endAct.rst = v.rst ∧ v.targetArrival.endAct.exu = v.exu ∧ v.targetArrival.endAct.lnk = v.lnk ∧
      v.targetArrival.endAct.pfm.forming = v.pfm.forming ∧ v.targetArrival.endAct.pfm.nextStart = v.pfm.nextStart ∧
      v.targetArrival.endAct.pfm.nextStrike = v.pfm.nextStrike ∧ v.targetArrival.endAct.pfm.nextWaste = v.pfm.nextWaste := by
  simp

/-- The lot whose extent holds the start, where one alone does. -/
theorem lotAt_of_unique {l : Lot} (hl : l ∈ s.webLots) (hholds : l.holds c = true)
    (hunique : ∀ l' ∈ s.webLots, l'.holds c = true → l' = l) :
    s.lotAt c = some l := by
  unfold State.lotAt
  cases hfind : s.webLots.find? fun l => l.holds c with
  | none => exact absurd hholds (List.find?_eq_none.mp hfind l hl)
  | some x =>
    have hx : x.holds c = true := by simpa using List.find?_some hfind
    exact congrArg some (hunique x (List.mem_of_find?_eq_some hfind) hx)

theorem holds_of_extent {l : Lot} {h e : Coord} (hhead : l.head = some h) (htail : l.tail = some e) (hafter : 0 ≤ coordDiff c h)
    (hbefore : coordDiff c e < 0) : l.holds c = true := by
  unfold Lot.holds
  rw [hhead, htail]
  exact (inExtent_iff c h e).mpr ⟨hafter, hbefore⟩

theorem jointIn_eq (joints : List Coord) (c : Coord) (n : Nat) :
    jointIn joints c n = joints.any fun j => decide (0 ≤ coordDiff j c ∧ coordDiff j (c + BitVec.ofNat 40 n) < 0) := by
  unfold jointIn
  refine congrArg joints.any (funext fun j => ?_)
  rw [Bool.eq_iff_iff, inExtent_iff, decide_eq_true_eq]
  rfl

theorem strikePoint_one (steps : List Step) : strikePoint steps 1 = steps.head?.map (·.advance) := by
  unfold strikePoint
  cases steps <;> simp

/-- What a PRODUCT start makes of a state with room in its panel store. -/
structure ProductStarted (s t : State) (l : Lot) (f : FormContext) (joint : Bool) : Prop where
  panels : t.rst.panels = s.rst.panels.map (fun p => { p with forming := false }) ++ [s.newPanel f joint]
  forming : t.pfm.forming = some f
  nextStart : t.pfm.nextStart = some (advance f.start f.flatLen)
  nextStrike : t.pfm.nextStrike = if f.kind = .product then (strikePoint f.steps 1).map fun d => (advance f.start d, 1) else none
  nextWaste : t.pfm.nextWaste = s.pfm.nextWaste
  lot : t.lot? l.number = some { l with started := l.started + 1 }
  others : ∀ m, m ≠ l.number → t.lot? m = s.lot? m
  fault : t.exu.pendingFault = false

theorem beginPanel_productStarted (s : State) (l : Lot) (f : FormContext) (joint : Bool) :
    ProductStarted s ((s.putLot { l with started := l.started + 1 }).beginPanel f joint) l f joint := by
  obtain ⟨hpanels, hfault⟩ := beginPanel_record (s.putLot { l with started := l.started + 1 }) f joint
  obtain ⟨hforming, hstart, hstrike, hwaste⟩ := beginPanel_context (s.putLot { l with started := l.started + 1 }) f joint
  obtain ⟨hlots, -, -, -⟩ := beginPanel_others (s.putLot { l with started := l.started + 1 }) f joint
  refine ⟨hpanels, hforming, hstart, hstrike, hwaste, (lot?_congr hlots _).trans ?_, fun m hm => (lot?_congr hlots m).trans ?_, hfault⟩
  · exact lot?_putLot_self s { l with started := l.started + 1 }
  · exact lot?_putLot_ne s { l with started := l.started + 1 } hm

theorem started_div {n a f : Nat} (h : n * f = a) (hf : 0 < f) : a / f + 1 = n + 1 := by
  rw [← h, Nat.mul_div_cancel n hf]

/-! ### The two starts with room -/

/-- R98–R102: a start in the extent of one lot alone. -/
theorem feedCount_startsProduct {h : Coord} {l : Lot} {q : Pattern} (hstart : s.pfm.nextStart = some c)
    (hdue : 20000 ≤ coordDiff (s.fsu.w + 1) c) (hstrike : ∀ c' k, s.pfm.nextStrike = some (c', k) → coordDiff (s.fsu.w + 1) c' < 20000)
    (hsegment : ∀ h e, s.segmentExtent = some (h, e) → coordDiff (s.fsu.w + 1) e < 0) (hroom : s.rst.panels.length < 39)
    (hlot : s.lotAt c = some l) (hhead : l.head = some h) (hq : l.pattern.bind s.pattern? = some q) :
    ∃ t, exec (.feedCount .forward) s = .next t ∧ ProductStarted s t l (s.productContext l q h c) (jointIn l.joints c q.flatLen) := by
  have hshares := counted_sharesFormer s
  have hexec := feedCount_starts hstart hdue hstrike hsegment
  revert hshares hexec
  generalize (s.countWeb .forward).fsuCount .forward = u
  intro hshares hexec
  have hsame : u.makeRoom = u := makeRoom_of_room (by rwa [hshares.panels.1])
  have hlot' : u.lotAt c = some l := by
    unfold State.lotAt
    rw [hshares.webLots]
    exact hlot
  have hpattern : u.pattern? = s.pattern? := funext (pattern?_congr hshares.tables.1)
  have hbegun := panelStart_product (s := u) (c := c) (l := l) (h := h) (q := q) (by rwa [hsame]) hhead (by rwa [hsame, hpattern])
  rw [hsame, hshares.productContext] at hbegun
  obtain ⟨hpanels, hforming, hnextStart, hnextStrike, hwaste, hfound, hothers, hfault⟩ :=
    beginPanel_productStarted u l (s.productContext l q h c) (jointIn l.joints c q.flatLen)
  obtain ⟨hrst, hexu, -, hforming', hstart', hstrike', hwaste'⟩ := endAct_started (u.panelStart c)
  rw [hbegun] at hexec hrst hexu hforming' hstart' hstrike' hwaste'
  have hlots (m : Nat) := lot?_congr (congrArg Store.lots hrst) m
  refine ⟨_, hexec, ?_, hforming'.trans hforming, hstart'.trans hnextStart, hstrike'.trans hnextStrike, hwaste'.trans ?_,
    (hlots _).trans hfound, fun m hm => (hlots m).trans ((hothers m hm).trans (lot?_congr hshares.lots.1 m)), ?_⟩
  · rw [hrst, hpanels, hshares.panels.1, hshares.newPanel]
  · exact hwaste.trans hshares.context.2
  · rw [hexu]
    exact hfault

/-- R98–R100: a start in no lot's extent. -/
theorem feedCount_startsWaste (hstart : s.pfm.nextStart = some c)
    (hdue : 20000 ≤ coordDiff (s.fsu.w + 1) c) (hstrike : ∀ c' k, s.pfm.nextStrike = some (c', k) → coordDiff (s.fsu.w + 1) c' < 20000)
    (hsegment : ∀ h e, s.segmentExtent = some (h, e) → coordDiff (s.fsu.w + 1) e < 0) (hroom : s.rst.panels.length < 39)
    (hnone : ∀ l ∈ s.webLots, l.holds c = false) : ∃ t, exec (.feedCount .forward) s = .next t ∧ WasteStarted s t c := by
  have hshares := counted_sharesFormer s
  have hexec := feedCount_starts hstart hdue hstrike hsegment
  revert hshares hexec
  generalize (s.countWeb .forward).fsuCount .forward = u
  intro hshares hexec
  obtain ⟨hpanels, hforming, hnextStart, hnextStrike, hwaste, ⟨hlots, horder⟩, hfault⟩ :=
    panelStart_wasteStarted (s := u) (c := c) (by rwa [hshares.panels.1]) (by rwa [hshares.webLots])
  obtain ⟨hrst, hexu, -, hforming', hstart', hstrike', hwaste'⟩ := endAct_started (u.panelStart c)
  rw [hshares.wasteContext] at hpanels hforming
  refine ⟨_, hexec, ?_, hforming'.trans hforming, hstart'.trans ?_, hstrike'.trans hnextStrike, hwaste'.trans ?_, ⟨?_, ?_⟩, ?_⟩
  · rw [hrst, hpanels, hshares.panels.1, hshares.newPanel]
  · rw [hnextStart, hshares.lineFields.2.2]
  · rw [hwaste, hshares.context.2]
  · rw [hrst, hlots, hshares.lots.1]
  · rw [hrst, horder, hshares.lots.2]
  · rw [hexu]
    exact hfault

theorem wasteClass_of_active {r : Roll} {n : Nat} (hactive : s.activeRoll? = some r) (hcls : r.cls = some n) :
    s.wasteClass = s.copyClass n := by
  unfold State.wasteClass
  rw [hactive, Option.bind_some, hcls]

theorem wasteClass_of_forming {f : FormContext} (hactive : s.activeRoll? = none) (hforming : s.pfm.forming = some f) :
    s.wasteClass = { cls := f.cls, doseMin := f.doseMin, doseMax := f.doseMax } := by
  unfold State.wasteClass
  rw [hactive, hforming]
  rfl

end Sys2Proof.Machine
end

section
/-! SUPPORT. The room made in a full panel store (O17): what the oldest record's retirement leaves of the lots on the web (R139). -/

namespace Sys2Proof.Machine

variable {s t u : State}

/-! ### The lots on the web through a retirement -/

/-- Two records of one lot, alike in all that its extent and its panels are taken from. -/
structure Lot.SameExtent (l l' : Lot) : Prop where
  number : l'.number = l.number
  pattern : l'.pattern = l.pattern
  head : l'.head = l.head
  tail : l'.tail = l.tail
  state : l'.state = l.state

theorem Lot.SameExtent.trans {l l' l'' : Lot} (h : l.SameExtent l') (h' : l'.SameExtent l'') : l.SameExtent l'' :=
  ⟨h'.number.trans h.number, h'.pattern.trans h.pattern, h'.head.trans h.head, h'.tail.trans h.tail, h'.state.trans h.state⟩

theorem Lot.SameExtent.holds {l l' : Lot} (h : l.SameExtent l') (c : Coord) : l'.holds c = l.holds c := by
  unfold Lot.holds
  rw [h.head, h.tail]

theorem Lot.SameExtent.onWeb {l l' : Lot} (h : l.SameExtent l') : l'.onWeb = l.onWeb := by
  unfold Lot.onWeb
  rw [h.state]

theorem Lot.sameExtent_tally (l : Lot) (v : Verdict) : l.SameExtent (l.tally v) := by cases v <;> exact ⟨rfl, rfl, rfl, rfl, rfl⟩

/-- The lots on the web are another state's but for their tallies; one that was FED may have gone, and no pattern of theirs has. -/
structure WebCarried (s t : State) : Prop where
  back : ∀ l' ∈ t.webLots, ∃ l ∈ s.webLots, l.SameExtent l'
  forth : ∀ l ∈ s.webLots, l.state = .feeding → ∃ l' ∈ t.webLots, l.SameExtent l'
  patterns : ∀ l ∈ t.webLots, ∀ k, l.pattern = some k → (s.pattern? k).isSome = true → (t.pattern? k).isSome = true

theorem WebCarried.trans (h : WebCarried s t) (h' : WebCarried t u) : WebCarried s u where
  back l'' hl'' := by
    obtain ⟨l', hl', hsame'⟩ := h'.back l'' hl''
    obtain ⟨l, hl, hsame⟩ := h.back l' hl'
    exact ⟨l, hl, hsame.trans hsame'⟩
  forth l hl hfeeding := by
    obtain ⟨l', hl', hsame⟩ := h.forth l hl hfeeding
    obtain ⟨l'', hl'', hsame'⟩ := h'.forth l' hl' (hsame.state.trans hfeeding)
    exact ⟨l'', hl'', hsame.trans hsame'⟩
  patterns l'' hl'' k hk hfound := by
    obtain ⟨l', hl', hsame⟩ := h'.back l'' hl''
    exact h'.patterns l'' hl'' k hk (h.patterns l' hl' k (hsame.pattern ▸ hk) hfound)

theorem webCarried_of_same (hlots : t.rst.lots = s.rst.lots) (horder : t.rst.order = s.rst.order)
    (hpatterns : t.rst.patterns = s.rst.patterns) : WebCarried s t where
  back l hl := ⟨l, webLots_congr hlots horder ▸ hl, rfl, rfl, rfl, rfl, rfl⟩
  forth l hl _ := ⟨l, (webLots_congr hlots horder).symm ▸ hl, rfl, rfl, rfl, rfl, rfl⟩
  patterns _ _ k _ hfound := by rwa [pattern?_congr hpatterns]

/-- A lot's record put back with its extent. -/
theorem putLot_webCarried {l l' : Lot} (hl : s.lot? l.number = some l) (hsame : l.SameExtent l') : WebCarried s (s.putLot l') where
  back x hx := by
    obtain ⟨⟨n, hn, hfound⟩, hweb⟩ := mem_webLots.mp hx
    by_cases hnumber : n = l'.number
    · subst hnumber
      obtain rfl : l' = x := Option.some.inj ((lot?_putLot_self s l').symm.trans hfound)
      exact ⟨l, mem_webLots.mpr ⟨⟨l.number, hsame.number ▸ hn, hl⟩, hsame.onWeb ▸ hweb⟩, hsame⟩
    · rw [lot?_putLot_ne s l' hnumber] at hfound
      exact ⟨x, mem_webLots.mpr ⟨⟨n, hn, hfound⟩, hweb⟩, rfl, rfl, rfl, rfl, rfl⟩
  forth x hx _ := by
    obtain ⟨⟨n, hn, hfound⟩, hweb⟩ := mem_webLots.mp hx
    by_cases hnumber : n = l'.number
    · subst hnumber
      rw [hsame.number] at hfound
      obtain rfl : l = x := Option.some.inj (hl.symm.trans hfound)
      exact ⟨l', mem_webLots.mpr ⟨⟨l'.number, hn, lot?_putLot_self s l'⟩, hsame.onWeb.trans hweb⟩, hsame⟩
    · exact ⟨x, mem_webLots.mpr ⟨⟨n, hn, (lot?_putLot_ne s l' hnumber).trans hfound⟩, hweb⟩, rfl, rfl, rfl, rfl, rfl⟩
  patterns _ _ _ _ hfound := hfound

theorem tallyPanel_webCarried (s : State) (p : Panel) (v : Verdict) : WebCarried s (s.tallyPanel p v) := by
  unfold State.tallyPanel
  split
  · split
    · exact webCarried_of_same rfl rfl rfl
    · rename_i l hl
      obtain hnumber := lot?_number hl
      exact putLot_webCarried (hnumber ▸ hl) (l.sameExtent_tally v)
  · exact webCarried_of_same rfl rfl rfl

/-- A lot completed leaves the web; a pattern goes with it where no lot names it any more (R30, R93). -/
theorem testCompletion_webCarried (s : State) (n : Nat) : WebCarried s (s.testCompletion n) := by
  unfold State.testCompletion
  split
  · exact webCarried_of_same rfl rfl rfl
  rename_i l hl
  split
  · rename_i hdone
    obtain ⟨hfed, -, -⟩ := hdone
    obtain rfl : l.number = n := lot?_number hl
    have hothers {m : Nat} (hm : m ≠ l.number) :
        (((s.putLot { l with state := .done }).leaveOrder l.number).settleCounts).lot? m = s.lot? m := by
      rw [lot?_congr (s := s.putLot { l with state := .done }) (by simp)]
      exact lot?_putLot_ne s { l with state := .done } hm
    have horder {m : Nat} : m ∈ (((s.putLot { l with state := .done }).leaveOrder l.number).settleCounts).rst.order ↔
        m ∈ s.rst.order ∧ m ≠ l.number := by
      simp [State.leaveOrder, State.putLot]
    refine ⟨fun x hx => ?_, fun x hx hfeeding => ?_, fun x hx k hk hfound => ?_⟩
    · obtain ⟨⟨m, hm, hfound⟩, hweb⟩ := mem_webLots.mp hx
      obtain ⟨hmem, hne⟩ := horder.mp hm
      exact ⟨x, mem_webLots.mpr ⟨⟨m, hmem, (hothers hne).symm.trans hfound⟩, hweb⟩, rfl, rfl, rfl, rfl, rfl⟩
    · obtain ⟨⟨m, hm, hfound⟩, hweb⟩ := mem_webLots.mp hx
      have hne : m ≠ l.number := fun he => by
        subst he
        obtain rfl : l = x := Option.some.inj (hl.symm.trans hfound)
        rw [hfed] at hfeeding
        cases hfeeding
      exact ⟨x, mem_webLots.mpr ⟨⟨m, horder.mpr ⟨hm, hne⟩, (hothers hne).trans hfound⟩, hweb⟩, rfl, rfl, rfl, rfl, rfl⟩
    · obtain ⟨⟨m, -, hm⟩, hweb⟩ := mem_webLots.mp hx
      have hmem : x ∈ ((s.putLot { l with state := .done }).leaveOrder l.number).rst.lots := by
        have hlisted := lot?_mem hm
        simpa using hlisted
      have hrefs := patternRefs_ne_zero hmem (fun hdone => by simp [Lot.onWeb, hdone] at hweb) hk
      rw [settleCounts_pattern? hrefs, Option.isSome_map]
      exact hfound
  · exact webCarried_of_same rfl rfl rfl

theorem retirePanel_webCarried (s : State) (p : Panel) (v : Verdict) : WebCarried s (s.retirePanel p v) := by
  have hremoved : WebCarried s (((s.tallyPanel p v).removePanel p.serial).setLast (p.disposition v)) :=
    (tallyPanel_webCarried s p v).trans (webCarried_of_same (by simp) (by simp) (by simp))
  unfold State.retirePanel
  dsimp only
  have hretargeted (w : State) (hw : WebCarried s w) : WebCarried s w.retarget :=
    hw.trans (webCarried_of_same (by simp) (by simp) (by simp))
  refine hretargeted _ ?_
  split
  · exact hremoved.trans (testCompletion_webCarried _ _)
  · exact hremoved

/-! ### The room made (R139, R146) -/

theorem makeRoom_of_full {p : Panel} {rest : List Panel} (hpanels : s.rst.panels = p :: rest) (hfull : rest.length = 38) :
    s.makeRoom = s.retireEarly p := by
  unfold State.makeRoom
  rw [if_pos (by rw [hpanels, List.length_cons, hfull]; decide)]
  simp only [hpanels]

theorem retireEarly_webCarried (s : State) (p : Panel) : WebCarried s (s.retireEarly p) := by
  have hpassed : WebCarried s (s.passCutFault p.serial) := webCarried_of_same (by simp) (by simp) (by simp)
  exact (hpassed.trans (retirePanel_webCarried _ p _)).trans (webCarried_of_same (t := s.retireEarly p) rfl rfl rfl)

theorem retireEarly_panels {p : Panel} {rest : List Panel} (hpanels : s.rst.panels = p :: rest)
    (hserials : (s.rst.panels.map (·.serial)).Nodup) :
    (s.retireEarly p).rst.panels = rest.map (Panel.faultedIf (p.serial + 1)) := by
  show ((s.passCutFault p.serial).retirePanel p _).rst.panels = _
  rw [retirePanel_panels, passCutFault_panels, hpanels, List.map_cons, List.filter_cons_of_neg (by simp [Panel.faultedIf_serial])]
  refine List.filter_eq_self.mpr fun q hq => ?_
  obtain ⟨x, hx, rfl⟩ := List.mem_map.mp hq
  rw [hpanels, List.map_cons, List.nodup_cons] at hserials
  have hne : x.serial ≠ p.serial := fun he => hserials.1 (he ▸ List.mem_map_of_mem hx)
  simpa [Panel.faultedIf_serial] using hne

theorem retireEarly_pendingFault {p : Panel} (hnext : p.serial + 1 < s.rst.panelSerial) :
    (s.retireEarly p).exu.pendingFault = s.exu.pendingFault := by
  have hretired : (s.retireEarly p).exu.pendingFault = (s.passCutFault p.serial).exu.pendingFault := by simp [State.retireEarly]
  have hne : s.rst.panelSerial ≠ p.serial + 1 := by omega
  rw [hretired, passCutFault_pendingFault, decide_eq_false hne, Bool.and_false, Bool.or_false]

/-- The retired record is shown as REJECTED for CUT, towards the reject place, and CUT_OVERRUN stands. -/
theorem retireEarly_shown (s : State) (p : Panel) :
    (s.retireEarly p).exu.last = some { key := p.key, kind := p.kind, verdict := .rejected .cut, toReject := true } ∧
      (s.retireEarly p).hasAlert .cutOverrun = true := by
  have hverdict : p.verdict true = .rejected .cut := by simp [Panel.verdict]
  constructor
  · show ((s.passCutFault p.serial).retirePanel p (p.verdict true)).exu.last = _
    rw [retirePanel_last, hverdict]
    simp [Panel.disposition, Panel.toReject]
  · show (State.raiseAlert _ .cutOverrun).hasAlert .cutOverrun = true
    rw [hasAlert_raiseAlert]
    simp

/-- A PRODUCT record's retirement leaves its lot's record tallied, its state apart. -/
theorem retirePanel_tallied {p : Panel} {l : Lot} (v : Verdict) (hkind : p.kind = .product) (hl : s.lot? p.key.lot = some l) :
    ∃ st, (s.retirePanel p v).lot? p.key.lot = some { l.tally v with state := st } := by
  have htally : (((s.tallyPanel p v).removePanel p.serial).setLast (p.disposition v)).lot? p.key.lot = some (l.tally v) := by
    rw [lot?_congr (s := s.tallyPanel p v) (by simp), tallyPanel_lot? v hkind hl]
  have hretargeted (w : State) : w.retarget.rst.lots = w.rst.lots := by simp
  unfold State.retirePanel
  dsimp only
  rw [if_pos hkind, lot?_congr (hretargeted _), testCompletion_lot? htally]
  split
  · exact ⟨.done, rfl⟩
  · exact ⟨(l.tally v).state, rfl⟩

theorem retireEarly_tallied {p : Panel} {l : Lot} (hkind : p.kind = .product) (hl : s.lot? p.key.lot = some l) :
    ∃ st, (s.retireEarly p).lot? p.key.lot = some { l.tally (.rejected .cut) with state := st } := by
  have hverdict : p.verdict true = .rejected .cut := by simp [Panel.verdict]
  have hpassed : (s.passCutFault p.serial).lot? p.key.lot = some l := (lot?_congr (by simp) _).trans hl
  obtain ⟨st, hst⟩ := retirePanel_tallied (p.verdict true) hkind hpassed
  rw [hverdict] at hst
  refine ⟨st, (lot?_congr (t := s.retireEarly p) ?_ _).trans hst⟩
  unfold State.retireEarly
  rw [hverdict]
  rfl

end Sys2Proof.Machine
end

section
/-! A panel start (O17). -/

namespace Sys2Proof.Machine

variable {s t u : State} {c : Coord}

/-! ### A start with the panel store full (R139, R146) -/

theorem Panel.faultedIf_formed (n : Nat) (x : Panel) :
    ({ x.faultedIf n with forming := false } : Panel) = { x with forming := false, cutFault := x.cutFault || decide (x.serial = n) } := by
  unfold Panel.faultedIf
  split <;> simp_all

/-- A panel begun over records of which one has just taken the cut fault. -/
theorem beginPanel_over {rest : List Panel} {n : Nat} (hpanels : u.rst.panels = rest.map (Panel.faultedIf n))
    (f : FormContext) (joint : Bool) :
    (u.beginPanel f joint).rst.panels =
      rest.map (fun x => { x with forming := false, cutFault := x.cutFault || decide (x.serial = n) }) ++ [u.newPanel f joint] := by
  rw [(beginPanel_record u f joint).1, hpanels, List.map_map]
  exact congrArg (· ++ _) (List.map_congr_left fun x _ => x.faultedIf_formed n)

/-- What a start makes of a state whose panel store is full, the record `p` being the oldest and `q` the new one. -/
structure FullStarted (s t : State) (c : Coord) (p : Panel) (rest : List Panel) (q : Panel) : Prop where
  panels : t.rst.panels =
    rest.map (fun x => { x with forming := false, cutFault := x.cutFault || decide (x.serial = p.serial + 1) }) ++ [q]
  fresh : q = { q with
    serial := s.rst.panelSerial, head := s.exu.b, forming := true, missed := 0, doses := ⟨0, 0, 0, 0⟩, totalDose := 0
    cutFault := s.exu.pendingFault, reject := false }
  waste : (∀ l ∈ s.webLots, l.holds c = false) → q.kind = .waste ∧ q.key = { lot := 0, index := s.pfm.nextWaste }
  product : ∀ l ∈ s.webLots, l.state = .feeding → l.holds c = true → (∀ l' ∈ s.webLots, l'.holds c = true → l' = l) →
    q.kind = .product ∧ q.key.lot = l.number
  tallied : p.kind = .product → ∀ l, s.lot? p.key.lot = some l → ∃ l', t.lot? p.key.lot = some l' ∧
    l'.rejected = { l.rejected with cut := l.rejected.cut + 1 } ∧ l'.good = l.good ∧ l'.lost = l.lost
  last : t.exu.last = some { key := p.key, kind := p.kind, verdict := .rejected .cut, toReject := true }
  alert : t.hasAlert .cutOverrun = true
  fault : t.exu.pendingFault = false

theorem lotAt_spec {l : Lot} (h : s.lotAt c = some l) : l ∈ s.webLots ∧ l.holds c = true := by
  refine ⟨List.mem_of_find?_eq_some h, ?_⟩
  simpa using List.find?_some h

/-- What the oldest record's retirement leaves for the panel that starts. -/
structure RoomMade (s v : State) (p : Panel) (rest : List Panel) : Prop where
  panels : v.rst.panels = rest.map (Panel.faultedIf (p.serial + 1))
  serial : v.rst.panelSerial = s.rst.panelSerial
  head : v.exu.b = s.exu.b
  fault : v.exu.pendingFault = s.exu.pendingFault
  waste : v.pfm.nextWaste = s.pfm.nextWaste
  web : WebCarried s v
  tallied : p.kind = .product → ∀ l, s.lot? p.key.lot = some l → ∃ st, v.lot? p.key.lot = some { l.tally (.rejected .cut) with state := st }
  last : v.exu.last = some { key := p.key, kind := p.kind, verdict := .rejected .cut, toReject := true }
  alert : v.hasAlert .cutOverrun = true

theorem makeRoom_roomMade {p : Panel} {rest : List Panel} (hpanels : s.rst.panels = p :: rest) (hfull : rest.length = 38)
    (hserials : (s.rst.panels.map (·.serial)).Nodup) (hnext : p.serial + 1 < s.rst.panelSerial) : RoomMade s s.makeRoom p rest := by
  rw [makeRoom_of_full hpanels hfull]
  exact ⟨retireEarly_panels hpanels hserials, by simp, by simp, retireEarly_pendingFault hnext, by simp, retireEarly_webCarried s p,
    fun hkind _ hl => retireEarly_tallied hkind hl, (retireEarly_shown s p).1, (retireEarly_shown s p).2⟩

namespace RoomMade

variable {v : State} {p : Panel} {rest : List Panel}

theorem newPanel_fresh (h : RoomMade s v p rest) (f : FormContext) (joint : Bool) :
    v.newPanel f joint = { v.newPanel f joint with
      serial := s.rst.panelSerial, head := s.exu.b, forming := true, missed := 0, doses := ⟨0, 0, 0, 0⟩, totalDose := 0
      cutFault := s.exu.pendingFault, reject := false } := by
  unfold State.newPanel
  rw [h.serial, h.head, h.fault]

/-- In no lot's extent the panel is WASTE. -/
theorem startsWaste (h : RoomMade s v p rest) (hnone : ∀ l ∈ v.webLots, l.holds c = false) :
    FullStarted s (v.wasteTaken.beginPanel (v.wasteContext c) false) c p rest (v.newPanel (v.wasteContext c) false) := by
  obtain ⟨hlots, -, hlast, hlnk⟩ := beginPanel_others v.wasteTaken (v.wasteContext c) false
  have hpanels := beginPanel_over (u := v.wasteTaken) h.panels (v.wasteContext c) false
  refine ⟨hpanels, h.newPanel_fresh _ _, fun _ => ⟨rfl, ?_⟩, fun l hl hfeeding hholds _ => ?_, fun hkind l hl => ?_, hlast.trans h.last,
    (hasAlert_congr (congrArg Lnk.alerts hlnk) _).trans h.alert, (beginPanel_record _ _ _).2⟩
  · show PanelKey.mk 0 v.pfm.nextWaste = _
    rw [h.waste]
  · obtain ⟨l', hl', hsame⟩ := h.web.forth l hl hfeeding
    have hoff := hnone l' hl'
    rw [hsame.holds, hholds] at hoff
    cases hoff
  · obtain ⟨st, hst⟩ := h.tallied hkind l hl
    exact ⟨_, (lot?_congr hlots _).trans hst, rfl, rfl, rfl⟩

/-- In the extent of a lot it is PRODUCT, of that lot. -/
theorem startsProduct (h : RoomMade s v p rest) {x : Lot} (hx : v.lotAt c = some x) (f : FormContext) (joint : Bool)
    (hkind : f.kind = .product) (hkey : f.key.lot = x.number) :
    FullStarted s ((v.putLot { x with started := x.started + 1 }).beginPanel f joint) c p rest (v.newPanel f joint) := by
  obtain ⟨hweb, hholds⟩ := lotAt_spec hx
  obtain ⟨l₀, hl₀, hsame₀⟩ := h.web.back x hweb
  have hholds₀ : l₀.holds c = true := (hsame₀.holds c).symm.trans hholds
  obtain ⟨hlots, -, hlast, hlnk⟩ := beginPanel_others (v.putLot { x with started := x.started + 1 }) f joint
  have hpanels := beginPanel_over (u := v.putLot { x with started := x.started + 1 }) h.panels f joint
  refine ⟨hpanels, h.newPanel_fresh _ _, fun hnone => ?_, fun l _ _ _ hunique => ⟨hkind, ?_⟩, fun hproduct l hl => ?_, hlast.trans h.last,
    (hasAlert_congr (congrArg Lnk.alerts hlnk) _).trans h.alert, (beginPanel_record _ _ _).2⟩
  · have hoff := hnone l₀ hl₀
    rw [hholds₀] at hoff
    cases hoff
  · exact hkey.trans (hsame₀.number.trans (congrArg Lot.number (hunique l₀ hl₀ hholds₀)))
  · obtain ⟨st, hst⟩ := h.tallied hproduct l hl
    by_cases hown : p.key.lot = x.number
    · obtain ⟨⟨n, -, hn⟩, -⟩ := mem_webLots.mp hweb
      obtain rfl : x.number = n := lot?_number hn
      obtain rfl : { l.tally (.rejected .cut) with state := st } = x := Option.some.inj (hst.symm.trans (hown ▸ hn))
      refine ⟨{ l.tally (.rejected .cut) with state := st, started := l.started + 1 }, (lot?_congr hlots _).trans ?_, rfl, rfl, rfl⟩
      rw [hown]
      exact lot?_putLot_self v { l.tally (.rejected .cut) with state := st, started := l.started + 1 }
    · exact ⟨{ l.tally (.rejected .cut) with state := st },
        (lot?_congr hlots _).trans ((lot?_putLot_ne v { x with started := x.started + 1 } hown).trans hst), rfl, rfl, rfl⟩

end RoomMade

/-- A start with the panel store full, where each lot on the web that holds it has its pattern. -/
theorem panelStart_full {p : Panel} {rest : List Panel} (hpanels : s.rst.panels = p :: rest) (hfull : rest.length = 38)
    (hserials : (s.rst.panels.map (·.serial)).Nodup) (hnext : p.serial + 1 < s.rst.panelSerial)
    (hpatterns : ∀ l ∈ s.webLots, l.holds c = true → ∃ n q, l.pattern = some n ∧ s.pattern? n = some q) :
    ∃ q, FullStarted s (s.panelStart c) c p rest q := by
  have hmade := makeRoom_roomMade hpanels hfull hserials hnext
  cases hlot : s.makeRoom.lotAt c with
  | none =>
    have hnone := lotAt_eq_none_iff.mp hlot
    rw [panelStart_waste hnone]
    exact ⟨_, hmade.startsWaste hnone⟩
  | some x =>
    obtain ⟨hweb, hholds⟩ := lotAt_spec hlot
    obtain ⟨l₀, hl₀, hsame₀⟩ := hmade.web.back x hweb
    obtain ⟨n, q₀, hn, hq₀⟩ := hpatterns l₀ hl₀ ((hsame₀.holds c).symm.trans hholds)
    have hxn : x.pattern = some n := hsame₀.pattern.trans hn
    obtain ⟨q, hq⟩ := Option.isSome_iff_exists.mp (hmade.web.patterns x hweb n hxn (by rw [hq₀]; rfl))
    obtain ⟨h, hhead⟩ : ∃ h, x.head = some h := by
      unfold Lot.holds at hholds
      split at hholds
      · rename_i h _ hhead _
        exact ⟨h, hhead⟩
      · cases hholds
    rw [panelStart_product hlot hhead (by rw [hxn]; exact hq)]
    exact ⟨_, hmade.startsProduct hlot _ _ rfl rfl⟩

/-! ### The statement -/

/-- What a start into a full panel store makes, the start being a feed count's. -/
theorem feedCount_startsFull {p : Panel} {rest : List Panel} (hstart : s.pfm.nextStart = some c) (hdue : 20000 ≤ coordDiff (s.fsu.w + 1) c)
    (hstrike : ∀ c' k, s.pfm.nextStrike = some (c', k) → coordDiff (s.fsu.w + 1) c' < 20000)
    (hsegment : ∀ h e, s.segmentExtent = some (h, e) → coordDiff (s.fsu.w + 1) e < 0) (hpanels : s.rst.panels = p :: rest)
    (hfull : rest.length = 38) (hserials : (s.rst.panels.map (·.serial)).Nodup) (hnext : p.serial + 1 < s.rst.panelSerial)
    (hpatterns : ∀ l ∈ s.webLots, l.holds c = true → ∃ n q, l.pattern = some n ∧ s.pattern? n = some q) :
    ∃ t q, exec (.feedCount .forward) s = .next t ∧ FullStarted s t c p rest q ∧ t.exu.cut = s.exu.cut ∧ t.exu.limit = s.exu.limit ∧
      t.exu.cycle = s.exu.cycle ∧ t.exu.divert = s.exu.divert := by
  have hshares := counted_sharesFormer s
  have hexec := feedCount_starts hstart hdue hstrike hsegment
  revert hshares hexec
  generalize (s.countWeb .forward).fsuCount .forward = u
  intro hshares hexec
  obtain ⟨hrecords, hserial⟩ := hshares.panels
  have hpattern : u.pattern? = s.pattern? := funext (pattern?_congr hshares.tables.1)
  obtain ⟨q, hq⟩ := panelStart_full (s := u) (c := c) (p := p) (rest := rest) (by rwa [hrecords]) hfull (by rwa [hrecords])
    (by rwa [hserial]) (by rwa [hshares.webLots, hpattern])
  obtain ⟨hrst, hexu, hlnk, -, -, -, -⟩ := endAct_started (u.panelStart c)
  refine ⟨_, q, hexec, ⟨?_, ?_, ?_, ?_, ?_, ?_, ?_, ?_⟩, by simp [hshares.exu], by simp [hshares.exu], by simp [hshares.exu],
    by simp [hshares.exu]⟩
  · rw [hrst, hq.panels]
  · rw [← hserial, ← hshares.exu]
    exact hq.fresh
  · rw [← hshares.webLots, ← hshares.context.2]
    exact hq.waste
  · rw [← hshares.webLots]
    exact hq.product
  · intro hkind l hl
    obtain ⟨l', hl', htally⟩ := hq.tallied hkind l ((lot?_congr hshares.lots.1 _).trans hl)
    exact ⟨l', (lot?_congr (congrArg Store.lots hrst) _).trans hl', htally⟩
  · rw [hexu, hq.last]
  · exact (hasAlert_congr (congrArg Lnk.alerts hlnk) _).trans hq.alert
  · rw [hexu, hq.fault]

/-- Settles O17: the feed count's start as PFM finds the state, with room for the record or with the oldest one retired first. -/
theorem panelStarts : Obligations.PanelStarts := by
  unfold Obligations.PanelStarts
  refine ⟨fun s c h e l n q hstart hdue hstrike hsegment hroom hl hfound hhead htail hafter hbefore hunique hpattern hq => ?product,
    fun s c hstart hdue hstrike hnone hsegment hroom => ?waste,
    fun s c p rest hstart hdue hstrike hsegment hpanels hfull hserials hnext hpatterns => ?full⟩
  case product =>
    obtain ⟨t, hexec, hstarted⟩ := feedCount_startsProduct hstart hdue hstrike hsegment hroom
      (lotAt_of_unique hl (holds_of_extent hhead htail hafter hbefore) hunique) hhead (by rw [hpattern]; exact hq)
    refine ⟨t, hexec, ?_, fun hgrid hlen => hgrid ▸ started_div rfl hlen, hstarted.lot, hstarted.others, hstarted.fault, hstarted.forming,
      hstarted.nextStart, ?_, hstarted.nextWaste⟩
    · rw [hstarted.panels, jointIn_eq]
      rfl
    · have hstrike := hstarted.nextStrike
      rw [strikePoint_one, if_pos (show (s.productContext l q h c).kind = .product from rfl), Option.map_map] at hstrike
      exact hstrike
  case waste =>
    obtain ⟨t, hexec, hstarted⟩ := feedCount_startsWaste hstart hdue hstrike hsegment hroom hnone
    refine ⟨t, _, hexec, hstarted.panels, rfl, fun r n k hactive hcls hclass => ?_, fun f hactive hforming => ?_, hstarted.fault,
      hstarted.nextStart, hstarted.nextStrike, hstarted.nextWaste, hstarted.lots.1⟩
    · have hwaste := wasteClass_of_active hactive hcls
      simp only [State.newPanel, State.wasteContext, hwaste, State.copyClass, hclass, Option.bind_some, true_and]
    · have hwaste := wasteClass_of_forming hactive hforming
      simp only [State.newPanel, State.wasteContext, hwaste, true_and]
  case full =>
    obtain ⟨t, q, hexec, hstarted, hcut, hlimit, hcycle, hdivert⟩ :=
      feedCount_startsFull hstart hdue hstrike hsegment hpanels hfull hserials hnext hpatterns
    exact ⟨t, q, hexec, hstarted.panels, hstarted.fresh, hstarted.waste, hstarted.product, hstarted.tallied, hstarted.last, hstarted.alert,
      hstarted.fault, hcut, hlimit, hcycle, hdivert⟩

end Sys2Proof.Machine
end
